-- ==== Sys2Proof/Word.lean ====
section
/-! DEFINITION. The word types of the model: the byte, the 32-bit register word and the 64-bit double
word that the fabric of R20 to R26 carries. -/

namespace Sys2Proof

/-- A byte of a memory, a packet or a record. -/
abbrev Byte := BitVec 8

/-- A 32-bit register of a peripheral block (R26). -/
abbrev Word := BitVec 32

/-- A 64-bit quantity: a time, an energy register or a wide access (R12). -/
abbrev DWord := BitVec 64

end Sys2Proof
end

