-- ==== Sys2Proof/Syntax.lean ====
section
/-! DEFINITION. The commands that the unit takes, one constructor for each row of the table, and the kinds of operand
that they carry. -/

namespace Sys2Proof

/-- What an event record on bobbin B12 reports. -/
inductive EventKind where
  | eccLimit
  | calUncal
  | calCommitted
  | calHeader
  | saddleCopy
  | tackInvalid
  | monitor
  | interlock
  | multiLeg
  | multiLegMore
  | overrun
  | faultStop
  | loomKey
  | hostKey
  | meterSaturated
  | clockFilter
  | ntcBroken
  | ntcRecovered
  | thermalWarning
  | thermalShutdown
  | monitorEnd
  | thermalStale
  | takeoverStale
  | gateLink
  | bridleFault
  | lastRecord
deriving DecidableEq, Repr

/-- A peer that sends Tomus requests (R334): the SPI, a UDP source address and port, or a CAN controller. -/
inductive Peer where
  | spi
  | udp (addr port : Nat)
  | can (c : Nat)
deriving DecidableEq, Repr

/-- A Tomus request as it arrived (R327): the transport (0 the SPI, 1 and 2 the Ethernet ports, 3 and 4 the CAN
controllers), the peer, and the fields of the packet. -/
structure Req where
  transport : Nat
  peer      : Peer
  version   : Nat
  flags     : Nat
  seq       : Nat
  opcode    : Nat
  params    : List Byte
  tag       : List Byte
deriving DecidableEq, Repr

/-- What a fabric access that may write does (R20, R30): a store, the load-reserved and store-conditional pair, and the
atomic operations of the A extension. -/
inductive BusOp where
  | store
  | lr
  | sc
  | swap
  | add
  | xor
  | and
  | or
  | min
  | max
  | minu
  | maxu
deriving DecidableEq, Repr

/-- What a monitored bridle input reads (R241, R436). -/
inductive Reading where
  | zero
  | one
  | lost
deriving DecidableEq, Repr

/-- The commands of the unit, one for each row of the table. `t` is the instant at which the command acts, in units of
50 ps. -/
inductive Instr where
  /-- `REGISTER_WRITE` (R6). A write to a register field that has no row of its own, with access-code, page,
  initiator, seal and reserved-bit checks. Operands: initiator `i`, operation `op` of `width` bytes at address `a`
  with value `v`. -/
  | registerWrite (i : Fin 9) (op : BusOp) (width a : Nat) (v : DWord) (t : Nat)
  /-- `RC_FIELD_READ` (R6). A read of an RC field returns its value and then clears it; in the system control block
  only a steward read clears it. Operands: initiator `i`, a read of `width` bytes at address `a`. -/
  | rcFieldRead (i : Fin 9) (width a : Nat) (t : Nat)
  /-- `LOW_WORD_READ` (R12). A read of the low word of a 64-bit register copies the high word into that initiator's
  shadow. Operands: initiator `i`, a read of `width` bytes at address `a`. -/
  | lowWordRead (i : Fin 9) (width a : Nat) (t : Nat)
  /-- `TARGET_NO_RESPONSE` (R26). A target that has not responded within 4 096 CKF cycles ends the access with cause
  0x3. Operands: initiator `i`, whether the access is a write, its address `a`. -/
  | targetNoResponse (i : Fin 9) (write : Bool) (a : Nat) (t : Nat)
  /-- `SRAM_SCRUB_PASS` (R27). The steward scrubs the whole shared SRAM once per SYS_SCRUB_PERIOD, correcting and
  counting single-bit errors. Operands: how many single-bit and double-bit errors the pass found. -/
  | sramScrubPass (single double : Nat) (t : Nat)
  /-- `CFG_APPLY_WRITE` (R23). Writing APPLY requests a shadow transfer at the next T0 boundary, or at once if the
  loom has not run or is in STOP. Operands: the value written. -/
  | cfgApplyWrite (v : Word) (t : Nat)
  /-- `T0_DEADLINE` (R32). At each T0 deadline D the device commits outputs, transfers shadows, latches the snapshot
  and starts the state image and snapshot copy. -/
  | t0Deadline (t : Nat)
  /-- `TASK_RELEASE` (R190). A task is released on a core once its snapshot copy has completed, raising its release
  interrupt. Operands: the task and the core. -/
  | taskRelease (task core : Fin 4) (t : Nat)
  /-- `GATE_ISLAND_LINK_TIMEOUT` (R16). A gate island that receives no valid command frame for 40 CKF cycles goes to
  its stored selvedge entry. Operands: channel `c`. -/
  | gateIslandLinkTimeout (c : Fin 48) (t : Nat)
  /-- `ISLAND_ENTRY_HIZ_TIMEOUT` (R392). In a paired unit, an island that has held its entry for 20 µs passes to
  HIZ. Operands: channel `c`. -/
  | islandEntryHizTimeout (c : Fin 48) (t : Nat)
  /-- `FAST_WORDS_MISSING` (R50). No valid fast word for 2 output periods sends the using harness to the selvedge
  with cause 0x07. Operands: channel `c`. -/
  | fastWordsMissing (c : Fin 32) (t : Nat)
  /-- `LEDGER_INTERRUPTION` (R221). Missing or invalid precision words of a metering point for 2 output periods stop
  accumulation and flag INTR. Operands: metering point `m`. -/
  | ledgerInterruption (m : Fin 4) (t : Nat)
  /-- `MOD_OVERLOAD_ONSET` (R47). A run of MEAS_OVL_RUN identical bits sets the channel's overload bit and counts an
  onset. Operands: channel `c`. -/
  | modOverloadOnset (c : Fin 32) (t : Nat)
  /-- `STUCK_BITSTREAM` (R48). An external bitstream with no transition for MEAS_STUCK_RUN cycles is declared stuck
  and made invalid. Operands: channel `c`. -/
  | stuckBitstream (c : Fin 32) (t : Nat)
  /-- `STUCK_RECOVERY` (R48). A stuck channel becomes valid again after max(256, 2 × MEAS_STUCK_RUN) cycles without
  a new stuck declaration. Operands: channel `c`, the instant of its first transition. -/
  | stuckRecovery (c : Fin 32) (first : Nat) (t : Nat)
  /-- `ISLAND_LOSS` (R49). Loss of island power-good or 8 CKM cycles without a valid coupler frame makes every
  channel of that island invalid. Operands: whether the current island, whether its power-good was lost. -/
  | islandLoss (current powerGood : Bool) (t : Nat)
  /-- `ISLAND_RECOVERY` (R49). After power-good and 256 consecutive valid frames, the island's channels become valid
  again. Operands: whether the current island. -/
  | islandRecovery (current : Bool) (t : Nat)
  /-- `FAST_PATH_WORD` (R72). A fast-path word of a channel is delivered after calibration and scaling, and the shed
  unit and hard limit act on it. Operands: channel `c`, the eight new bits, bit 0 the oldest. -/
  | fastPathWord (c : Fin 32) (bits : Nat) (t : Nat)
  /-- `MEDIUM_PATH_WORD` (R72). A medium-path word is delivered and feeds the decomposers, reference generator
  timing and loss model. Operands: channel `c`. -/
  | mediumPathWord (c : Fin 32) (t : Nat)
  /-- `PRECISION_PATH_WORD` (R72). A precision-path word is delivered to the ledger, the resampler and the
  calibration engine. Operands: channel `c`. -/
  | precisionPathWord (c : Fin 32) (t : Nat)
  /-- `DECOMPOSER_UNS_END` (R120). The decomposer's UNS flag clears T/4 plus one medium period after enable, channel
  change or a large frequency change. Operands: decomposer `k`. -/
  | decomposerUnsEnd (k : Fin 4) (t : Nat)
  /-- `RESAMPLER_OUTPUT` (R82). The resampler computes one output per lane at the next position of its timebase. -/
  | resamplerOutput (t : Nat)
  /-- `RESAMPLER_PAUSE_END` (R85). After a step, outputs resume with a new cycle at the target's next zero. -/
  | resamplerPauseEnd (t : Nat)
  /-- `RSM_SOURCE_HOLD` (R84). The lock source is held when no kernel frequency commit arrives for two cycle periods
  or the measuring lane fails. -/
  | rsmSourceHold (t : Nat)
  /-- `RSM_SWITCH_WRITE` (R87). Writing SWITCH requests a coefficient cross-fade, refused during a fade or on a CRC
  mismatch. -/
  | rsmSwitchWrite (t : Nat)
  /-- `RSM_XFADE_END` (R87). After RSM_XFADE outputs the cross-fade ends and the new bank is in use. -/
  | rsmXfadeEnd (t : Nat)
  /-- `SHED_TAP` (R103). At a pending step's tap instant the row change begins, the level changes and the direction
  is recorded. Operands: unit `n`. -/
  | shedTap (n : Fin 24) (t : Nat)
  /-- `DEAD_TIME_TURN_ON` (R107). A gate that the new row turns on goes on once its leg's dead time after the tap
  has passed. Operands: channel `c`. -/
  | deadTimeTurnOn (c : Fin 48) (t : Nat)
  /-- `SHED_REF_POP` (R99). At every SHED_REF_PERIOD-th medium instant the reference generator pops a FIFO entry or
  underruns. Operands: unit `n`. -/
  | shedRefPop (n : Fin 24) (t : Nat)
  /-- `SHED_FIFO_WRITE` (R99). A streamed write adds an entry to the reference FIFO, or is discarded and counted
  when it is full. Operands: unit `n`, the value. -/
  | shedFifoWrite (n : Fin 24) (v : Word) (t : Nat)
  /-- `SHED_EDGE_WRITE` (R109). A streamed write adds an entry to a schedule-mode edge list, or is discarded when it
  is full. Operands: unit `n`, the value. -/
  | shedEdgeWrite (n : Fin 24) (v : Word) (t : Nat)
  /-- `EDGE_LIST_ENTRY` (R109). At an edge-list entry's tap time the master moves to its target level by row
  changes. Operands: unit `n`. -/
  | edgeListEntry (n : Fin 24) (t : Nat)
  /-- `SHED_START_STEP` (R110). A mode-1 master places its start step on the first valid settled word of its channel
  after the start. Operands: unit `n`. -/
  | shedStartStep (n : Fin 24) (t : Nat)
  /-- `SETP_RISING_EDGE` (R100). A rising edge on SETP in pulse-width mode updates the set-point p from the measured
  duty. Operands: the high time of the period that ends in CKF cycles. -/
  | setpRisingEdge (high : Nat) (t : Nat)
  /-- `SETPOINT_LOSS` (R100). A set-point with no valid update for its limit is taken as 0 and SP_LOSS is set.
  Operands: whether `SETA`, else `SETP`. -/
  | setpointLoss (seta : Bool) (t : Nat)
  /-- `CHIRP_END` (R115). After LEN fast periods a chirp repeats or clears EN. Operands: injector `j`. -/
  | chirpEnd (j : Fin 4) (t : Nat)
  /-- `CORDIC_CMD_WRITE` (R119). Writing CMD starts or restarts a CORDIC rotate or vector operation. Operands:
  rotator `c`, the command. -/
  | cordicCmdWrite (c : Fin 8) (cmd : Word) (t : Nat)
  /-- `CORDIC_DONE` (R119). A CORDIC operation completes after 24 CKF cycles and sets DONE. Operands: rotator `c`.
  -/
  | cordicDone (c : Fin 8) (t : Nat)
  /-- `GATE_OWN_WRITE` (R132). A write of GATE_OWN.MODE is accepted, started as a pending change or refused.
  Operands: the mode written. -/
  | gateOwnWrite (mode : Fin 4) (t : Nat)
  /-- `GATE_OWN_CHANGE_DONE` (R132). A pending change from mode 2 to 1 completes once every selvedge sequence has
  finished. -/
  | gateOwnChangeDone (t : Nat)
  /-- `UVLO_TRIP` (R135). A filtered VD or VN undervoltage takes ON channels to OFF and is a leg fault while
  running. Operands: channel `c`, whether the supply is `VN`, whether it is too low for the island to drive. -/
  | uvloTrip (c : Fin 48) (vn dead : Bool) (t : Nat)
  /-- `UVLO_RELEASE` (R135). A supply that has passed its release threshold for the filter time clears UV or UVN.
  Operands: channel `c`, whether the supply is `VN`. -/
  | uvloRelease (c : Fin 48) (vn : Bool) (t : Nat)
  /-- `BLANKING_END` (R136). The DESAT source is enabled once the blanking time after a turn-on has passed.
  Operands: channel `c`. -/
  | blankingEnd (c : Fin 48) (t : Nat)
  /-- `DESAT_TRIP` (R136). A confirmed desaturation takes the channel to SOFT, stamps the instant and reports cause
  0x01. Operands: channel `c`, the instant of the comparator's trip. -/
  | desatTrip (c : Fin 48) (stamp : Nat) (t : Nat)
  /-- `SOFT_TIME_END` (R139). At the end of GATE_SOFT_TIME a channel passes from SOFT to OFF. Operands: channel `c`.
  -/
  | softTimeEnd (c : Fin 48) (t : Nat)
  /-- `MILLER_CLAMP_ENABLE` (R140). In OFF the clamp is enabled once the CLMP voltage falls below VN + 2.0 V.
  Operands: channel `c`. -/
  | millerClampEnable (c : Fin 48) (t : Nat)
  /-- `SELVEDGE_ENTRY` (R145). A harness goes to the selvedge with a cause, its groups turn off in sequence and
  contactor openings are requested. Operands: harness `h`, the cause. -/
  | selvedgeEntry (h : Fin 4) (cause : Fin 16) (t : Nat)
  /-- `SELVEDGE_SEQUENCE_STEP` (R145). A selvedge sequence step's delay expires and its legs leave. Operands:
  harness `h`. -/
  | selvedgeSequenceStep (h : Fin 4) (t : Nat)
  /-- `SELVEDGE_HIZ_DELAY` (R145). A channel whose entry is HIZ passes to HIZ 10 µs after reaching OFF. Operands:
  channel `c`. -/
  | selvedgeHizDelay (c : Fin 48) (t : Nat)
  /-- `SELVEDGE_TABLE_RELOAD` (R147). A changed selvedge table reaches every island, after which selvedge entries
  follow the new table. -/
  | selvedgeTableReload (t : Nat)
  /-- `RELEASE_HOLDOFF_END` (R148). Twenty µs after the last gate of a fault is off, release under the clearing mode
  becomes possible. Operands: harness `h`. -/
  | releaseHoldoffEnd (h : Fin 4) (t : Nat)
  /-- `RETRY_WAIT_EXPIRY` (R148). In timed mode, GATE_RETRY_WAIT after the fault releases the group or harness if
  every cause has gone. Operands: harness `h`, the leg of a group of it or none for the harness. -/
  | retryWaitExpiry (h : Fin 4) (leg : Option Nat) (t : Nat)
  /-- `RETRY_FORGET_EXPIRY` (R149). A harness that has run for GATE_RETRY_FORGET without a fault starts a new run of
  tries. Operands: harness `h`. -/
  | retryForgetExpiry (h : Fin 4) (t : Nat)
  /-- `GATE_CLEAR_WRITE` (R149). Writing GATE_CLEAR unlatches the named harnesses and clears their run of tries.
  Operands: the harnesses named. -/
  | gateClearWrite (mask : Fin 16) (t : Nat)
  /-- `GATE_TEST_CMD_WRITE` (R150). Writing GATE_TEST_CMD starts a comparator self-test, or refuses it. Operands:
  the value written. -/
  | gateTestCmdWrite (v : Word) (t : Nat)
  /-- `GATE_TEST_DONE` (R150). A self-test completes with pass or fail within 20 µs. Operands: the time to trip in
  ns, or none. -/
  | gateTestDone (trip : Option Nat) (t : Nat)
  /-- `GFK_INIT` (R155). A call of gfk_init checks the configuration and sets the kernel to OFF with no requests.
  Operands: the address of the context. -/
  | gfkInit (ctx : Nat) (t : Nat)
  /-- `GFK_STEP` (R163). A call of gfk_step advances the virtual synchronous machine and the state machine by one T0
  and returns references and requests. Operands: the addresses of the context, the input block and the output block.
  -/
  | gfkStep (ctx inp out : Nat) (t : Nat)
  /-- `GFK_CMD_START` (R172). The kernel command START leaves OFF for WAIT, FORM or RAMP. Operands: the addresses of
  the context, the input block and the output block. -/
  | gfkCmdStart (ctx inp out : Nat) (t : Nat)
  /-- `GFK_CMD_STOP` (R172). The kernel command STOP leads to OFF with OPEN set. Operands: the addresses of the
  context, the input block and the output block. -/
  | gfkCmdStop (ctx inp out : Nat) (t : Nat)
  /-- `GFK_CMD_RESET` (R172). The kernel command RESET leaves TRIPPED for OFF and clears SELV. Operands: the
  addresses of the context, the input block and the output block. -/
  | gfkCmdReset (ctx inp out : Nat) (t : Nat)
  /-- `GFK_CMD_RECON_ON` (R178). The kernel command RECON_ON starts reconnection in FORM, or is ignored with REASON
  13. Operands: the addresses of the context, the input block and the output block. -/
  | gfkCmdReconOn (ctx inp out : Nat) (t : Nat)
  /-- `GFK_CMD_RECON_OFF` (R178). The kernel command RECON_OFF clears reconnection. Operands: the addresses of the
  context, the input block and the output block. -/
  | gfkCmdReconOff (ctx inp out : Nat) (t : Nat)
  /-- `DEAD_BUS_TIMER_EXPIRY` (R172). A bus dead for the staggered time in WAIT leads to CLOSING_DEAD with CLOSE
  set. Operands: the addresses of the context, the input block and the output block. -/
  | deadBusTimerExpiry (ctx inp out : Nat) (t : Nat)
  /-- `LIVE_BUS_TIMER_EXPIRY` (R172). A bus live for GF_LIVE_T in WAIT leads to SYNC. Operands: the addresses of the
  context, the input block and the output block. -/
  | liveBusTimerExpiry (ctx inp out : Nat) (t : Nat)
  /-- `SYNC_HOLD_EXPIRY` (R177). A synchronisation window held for GF_SYNC_HOLD sets CLOSE or RECON_CLOSE. Operands:
  the addresses of the context, the input block and the output block. -/
  | syncHoldExpiry (ctx inp out : Nat) (t : Nat)
  /-- `CLOSE_TIMEOUT` (R172). GF_CLOSE_TMAX without contactor confirmation leads to OFF with REASON 8. Operands: the
  addresses of the context, the input block and the output block. -/
  | closeTimeout (ctx inp out : Nat) (t : Nat)
  /-- `SYNC_TIMEOUT` (R172). GF_SYNC_TIMEOUT in SYNC leads to OFF with REASON 9. Operands: the addresses of the
  context, the input block and the output block. -/
  | syncTimeout (ctx inp out : Nat) (t : Nat)
  /-- `RAMP_COMPLETE` (R175). When E reaches its droop value at the end of the ramp, the kernel enters FORM.
  Operands: the addresses of the context, the input block and the output block. -/
  | rampComplete (ctx inp out : Nat) (t : Nat)
  /-- `FRT_RECOVER_EXPIRY` (R169). A voltage inside the band for GF_FRT_RECOVER ends the disturbance. Operands: the
  addresses of the context, the input block and the output block. -/
  | frtRecoverExpiry (ctx inp out : Nat) (t : Nat)
  /-- `CURRENT_LIMIT_HOLD_EXIT` (R168). The angle hold ends once the unclipped current has stayed below the exit
  level for one fundamental period. Operands: the addresses of the context, the input block and the output block. -/
  | currentLimitHoldExit (ctx inp out : Nat) (t : Nat)
  /-- `RECON_DELAY_EXPIRY` (R178). After the utility has been live for GF_RECON_DELAY the kernel starts pulling the
  island onto its angle. Operands: the addresses of the context, the input block and the output block. -/
  | reconDelayExpiry (ctx inp out : Nat) (t : Nat)
  /-- `LOOM_DONE_WRITE` (R189). A core writes LOOM_DONE for a task, completing the instance once every assigned core
  has done so. Operands: the core and the task. -/
  | loomDoneWrite (core task : Fin 4) (t : Nat)
  /-- `LOOM_CB_APPEND` (R192). A core appends an address and value to its task's commit buffer, or the entry is
  discarded and counted. Operands: the core, the task, the register's address and the value. -/
  | loomCbAppend (core task : Fin 4) (a : Nat) (v : Word) (t : Nat)
  /-- `LOOM_CB_FLUSH3` (R192). T3 requests that its buffer be committed at the next T0 deadline. -/
  | loomCbFlush3 (t : Nat)
  /-- `LOOM_KICK` (R197). T3 kicks its watchdog. -/
  | loomKick (t : Nat)
  /-- `T3_WATCHDOG_EXPIRY` (R197). A missed T3 watchdog period is an overrun of T3, tolerated once if allowed. -/
  | t3WatchdogExpiry (t : Nat)
  /-- `LOOM_IPI_WRITE` (R186). A write to LOOM_IPI sets or clears the software interrupt of a core. Operands: the
  value written. -/
  | loomIpiWrite (v : Word) (t : Nat)
  /-- `LOOM_OVERRUN` (R196). An instance without LOOM_DONE at its done limit sends every harness to the selvedge and
  suppresses the next commit. Operands: the task. -/
  | loomOverrun (task : Fin 4) (t : Nat)
  /-- `OVERRUN_END_STOP` (R196). The loom enters STOP when the overrunning instance finishes or one further period
  has passed. -/
  | overrunEndStop (t : Nat)
  /-- `LOOM_FAULT_STOP` (R187). A synchronous exception on a shuttle core captures its cause and stops the loom as
  for an overrun. Operands: the core, the values of its trap registers, whether an ECC error of its TCM. -/
  | loomFaultStop (core : Fin 4) (mcause mepc mtval : Word) (ecc : Bool) (t : Nat)
  /-- `LOOM_AUTORUN` (R195). At ready with a valid image and AUTORUN set, the loom enters RUN by itself. -/
  | loomAutorun (t : Nat)
  /-- `LOOM_CTRL_RUN` (R195). The run command reloads the image and initialises objects for entry into RUN. -/
  | loomCtrlRun (t : Nat)
  /-- `LOOM_RUN_ENTRY` (R195). After reloading, the loom enters RUN at the next T0 boundary. -/
  | loomRunEntry (t : Nat)
  /-- `LOOM_CTRL_STOP` (R195). The stop command takes the loom to STOP, or cancels a STOP to RUN change. -/
  | loomCtrlStop (t : Nat)
  /-- `LOOM_CTRL_HOLD` (R203). The hold command takes the loom to HOLD, unless the unit is the active unit of a
  synchronised pair. -/
  | loomCtrlHold (t : Nat)
  /-- `LOOM_CTRL_RESUME` (R204). The resume command leaves HOLD for RUN at the next T0 boundary. -/
  | loomCtrlResume (t : Nat)
  /-- `DEBUG_HALT_REQUEST` (R203). A debugger halt request takes the loom to HOLD. -/
  | debugHaltRequest (t : Nat)
  /-- `DEBUG_BREAK` (R203). A trigger or EBREAK on a core takes the loom to HOLD, or is an exception. Operands: the
  core and the address of the instruction. -/
  | debugBreak (core : Fin 4) (pc : Word) (t : Nat)
  /-- `OVERLAY_LEG_WRITE` (R204). The debug port forces a leg state through LOOM_OVL_LEGn in HOLD. Operands: leg
  `n`, the code written. -/
  | overlayLegWrite (n : Fin 24) (code : Nat) (t : Nat)
  /-- `OVERLAY_LAPSE` (R204). When a debug overlay condition lapses, the harness goes to the selvedge with cause
  0x0A. Operands: harness `h`. -/
  | overlayLapse (h : Fin 4) (t : Nat)
  /-- `TIMER_PRESET_WRITE` (R199). A streamed write sets a timer's preset, taking effect at the next µs step.
  Operands: timer `i`, the preset. -/
  | timerPresetWrite (i : Fin 64) (v : Word) (t : Nat)
  /-- `TIMER_EXPIRY` (R199). A loom timer's elapsed time reaches its preset and Q changes. Operands: timer `i`. -/
  | timerExpiry (i : Fin 64) (t : Nat)
  /-- `STATION_FRAME_RX` (R362). A remote-station frame is received, checked and stored as the station's inputs.
  Operands: the transport (1 and 2 CAN FD, 3 UDP), the sender's site address or the identifier, the frame. -/
  | stationFrameRx (transport src : Nat) (bytes : List Byte) (t : Nat)
  /-- `STATION_TIMEOUT` (R201). A station with no valid frame for its timeout becomes lost. Operands: station `k`.
  -/
  | stationTimeout (k : Fin 16) (t : Nat)
  /-- `XCHG_SWITCH` (R208). At the first common T1/T2 deadline after LOOM_XCHG_GO, the new program replaces the old
  one. -/
  | xchgSwitch (t : Nat)
  /-- `TIME_LREQ_GO_WRITE` (R213). The steward marks a ledger request frame to go out with the next millisecond
  boundary's time word. -/
  | timeLreqGoWrite (t : Nat)
  /-- `IALOS_MS_BOUNDARY` (R370). At each Ialos millisecond boundary the ledger assigns energy, acts on the request
  frame and refreshes the mailbox. -/
  | ialosMsBoundary (t : Nat)
  /-- `LREQ_OPEN` (R226). An OPEN request frame opens a session and writes a signed start record, or is refused.
  Operands: sequence number, metering point, session identifier. -/
  | lreqOpen (seq : Nat) (mp : Nat) (sid : List Byte) (t : Nat)
  /-- `LREQ_CLOSE` (R226). A CLOSE request frame writes the stop record into its reserved slot. Operands: sequence
  number, metering point. -/
  | lreqClose (seq : Nat) (mp : Nat) (t : Nat)
  /-- `LREQ_ACK_RECORDS` (R227). An ACK_RECORDS frame frees the written record slots up to the named number.
  Operands: sequence number, the last record read. -/
  | lreqAckRecords (seq : Nat) (upto : Nat) (t : Nat)
  /-- `LREQ_SET_FIELD` (R218). A SET_FIELD frame changes a metrology field with a logbook entry, or is refused.
  Operands: sequence number, metering point, field, value. -/
  | lreqSetField (seq : Nat) (mp : Nat) (id : Nat) (v : Word) (t : Nat)
  /-- `LREQ_CLEAR_COUNTERS` (R214). A CLEAR_COUNTERS frame clears the named ledger sticky counters. Operands:
  sequence number, the counters named. -/
  | lreqClearCounters (seq : Nat) (mask : Word) (t : Nat)
  /-- `LREQ_CAL_BEGIN` (R214). A CAL_BEGIN frame stops accumulation of metering points using the channel. Operands:
  sequence number, channel. -/
  | lreqCalBegin (seq : Nat) (c : Fin 32) (t : Nat)
  /-- `LREQ_CAL_END` (R214). A CAL_END frame resumes accumulation for the channel. Operands: sequence number,
  channel. -/
  | lreqCalEnd (seq : Nat) (c : Fin 32) (t : Nat)
  /-- `ENERGY_SAVE` (R223). Every MTR_SAVE_PERIOD the ledger writes all energy registers in one journalled
  transaction. -/
  | energySave (t : Nat)
  /-- `LEDGER_READY` (R240). The ledger boot completes its verification, load, closure of open sessions and first
  refresh. -/
  | ledgerReady (t : Nat)
  /-- `SEAL_MEASUREMENT` (R438). PD0 measures each seal loop every 10 ms and latches any open reading. Operands:
  loop `n`, the resistance measured. -/
  | sealMeasurement (n : Fin 4) (ohms : Nat) (t : Nat)
  /-- `BRIDLE_INPUT_CHANGE` (R241). A change of a bridle input that has held for BRD_IN_FILT is accepted and the
  pair and reaction states follow. Operands: the input, what it now reads. -/
  | bridleInputChange (i : Nat) (r : Reading) (t : Nat)
  /-- `SA_DISC_TIMEOUT` (R242). Pair channels that do not agree within BRD_SA_DISC_p put the pair in DISC. Operands:
  pair `p`. -/
  | saDiscTimeout (p : Fin 8) (t : Nat)
  /-- `STOP1_DELAY_EXPIRY` (R243). After BRD_STOP1_DELAY a category 1 stop takes enables low and opens contactors.
  Operands: pair `p`. -/
  | stop1DelayExpiry (p : Fin 8) (t : Nat)
  /-- `IMD_FAULT` (R244). IMD reading 0 or LOST for BRD_IMD_FILT outside the blanking time is an insulation fault.
  -/
  | imdFault (t : Nat)
  /-- `IMD_BLANK_END` (R244). The IMD blanking after a contactor closes ends. -/
  | imdBlankEnd (t : Nat)
  /-- `SEN_TEST_PULSE` (R245). Once a second each channel pulses its enable switch off for 200 µs and checks the
  read-back. Operands: bit n set for an enable output whose read-back fell. -/
  | senTestPulse (low : Nat) (t : Nat)
  /-- `BRIDLE_RESET` (R247). A valid SRES_N pulse releases every reaction and fault whose condition has gone.
  Operands: the low time and the high time before it in 50 ps. -/
  | bridleReset (low high : Nat) (t : Nat)
  /-- `SRES_STUCK` (R247). SRES_N held low for longer than 5 s sets STUCK. Operands: the low time so far in 50 ps.
  -/
  | sresStuck (low : Nat) (t : Nat)
  /-- `KF_CHECK_EXPIRY` (R248). After BRD_K_KFTIME the contactor feedback is checked for close failure, weld or
  dropout. Operands: contactor `n`. -/
  | kfCheckExpiry (n : Fin 4) (t : Nat)
  /-- `CKF_SUPERVISION_WINDOW` (R250). Each 10 µs window the CKF cycle count is judged and a supervision fault
  declared if out of range. Operands: the CKF cycles counted. -/
  | ckfSupervisionWindow (cycles : Nat) (t : Nat)
  /-- `BRIDLE_FAULT` (R251). A channel disagreement, read-back mismatch, oscillator error or configuration failure
  takes every output off until power cycle. -/
  | bridleFault (t : Nat)
  /-- `DEGRADED_MODE_EXPIRY` (R253). When the degraded-mode budget runs out the pair's reaction applies. -/
  | degradedModeExpiry (t : Nat)
  /-- `POWER_ABSENT_PERMIT` (R254). The power-absent permit is granted once the named contactors have read open for
  1 s. -/
  | powerAbsentPermit (t : Nat)
  /-- `BRIDLE_CFG_WRITE` (R258). A write to the bridle configuration page is stored in one journalled transaction,
  or refused under SEAL1. Operands: the offset in the page, the value. -/
  | bridleCfgWrite (offset : Nat) (v : Word) (t : Nat)
  /-- `BRIDLE_CFG_CHECK` (R260). At PD11 power-up the bridle checks its stored configuration before enabling
  outputs. -/
  | bridleCfgCheck (t : Nat)
  /-- `REC_ARM` (R267). The arm command starts a capture in PREFILL or RUN. Operands: engine `e`. -/
  | recArm (e : Fin 4) (t : Nat)
  /-- `REC_STOP` (R267). The stop command ends a capture as STOPPED and drains the history. Operands: engine `e`. -/
  | recStop (e : Fin 4) (t : Nat)
  /-- `REC_FORCE_TRIGGER` (R268). The force command acts as a trigger at its own instant. Operands: engine `e`. -/
  | recForceTrigger (e : Fin 4) (t : Nat)
  /-- `REC_FRAME` (R263). At a sample instant an engine takes one frame of all its sources into the history.
  Operands: engine `e`. -/
  | recFrame (e : Fin 4) (t : Nat)
  /-- `RTRIG_EDGE` (R268). A rising edge on RTRIG is stamped as an external trigger. -/
  | rtrigEdge (t : Nat)
  /-- `REC_POST_END` (R267). After REC_POST frame instants the capture ends in DONE, or rearms with REC_AUTO.
  Operands: engine `e`. -/
  | recPostEnd (e : Fin 4) (t : Nat)
  /-- `REC_FLUSH_EXPIRY` (R271). A block closes when REC_FLUSH ms have passed since its first frame. Operands:
  engine `e`. -/
  | recFlushExpiry (e : Fin 4) (t : Nat)
  /-- `HISTORY_DRAINED` (R266). Once the history has drained to 4 096 words, missed frames end and a gap is
  recorded. Operands: engine `e`. -/
  | historyDrained (e : Fin 4) (t : Nat)
  /-- `BOB_DOORBELL` (R276). A DOORBELL makes a waiting bobbin fetch its descriptor again. Operands: bobbin `b`. -/
  | bobDoorbell (b : Fin 16) (t : Nat)
  /-- `BOB_RESUME` (R280). RESUME restarts a halted bobbin from where it halted. Operands: bobbin `b`. -/
  | bobResume (b : Fin 16) (t : Nat)
  /-- `BOB_RESTART` (R280). RESTART begins the ring again at BOB_BASE. Operands: bobbin `b`. -/
  | bobRestart (b : Fin 16) (t : Nat)
  /-- `BOB_REFETCH` (R276). A waiting bobbin refetches its descriptor every 1 024 CKF cycles. Operands: bobbin `b`.
  -/
  | bobRefetch (b : Fin 16) (t : Nat)
  /-- `DESCRIPTOR_COMPLETE` (R278). A descriptor's data has moved and it is returned with status, halting on a
  write-back failure. Operands: bobbin `b`; an error that stopped the transfer with its byte count; an error after
  the last beat; an error of the write-back. -/
  | descriptorComplete (b : Fin 16) (bad : Option (Nat × Nat)) (late backFail : Option Nat) (t : Nat)
  /-- `HK_CONVERSION_DONE` (R54). A housekeeping conversion completes and its result is stored, with the next slot
  or queued sequence started. Operands: the code. -/
  | hkConversionDone (raw : Nat) (t : Nat)
  /-- `HK_ROUND_TICK` (R55). A round tick starts the regular sequence, or marks the round late. -/
  | hkRoundTick (t : Nat)
  /-- `HK_ROUND_END` (R292). At the end of a round the NTCs are cross-checked and the drift corrections updated. -/
  | hkRoundEnd (t : Nat)
  /-- `HK_INJECTED_TRIGGER` (R56). An enabled trigger starts, queues or drops an injected sequence. Operands: the
  source: 0 the register, 1 the pre-warning, 2 `VIN` falling, 3 the bridle, 4 the recorder. -/
  | hkInjectedTrigger (source : Nat) (t : Nat)
  /-- `HK_RESULT_STALE` (R59). An input without a completed conversion for two round periods is marked STALE.
  Operands: input `i`. -/
  | hkResultStale (i : Nat) (t : Nat)
  /-- `CAL_START` (R63). The START command selects an entry, runs the checks and arms the engine. Operands: the
  entry. -/
  | calStart (entry : Nat) (t : Nat)
  /-- `CAL_ZERO` (R63). The ZERO command begins settling and averaging at zero. -/
  | calZero (t : Nat)
  /-- `CAL_FULL` (R63). The FULL command begins settling and averaging at the applied reference. -/
  | calFull (t : Nat)
  /-- `CAL_COMMIT` (R67). The COMMIT command writes the new entry, with a logbook entry for a metering channel. -/
  | calCommit (t : Nat)
  /-- `CAL_ABORT` (R63). The ABORT command discards everything and returns the engine to IDLE. -/
  | calAbort (t : Nat)
  /-- `CAL_ENGINE_RESTORE` (R63). The RESTORE command checks and commits the restore values as a restored entry. -/
  | calEngineRestore (t : Nat)
  /-- `CAL_SETTLE_EXPIRY` (R63). After CAL_SETTLE the engine starts averaging readings. -/
  | calSettleExpiry (t : Nat)
  /-- `CAL_AVERAGING_DONE` (R64). The averaging of the required readings completes and the result is checked. -/
  | calAveragingDone (t : Nat)
  /-- `CAL_FLAGGED_READING` (R64). A reading with the invalid or overload flag ends the averaging with result 0xB.
  -/
  | calFlaggedReading (t : Nat)
  /-- `CAL_TIMEOUT` (R63). No command for CAL_TIMEOUT returns the engine to IDLE with result 0xA. -/
  | calTimeout (t : Nat)
  /-- `CAL_COMMIT_DONE` (R67). The journalled calibration write completes and the engine returns to IDLE. -/
  | calCommitDone (t : Nat)
  /-- `THERMAL_TICK` (R290). Every 1 ms the thermal model updates losses, Foster and heatsink stages and compares
  limits. -/
  | thermalTick (t : Nat)
  /-- `THERMAL_RECORD_WRITE` (R299). After the write in progress finishes, the thermal record is written in one
  journalled transaction. -/
  | thermalRecordWrite (t : Nat)
  /-- `TH_RESTART_WRITE` (R302). Writing TH_RESTART releases cause 0x0C for harnesses whose temperatures allow it.
  Operands: the legs or harnesses named. -/
  | thRestartWrite (mask : Fin 16) (t : Nat)
  /-- `MRAM_OPERATION_DONE` (R323). An MRAM operation completes and the controller starts the next one by writer
  priority. -/
  | mramOperationDone (t : Nat)
  /-- `STACK_RESOLVED` (R316). An accepted stack change is resolved, written to the shadows and APPLY is written. -/
  | stackResolved (t : Nat)
  /-- `TOMUS_PACKET_RX` (R329). A received packet is checked, discarded, queued in B0 or answered as a repeat.
  Operands: the transport, the peer, the packet. -/
  | tomusPacketRx (transport : Fin 5) (peer : Peer) (bytes : List Byte) (t : Nat)
  /-- `SPI_FRAME` (R332). A 512-byte full-duplex SPI frame carries a request in and the oldest reply out, or is
  void. Operands: the bytes, and the bits that have passed when `SPI_CS_N` rises. -/
  | spiFrame (bytes : List Byte) (bits : Nat) (t : Nat)
  /-- `SESSION_PROVE_TIMEOUT` (R338). A handshake without SESSION_PROVE within 10 s ends. -/
  | sessionProveTimeout (t : Nat)
  /-- `SESSION_IDLE_TIMEOUT` (R340). A session with no executed request for 300 s ends. Operands: the peer. -/
  | sessionIdleTimeout (peer : Peer) (t : Nat)
  /-- `OP_RESULT_EXPIRY` (R335). The final status of an L operation is dropped 60 s after completion. -/
  | opResultExpiry (t : Nat)
  /-- `L_OPERATION_DONE` (R335). A long-running Tomus operation completes and its final status is stored. Operands:
  the opcode and the result. -/
  | lOperationDone (opcode result : Nat) (t : Nat)
  /-- `PING` (R344). PING returns its parameter bytes. Operand: the request. -/
  | ping (req : Req) (t : Nat)
  /-- `IDENTITY` (R344). IDENTITY returns the unit's identity, state and hashes. Operand: the request. -/
  | identity (req : Req) (t : Nat)
  /-- `DEVICE_KEY` (R344). DEVICE_KEY returns the device public key. Operand: the request. -/
  | deviceKey (req : Req) (t : Nat)
  /-- `OP_STATUS` (R335). OP_STATUS returns the final status of the last L operation. Operand: the request. -/
  | opStatus (req : Req) (t : Nat)
  /-- `STATS` (R344). STATS returns transport counts and optionally clears the sticky ones. Operand: the request. -/
  | stats (req : Req) (t : Nat)
  /-- `SESSION_HELLO` (R338). SESSION_HELLO starts a handshake and returns the unit's ephemeral key, nonce and
  signature. Operand: the request. -/
  | sessionHello (req : Req) (t : Nat)
  /-- `SESSION_PROVE` (R338). SESSION_PROVE verifies the host signature and opens a session with its key. Operand:
  the request. -/
  | sessionProve (req : Req) (t : Nat)
  /-- `SESSION_CLOSE` (R340). SESSION_CLOSE ends the session. Operand: the request. -/
  | sessionClose (req : Req) (t : Nat)
  /-- `HOSTKEY_SET` (R341). HOSTKEY_SET writes a host key slot and its role. Operand: the request. -/
  | hostkeySet (req : Req) (t : Nat)
  /-- `HOSTKEY_CLEAR` (R344). HOSTKEY_CLEAR empties a host key slot and ends its sessions. Operand: the request. -/
  | hostkeyClear (req : Req) (t : Nat)
  /-- `HOSTKEY_LIST` (R344). HOSTKEY_LIST returns the role and key hash prefix of each slot. Operand: the request.
  -/
  | hostkeyList (req : Req) (t : Nat)
  /-- `CFG_STATUS` (R345). CFG_STATUS returns the stack, saddle generation, state and configuration hash. Operand:
  the request. -/
  | cfgStatus (req : Req) (t : Nat)
  /-- `STAGE_WRITE` (R345). STAGE_WRITE places record bytes in the staging buffer. Operand: the request. -/
  | stageWrite (req : Req) (t : Nat)
  /-- `SADDLE_STORE` (R313). SADDLE_STORE writes both saddle copies from the staging buffer. Operand: the request.
  -/
  | saddleStore (req : Req) (t : Nat)
  /-- `TACK_STORE` (R315). TACK_STORE writes a tack slot from the staging buffer. Operand: the request. -/
  | tackStore (req : Req) (t : Nat)
  /-- `STACK_SELECT` (R316). STACK_SELECT requests a new stack of tacks, or is refused. Operand: the request. -/
  | stackSelect (req : Req) (t : Nat)
  /-- `SADDLE_ACK` (R321). SADDLE_ACK rewrites both copies and ends the degraded state. Operand: the request. -/
  | saddleAck (req : Req) (t : Nat)
  /-- `FIELD_READ` (R345). FIELD_READ returns the values in force and their sources. Operand: the request. -/
  | fieldRead (req : Req) (t : Nat)
  /-- `STORE_READ` (R345). STORE_READ returns stored bytes of a saddle copy or tack. Operand: the request. -/
  | storeRead (req : Req) (t : Nat)
  /-- `IMG_BEGIN` (R346). IMG_BEGIN erases an image slot of the inactive bank. Operand: the request. -/
  | imgBegin (req : Req) (t : Nat)
  /-- `IMG_WRITE` (R346). IMG_WRITE programs image bytes into the slot. Operand: the request. -/
  | imgWrite (req : Req) (t : Nat)
  /-- `IMG_VERIFY` (R206). IMG_VERIFY checks an image. Operand: the request. -/
  | imgVerify (req : Req) (t : Nat)
  /-- `IMG_ACTIVATE` (R346). IMG_ACTIVATE selects a bank or delivers a ledger image to the loader. Operand: the
  request. -/
  | imgActivate (req : Req) (t : Nat)
  /-- `XCHG_ARM` (R208). XCHG_ARM copies the new image's sections and arms an online exchange. Operand: the request.
  -/
  | xchgArm (req : Req) (t : Nat)
  /-- `XCHG_CANCEL` (R346). XCHG_CANCEL returns an armed exchange to VERIFIED. Operand: the request. -/
  | xchgCancel (req : Req) (t : Nat)
  /-- `IMG_STATUS` (R346). IMG_STATUS returns image and exchange state. Operand: the request. -/
  | imgStatus (req : Req) (t : Nat)
  /-- `LOOMKEY_SET` (R206). LOOMKEY_SET writes a loom key slot while SEAL3 is open. Operand: the request. -/
  | loomkeySet (req : Req) (t : Nat)
  /-- `RUN_STATUS` (R347). RUN_STATUS returns the loom, harness, ownership, bridle and thermal state. Operand: the
  request. -/
  | runStatus (req : Req) (t : Nat)
  /-- `LOOM_RUN` (R195). LOOM_RUN asks the loom to go from STOP to RUN. Operand: the request. -/
  | loomRun (req : Req) (t : Nat)
  /-- `LOOM_STOP` (R347). LOOM_STOP takes the loom to STOP from RUN or HOLD. Operand: the request. -/
  | loomStop (req : Req) (t : Nat)
  /-- `LOOM_HOLD` (R347). LOOM_HOLD takes the loom to HOLD when debugging is enabled. Operand: the request. -/
  | loomHold (req : Req) (t : Nat)
  /-- `LOOM_RESUME` (R347). LOOM_RESUME leaves HOLD for RUN. Operand: the request. -/
  | loomResume (req : Req) (t : Nat)
  /-- `KERNEL_CMD` (R348). KERNEL_CMD places a kernel command in the next T0 snapshot. Operand: the request. -/
  | kernelCmd (req : Req) (t : Nat)
  /-- `FAULT_CLEAR` (R347). FAULT_CLEAR writes GATE_CLEAR for the named harnesses. Operand: the request. -/
  | faultClear (req : Req) (t : Nat)
  /-- `THERMAL_RESTART` (R347). THERMAL_RESTART writes TH_RESTART for the named harnesses. Operand: the request. -/
  | thermalRestart (req : Req) (t : Nat)
  /-- `MEM_READ` (R349). MEM_READ reads memory or registers as the steward. Operand: the request. -/
  | memRead (req : Req) (t : Nat)
  /-- `MEM_WRITE` (R349). MEM_WRITE writes memory or registers as the steward, with configuration pages only in STOP
  or HOLD. Operand: the request. -/
  | memWrite (req : Req) (t : Nat)
  /-- `MTR_OPEN` (R350). MTR_OPEN sends an OPEN frame and returns the start record number. Operand: the request. -/
  | mtrOpen (req : Req) (t : Nat)
  /-- `MTR_CLOSE` (R350). MTR_CLOSE sends a CLOSE frame and returns the stop record number. Operand: the request. -/
  | mtrClose (req : Req) (t : Nat)
  /-- `MTR_ACK_RECORDS` (R350). MTR_ACK_RECORDS sends an ACK_RECORDS frame. Operand: the request. -/
  | mtrAckRecords (req : Req) (t : Nat)
  /-- `MTR_CLEAR_COUNTERS` (R350). MTR_CLEAR_COUNTERS sends a CLEAR_COUNTERS frame. Operand: the request. -/
  | mtrClearCounters (req : Req) (t : Nat)
  /-- `MTR_READ` (R350). MTR_READ returns a metering point's registers coherently. Operand: the request. -/
  | mtrRead (req : Req) (t : Nat)
  /-- `MTR_RECORD` (R350). MTR_RECORD returns a record in native or OCMF layout. Operand: the request. -/
  | mtrRecord (req : Req) (t : Nat)
  /-- `MTR_KEYS` (R350). MTR_KEYS returns the ledger public key and firmware hash. Operand: the request. -/
  | mtrKeys (req : Req) (t : Nat)
  /-- `REC_CMD` (R351). REC_CMD gives a recorder engine an arm, stop or force command. Operand: the request. -/
  | recCmd (req : Req) (t : Nat)
  /-- `REC_STATUS` (R351). REC_STATUS returns a recorder engine's state and counts. Operand: the request. -/
  | recStatus (req : Req) (t : Nat)
  /-- `REC_BLOCK_READ` (R351). REC_BLOCK_READ returns bytes of a returned recorder block. Operand: the request. -/
  | recBlockRead (req : Req) (t : Nat)
  /-- `REC_BLOCK_RELEASE` (R351). REC_BLOCK_RELEASE gives a descriptor back to the hardware. Operand: the request.
  -/
  | recBlockRelease (req : Req) (t : Nat)
  /-- `GATE_TEST` (R351). GATE_TEST runs a gate comparator self-test and returns its result. Operand: the request.
  -/
  | gateTest (req : Req) (t : Nat)
  /-- `SELFTEST` (R351). SELFTEST checks references, SRAM scrub and NOR hashes with the loom in STOP. Operand: the
  request. -/
  | selftest (req : Req) (t : Nat)
  /-- `CAL_CMD` (R352). CAL_CMD drives the calibration engine with one command. Operand: the request. -/
  | calCmd (req : Req) (t : Nat)
  /-- `CAL_EXPORT` (R69). CAL_EXPORT returns bytes of the calibration image. Operand: the request. -/
  | calExport (req : Req) (t : Nat)
  /-- `CAL_RESTORE` (R352). CAL_RESTORE applies one entry of an exported image through RESTORE. Operand: the
  request. -/
  | calRestore (req : Req) (t : Nat)
  /-- `RSM_COEF_WRITE` (R352). RSM_COEF_WRITE loads coefficients into the inactive resampler bank. Operand: the
  request. -/
  | rsmCoefWrite (req : Req) (t : Nat)
  /-- `RSM_SWITCH` (R352). RSM_SWITCH requests a coefficient bank switch with its expected CRC. Operand: the
  request. -/
  | rsmSwitch (req : Req) (t : Nat)
  /-- `TIME_READ` (R353). TIME_READ returns Ialos time and synchronisation state. Operand: the request. -/
  | timeRead (req : Req) (t : Nat)
  /-- `TIME_SET` (R353). TIME_SET sets the counter before the first synchronisation. Operand: the request. -/
  | timeSet (req : Req) (t : Nat)
  /-- `PAIR_STATUS` (R353). PAIR_STATUS returns the pair role and synchronisation state. Operand: the request. -/
  | pairStatus (req : Req) (t : Nat)
  /-- `PAIR_YIELD` (R353). PAIR_YIELD makes the active unit give up control to a synchronised standby. Operand: the
  request. -/
  | pairYield (req : Req) (t : Nat)
  /-- `PAIR_TAKEBACK` (R353). PAIR_TAKEBACK inhibits or allows the preferred unit's takeback. Operand: the request.
  -/
  | pairTakeback (req : Req) (t : Nat)
  /-- `EVENT_READ` (R353). EVENT_READ returns event records. Operand: the request. -/
  | eventRead (req : Req) (t : Nat)
  /-- `LOGBOOK_READ` (R353). LOGBOOK_READ returns logbook entries. Operand: the request. -/
  | logbookRead (req : Req) (t : Nat)
  /-- `THERMAL_READ` (R353). THERMAL_READ returns the home thermal record. Operand: the request. -/
  | thermalRead (req : Req) (t : Nat)
  /-- `ETH_FRAME_RX` (R356). A received Ethernet frame is filtered, de-duplicated under PRP and handed to ARP, ICMP,
  UDP or PTP. Operands: port `n`, the frame without its check sequence, the timestamps of its start and of the
  answer to a Pdelay_Req. -/
  | ethFrameRx (n : Fin 2) (frame : List Byte) (ts tx : Nat) (t : Nat)
  /-- `PRP_SUPERVISION_TX` (R358). Every 2 s PRP supervision frames are sent on both ports. -/
  | prpSupervisionTx (t : Nat)
  /-- `CAN_FRAME_RX` (R359). A CAN FD frame is received for Tomus or a station, or lost if the buffer is full.
  Operands: controller `c`, the identifier, whether extended, whether CAN FD, whether there is room, the data. -/
  | canFrameRx (c : Fin 2) (ident : Nat) (ext fd room : Bool) (bytes : List Byte) (t : Nat)
  /-- `CAN_BUS_OFF` (R359). A controller enters bus-off and its Tomus and station traffic stops. Operands:
  controller `c`. -/
  | canBusOff (c : Fin 2) (t : Nat)
  /-- `CAN_BUS_OFF_RECOVERY` (R359). After 128 × 11 recessive bits a bus-off controller recovers. Operands:
  controller `c`. -/
  | canBusOffRecovery (c : Fin 2) (t : Nat)
  /-- `PTP_SYNC_RX` (R366). A valid Sync yields an offset that steps the counter once or drives the rate servo and
  timebase states. Operands: port `n`, the message, its timestamp. -/
  | ptpSyncRx (n : Fin 2) (msg : List Byte) (ts : Nat) (t : Nat)
  /-- `PTP_ANNOUNCE_RX` (R368). An Announce feeds the best master clock algorithm and port roles. Operands: port
  `n`, the message. -/
  | ptpAnnounceRx (n : Fin 2) (msg : List Byte) (t : Nat)
  /-- `PTP_PDELAY_RX` (R368). A peer-delay message is answered or used to measure the peer delay. Operands: port
  `n`, the message, its timestamp and that of the answer. -/
  | ptpPdelayRx (n : Fin 2) (msg : List Byte) (ts tx : Nat) (t : Nat)
  /-- `PTP_INTERVAL_TX` (R368). At each 1 s interval the unit sends its Pdelay_Req, and Sync and Announce when
  master. Operands: port `n`, the timestamps of the Sync and the Pdelay_Req sent. -/
  | ptpIntervalTx (n : Fin 2) (tsSync tsReq : Nat) (t : Nat)
  /-- `PTP_SYNC_TIMEOUT` (R365). No valid Sync for 3 intervals puts the timebase in HOLDOVER. -/
  | ptpSyncTimeout (t : Nat)
  /-- `HOLDOVER_EXPIRY` (R365). After TIME_HOLDOVER_T in HOLDOVER, TUNS sets. -/
  | holdoverExpiry (t : Nat)
  /-- `IALOS_SECOND_BOUNDARY` (R371). At each Ialos second the cross-capture, RTC rewrite and TPPS rise take place.
  -/
  | ialosSecondBoundary (t : Nat)
  /-- `TPPS_FALL` (R372). TPPS falls 100 ms after its rise. -/
  | tppsFall (t : Nat)
  /-- `FILUT_FRAME_RX` (R380). A received Filut frame is validated and updates images, the mirror, status or
  control. Operands: the frame, and the instant of its first byte. -/
  | filutFrameRx (bytes : List Byte) (start : Nat) (t : Nat)
  /-- `FILUT_LINK_DOWN` (R380). No valid frame for 2 T0 periods takes the link down. -/
  | filutLinkDown (t : Nat)
  /-- `FILUT_SEGMENT_TX` (R383). A T1 or mirror segment is sent in link time that T0 frames leave free. -/
  | filutSegmentTx (t : Nat)
  /-- `PHAND_N_FALL` (R391). The partner's HAND_N falling advances the handover in the standby or the failing unit.
  -/
  | phandNFall (t : Nat)
  /-- `POWN_N_RISE` (R391). The partner releasing OWN_N lets the taking unit enter mode 2. -/
  | pownNRise (t : Nat)
  /-- `HANDOVER_TIMEOUT` (R391). A standby that has not answered within 50 µs leaves the failing unit FAILED in mode
  1. -/
  | handoverTimeout (t : Nat)
  /-- `SILENT_TAKEOVER` (R394). With no frames for 2 T0 and POWN_N high for 25 µs, the standby takes over without a
  signal. -/
  | silentTakeover (t : Nat)
  /-- `TAKEOVER_BOUNDARY` (R393). At D_T the loaded image and mirror are committed and the loom enters RUN with
  HANDOVER. -/
  | takeoverBoundary (t : Nat)
  /-- `TAKEBACK_REQUEST` (R396). Unit A, once all takeback conditions hold, requests control by a control frame. -/
  | takebackRequest (t : Nat)
  /-- `PAIR_START` (R397). At ready a paired unit settles as ACTIVE or STANDBY by the partner's state and OWN_N.
  Operands: whether `POWN_N` reads low, and whether it does once mode 1 is in force. -/
  | pairStart (low lowThen : Bool) (t : Nat)
  /-- `RED_CTRL_YIELD` (R399). The yield command of RED_CTRL starts a yield. -/
  | redCtrlYield (t : Nat)
  /-- `RED_CTRL_INHIBIT` (R399). The inhibit command of RED_CTRL inhibits takeback. -/
  | redCtrlInhibit (t : Nat)
  /-- `RED_CTRL_ALLOW` (R399). The allow command of RED_CTRL allows takeback. -/
  | redCtrlAllow (t : Nat)
  /-- `VIN_VALID` (R401). VIN at or above 8.8 V for 2 ms becomes valid and start-up or a reset kind follows. -/
  | vinValid (t : Nat)
  /-- `VINF_DECLARED` (R413). VIN below 8.5 V for 20 µs declares power failure and starts the power-fail sequence.
  -/
  | vinfDeclared (t : Nat)
  /-- `VINF_CLEAR` (R401). VIN back at or above 8.8 V for 2 ms clears VINF. -/
  | vinfClear (t : Nat)
  /-- `VINF_GRACE_EXPIRY` (R413). After PWR_VINF_GRACE the shuttle domains are switched off. -/
  | vinfGraceExpiry (t : Nat)
  /-- `VINF_SHED_TIMEOUT` (R413). At mode 0 or G + 200 µs the network, island and gate-bank domains are switched
  off. -/
  | vinfShedTimeout (t : Nat)
  /-- `POWER_FAIL_FINAL_WRITE` (R413). When the ledger write is complete or the store reaches 14 V, the last record
  is written and PD1, PD4, PD5 go off. Operands: the voltage of the store in mV. -/
  | powerFailFinalWrite (mv : Nat) (t : Nat)
  /-- `HOLDUP_12V` (R413). At 12 V on the hold-up store PD11 goes off. -/
  | holdup12v (t : Nat)
  /-- `HOLDUP_FULL` (R404). The hold-up store reaches full charge and HOLDUP_OK sets. -/
  | holdupFull (t : Nat)
  /-- `VBAK_LOSS` (R401). VBAK below 2.2 V while PD0 depends on it loses the RTC and event slot. -/
  | vbakLoss (t : Nat)
  /-- `PWR_DOMAIN_ON` (R406). A domain-on request switches an off domain on. Operands: domain `n`. -/
  | pwrDomainOn (n : Fin 12) (t : Nat)
  /-- `PWR_DOMAIN_OFF` (R406). A domain-off request switches a domain off if its conditions hold, otherwise it is
  refused. Operands: domain `n`, whether the steward asks. -/
  | pwrDomainOff (n : Fin 12) (steward : Bool) (t : Nat)
  /-- `PWR_DOMAIN_CYCLE` (R406). A cycle request switches PD11 off for 100 ms. Operands: domain `n`, whether the
  steward asks. -/
  | pwrDomainCycle (n : Fin 12) (steward : Bool) (t : Nat)
  /-- `PD11_CYCLE_RESTART` (R406). After 100 ms off, PD11 restarts under the bridle start-up sequence. -/
  | pd11CycleRestart (t : Nat)
  /-- `PWR_SLEEP_LEVEL1` (R414). A write of 1 to PWR_SLEEP enters sleep level 1. -/
  | pwrSleepLevel1 (t : Nat)
  /-- `PWR_SLEEP_LEVEL2` (R414). A write of 2 to PWR_SLEEP enters sleep level 2. -/
  | pwrSleepLevel2 (t : Nat)
  /-- `PWR_SLEEP_EXIT` (R414). A write of 0 to PWR_SLEEP wakes from level 1. -/
  | pwrSleepExit (t : Nat)
  /-- `WAKE_N_LOW` (R414). A low of WAKE_N for 100 µs wakes the unit when enabled. Operands: the low time in µs. -/
  | wakeNLow (low : Nat) (t : Nat)
  /-- `RTC_ALARM` (R414). The RTC alarm wakes the unit when enabled. -/
  | rtcAlarm (t : Nat)
  /-- `PIN_RESET` (R408). RST_N held low for 10 µs gives a reset of kind 0x04. Operands: the low time in ns. -/
  | pinReset (low : Nat) (t : Nat)
  /-- `STEWARD_WATCHDOG_EXPIRY` (R408). No steward watchdog kick for 100 ms gives a reset of kind 0x05. Operands:
  the time without a kick in µs. -/
  | stewardWatchdogExpiry (idle : Nat) (t : Nat)
  /-- `SOFTWARE_RESET` (R408). Writing the key to PWR_RESET gives a reset of kind 0x06. Operands: the value written.
  -/
  | softwareReset (v : Word) (t : Nat)
  /-- `CORE_SUPERVISOR_RESET` (R408). The core rail below 0.700 V for 1 µs gives a reset of kind 0x07. Operands: the
  time below the threshold in ns. -/
  | coreSupervisorReset (low : Nat) (t : Nat)
  /-- `STARTUP_STEP` (R410). A start-up step begins when the one before it is complete. -/
  | startupStep (t : Nat)
  /-- `UNIT_READY` (R411). When every ready condition holds the unit reports ready and sets the gate ownership mode.
  -/
  | unitReady (t : Nat)
  /-- `LOCK_DECLARED` (R423). The MDLL is declared locked after 250 good root edges with LOCKF in its window.
  Operands: `LOCKF` in mV. -/
  | lockDeclared (mv : Nat) (t : Nat)
  /-- `LOSS_OF_LOCK` (R424). A phase error or high LOCKF declares loss of lock, freezing the MDLL and gating CKE and
  CKL. Operands: whether by the digital detector, else `LOCKF` in mV and for how long in µs. -/
  | lossOfLock (digital : Bool) (mv held : Nat) (t : Nat)
  /-- `LOSS_OF_REFERENCE` (R424). A missing or off-frequency root declares loss of reference and loss of lock. -/
  | lossOfReference (t : Nat)
  /-- `LOCKF_FILTER_FAULT` (R424). LOCKF below its low limit while locked sets FILT_FLT. Operands: `LOCKF` in mV. -/
  | lockfFilterFault (mv : Nat) (t : Nat)
  /-- `REFERENCE_RECOVERED` (R427). After 1 ms of good root the MDLL starts to reacquire. -/
  | referenceRecovered (t : Nat)
  /-- `RELOCK_HOLD_EXPIRY` (R427). Lock held for CLK_RELOCK_HOLD ungates CKE and CKL and releases cause 0x0D. -/
  | relockHoldExpiry (t : Nat)
  /-- `GATE_ISLAND_LINK_LOST` (R143). The gate bank stops receiving valid fault and state reports from a gate
  island, so LINK clears, the harness goes to the selvedge latched with cause 0x08 and a self-diagnosis fault of
  code 0x04 is raised. Operands: channel `c`. -/
  | gateIslandLinkLost (c : Fin 48) (t : Nat)
  /-- `GATE_ISLAND_SUPPLY_UP` (R135). A gate island's VD comes up, the island holds HIZ until it receives an entry,
  and UV (and UVN where enabled) read 1. Operands: channel `c`. -/
  | gateIslandSupplyUp (c : Fin 48) (t : Nat)
  /-- `ETH_LINK_CHANGE` (R368). An Ethernet port gains or loses link, changing PTP port roles, holdover and the lost
  state of UDP stations. Operands: port `n`, whether the link is up, the speed. -/
  | ethLinkChange (n : Fin 2) (up : Bool) (speed : Nat) (t : Nat)
  /-- `PTP_ANNOUNCE_TIMEOUT` (R368). No Announce arrives within the announce receipt timeout of 3 intervals, and the
  best master clock algorithm re-selects the master and port roles. Operands: port `n`. -/
  | ptpAnnounceTimeout (n : Fin 2) (t : Nat)
  /-- `RED_START_WAIT_EXPIRY` (R397). Unit B, with no frame from its partner for RED_START_WAIT after ready, tries
  mode 1 and becomes ACTIVE or STANDBY according to POWN_N. Operands: whether `POWN_N` reads low, and whether it
  does once mode 1 is in force. -/
  | redStartWaitExpiry (low lowThen : Bool) (t : Nat)
  /-- `FILT_FLT_CLEAR` (R430). LOCKF returns inside its window while lock is declared, and FILT_FLT clears.
  Operands: `LOCKF` in mV. -/
  | filtFltClear (mv : Nat) (t : Nat)
deriving DecidableEq, Repr

end Sys2Proof
end

