-- ==== Sys2Proof/Decode.lean ====
section
/-! DEFINITION. The words of the table. Its rows give no bits: a command comes with its operands from outside, so no word
spells one. -/

namespace Sys2Proof

/-- The command that a word spells by the bits of the table: none, as no row gives bits. -/
def decodeTableWord (_nbits _w : Nat) : Option Instr := none

end Sys2Proof
end

