-- ==== Sys2Proof/Machine/Bits.lean ====
section
/-! DEFINITION. Bit fields, sign extension, byte order and rounding, each said once for the whole
model. -/

namespace Sys2Proof.Machine

/-- The field of `len` bits that begins at bit `lo` of a register word. -/
def field (w : Word) (lo len : Nat) : Nat := (w.toNat / 2 ^ lo) % 2 ^ len

/-- The word with its field of `len` bits at bit `lo` replaced by `v`. -/
def setField (w : Word) (lo len v : Nat) : Word :=
  BitVec.ofNat 32 (w.toNat - field w lo len * 2 ^ lo + (v % 2 ^ len) * 2 ^ lo)

/-- Bit `i` of a register word. -/
def bit (w : Word) (i : Nat) : Bool := w.getLsbD i

/-- The word with bit `i` set to `b`. -/
def setBit (w : Word) (i : Nat) (b : Bool) : Word := setField w i 1 b.toNat

/-- The value of a field of `len` bits read as two's complement. -/
def signed (len v : Nat) : Int :=
  if v % 2 ^ len < 2 ^ (len - 1) then ((v % 2 ^ len : Nat) : Int)
  else ((v % 2 ^ len : Nat) : Int) - (2 ^ len : Nat)

/-- The 32-bit two's-complement word of an integer. -/
def wordOfInt (z : Int) : Word := BitVec.ofInt 32 z

/-- The 32-bit word of a natural number, modulo 2^32. -/
def word (n : Nat) : Word := BitVec.ofNat 32 n

/-- The low and high words of a 64-bit number. -/
def loWord (n : Nat) : Word := BitVec.ofNat 32 n

/-- The high word of a 64-bit number. -/
def hiWord (n : Nat) : Word := BitVec.ofNat 32 (n / 2 ^ 32)

/-- An element put before the first of a list whose key is not less. -/
def placeOn {α : Type} (key : α → Nat) (x : α) : List α → List α
  | [] => [x]
  | y :: l => if key x ≤ key y then x :: y :: l else y :: placeOn key x l

/-- A list in ascending order of a key; elements with equal keys keep their order. -/
def sortOn {α : Type} (key : α → Nat) : List α → List α
  | [] => []
  | x :: l => placeOn key x (sortOn key l)

/-- The first `n` bytes of a number, least significant first. -/
def bytesLE : Nat → Nat → List Byte
  | 0, _ => []
  | n + 1, v => BitVec.ofNat 8 v :: bytesLE n (v / 256)

/-- The number whose little-endian bytes are given. -/
def natLE : List Byte → Nat
  | [] => 0
  | b :: bs => b.toNat + 256 * natLE bs

/-- The number whose big-endian bytes are given. -/
def natBE (bs : List Byte) : Nat := bs.foldl (fun n b => n * 256 + b.toNat) 0

/-- The `n` big-endian bytes of a number. -/
def bytesBE (n v : Nat) : List Byte := (bytesLE n v).reverse

/-- Bytes `lo` to `lo + n - 1` of a list; bytes beyond its end read as zero. -/
def sliceLE (bs : List Byte) (lo n : Nat) : Nat := natLE ((bs.drop lo).take n)

/-- A list of `n` zero bytes. -/
def zeros (n : Nat) : List Byte := List.replicate n 0

/-- `x` clamped to `lo … hi`. -/
def clampI (lo hi x : Int) : Int := if x < lo then lo else if hi < x then hi else x

/-- `x` clamped to `lo … hi`. -/
def clampN (lo hi x : Nat) : Nat := if x < lo then lo else if hi < x then hi else x

/-- The quotient of two integers, the denominator positive, rounded to nearest with half away from
zero (R76). -/
def roundDiv (num : Int) (den : Nat) : Int :=
  if 0 ≤ num then ((2 * num.toNat + den) / (2 * den) : Nat)
  else -(((2 * (-num).toNat + den) / (2 * den) : Nat) : Int)

/-- The integer part of a signed quotient, toward minus infinity. -/
def floorDiv (num : Int) (den : Nat) : Int := Int.fdiv num den

/-- The least number not below `num / den`. -/
def ceilDiv (num den : Nat) : Nat := (num + den - 1) / den

/-- The list of the bits of `mask` below `n` that are set. -/
def bitsOf (n mask : Nat) : List Nat := (List.range n).filter (fun i => mask.testBit i)

end Sys2Proof.Machine
end

