-- ==== Sys2Proof/Machine/Crc.lean ====
section
/-! DEFINITION. The two cyclic redundancy checks of the spec: the CRC-8 of a saddle record (R308) and
the CRC-32C of headers, records and packets (R311, R312, R328). -/

namespace Sys2Proof.Machine

/-- One bit of the CRC-8 of R308: polynomial 0x2F, most significant bit first. -/
def crc8Bit (c : Nat) : Nat := if c % 256 ≥ 128 then (2 * c % 256) ^^^ 0x2F else 2 * c % 256

/-- One byte of the CRC-8 of R308. -/
def crc8Byte (c : Nat) (b : Byte) : Nat :=
  Nat.repeat crc8Bit 8 (c ^^^ b.toNat)

/-- The CRC-8 of R308: initial value 0xFF, final XOR 0xFF, neither end reflected. -/
def crc8 (bs : List Byte) : Byte :=
  BitVec.ofNat 8 ((bs.foldl crc8Byte 0xFF) ^^^ 0xFF)

/-- One bit of the reflected CRC-32C: the Castagnoli polynomial 0x1EDC_6F41 reversed. -/
def crc32cBit (c : Nat) : Nat := if c % 2 = 1 then (c / 2) ^^^ 0x82F63B78 else c / 2

/-- One byte of the CRC-32C. -/
def crc32cByte (c : Nat) (b : Byte) : Nat :=
  Nat.repeat crc32cBit 8 (c ^^^ b.toNat)

/-- The CRC-32C: initial value and final XOR of all ones, both ends reflected. -/
def crc32c (bs : List Byte) : Nat :=
  (bs.foldl crc32cByte 0xFFFFFFFF) ^^^ 0xFFFFFFFF

end Sys2Proof.Machine
end

