-- ==== Sys2Proof/Machine/FieldMap.lean ====
section
/-! DEFINITION. The configuration fields: for each its identifiers, the clamp of its own table, its
default, the register bits that hold its value in force and the condition on a change (R36, R70, R93,
R124, R152, R183, R212, R237, R262, R285, R286, R305, R375, R400, R417, R431). -/

namespace Sys2Proof.Machine

open Sys2Proof

/-- The check of a field against its own table (R309, first pass). -/
inductive Clamp where
  /-- Any 32-bit value. -/
  | none
  /-- Clamped to a range; signed where the range reaches below zero. -/
  | range (lo hi : Int)
  /-- The values below `n` and those listed are valid; any other takes the default. -/
  | upto (n : Nat) (more : List Nat)
  /-- Undefined bits are cleared. -/
  | mask (m : Nat)
  /-- `SHED_FTARGET`: 0, or 5 000 to 200 000. -/
  | ftarget
  /-- A heddle word: leg codes 0b11 become 0b00. -/
  | heddle
  /-- A selvedge step: delay at most 400, other bits cleared. -/
  | selvStep
  /-- A ride-through point: voltage at most 2 000. -/
  | frtPoint
  /-- `BRD_K_BACKUP_n`: 0 to 3 but not n, or 15. -/
  | backup
  /-- A recorder source of R264, or 0xFFFF. -/
  | recSource
  /-- A ring base: 32-byte aligned, in a region that may hold a ring. -/
  | ringBase
  /-- Two 4-bit NTC indices, neither the own. -/
  | neighbours
deriving DecidableEq, Repr

/-- Where the value in force of a field is held. -/
inductive Dest where
  /-- In no register of the map: in the list of fields. -/
  | none
  /-- In register bits: the register of the first, the stride from register to register, how many fields
  share a register, the lowest bit of the first, the step from field to field within a register, the
  length, what is subtracted and how many low bits are dropped before the value is stored, and whether
  it is signed. -/
  | reg (base stride per lo step len sub shr : Nat) (signed : Bool)
deriving DecidableEq, Repr

/-- The condition on a change of a field. -/
inductive Guard where
  | none
  | legHarness
  | channelUse
  | skew
  | shedRun
  | stage
  | stageSelv
  | selv
  | kernel
  | metrology
  | bridle
  | recorder
  | ring
  | refComp
  | loomStop
  | pairing
deriving DecidableEq, Repr

/-- One row of a field table: the first identifier, how many fields and how far apart, the clamp, the
defaults (one for all, or one each), the destination and the guard. -/
structure FieldRow where
  first  : Nat
  count  : Nat
  stride : Nat
  clamp  : Clamp
  dflt   : List Int
  dest   : Dest
  guard  : Guard
deriving DecidableEq, Repr

namespace FieldMap

/-- System fields (R36). -/
def sysRows : List FieldRow := [
  ⟨0x0101, 1, 1, .range 10 10000, [1000], .reg 0x40000020 0 1 0 0 14 0 0 false, .none⟩,  -- SYS_SCRUB_PERIOD
  ⟨0x0102, 1, 1, .range 1 65535, [16], .none, .none⟩,  -- SYS_CE_EVENT_LIMIT
  ⟨0x0110, 24, 1, .upto 4 [15], [15], .reg 0x40000040 4 8 0 4 4 0 0 false, .legHarness⟩]  -- SYS_LEG_HARNESS_Lnn

/-- Measurement fields (R70). -/
def measRows : List FieldRow := [
  ⟨0x0201, 1, 1, .none, [4294967295], .reg 0x40100000 0 1 0 0 32 0 0 false, .channelUse⟩,  -- MEAS_CH_ENABLE
  ⟨0x0202, 1, 1, .upto 2 [], [0], .reg 0x40100004 0 1 0 0 1 0 0 false, .channelUse⟩,  -- MEAS_M31_MODE
  ⟨0x0203, 1, 1, .upto 2 [], [0], .reg 0x40100004 0 1 3 0 1 0 0 false, .none⟩,  -- MEAS_EXT_EDGE
  ⟨0x0204, 1, 1, .range 0 7, [4], .reg 0x40100004 0 1 4 0 3 0 0 false, .none⟩,  -- MEAS_EXT_DELAY
  ⟨0x0205, 1, 1, .range 32768 65536, [51200], .reg 0x4010000C 0 1 0 0 32 0 0 false, .none⟩,  -- MEAS_EXT_FS
  ⟨0x0206, 1, 1, .range 8 64, [24], .reg 0x40100008 0 1 0 0 7 0 0 false, .none⟩,  -- MEAS_OVL_RUN
  ⟨0x0207, 1, 1, .range 32 1023, [64], .reg 0x40100008 0 1 16 0 10 0 0 false, .none⟩,  -- MEAS_STUCK_RUN
  ⟨0x0240, 1, 1, .upto 2 [], [0], .reg 0x40130000 0 1 2 0 1 0 0 false, .none⟩,  -- HK_LOWPOWER
  ⟨0x0241, 1, 1, .range 1 64, [45], .reg 0x40130000 0 1 8 0 7 0 0 false, .none⟩,  -- HK_SEQ_LEN
  ⟨0x0242, 1, 1, .range 1 8, [1], .reg 0x40130004 0 1 0 0 4 0 0 false, .none⟩,  -- HK_INJ_LEN
  ⟨0x0243, 1, 1, .mask 0x1F, [1], .reg 0x40130004 0 1 8 0 5 0 0 false, .none⟩,  -- HK_INJ_TRIG_MASK
  ⟨0x0244, 1, 1, .range 524288 1048575, [1044480], .reg 0x40130008 0 1 16 0 12 0 8 false, .none⟩,  -- HK_NTC_OPEN
  ⟨0x0245, 1, 1, .range 0 524287, [256], .reg 0x40130008 0 1 0 0 12 0 8 false, .none⟩,  -- HK_NTC_SHORT
  ⟨0x0250, 64, 1, .range 0 63, [0, 1, 2, 3, 4, 5, 6, 7, 8, 9, 10, 11, 12, 13, 14, 15, 16, 17, 18, 19, 20, 21, 22, 23, 24, 25, 26, 27, 28, 29, 30, 31, 32, 33, 34, 35, 36, 37, 38, 39, 40, 41, 42, 43, 44, 45, 46, 47, 48, 49, 50, 51, 52, 53, 54, 55, 56, 57, 58, 59, 60, 61, 62, 63], .reg 0x40130100 4 4 0 8 8 0 0 false, .none⟩,  -- HK_SEQ_ss
  ⟨0x0290, 8, 1, .range 0 63, [0], .reg 0x40130140 4 4 0 8 8 0 0 false, .none⟩,  -- HK_INJ_j
  ⟨0x02B0, 1, 1, .range 8 16, [12], .none, .none⟩,  -- CAL_AVG_LOG2
  ⟨0x02B1, 1, 1, .range 0 10000, [100], .none, .none⟩,  -- CAL_SETTLE
  ⟨0x02B2, 1, 1, .range 1 10000, [500], .none, .none⟩,  -- CAL_SPREAD_MAX
  ⟨0x02B3, 1, 1, .range 10 3600, [600], .none, .none⟩]  -- CAL_TIMEOUT

/-- Filter and resampler fields (R93). -/
def filtRows : List FieldRow := [
  ⟨0x0301, 32, 1, .range 0 255, [0], .reg 0x40110100 4 1 0 0 8 0 0 false, .skew⟩,  -- FILT_SKEW_Mnn
  ⟨0x0340, 1, 1, .upto 2 [], [0], .reg 0x40120000 0 1 0 0 1 0 0 false, .none⟩,  -- RSM_ENABLE
  ⟨0x0341, 1, 1, .upto 3 [], [1], .reg 0x40120000 0 1 1 0 2 0 0 false, .none⟩,  -- RSM_SOURCE
  ⟨0x0342, 1, 1, .range 2949120 4259840, [3276800], .reg 0x40120004 0 1 0 0 32 0 0 false, .none⟩,  -- RSM_FNOM
  ⟨0x0343, 1, 1, .range 0 11, [0], .reg 0x40120000 0 1 4 0 4 0 0 false, .none⟩,  -- RSM_MEAS_LANE
  ⟨0x0344, 1, 1, .range 1 16, [1], .reg 0x40120000 0 1 8 0 4 1 0 false, .none⟩,  -- RSM_MEAS_CYC
  ⟨0x0345, 1, 1, .range 1 5461, [910], .reg 0x40120008 0 1 0 0 16 0 0 false, .none⟩,  -- RSM_STEP_LIM
  ⟨0x0346, 1, 1, .range 1 910, [182], .reg 0x40120008 0 1 16 0 16 0 0 false, .none⟩,  -- RSM_PH_SLEW
  ⟨0x0347, 1, 1, .range 16 4096, [256], .reg 0x4012000C 0 1 0 0 32 0 0 false, .none⟩,  -- RSM_XFADE
  ⟨0x0350, 12, 1, .upto 32 [255], [255], .reg 0x40120040 4 1 0 0 8 0 0 false, .none⟩]  -- RSM_LANE_l

/-- Shed fields (R124). -/
def shedRows : List FieldRow := [
  ⟨0x0400, 24, 1, .upto 4 [], [0], .reg 0x40201000 32 1 0 0 2 0 0 false, .shedRun⟩,  -- SHED_MODE_Lnn
  ⟨0x0418, 24, 1, .upto 32 [255], [255], .reg 0x40201000 32 1 8 0 8 0 0 false, .shedRun⟩,  -- SHED_CHAN_Lnn
  ⟨0x0430, 24, 1, .upto 5 [], [0], .reg 0x40201000 32 1 16 0 3 0 0 false, .none⟩,  -- SHED_REF_SRC_Lnn
  ⟨0x0448, 24, 1, .range 256 2097152, [41943], .reg 0x40201004 32 1 0 0 22 0 0 false, .none⟩,  -- SHED_BAND_Lnn
  ⟨0x0460, 24, 1, .range 0 80000, [20000], .reg 0x40201008 32 1 0 0 17 0 0 false, .none⟩,  -- SHED_DEADTIME_Lnn
  ⟨0x0478, 1, 1, .upto 3 [], [0], .reg 0x40200000 0 1 0 0 2 0 0 false, .none⟩,  -- SETP_MODE
  ⟨0x0479, 1, 1, .range 100 50000, [1000], .reg 0x40200000 0 1 16 0 16 0 0 false, .none⟩,  -- SETP_FMIN
  ⟨0x0480, 4, 32, .range 1 4, [1], .reg 0x40202000 64 1 10 0 2 1 0 false, .shedRun⟩,  -- SHED_GROUP
  ⟨0x0481, 4, 32, .range 2 8, [2], .reg 0x40202000 64 1 4 0 3 1 0 false, .shedRun⟩,  -- SHED_LEVELS
  ⟨0x0482, 4, 32, .range 0 7, [0], .reg 0x40202000 64 1 0 0 3 0 0 false, .none⟩,  -- SHED_START_LEVEL
  ⟨0x0483, 4, 32, .upto 2 [], [0], .reg 0x40202000 64 1 14 0 1 0 0 false, .shedRun⟩,  -- SHED_POL
  ⟨0x0484, 4, 32, .upto 2 [], [1], .reg 0x40202000 64 1 15 0 1 0 0 false, .none⟩,  -- SHED_PRED
  ⟨0x0485, 4, 32, .range 1 4, [1], .reg 0x40202000 64 1 12 0 2 1 0 false, .none⟩,  -- SHED_SLOPE_N
  ⟨0x0486, 4, 32, .range 40 255, [81], .reg 0x40202000 64 1 16 0 8 0 0 false, .none⟩,  -- SHED_AGE
  ⟨0x0487, 4, 32, .range 0 131071, [1060], .reg 0x40202004 64 1 0 0 17 0 0 false, .none⟩,  -- SHED_LAT_UP
  ⟨0x0488, 4, 32, .range 0 131071, [1060], .reg 0x40202008 64 1 0 0 17 0 0 false, .none⟩,  -- SHED_LAT_DN
  ⟨0x0489, 4, 32, .range 0 50000, [300], .reg 0x4020200C 64 1 16 0 16 0 0 false, .none⟩,  -- SHED_TON_MIN
  ⟨0x048A, 4, 32, .range 0 50000, [300], .reg 0x4020200C 64 1 0 0 16 0 0 false, .none⟩,  -- SHED_TOFF_MIN
  ⟨0x048B, 4, 32, .range 1000 250000, [100000], .reg 0x40202010 64 1 0 0 18 0 0 false, .none⟩,  -- SHED_FMAX
  ⟨0x048C, 4, 32, .ftarget, [0], .reg 0x40202014 64 1 0 0 18 0 0 false, .none⟩,  -- SHED_FTARGET
  ⟨0x048D, 4, 32, .range 1 16, [8], .reg 0x40202000 64 1 24 0 4 1 0 false, .none⟩,  -- SHED_ADAPT_GAIN
  ⟨0x048E, 4, 32, .range 256 2097152, [4194], .reg 0x40202018 64 1 0 0 22 0 0 false, .none⟩,  -- SHED_BAND_MIN
  ⟨0x048F, 4, 32, .range 256 2097152, [419430], .reg 0x4020201C 64 1 0 0 22 0 0 false, .none⟩,  -- SHED_BAND_MAX
  ⟨0x0490, 4, 32, .range 0 2097152, [0], .reg 0x40202020 64 1 0 0 22 0 0 false, .none⟩,  -- SHED_BAND2
  ⟨0x0491, 4, 32, .range 1 4096, [1], .reg 0x4020202C 64 1 0 0 13 0 0 false, .none⟩,  -- SHED_REF_PERIOD
  ⟨0x0492, 4, 32, .none, [65536], .reg 0x40202024 64 1 0 0 32 0 0 false, .none⟩,  -- SHED_SP_GAIN
  ⟨0x0493, 4, 32, .range (-5242880) (5242880), [0], .reg 0x40202028 64 1 0 0 32 0 0 false, .none⟩,  -- SHED_SP_OFFSET
  ⟨0x0494, 4, 32, .heddle, [33685761], .reg 0x40202030 64 1 0 0 32 0 0 false, .shedRun⟩,  -- SHED_HEDDLE_0
  ⟨0x0495, 4, 32, .heddle, [0], .reg 0x40202034 64 1 0 0 32 0 0 false, .shedRun⟩,  -- SHED_HEDDLE_1
  ⟨0x0496, 4, 32, .heddle, [0], .reg 0x40202038 64 1 0 0 32 0 0 false, .shedRun⟩,  -- SHED_HEDDLE_2
  ⟨0x0497, 4, 32, .heddle, [0], .reg 0x4020203C 64 1 0 0 32 0 0 false, .shedRun⟩]  -- SHED_HEDDLE_3

/-- Gate fields (R152). -/
def gateRows : List FieldRow := [
  ⟨0x0500, 48, 1, .range 0 36, [24], .reg 0x40300100 4 1 0 0 6 0 0 false, .none⟩,  -- GATE_DESAT_TH_Gcc
  ⟨0x0530, 24, 1, .range 2 60, [20], .reg 0x40300200 4 1 0 0 6 0 0 false, .none⟩,  -- GATE_BLANK_Lnn
  ⟨0x0548, 24, 1, .range 0 5242880, [4194304], .reg 0x40300280 8 1 0 0 32 0 0 false, .none⟩,  -- GATE_HL_POS_Lnn
  ⟨0x0560, 24, 1, .range (-5242880) (0), [-4194304], .reg 0x40300284 8 1 0 0 32 0 0 false, .none⟩,  -- GATE_HL_NEG_Lnn
  ⟨0x0578, 1, 1, .mask 0xFFFFFF, [16777215], .reg 0x40300010 0 1 0 0 24 0 0 false, .none⟩,  -- GATE_DESAT_EN_A
  ⟨0x0579, 1, 1, .mask 0xFFFFFF, [16777215], .reg 0x40300014 0 1 0 0 24 0 0 false, .none⟩,  -- GATE_DESAT_EN_B
  ⟨0x0580, 4, 16, .upto 2 [], [0], .reg 0x40300400 64 1 0 0 1 0 0 false, .stage⟩,  -- GATE_CLEAR_MODE
  ⟨0x0581, 4, 16, .range 1 10000, [100], .reg 0x40300404 64 1 0 0 14 0 0 false, .none⟩,  -- GATE_RETRY_WAIT
  ⟨0x0582, 4, 16, .range 1 15, [3], .reg 0x40300400 64 1 4 0 4 0 0 false, .none⟩,  -- GATE_RETRY_TRIES
  ⟨0x0583, 4, 16, .range 1 3600, [60], .reg 0x40300408 64 1 0 0 12 0 0 false, .none⟩,  -- GATE_RETRY_FORGET
  ⟨0x0584, 4, 16, .upto 2 [], [0], .reg 0x40300400 64 1 1 0 1 0 0 false, .stage⟩,  -- GATE_LEG_ACTION
  ⟨0x0585, 4, 16, .upto 4 [], [1], .reg 0x40300400 64 1 8 0 2 0 0 false, .none⟩,  -- GATE_UVLO_VD
  ⟨0x0586, 4, 16, .upto 4 [], [1], .reg 0x40300400 64 1 10 0 2 0 0 false, .none⟩,  -- GATE_UVLO_VN
  ⟨0x0587, 4, 16, .range 10 200, [40], .reg 0x40300400 64 1 16 0 8 0 0 false, .none⟩,  -- GATE_SOFT_TIME
  ⟨0x0588, 4, 16, .upto 2 [], [0], .reg 0x40300400 64 1 2 0 1 0 0 false, .stageSelv⟩,  -- GATE_SELV_MODE
  ⟨0x0589, 4, 16, .upto 2 [], [0], .reg 0x40300400 64 1 3 0 1 0 0 false, .stageSelv⟩,  -- GATE_SELV_SOFT
  ⟨0x05C0, 1, 1, .mask 0xFFFFFF, [0], .reg 0x40300500 0 1 0 0 24 0 0 false, .selv⟩,  -- GATE_SELV_HIZ_A
  ⟨0x05C1, 1, 1, .mask 0xFFFFFF, [0], .reg 0x40300504 0 1 0 0 24 0 0 false, .selv⟩,  -- GATE_SELV_HIZ_B
  ⟨0x05C2, 1, 1, .mask 0xFFFF, [65535], .reg 0x40300508 0 1 0 0 16 0 0 false, .selv⟩,  -- GATE_SELV_K
  ⟨0x05D0, 8, 1, .selvStep, [0], .reg 0x40300420 4 1 0 0 25 0 0 false, .stageSelv⟩,  -- GATE_SELV_SEQ_H0_s
  ⟨0x05D8, 8, 1, .selvStep, [0], .reg 0x40300460 4 1 0 0 25 0 0 false, .stageSelv⟩,  -- GATE_SELV_SEQ_H1_s
  ⟨0x05E0, 8, 1, .selvStep, [0], .reg 0x403004A0 4 1 0 0 25 0 0 false, .stageSelv⟩,  -- GATE_SELV_SEQ_H2_s
  ⟨0x05E8, 8, 1, .selvStep, [0], .reg 0x403004E0 4 1 0 0 25 0 0 false, .stageSelv⟩]  -- GATE_SELV_SEQ_H3_s

/-- Grid-forming fields (R183). -/
def gfRows : List FieldRow := [
  ⟨0x0600, 1, 1, .upto 4 [15], [15], .none, .kernel⟩,  -- GF_HARNESS
  ⟨0x0601, 1, 1, .upto 2 [], [0], .none, .kernel⟩,  -- GF_F_NOM
  ⟨0x0602, 1, 1, .range 10 5000, [1000], .none, .kernel⟩,  -- GF_S_RATED
  ⟨0x0603, 1, 1, .range 100 1500, [690], .none, .kernel⟩,  -- GF_V_RATED
  ⟨0x0604, 4, 1, .upto 30 [255], [255], .none, .kernel⟩,  -- GF_VC_CH to GF_VR_CH
  ⟨0x0608, 2, 1, .upto 32 [255], [255], .none, .kernel⟩,  -- GF_VDC_P_CH, GF_VDC_N_CH
  ⟨0x060A, 1, 1, .range 1 65535, [2000], .none, .kernel⟩,  -- GF_V_FS
  ⟨0x060B, 1, 1, .range 1 65535, [2000], .none, .kernel⟩,  -- GF_I_FS
  ⟨0x060C, 1, 1, .upto 2 [], [0], .none, .kernel⟩,  -- GF_I_POL
  ⟨0x0610, 1, 1, .range 20 2000, [500], .none, .none⟩,  -- GF_H
  ⟨0x0611, 1, 1, .range 0 2000, [200], .none, .none⟩,  -- GF_D
  ⟨0x0612, 1, 1, .range 10 2000, [100], .none, .none⟩,  -- GF_TD
  ⟨0x0613, 1, 1, .range 50 1200, [400], .none, .none⟩,  -- GF_MP
  ⟨0x0614, 1, 1, .range 0 1000, [300], .none, .none⟩,  -- GF_NQ
  ⟨0x0615, 1, 1, .range 1 1000, [20], .none, .none⟩,  -- GF_TQ
  ⟨0x0616, 1, 1, .range 0 5000, [100], .none, .none⟩,  -- GF_RV
  ⟨0x0617, 1, 1, .range 100 5000, [1000], .none, .none⟩,  -- GF_XV
  ⟨0x0618, 1, 1, .range 0 1000, [0], .none, .none⟩,  -- GF_YNEG
  ⟨0x0619, 1, 1, .range 500 1150, [1000], .none, .none⟩,  -- GF_MOD_MAX
  ⟨0x0620, 1, 1, .range (-2000) (2000), [0], .none, .none⟩,  -- GF_P_SET
  ⟨0x0621, 1, 1, .range (-2000) (2000), [0], .none, .none⟩,  -- GF_Q_SET
  ⟨0x0622, 1, 1, .range 800 1200, [1000], .none, .none⟩,  -- GF_V_SET
  ⟨0x0623, 1, 1, .range (-5000) (5000), [0], .none, .none⟩,  -- GF_F_SET_OFS
  ⟨0x0624, 1, 1, .range 1 1000, [100], .none, .none⟩,  -- GF_TRIM_RATE
  ⟨0x0625, 1, 1, .range 0 2000, [1000], .none, .none⟩,  -- GF_TRIM_LIM
  ⟨0x0628, 1, 1, .range 200 2000, [1000], .none, .none⟩,  -- GF_ILIM
  ⟨0x0629, 1, 1, .upto 2 [], [1], .none, .none⟩,  -- GF_ILIM_PRIO
  ⟨0x062A, 1, 1, .range 50 99, [95], .none, .none⟩,  -- GF_ILIM_EXIT
  ⟨0x062B, 1, 1, .range 10 90, [60], .none, .none⟩,  -- GF_DELTA_MAX
  ⟨0x0630, 1, 1, .range 500 950, [850], .none, .none⟩,  -- GF_FRT_UV_START
  ⟨0x0631, 1, 1, .range 1050 1500, [1100], .none, .none⟩,  -- GF_FRT_OV_START
  ⟨0x0632, 1, 1, .range 10 10000, [200], .none, .none⟩,  -- GF_FRT_RECOVER
  ⟨0x0633, 1, 1, .range 0 1000, [200], .none, .none⟩,  -- GF_FRT_KQ
  ⟨0x0638, 1, 1, .upto 2 [], [0], .none, .none⟩,  -- GF_BS_ENABLE
  ⟨0x0639, 1, 1, .range 0 31, [0], .none, .none⟩,  -- GF_BS_RANK
  ⟨0x063A, 1, 1, .range 0 10000, [500], .none, .none⟩,  -- GF_BS_STAGGER
  ⟨0x063B, 1, 1, .range 20 10000, [2000], .none, .none⟩,  -- GF_BS_RAMP
  ⟨0x063C, 1, 1, .range 10 200, [50], .none, .none⟩,  -- GF_DEADBUS_V
  ⟨0x063D, 1, 1, .range 100 10000, [500], .none, .none⟩,  -- GF_DEADBUS_T
  ⟨0x063E, 1, 1, .range 500 1000, [900], .none, .none⟩,  -- GF_LIVE_V
  ⟨0x063F, 1, 1, .range 100 60000, [1000], .none, .none⟩,  -- GF_LIVE_T
  ⟨0x0640, 16, 1, .frtPoint, [0, 9830400, 10486060, 98304850, 0, 0, 0, 0, 0, 0, 0, 0, 0, 0, 0, 0], .none, .none⟩,  -- GF_FRT_UV_i
  ⟨0x0650, 16, 1, .frtPoint, [1300, 6554900, 7210160, 0, 0, 0, 0, 0, 0, 0, 0, 0, 0, 0, 0, 0], .none, .none⟩,  -- GF_FRT_OV_i
  ⟨0x0660, 1, 1, .range 10 100, [30], .none, .none⟩,  -- GF_SYNC_DV
  ⟨0x0661, 1, 1, .range 10 500, [100], .none, .none⟩,  -- GF_SYNC_DF
  ⟨0x0662, 1, 1, .range 1 20, [5], .none, .none⟩,  -- GF_SYNC_DTHETA
  ⟨0x0663, 1, 1, .range 20 5000, [200], .none, .none⟩,  -- GF_SYNC_HOLD
  ⟨0x0664, 1, 1, .range 0 500, [50], .none, .none⟩,  -- GF_SYNC_TCLOSE
  ⟨0x0665, 1, 1, .range 10 5000, [500], .none, .none⟩,  -- GF_SYNC_KTHETA
  ⟨0x0666, 1, 1, .range 10 2000, [500], .none, .none⟩,  -- GF_SYNC_FMAX
  ⟨0x0667, 1, 1, .range 1 600, [60], .none, .none⟩,  -- GF_SYNC_TIMEOUT
  ⟨0x0668, 1, 1, .range 10 2000, [200], .none, .none⟩,  -- GF_CLOSE_TMAX
  ⟨0x0669, 1, 1, .range 1 3600, [300], .none, .none⟩,  -- GF_RECON_DELAY
  ⟨0x066A, 1, 1, .upto 2 [], [0], .none, .none⟩,  -- GF_AUTO_RESYNC
  ⟨0x066B, 1, 1, .range 1 50, [10], .none, .none⟩]  -- GF_EST_BW

/-- Loom fields (R212). -/
def loomRows : List FieldRow := [
  ⟨0x0700, 1, 1, .upto 2 [], [0], .reg 0x40400000 0 1 0 0 1 0 0 false, .none⟩,  -- LOOM_AUTORUN
  ⟨0x0701, 1, 1, .upto 2 [], [0], .reg 0x40400000 0 1 1 0 1 0 0 false, .none⟩,  -- LOOM_DBG_EN
  ⟨0x0702, 1, 1, .upto 2 [], [1], .reg 0x40400000 0 1 2 0 1 0 0 false, .none⟩,  -- LOOM_HOLD_ON_BREAK
  ⟨0x0703, 1, 1, .mask 0xC, [0], .reg 0x40400000 0 1 8 0 4 0 0 false, .none⟩,  -- LOOM_TOLERATE
  ⟨0x0704, 1, 1, .range 0 120, [50], .reg 0x40400004 0 1 0 0 7 0 0 false, .none⟩,  -- LOOM_OVL_VMAX
  ⟨0x0708, 4, 1, .upto 32 [255], [255], .reg 0x40400010 4 1 0 0 8 0 0 false, .none⟩,  -- LOOM_OVL_VCH_Hh
  ⟨0x0710, 16, 1, .range 1 65535, [3], .reg 0x40400040 4 1 0 0 16 0 0 false, .none⟩,  -- LOOM_ST_STALE_N_k
  ⟨0x0780, 128, 1, .none, [0], .reg 0x40400100 4 1 0 0 32 0 0 false, .none⟩]  -- LOOM_ST_SUB_k_w

/-- Metrology fields (R237). -/
def mtrRows : List FieldRow := [
  ⟨0x0800, 4, 32, .upto 2 [], [0], .none, .metrology⟩,  -- MTR_EN
  ⟨0x0801, 4, 32, .upto 2 [], [0], .none, .metrology⟩,  -- MTR_TYPE
  ⟨0x0802, 4, 32, .upto 32 [255], [255], .none, .metrology⟩,  -- MTR_V_CH_1
  ⟨0x0803, 4, 32, .upto 32 [255], [255], .none, .metrology⟩,  -- MTR_V_CH_2
  ⟨0x0804, 4, 32, .upto 32 [255], [255], .none, .metrology⟩,  -- MTR_V_CH_3
  ⟨0x0805, 4, 32, .upto 32 [255], [255], .none, .metrology⟩,  -- MTR_I_CH_1
  ⟨0x0806, 4, 32, .upto 32 [255], [255], .none, .metrology⟩,  -- MTR_I_CH_2
  ⟨0x0807, 4, 32, .upto 32 [255], [255], .none, .metrology⟩,  -- MTR_I_CH_3
  ⟨0x0808, 4, 32, .upto 32 [255], [255], .none, .metrology⟩,  -- MTR_V_REF_CH
  ⟨0x0809, 4, 32, .range 1 65535, [2000], .none, .metrology⟩,  -- MTR_V_FS
  ⟨0x080A, 4, 32, .range 1 65535, [2000], .none, .metrology⟩,  -- MTR_I_FS
  ⟨0x080B, 4, 32, .upto 2 [], [0], .none, .metrology⟩,  -- MTR_DIR
  ⟨0x080C, 4, 32, .range 1 1000, [10], .none, .metrology⟩,  -- MTR_START
  ⟨0x0880, 1, 1, .range 1 60, [1], .none, .metrology⟩,  -- MTR_SAVE_PERIOD
  ⟨0x0881, 1, 1, .upto 2 [], [1], .none, .metrology⟩,  -- MTR_LAYOUT
  ⟨0x0882, 1, 1, .range (-720) (840), [0], .none, .metrology⟩]  -- MTR_TZ_OFS

/-- Bridle fields (R262). -/
def brdRows : List FieldRow := [
  ⟨0x0900, 8, 16, .upto 2 [], [0], .reg 0x40800000 4 1 31 0 1 0 0 false, .bridle⟩,  -- BRD_SA_EN_p
  ⟨0x0901, 8, 16, .range 5 500, [50], .reg 0x40800000 4 1 0 0 9 0 0 false, .bridle⟩,  -- BRD_SA_DISC_p
  ⟨0x0902, 8, 16, .mask 0xF, [15], .reg 0x40800000 4 1 16 0 4 0 0 false, .bridle⟩,  -- BRD_SA_HMASK_p
  ⟨0x0903, 8, 16, .mask 0x3, [3], .reg 0x40800000 4 1 20 0 2 0 0 false, .bridle⟩,  -- BRD_SA_SEN_p
  ⟨0x0904, 8, 16, .mask 0xF, [15], .reg 0x40800000 4 1 24 0 4 0 0 false, .bridle⟩,  -- BRD_SA_KMASK_p
  ⟨0x0905, 8, 16, .upto 2 [], [0], .reg 0x40800000 4 1 28 0 1 0 0 false, .bridle⟩,  -- BRD_SA_STOP1_p
  ⟨0x0906, 8, 16, .upto 2 [], [0], .reg 0x40800000 4 1 29 0 1 0 0 false, .bridle⟩,  -- BRD_SA_AUTO_p
  ⟨0x0907, 8, 16, .upto 2 [], [0], .reg 0x40800000 4 1 30 0 1 0 0 false, .bridle⟩,  -- BRD_SA_DEGR_p
  ⟨0x0980, 1, 1, .range 1 20, [2], .reg 0x40800020 0 1 0 0 5 0 0 false, .bridle⟩,  -- BRD_IN_FILT
  ⟨0x0981, 1, 1, .range 1 10000, [500], .reg 0x40800024 0 1 0 0 14 0 0 false, .bridle⟩,  -- BRD_STOP1_DELAY
  ⟨0x0982, 1, 1, .range 1 1800, [60], .reg 0x40800028 0 1 0 0 11 0 0 false, .bridle⟩,  -- BRD_DEGR_TIME
  ⟨0x0983, 1, 1, .range 10 100, [50], .reg 0x40800028 0 1 16 0 7 0 0 false, .bridle⟩,  -- BRD_DEGR_LIMIT
  ⟨0x0984, 1, 1, .upto 2 [], [1], .reg 0x40800020 0 1 8 0 1 0 0 false, .bridle⟩,  -- BRD_CKF_ACT
  ⟨0x0985, 1, 1, .upto 2 [], [1], .reg 0x40800020 0 1 9 0 1 0 0 false, .bridle⟩,  -- BRD_SEN_TEST
  ⟨0x0986, 1, 1, .upto 2 [], [1], .reg 0x40800020 0 1 10 0 1 0 0 false, .bridle⟩,  -- BRD_START_RESET
  ⟨0x0990, 1, 1, .upto 2 [], [0], .reg 0x4080002C 0 1 31 0 1 0 0 false, .bridle⟩,  -- BRD_IMD_EN
  ⟨0x0991, 1, 1, .range 10 2000, [100], .reg 0x40800030 0 1 0 0 11 0 0 false, .bridle⟩,  -- BRD_IMD_FILT
  ⟨0x0992, 1, 1, .range 0 10000, [2000], .reg 0x40800030 0 1 16 0 14 0 0 false, .bridle⟩,  -- BRD_IMD_BLANK
  ⟨0x0993, 1, 1, .mask 0xF, [15], .reg 0x4080002C 0 1 16 0 4 0 0 false, .bridle⟩,  -- BRD_IMD_HMASK
  ⟨0x0994, 1, 1, .mask 0x3, [3], .reg 0x4080002C 0 1 20 0 2 0 0 false, .bridle⟩,  -- BRD_IMD_SEN
  ⟨0x0995, 1, 1, .mask 0xF, [15], .reg 0x4080002C 0 1 24 0 4 0 0 false, .bridle⟩,  -- BRD_IMD_KMASK
  ⟨0x09A0, 1, 1, .upto 2 [], [0], .reg 0x40800034 0 1 31 0 1 0 0 false, .bridle⟩,  -- BRD_LOCK_EN
  ⟨0x09A1, 1, 1, .mask 0xF, [0], .reg 0x40800034 0 1 0 0 4 0 0 false, .bridle⟩,  -- BRD_LOCK_KMASK
  ⟨0x09A2, 1, 1, .mask 0xF, [0], .reg 0x40800034 0 1 4 0 4 0 0 false, .bridle⟩,  -- BRD_LOCK_HMASK
  ⟨0x09B0, 4, 8, .upto 2 [], [0], .reg 0x40800040 4 1 31 0 1 0 0 false, .bridle⟩,  -- BRD_K_EN_n
  ⟨0x09B1, 4, 8, .range 10 500, [100], .reg 0x40800040 4 1 0 0 9 0 0 false, .bridle⟩,  -- BRD_K_KFTIME_n
  ⟨0x09B2, 4, 8, .upto 2 [], [0], .reg 0x40800040 4 1 30 0 1 0 0 false, .bridle⟩,  -- BRD_K_FBINV_n
  ⟨0x09B3, 4, 8, .backup, [15], .reg 0x40800040 4 1 27 0 3 0 0 false, .bridle⟩,  -- BRD_K_BACKUP_n
  ⟨0x09B4, 4, 8, .mask 0xF, [15], .reg 0x40800040 4 1 20 0 4 0 0 false, .bridle⟩,  -- BRD_K_WELD_HMASK_n
  ⟨0x09B5, 4, 8, .mask 0x3, [3], .reg 0x40800040 4 1 16 0 2 0 0 false, .bridle⟩,  -- BRD_K_WELD_SEN_n
  ⟨0x09D0, 4, 1, .mask 0xF, [15], .reg 0x40800050 0 4 0 4 4 0 0 false, .bridle⟩,  -- BRD_PA_KMASK_Hh
  ⟨0x09D4, 1, 1, .mask 0xF, [0], .reg 0x40800050 0 1 16 0 4 0 0 false, .bridle⟩,  -- BRD_PA_EN
  ⟨0x09D5, 1, 1, .mask 0xF, [15], .reg 0x40800050 0 1 20 0 4 0 0 false, .bridle⟩]  -- BRD_TEST_EN

/-- Recorder and bobbin fields (R285, R286). -/
def recRows : List FieldRow := [
  ⟨0x0A00, 4, 48, .upto 5 [], [0], .reg 0x40510000 256 1 0 0 3 0 0 false, .recorder⟩,  -- REC_BASE
  ⟨0x0A01, 4, 48, .range 1 65536, [1], .reg 0x40510004 256 1 0 0 16 1 0 false, .recorder⟩,  -- REC_DIV
  ⟨0x0A02, 4, 48, .upto 4 [], [0], .reg 0x40510008 256 1 0 0 2 0 0 false, .recorder⟩,  -- REC_TRIG_MODE
  ⟨0x0A03, 4, 48, .upto 3 [], [0], .reg 0x40510008 256 1 4 0 2 0 0 false, .recorder⟩,  -- REC_TRIG_POL
  ⟨0x0A04, 4, 48, .range 0 31, [0], .reg 0x40510008 256 1 8 0 5 0 0 false, .recorder⟩,  -- REC_TRIG_SRC
  ⟨0x0A05, 4, 48, .upto 5 [16, 17, 18, 19, 32, 33, 34, 48, 49], [4], .reg 0x40510008 256 1 16 0 8 0 0 false, .recorder⟩,  -- REC_TRIG_EVENT
  ⟨0x0A06, 4, 48, .none, [0], .reg 0x4051000C 256 1 0 0 32 0 0 false, .recorder⟩,  -- REC_LEVEL
  ⟨0x0A07, 4, 48, .range 0 2147483647, [0], .reg 0x40510010 256 1 0 0 32 0 0 false, .recorder⟩,  -- REC_HYST
  ⟨0x0A08, 4, 48, .range 0 8192, [0], .reg 0x40510014 256 1 0 0 14 0 0 false, .recorder⟩,  -- REC_PRE
  ⟨0x0A09, 4, 48, .none, [0], .reg 0x40510018 256 1 0 0 32 0 0 false, .recorder⟩,  -- REC_POST
  ⟨0x0A0A, 4, 48, .upto 2 [], [0], .reg 0x40510000 256 1 31 0 1 0 0 false, .recorder⟩,  -- REC_AUTO
  ⟨0x0A0B, 4, 48, .range 0 10000, [0], .reg 0x4051001C 256 1 0 0 14 0 0 false, .recorder⟩,  -- REC_FLUSH
  ⟨0x0A10, 32, 1, .recSource, [65535], .reg 0x40510080 4 1 0 0 16 0 0 false, .recorder⟩,  -- REC_SRC_s of engine 0
  ⟨0x0A40, 32, 1, .recSource, [65535], .reg 0x40510180 4 1 0 0 16 0 0 false, .recorder⟩,  -- REC_SRC_s of engine 1
  ⟨0x0A70, 32, 1, .recSource, [65535], .reg 0x40510280 4 1 0 0 16 0 0 false, .recorder⟩,  -- REC_SRC_s of engine 2
  ⟨0x0AA0, 32, 1, .recSource, [65535], .reg 0x40510380 4 1 0 0 16 0 0 false, .recorder⟩,  -- REC_SRC_s of engine 3
  ⟨0x0AC0, 16, 1, .range 1 64, [2, 2, 8, 8, 8, 8, 4, 4, 4, 4, 2, 2, 2, 2, 2, 2], .reg 0x40500108 16 1 8 0 7 0 0 false, .none⟩,  -- BOB_QUOTA_b
  ⟨0x0AD2, 4, 1, .ringBase, [0], .reg 0x40500120 16 1 0 0 32 0 0 false, .ring⟩,  -- BOB_RING_BASE_b
  ⟨0x0AE2, 4, 1, .range 1 65535, [1], .reg 0x40500124 16 1 0 0 16 0 0 false, .ring⟩,  -- BOB_RING_LEN_b
  ⟨0x0AF2, 4, 1, .upto 2 [], [0], .reg 0x40500128 16 1 0 0 1 0 0 false, .none⟩,  -- BOB_EN_b
  ⟨0x0ADF, 1, 1, .ringBase, [0], .reg 0x405001F0 16 1 0 0 32 0 0 false, .ring⟩,  -- BOB_RING_BASE_b
  ⟨0x0AEF, 1, 1, .range 1 65535, [1], .reg 0x405001F4 16 1 0 0 16 0 0 false, .ring⟩,  -- BOB_RING_LEN_b
  ⟨0x0AFF, 1, 1, .upto 2 [], [0], .reg 0x405001F8 16 1 0 0 1 0 0 false, .none⟩]  -- BOB_EN_b

/-- Thermal fields (R305). -/
def thRows : List FieldRow := [
  ⟨0x0B00, 1, 1, .upto 2 [], [0], .reg 0x40900000 0 1 0 0 1 0 0 false, .none⟩,  -- TH_ENABLE
  ⟨0x0B01, 1, 1, .range 1000 100000, [10000], .reg 0x40900004 0 1 0 0 32 0 0 false, .none⟩,  -- TH_NTC_R25
  ⟨0x0B02, 1, 1, .range 2000 6000, [3435], .reg 0x40900008 0 1 0 0 32 0 0 false, .none⟩,  -- TH_NTC_BETA
  ⟨0x0B03, 1, 1, .range 16 1600, [128], .reg 0x4090000C 0 1 0 0 16 0 0 false, .none⟩,  -- TH_XCHK_THR
  ⟨0x0B04, 1, 1, .upto 16 [255], [255], .reg 0x40900000 0 1 8 0 8 0 0 false, .none⟩,  -- TH_COOL_NTC
  ⟨0x0B05, 1, 1, .range 0 2400, [1600], .reg 0x40900010 0 1 0 0 16 0 0 false, .none⟩,  -- TH_NTC_TRIP
  ⟨0x0B06, 1, 1, .range 0 2400, [1280], .reg 0x40900010 0 1 16 0 16 0 0 false, .none⟩,  -- TH_NTC_RESTART
  ⟨0x0B07, 1, 1, .range 1280 2000, [1840], .reg 0x40900014 0 1 0 0 16 0 0 false, .none⟩,  -- TH_DIODE_TRIP
  ⟨0x0B08, 1, 1, .range 1280 2000, [1600], .reg 0x40900014 0 1 16 0 16 0 0 false, .none⟩,  -- TH_DIODE_RESTART
  ⟨0x0B09, 1, 1, .upto 2 [], [1], .reg 0x40900000 0 1 1 0 1 0 0 false, .none⟩,  -- TH_XTAL_COMP
  ⟨0x0B0A, 1, 1, .upto 2 [], [1], .reg 0x40900000 0 1 2 0 1 0 0 false, .refComp⟩,  -- TH_REF_COMP
  ⟨0x0B10, 24, 1, .upto 16 [255], [255], .reg 0x40900040 4 1 0 0 8 0 0 false, .none⟩,  -- TH_NTC_Lnn
  ⟨0x0B28, 16, 1, .neighbours, [255], .reg 0x409000A0 4 1 0 0 8 0 0 false, .none⟩,  -- TH_NBR_k
  ⟨0x0B40, 4, 48, .range 1 65535, [2000], .reg 0x40900100 256 1 0 0 16 0 0 false, .none⟩,  -- TH_I_FS
  ⟨0x0B41, 4, 48, .range 1 65535, [2000], .reg 0x40900100 256 1 16 0 16 0 0 false, .none⟩,  -- TH_V_FS
  ⟨0x0B42, 4, 48, .upto 32 [255], [255], .reg 0x40900104 256 1 0 0 8 0 0 false, .none⟩,  -- TH_VDC_P_CH
  ⟨0x0B43, 4, 48, .upto 32 [255], [255], .reg 0x40900104 256 1 8 0 8 0 0 false, .none⟩,  -- TH_VDC_N_CH
  ⟨0x0B44, 4, 48, .range 0 1000, [1000], .reg 0x40900104 256 1 16 0 10 0 0 false, .none⟩,  -- TH_VBLK
  ⟨0x0B45, 4, 48, .range 1 65535, [1000], .reg 0x40900108 256 1 0 0 16 0 0 false, .none⟩,  -- TH_I_REF
  ⟨0x0B46, 4, 48, .range 1 65535, [900], .reg 0x40900108 256 1 16 0 16 0 0 false, .none⟩,  -- TH_V_REF
  ⟨0x0B47, 4, 48, .range 0 10000000, [0], .reg 0x4090010C 256 1 0 0 32 0 0 false, .none⟩,  -- TH_E_ON
  ⟨0x0B48, 4, 48, .range 0 10000000, [0], .reg 0x40900110 256 1 0 0 32 0 0 false, .none⟩,  -- TH_E_OFF
  ⟨0x0B49, 4, 48, .range 0 65535, [0], .reg 0x40900120 256 1 0 0 16 0 0 false, .none⟩,  -- TH_VT_I_0
  ⟨0x0B4A, 4, 48, .range 0 65535, [0], .reg 0x40900124 256 1 0 0 16 0 0 false, .none⟩,  -- TH_VT_I_1
  ⟨0x0B4B, 4, 48, .range 0 65535, [0], .reg 0x40900128 256 1 0 0 16 0 0 false, .none⟩,  -- TH_VT_I_2
  ⟨0x0B4C, 4, 48, .range 0 65535, [0], .reg 0x4090012C 256 1 0 0 16 0 0 false, .none⟩,  -- TH_VT_I_3
  ⟨0x0B4D, 4, 48, .range 0 65535, [0], .reg 0x40900130 256 1 0 0 16 0 0 false, .none⟩,  -- TH_VT_I_4
  ⟨0x0B4E, 4, 48, .range 0 65535, [0], .reg 0x40900134 256 1 0 0 16 0 0 false, .none⟩,  -- TH_VT_I_5
  ⟨0x0B4F, 4, 48, .range 0 65535, [0], .reg 0x40900138 256 1 0 0 16 0 0 false, .none⟩,  -- TH_VT_I_6
  ⟨0x0B50, 4, 48, .range 0 65535, [0], .reg 0x4090013C 256 1 0 0 16 0 0 false, .none⟩,  -- TH_VT_I_7
  ⟨0x0B51, 4, 48, .range 0 65535, [0], .reg 0x40900120 256 1 16 0 16 0 0 false, .none⟩,  -- TH_VT_V_0
  ⟨0x0B52, 4, 48, .range 0 65535, [0], .reg 0x40900124 256 1 16 0 16 0 0 false, .none⟩,  -- TH_VT_V_1
  ⟨0x0B53, 4, 48, .range 0 65535, [0], .reg 0x40900128 256 1 16 0 16 0 0 false, .none⟩,  -- TH_VT_V_2
  ⟨0x0B54, 4, 48, .range 0 65535, [0], .reg 0x4090012C 256 1 16 0 16 0 0 false, .none⟩,  -- TH_VT_V_3
  ⟨0x0B55, 4, 48, .range 0 65535, [0], .reg 0x40900130 256 1 16 0 16 0 0 false, .none⟩,  -- TH_VT_V_4
  ⟨0x0B56, 4, 48, .range 0 65535, [0], .reg 0x40900134 256 1 16 0 16 0 0 false, .none⟩,  -- TH_VT_V_5
  ⟨0x0B57, 4, 48, .range 0 65535, [0], .reg 0x40900138 256 1 16 0 16 0 0 false, .none⟩,  -- TH_VT_V_6
  ⟨0x0B58, 4, 48, .range 0 65535, [0], .reg 0x4090013C 256 1 16 0 16 0 0 false, .none⟩,  -- TH_VT_V_7
  ⟨0x0B59, 4, 48, .range 0 10000000, [0], .reg 0x40900140 256 1 0 0 32 0 0 false, .none⟩,  -- TH_FR_1
  ⟨0x0B5A, 4, 48, .range 0 10000000, [0], .reg 0x40900144 256 1 0 0 32 0 0 false, .none⟩,  -- TH_FR_2
  ⟨0x0B5B, 4, 48, .range 0 10000000, [0], .reg 0x40900148 256 1 0 0 32 0 0 false, .none⟩,  -- TH_FR_3
  ⟨0x0B5C, 4, 48, .range 0 10000000, [0], .reg 0x4090014C 256 1 0 0 32 0 0 false, .none⟩,  -- TH_FR_4
  ⟨0x0B5D, 4, 48, .range 100 100000000, [1000000], .reg 0x40900150 256 1 0 0 32 0 0 false, .none⟩,  -- TH_FT_1
  ⟨0x0B5E, 4, 48, .range 100 100000000, [1000000], .reg 0x40900154 256 1 0 0 32 0 0 false, .none⟩,  -- TH_FT_2
  ⟨0x0B5F, 4, 48, .range 100 100000000, [1000000], .reg 0x40900158 256 1 0 0 32 0 0 false, .none⟩,  -- TH_FT_3
  ⟨0x0B60, 4, 48, .range 100 100000000, [1000000], .reg 0x4090015C 256 1 0 0 32 0 0 false, .none⟩,  -- TH_FT_4
  ⟨0x0B61, 4, 48, .range 0 10000000, [0], .reg 0x40900160 256 1 0 0 32 0 0 false, .none⟩,  -- TH_HS_R
  ⟨0x0B62, 4, 48, .range 1 3600, [60], .reg 0x40900164 256 1 0 0 32 0 0 false, .none⟩,  -- TH_HS_T
  ⟨0x0B63, 4, 48, .range 0 4000, [2240], .reg 0x40900168 256 1 0 0 16 0 0 false, .none⟩,  -- TH_TJ_WARN
  ⟨0x0B64, 4, 48, .range 0 4000, [2400], .reg 0x40900168 256 1 16 0 16 0 0 false, .none⟩,  -- TH_TJ_TRIP
  ⟨0x0B65, 4, 48, .range 0 4000, [1920], .reg 0x4090016C 256 1 0 0 16 0 0 false, .none⟩]  -- TH_TJ_RESTART

/-- Network and time fields (R375). -/
def netRows : List FieldRow := [
  ⟨0x0C00, 1, 1, .range 0 511, [0], .reg 0x4060000C 0 1 0 0 9 0 0 false, .loomStop⟩,  -- NET_SITE_ADDR
  ⟨0x0C01, 2, 1, .upto 2 [], [1], .reg 0x40600000 0 2 0 1 1 0 0 false, .none⟩,  -- NET_ETHn_EN
  ⟨0x0C03, 1, 1, .upto 2 [], [0], .reg 0x40600000 0 1 2 0 1 0 0 false, .loomStop⟩,  -- NET_PRP
  ⟨0x0C04, 2, 1, .mask 0xFFFFFE00, [3232235520, 3232236032], .none, .loomStop⟩,  -- NET_IP_BASE_n
  ⟨0x0C06, 1, 1, .range 8 23, [23], .reg 0x40600018 0 1 0 0 5 0 0 false, .loomStop⟩,  -- NET_PREFIX
  ⟨0x0C07, 1, 1, .none, [0], .reg 0x4060001C 0 1 0 0 32 0 0 false, .none⟩,  -- NET_GATEWAY
  ⟨0x0C08, 2, 1, .upto 4 [], [0], .reg 0x40600000 0 2 4 2 2 0 0 false, .none⟩,  -- NET_ETHn_SPEED
  ⟨0x0C0A, 2, 1, .range 0 1000, [0], .reg 0x40600020 4 1 16 0 10 0 0 false, .none⟩,  -- NET_PHY_TXLAT_n
  ⟨0x0C0C, 2, 1, .range 0 1000, [0], .reg 0x40600020 4 1 0 0 10 0 0 false, .none⟩,  -- NET_PHY_RXLAT_n
  ⟨0x0C10, 1, 1, .upto 2 [], [1], .reg 0x40600030 0 1 0 0 1 0 0 false, .none⟩,  -- TIME_PTP_EN
  ⟨0x0C11, 1, 1, .range 0 255, [0], .reg 0x40600030 0 1 8 0 8 0 0 false, .none⟩,  -- TIME_DOMAIN
  ⟨0x0C12, 2, 1, .range 0 255, [255], .reg 0x40600030 0 2 16 8 8 0 0 false, .none⟩,  -- TIME_PRIORITYn
  ⟨0x0C14, 1, 1, .range 10 500, [100], .reg 0x40600034 0 1 16 0 16 0 0 false, .none⟩,  -- TIME_RATE_MAX
  ⟨0x0C15, 1, 1, .range 1 100, [10], .reg 0x40600034 0 1 0 0 16 0 0 false, .none⟩,  -- TIME_SERVO_BW
  ⟨0x0C16, 1, 1, .range 100 100000, [1000], .reg 0x40600038 0 1 0 0 20 0 0 false, .none⟩,  -- TIME_SYNC_LIM
  ⟨0x0C17, 1, 1, .range 1 3600, [5], .reg 0x40600038 0 1 20 0 12 0 0 false, .none⟩,  -- TIME_HOLDOVER_T
  ⟨0x0C18, 1, 1, .upto 2 [], [0], .reg 0x40600000 0 1 3 0 1 0 0 false, .none⟩,  -- TIME_PPS_EN
  ⟨0x0C20, 2, 8, .upto 2 [], [0], .reg 0x40610000 256 1 0 0 1 0 0 false, .none⟩,  -- CAN_EN_c
  ⟨0x0C21, 2, 8, .upto 2 [], [0], .reg 0x40610000 256 1 1 0 1 0 0 false, .none⟩,  -- CAN_IDE_c
  ⟨0x0C22, 2, 8, .upto 4 [], [2], .reg 0x40610000 256 1 4 0 2 0 0 false, .none⟩,  -- CAN_NBR_c
  ⟨0x0C23, 2, 8, .upto 4 [], [1], .reg 0x40610000 256 1 8 0 2 0 0 false, .none⟩,  -- CAN_DBR_c
  ⟨0x0C24, 2, 8, .range 0 536870911, [1536], .reg 0x40610004 256 1 0 0 29 0 0 false, .none⟩,  -- CAN_TOMUS_RXID_c
  ⟨0x0C25, 2, 8, .range 0 536870911, [1408], .reg 0x40610008 256 1 0 0 29 0 0 false, .none⟩]  -- CAN_TOMUS_TXID_c

/-- Redundancy, power and clock fields (R400, R417, R431). -/
def lateRows : List FieldRow := [
  ⟨0x0D00, 1, 1, .upto 2 [], [0], .reg 0x40700000 0 1 0 0 1 0 0 false, .pairing⟩,  -- RED_PAIR_EN
  ⟨0x0D01, 1, 1, .upto 3 [], [2], .reg 0x40700000 0 1 1 0 2 0 0 false, .none⟩,  -- RED_TAKEBACK_MODE
  ⟨0x0D02, 1, 1, .range 2 16, [4], .reg 0x40700000 0 1 4 0 5 0 0 false, .none⟩,  -- RED_STALE_N
  ⟨0x0D03, 1, 1, .range 1000 65535, [1000], .reg 0x40700004 0 1 0 0 16 0 0 false, .none⟩,  -- RED_SYNC_MIN
  ⟨0x0D04, 1, 1, .range 100 1000, [1000], .reg 0x40700004 0 1 16 0 16 0 0 false, .none⟩,  -- RED_OFFSET_MAX
  ⟨0x0D05, 1, 1, .range 100 10000, [500], .reg 0x40700008 0 1 0 0 14 0 0 false, .none⟩,  -- RED_START_WAIT
  ⟨0x0D06, 1, 1, .range 0 3600, [10], .reg 0x40700008 0 1 16 0 12 0 0 false, .none⟩,  -- RED_TAKEBACK_DELAY
  ⟨0x0E00, 1, 1, .range 0 1000, [100], .reg 0x40020000 0 1 0 0 10 0 0 false, .none⟩,  -- PWR_VINF_GRACE
  ⟨0x0E01, 1, 1, .mask 0x7, [5], .reg 0x40020004 0 1 0 0 3 0 0 false, .none⟩,  -- PWR_WAKE_MASK
  ⟨0x0E02, 1, 1, .upto 2 [], [0], .reg 0x40020000 0 1 16 0 1 0 0 false, .none⟩,  -- PWR_SLEEP_HKLP
  ⟨0x0E03, 1, 1, .none, [0], .reg 0x40020008 0 1 0 0 32 0 0 false, .none⟩,  -- PWR_RTC_ALARM
  ⟨0x0E40, 1, 1, .range 1 1000, [10], .reg 0x40010000 0 1 0 0 10 0 0 false, .none⟩,  -- CLK_RELOCK_HOLD
  ⟨0x0E41, 1, 1, .range (-20000) (20000), [0], .reg 0x40010004 0 1 0 0 32 0 0 false, .none⟩,  -- CLK_XTAL_TRIM
  ⟨0x0E42, 1, 1, .range 100 400, [250], .reg 0x40010008 0 1 0 0 16 0 0 false, .none⟩,  -- CLK_LOCKF_LO
  ⟨0x0E43, 1, 1, .range 500 1500, [700], .reg 0x40010008 0 1 16 0 16 0 0 false, .none⟩,  -- CLK_LOCKF_HI
  ⟨0x0E44, 1, 1, .range 10 10000, [100], .reg 0x4001000C 0 1 0 0 14 0 0 false, .none⟩]  -- CLK_LOCKF_TIME

/-- Every row of every field table. -/
def rows : List FieldRow :=
  sysRows ++ measRows ++ filtRows ++ shedRows ++ gateRows ++ gfRows ++ loomRows
    ++ mtrRows ++ brdRows ++ recRows ++ thRows ++ netRows ++ lateRows

/-- The index of an identifier within a row, where the row holds it. -/
def FieldRow.index? (r : FieldRow) (id : Nat) : Option Nat :=
  if r.first ≤ id ∧ (id - r.first) % r.stride = 0 ∧ (id - r.first) / r.stride < r.count then
    some ((id - r.first) / r.stride)
  else none

/-- The row and the index of an allocated identifier. -/
def find? (id : Nat) : Option (FieldRow × Nat) :=
  rows.findSome? (fun r => (FieldRow.index? r id).map (fun i => (r, i)))

/-- Whether an identifier is allocated. -/
def allocated (id : Nat) : Bool := (find? id).isSome

/-- The default of index `i` of a row. -/
def FieldRow.default (r : FieldRow) (i : Nat) : Word :=
  wordOfInt ((r.dflt[i]?).getD (r.dflt.headD 0))

/-- The table default of an allocated identifier; 0 for any other. -/
def defaultOf (id : Nat) : Word :=
  match find? id with
  | some (r, i) => FieldRow.default r i
  | none => 0

/-- The allocated identifiers of a list of rows, ascending within each row. -/
def idsOf (l : List FieldRow) : List Nat :=
  l.flatMap (fun r => (List.range r.count).map (fun i => r.first + r.stride * i))

end FieldMap

end Sys2Proof.Machine
end

