-- ==== Sys2Proof/Machine/Addr.lean ====
section
/-! DEFINITION. The addresses of the registers of the peripheral blocks, under the names the spec
gives them (R34, R52, R60, R81, R92, R121, R122, R123, R151, R211, R213, R236, R261, R283, R284,
R304, R374, R399, R416, R430). An indexed register takes its indices in the order of the spec's
offset expression. -/

namespace Sys2Proof.Machine.Addr

/-! ### System control, R34 -/

/-- `SYS_ID` (R34). -/
abbrev SYS_ID : Nat := 0x40000000

/-- `SYS_SERIAL_LO` (R34). -/
abbrev SYS_SERIAL_LO : Nat := 0x40000004

/-- `SYS_SERIAL_HI` (R34). -/
abbrev SYS_SERIAL_HI : Nat := 0x40000008

/-- `SYS_CFG_APPLY` (R34). -/
abbrev SYS_CFG_APPLY : Nat := 0x40000010

/-- `SYS_CFG_STAT` (R34). -/
abbrev SYS_CFG_STAT : Nat := 0x40000014

/-- `SYS_SCRUB` (R34). -/
abbrev SYS_SCRUB : Nat := 0x40000020

/-- `SYS_LEG_HARNESS0` (R34). -/
abbrev SYS_LEG_HARNESS0 : Nat := 0x40000040

/-- `SYS_LEG_HARNESS1` (R34). -/
abbrev SYS_LEG_HARNESS1 : Nat := 0x40000044

/-- `SYS_LEG_HARNESS2` (R34). -/
abbrev SYS_LEG_HARNESS2 : Nat := 0x40000048

/-- `SYS_BUSERR_ADDR` (R34). -/
abbrev SYS_BUSERR_ADDR : Nat := 0x40008000

/-- `SYS_BUSERR_INFO` (R34). -/
abbrev SYS_BUSERR_INFO : Nat := 0x40008004

/-- `SYS_BUSERR_CNT` (R34). -/
abbrev SYS_BUSERR_CNT : Nat := 0x4000800C

/-- `SYS_ECC_CE_CNT` (R34). -/
abbrev SYS_ECC_CE_CNT : Nat := 0x40008010

/-- `SYS_ECC_UE_CNT` (R34). -/
abbrev SYS_ECC_UE_CNT : Nat := 0x40008014

/-- `SYS_DENIED_CNT` (R34). -/
abbrev SYS_DENIED_CNT : Nat := 0x40008018

/-- `SYS_CNT_OVF` (R34). -/
abbrev SYS_CNT_OVF : Nat := 0x4000801C

/-- `SYS_SEAL_REF_CNTn` (R34). -/
abbrev SYS_SEAL_REF_CNT (n : Nat) : Nat := 0x40008020 + 0x4 * n

/-! ### Clocks, R430 -/

/-- `CLK_CFG` (R430). -/
abbrev CLK_CFG : Nat := 0x40010000

/-- `CLK_TRIM` (R430). -/
abbrev CLK_TRIM : Nat := 0x40010004

/-- `CLK_LOCKF` (R430). -/
abbrev CLK_LOCKF : Nat := 0x40010008

/-- `CLK_LOCKF_T` (R430). -/
abbrev CLK_LOCKF_T : Nat := 0x4001000C

/-- `CLK_STAT` (R430). -/
abbrev CLK_STAT : Nat := 0x40018000

/-- `CLK_CORR` (R430). -/
abbrev CLK_CORR : Nat := 0x40018004

/-- `CLK_LOCKF_MV` (R430). -/
abbrev CLK_LOCKF_MV : Nat := 0x40018008

/-- `CLK_CTRL_VAL` (R430). -/
abbrev CLK_CTRL_VAL : Nat := 0x4001800C

/-- `CLK_LOL_CNT` (R430). -/
abbrev CLK_LOL_CNT : Nat := 0x40018010

/-- `CLK_LOR_CNT` (R430). -/
abbrev CLK_LOR_CNT : Nat := 0x40018014

/-- `CLK_FILT_CNT` (R430). -/
abbrev CLK_FILT_CNT : Nat := 0x40018018

/-- `CLK_CNT_OVF` (R430). -/
abbrev CLK_CNT_OVF : Nat := 0x4001801C

/-- `CLK_LOSS_TIME_LO` (R430). -/
abbrev CLK_LOSS_TIME_LO : Nat := 0x40018020

/-- `CLK_LOSS_TIME_HI` (R430). -/
abbrev CLK_LOSS_TIME_HI : Nat := 0x40018024

/-- `CLK_COAST_LAST` (R430). -/
abbrev CLK_COAST_LAST : Nat := 0x40018028

/-! ### Power, R416 -/

/-- `PWR_CFG` (R416). -/
abbrev PWR_CFG : Nat := 0x40020000

/-- `PWR_WAKE_MASK` (R416). -/
abbrev PWR_WAKE_MASK : Nat := 0x40020004

/-- `PWR_RTC_ALARM` (R416). -/
abbrev PWR_RTC_ALARM : Nat := 0x40020008

/-- `PWR_STAT` (R416). -/
abbrev PWR_STAT : Nat := 0x40028000

/-- `PWR_DOM_CTRL` (R416). -/
abbrev PWR_DOM_CTRL : Nat := 0x40028004

/-- `PWR_SLEEP` (R416). -/
abbrev PWR_SLEEP : Nat := 0x40028008

/-- `PWR_RESET` (R416). -/
abbrev PWR_RESET : Nat := 0x4002800C

/-- `PWR_REFUSED` (R416). -/
abbrev PWR_REFUSED : Nat := 0x40028010

/-- `PWR_STEP` (R416). -/
abbrev PWR_STEP : Nat := 0x40028014

/-- `PWR_NOT_READY` (R416). -/
abbrev PWR_NOT_READY : Nat := 0x40028018

/-- `PWR_START_TIME` (R416). -/
abbrev PWR_START_TIME : Nat := 0x4002801C

/-- `PWR_MON_FLT` (R416). -/
abbrev PWR_MON_FLT : Nat := 0x40028020

/-- `PWR_REFUSED_CNT` (R416). -/
abbrev PWR_REFUSED_CNT : Nat := 0x40028024

/-- `PWR_VINF_CNT` (R416). -/
abbrev PWR_VINF_CNT : Nat := 0x40028028

/-- `PWR_CNT_OVF` (R416). -/
abbrev PWR_CNT_OVF : Nat := 0x4002802C

/-- `PWR_RST_CAUSE` (R416). -/
abbrev PWR_RST_CAUSE : Nat := 0x40028040

/-- `PWR_RST_CNTk` (R416). -/
abbrev PWR_RST_CNT (k : Nat) : Nat := 0x40028044 + 0x4 * k

/-! ### Modulators, R52 -/

/-- `MOD_ENABLE` (R52). -/
abbrev MOD_ENABLE : Nat := 0x40100000

/-- `MOD_EXT_CFG` (R52). -/
abbrev MOD_EXT_CFG : Nat := 0x40100004

/-- `MOD_DET_CFG` (R52). -/
abbrev MOD_DET_CFG : Nat := 0x40100008

/-- `MOD_EXT_FS` (R52). -/
abbrev MOD_EXT_FS : Nat := 0x4010000C

/-- `MOD_CAL_OFFn` (R52). -/
abbrev MOD_CAL_OFF (n : Nat) : Nat := 0x40100200 + 0x8 * n

/-- `MOD_CAL_GAINn` (R52). -/
abbrev MOD_CAL_GAIN (n : Nat) : Nat := 0x40100204 + 0x8 * n

/-- `MOD_CAL_INFOn` (R52). -/
abbrev MOD_CAL_INFO (n : Nat) : Nat := 0x40100300 + 0x4 * n

/-- `CAL_CTRL` (R52). -/
abbrev CAL_CTRL : Nat := 0x40100700

/-- `CAL_REF` (R52). -/
abbrev CAL_REF : Nat := 0x40100704

/-- `CAL_RST_OFF` (R52). -/
abbrev CAL_RST_OFF : Nat := 0x40100708

/-- `CAL_RST_GAIN` (R52). -/
abbrev CAL_RST_GAIN : Nat := 0x4010070C

/-- `MOD_ISL_STAT` (R52). -/
abbrev MOD_ISL_STAT : Nat := 0x40108000

/-- `MOD_OVL` (R52). -/
abbrev MOD_OVL : Nat := 0x40108004

/-- `MOD_FAULT` (R52). -/
abbrev MOD_FAULT : Nat := 0x40108008

/-- `MOD_VALID` (R52). -/
abbrev MOD_VALID : Nat := 0x4010800C

/-- `MOD_OVL_CNT` (R52). -/
abbrev MOD_OVL_CNT : Nat := 0x40108010

/-- `MOD_FAULT_CNT` (R52). -/
abbrev MOD_FAULT_CNT : Nat := 0x40108014

/-- `MOD_ISL_LOSS_CNT` (R52). -/
abbrev MOD_ISL_LOSS_CNT : Nat := 0x40108018

/-- `MOD_CNT_OVF` (R52). -/
abbrev MOD_CNT_OVF : Nat := 0x4010801C

/-- `CAL_STAT` (R52). -/
abbrev CAL_STAT : Nat := 0x40108100

/-- `CAL_ZERO_MEAS` (R52). -/
abbrev CAL_ZERO_MEAS : Nat := 0x40108104

/-- `CAL_FULL_MEAS` (R52). -/
abbrev CAL_FULL_MEAS : Nat := 0x40108108

/-- `CAL_SPREAD` (R52). -/
abbrev CAL_SPREAD : Nat := 0x4010810C

/-- `CAL_NEW_OFF` (R52). -/
abbrev CAL_NEW_OFF : Nat := 0x40108110

/-- `CAL_NEW_GAIN` (R52). -/
abbrev CAL_NEW_GAIN : Nat := 0x40108114

/-! ### Decimators, R81 -/

/-- `DEC_SKEWn` (R81). -/
abbrev DEC_SKEW (n : Nat) : Nat := 0x40110100 + 0x4 * n

/-- `DEC_STAT` (R81). -/
abbrev DEC_STAT : Nat := 0x40118000

/-- `DEC_UNS` (R81). -/
abbrev DEC_UNS : Nat := 0x40118004

/-- `DEC_CLIP` (R81). -/
abbrev DEC_CLIP : Nat := 0x40118008

/-- `DEC_CLIP_CNT` (R81). -/
abbrev DEC_CLIP_CNT : Nat := 0x4011800C

/-- `DEC_RESTART_CNT` (R81). -/
abbrev DEC_RESTART_CNT : Nat := 0x40118010

/-- `DEC_PREC_SEQ` (R81). -/
abbrev DEC_PREC_SEQ : Nat := 0x40118014

/-- `DEC_PREC_WRAP` (R81). -/
abbrev DEC_PREC_WRAP : Nat := 0x40118018

/-- `DEC_CNT_OVF` (R81). -/
abbrev DEC_CNT_OVF : Nat := 0x4011801C

/-- `DEC_FASTn` (R81). -/
abbrev DEC_FAST (n : Nat) : Nat := 0x40118100 + 0x4 * n

/-- `DEC_MEDn` (R81). -/
abbrev DEC_MED (n : Nat) : Nat := 0x40118180 + 0x4 * n

/-- `DEC_PRECn` (R81). -/
abbrev DEC_PREC (n : Nat) : Nat := 0x40118200 + 0x4 * n

/-! ### Resampler, R92 -/

/-- `RSM_CFG` (R92). -/
abbrev RSM_CFG : Nat := 0x40120000

/-- `RSM_FNOM` (R92). -/
abbrev RSM_FNOM : Nat := 0x40120004

/-- `RSM_LIM` (R92). -/
abbrev RSM_LIM : Nat := 0x40120008

/-- `RSM_XFADE` (R92). -/
abbrev RSM_XFADE : Nat := 0x4012000C

/-- `RSM_COEF_CTRL` (R92). -/
abbrev RSM_COEF_CTRL : Nat := 0x40120010

/-- `RSM_COEF_EXP` (R92). -/
abbrev RSM_COEF_EXP : Nat := 0x40120014

/-- `RSM_LANEl` (R92). -/
abbrev RSM_LANE (l : Nat) : Nat := 0x40120040 + 0x4 * l

/-- `RSM_COEF_A` (R92). -/
abbrev RSM_COEF_A (w : Nat) : Nat := 0x40122000 + 0x4 * w

/-- `RSM_COEF_B` (R92). -/
abbrev RSM_COEF_B (w : Nat) : Nat := 0x40124000 + 0x4 * w

/-- `RSM_COEF_CRCA` (R92). -/
abbrev RSM_COEF_CRCA : Nat := 0x40127000

/-- `RSM_COEF_CRCB` (R92). -/
abbrev RSM_COEF_CRCB : Nat := 0x40127004

/-- `RSM_STAT` (R92). -/
abbrev RSM_STAT : Nat := 0x40128000

/-- `RSM_KFREQ` (R92). -/
abbrev RSM_KFREQ : Nat := 0x40128004

/-- `RSM_KANGLE` (R92). -/
abbrev RSM_KANGLE : Nat := 0x40128008

/-- `RSM_FREQ` (R92). -/
abbrev RSM_FREQ : Nat := 0x4012800C

/-- `RSM_RATIO_LO` (R92). -/
abbrev RSM_RATIO_LO : Nat := 0x40128010

/-- `RSM_RATIO_HI` (R92). -/
abbrev RSM_RATIO_HI : Nat := 0x40128014

/-- `RSM_CYC_CNT` (R92). -/
abbrev RSM_CYC_CNT : Nat := 0x40128018

/-- `RSM_CYC_WRAP` (R92). -/
abbrev RSM_CYC_WRAP : Nat := 0x4012801C

/-- `RSM_SOC_TIME_LO` (R92). -/
abbrev RSM_SOC_TIME_LO : Nat := 0x40128020

/-- `RSM_SOC_TIME_HI` (R92). -/
abbrev RSM_SOC_TIME_HI : Nat := 0x40128024

/-- `RSM_OUT_CNT` (R92). -/
abbrev RSM_OUT_CNT : Nat := 0x40128028

/-- `RSM_OUT_WRAP` (R92). -/
abbrev RSM_OUT_WRAP : Nat := 0x4012802C

/-- `RSM_STEP_CNT` (R92). -/
abbrev RSM_STEP_CNT : Nat := 0x40128030

/-- `RSM_XF_REFUSED_CNT` (R92). -/
abbrev RSM_XF_REFUSED_CNT : Nat := 0x40128034

/-- `RSM_CNT_OVF` (R92). -/
abbrev RSM_CNT_OVF : Nat := 0x40128038

/-- `RSM_WINl` (R92). -/
abbrev RSM_WIN (l : Nat) (w : Nat) : Nat := 0x40129000 + 0x400 * l + 0x4 * w

/-! ### Housekeeping converter, R60 -/

/-- `HK_CFG` (R60). -/
abbrev HK_CFG : Nat := 0x40130000

/-- `HK_INJ_CFG` (R60). -/
abbrev HK_INJ_CFG : Nat := 0x40130004

/-- `HK_NTC_LIM` (R60). -/
abbrev HK_NTC_LIM : Nat := 0x40130008

/-- `HK_SEQk` (R60). -/
abbrev HK_SEQ (k : Nat) : Nat := 0x40130100 + 0x4 * k

/-- `HK_INJ_SEQ0` (R60). -/
abbrev HK_INJ_SEQ0 : Nat := 0x40130140

/-- `HK_INJ_SEQ1` (R60). -/
abbrev HK_INJ_SEQ1 : Nat := 0x40130144

/-- `HK_CAL_OFFi` (R60). -/
abbrev HK_CAL_OFF (i : Nat) : Nat := 0x40130200 + 0x8 * i

/-- `HK_CAL_GAINi` (R60). -/
abbrev HK_CAL_GAIN (i : Nat) : Nat := 0x40130204 + 0x8 * i

/-- `HK_CAL_INFOi` (R60). -/
abbrev HK_CAL_INFO (i : Nat) : Nat := 0x40130400 + 0x4 * i

/-- `HK_STAT` (R60). -/
abbrev HK_STAT : Nat := 0x40138000

/-- `HK_INJ_TRIG` (R60). -/
abbrev HK_INJ_TRIG : Nat := 0x40138004

/-- `HK_ROUND_LATE_CNT` (R60). -/
abbrev HK_ROUND_LATE_CNT : Nat := 0x40138008

/-- `HK_INJ_LOST_CNT` (R60). -/
abbrev HK_INJ_LOST_CNT : Nat := 0x4013800C

/-- `HK_ABORT_CNT` (R60). -/
abbrev HK_ABORT_CNT : Nat := 0x40138010

/-- `HK_CNT_OVF` (R60). -/
abbrev HK_CNT_OVF : Nat := 0x40138014

/-- `HK_ROUND_CNT` (R60). -/
abbrev HK_ROUND_CNT : Nat := 0x40138018

/-- `HK_ROUND_WRAP` (R60). -/
abbrev HK_ROUND_WRAP : Nat := 0x4013801C

/-- `HK_RESULTi` (R60). -/
abbrev HK_RESULT (i : Nat) : Nat := 0x40138100 + 0x4 * i

/-- `HK_INJ_RESULTj` (R60). -/
abbrev HK_INJ_RESULT (j : Nat) : Nat := 0x40138200 + 0x4 * j

/-- `HK_INJ_TIME_LO` (R60). -/
abbrev HK_INJ_TIME_LO : Nat := 0x40138220

/-- `HK_INJ_TIME_HI` (R60). -/
abbrev HK_INJ_TIME_HI : Nat := 0x40138224

/-! ### Shed units, R121 -/

/-- `SHED_GCFG` (R121). -/
abbrev SHED_GCFG : Nat := 0x40200000

/-- `SHED_CFGn` (R121). -/
abbrev SHED_CFG (n : Nat) : Nat := 0x40201000 + 0x20 * n

/-- `SHED_BANDn` (R121). -/
abbrev SHED_BAND (n : Nat) : Nat := 0x40201004 + 0x20 * n

/-- `SHED_DTn` (R121). -/
abbrev SHED_DT (n : Nat) : Nat := 0x40201008 + 0x20 * n

/-- `SHED_HCFGh` (R121). -/
abbrev SHED_HCFG (h : Nat) : Nat := 0x40202000 + 0x40 * h

/-- `SHED_LATUPh` (R121). -/
abbrev SHED_LATUP (h : Nat) : Nat := 0x40202004 + 0x40 * h

/-- `SHED_LATDNh` (R121). -/
abbrev SHED_LATDN (h : Nat) : Nat := 0x40202008 + 0x40 * h

/-- `SHED_TMINh` (R121). -/
abbrev SHED_TMIN (h : Nat) : Nat := 0x4020200C + 0x40 * h

/-- `SHED_FMAXh` (R121). -/
abbrev SHED_FMAX (h : Nat) : Nat := 0x40202010 + 0x40 * h

/-- `SHED_FTGTh` (R121). -/
abbrev SHED_FTGT (h : Nat) : Nat := 0x40202014 + 0x40 * h

/-- `SHED_BMINh` (R121). -/
abbrev SHED_BMIN (h : Nat) : Nat := 0x40202018 + 0x40 * h

/-- `SHED_BMAXh` (R121). -/
abbrev SHED_BMAX (h : Nat) : Nat := 0x4020201C + 0x40 * h

/-- `SHED_BAND2h` (R121). -/
abbrev SHED_BAND2 (h : Nat) : Nat := 0x40202020 + 0x40 * h

/-- `SHED_SPGh` (R121). -/
abbrev SHED_SPG (h : Nat) : Nat := 0x40202024 + 0x40 * h

/-- `SHED_SPOh` (R121). -/
abbrev SHED_SPO (h : Nat) : Nat := 0x40202028 + 0x40 * h

/-- `SHED_REFPh` (R121). -/
abbrev SHED_REFP (h : Nat) : Nat := 0x4020202C + 0x40 * h

/-- `SHED_HEDh_m` (R121). -/
abbrev SHED_HED (h : Nat) (m : Nat) : Nat := 0x40202030 + 0x40 * h + 0x4 * m

/-- `SHED_RUN` (R121). -/
abbrev SHED_RUN : Nat := 0x40208000

/-- `SHED_SETA` (R121). -/
abbrev SHED_SETA : Nat := 0x40208004

/-- `SHED_SETP` (R121). -/
abbrev SHED_SETP : Nat := 0x40208008

/-- `SHED_SP_LOSS_CNT` (R121). -/
abbrev SHED_SP_LOSS_CNT : Nat := 0x4020800C

/-- `SHED_GOVF` (R121). -/
abbrev SHED_GOVF : Nat := 0x40208010

/-- `INJ_STOP_CNT` (R121). -/
abbrev INJ_STOP_CNT : Nat := 0x40208014

/-- `SHED_REFn` (R121). -/
abbrev SHED_REF (n : Nat) : Nat := 0x40208100 + 0x40 * n

/-- `SHED_FIFOn` (R121). -/
abbrev SHED_FIFO (n : Nat) : Nat := 0x40208104 + 0x40 * n

/-- `SHED_EDGEn` (R121). -/
abbrev SHED_EDGE (n : Nat) : Nat := 0x40208108 + 0x40 * n

/-- `SHED_STATn` (R121). -/
abbrev SHED_STAT (n : Nat) : Nat := 0x4020810C + 0x40 * n

/-- `SHED_HNOWn` (R121). -/
abbrev SHED_HNOW (n : Nat) : Nat := 0x40208110 + 0x40 * n

/-- `SHED_FSWn` (R121). -/
abbrev SHED_FSW (n : Nat) : Nat := 0x40208114 + 0x40 * n

/-- `SHED_ERRn` (R121). -/
abbrev SHED_ERR (n : Nat) : Nat := 0x40208118 + 0x40 * n

/-- `SHED_EDGE_CNTn` (R121). -/
abbrev SHED_EDGE_CNT (n : Nat) : Nat := 0x4020811C + 0x40 * n

/-- `SHED_EDGE_WRAPn` (R121). -/
abbrev SHED_EDGE_WRAP (n : Nat) : Nat := 0x40208120 + 0x40 * n

/-- `SHED_ILK_CNTn` (R121). -/
abbrev SHED_ILK_CNT (n : Nat) : Nat := 0x40208124 + 0x40 * n

/-- `SHED_UNDER_CNTn` (R121). -/
abbrev SHED_UNDER_CNT (n : Nat) : Nat := 0x40208128 + 0x40 * n

/-- `SHED_DROP_CNTn` (R121). -/
abbrev SHED_DROP_CNT (n : Nat) : Nat := 0x4020812C + 0x40 * n

/-- `SHED_LIMIT_CNTn` (R121). -/
abbrev SHED_LIMIT_CNT (n : Nat) : Nat := 0x40208130 + 0x40 * n

/-- `SHED_LATE_CNTn` (R121). -/
abbrev SHED_LATE_CNT (n : Nat) : Nat := 0x40208134 + 0x40 * n

/-- `SHED_CNT_OVFn` (R121). -/
abbrev SHED_CNT_OVF (n : Nat) : Nat := 0x40208138 + 0x40 * n

/-- `INJ_CTRLj` (R121). -/
abbrev INJ_CTRL (j : Nat) : Nat := 0x40209000 + 0x200 * j

/-- `INJ_MASKj` (R121). -/
abbrev INJ_MASK (j : Nat) : Nat := 0x40209004 + 0x200 * j

/-- `INJ_AMPj` (R121). -/
abbrev INJ_AMP (j : Nat) : Nat := 0x40209008 + 0x200 * j

/-- `INJ_P0j` (R121). -/
abbrev INJ_P0 (j : Nat) : Nat := 0x4020900C + 0x200 * j

/-- `INJ_P1j` (R121). -/
abbrev INJ_P1 (j : Nat) : Nat := 0x40209010 + 0x200 * j

/-- `INJ_P2j` (R121). -/
abbrev INJ_P2 (j : Nat) : Nat := 0x40209014 + 0x200 * j

/-- `INJ_TINCj_k` (R121). -/
abbrev INJ_TINC (j : Nat) (k : Nat) : Nat := 0x40209100 + 0x200 * j + 0x8 * k

/-- `INJ_TAPj_k` (R121). -/
abbrev INJ_TAP (j : Nat) (k : Nat) : Nat := 0x40209104 + 0x200 * j + 0x8 * k

/-! ### Edge synthesiser, R122 -/

/-- `EDGE_NOW_LO` (R122). -/
abbrev EDGE_NOW_LO : Nat := 0x40218000

/-- `EDGE_NOW_HI` (R122). -/
abbrev EDGE_NOW_HI : Nat := 0x40218004

/-- `EDGE_PEND` (R122). -/
abbrev EDGE_PEND : Nat := 0x40218008

/-- `EDGE_LASTc` (R122). -/
abbrev EDGE_LAST (c : Nat) : Nat := 0x40218100 + 0x4 * c

/-! ### Integrators, CORDIC and decomposers, R123 -/

/-- `INT_INn` (R123). -/
abbrev INT_IN (n : Nat) : Nat := 0x40228000 + 0x40 * n

/-- `INT_CTRLn` (R123). -/
abbrev INT_CTRL (n : Nat) : Nat := 0x40228004 + 0x40 * n

/-- `INT_OUTn` (R123). -/
abbrev INT_OUT (n : Nat) : Nat := 0x40228008 + 0x40 * n

/-- `INT_STATEn` (R123). -/
abbrev INT_STATE (n : Nat) : Nat := 0x4022800C + 0x40 * n

/-- `INT_STATn` (R123). -/
abbrev INT_STAT (n : Nat) : Nat := 0x40228010 + 0x40 * n

/-- `INT_INITn` (R123). -/
abbrev INT_INIT (n : Nat) : Nat := 0x40228014 + 0x40 * n

/-- `INT_An` (R123). -/
abbrev INT_A (n : Nat) (w : Nat) : Nat := 0x40228020 + 0x40 * n + 0x4 * w

/-- `INT_Bn` (R123). -/
abbrev INT_B (n : Nat) (w : Nat) : Nat := 0x40228030 + 0x40 * n + 0x4 * w

/-- `CRD_Xc`, `CRD_Yc`, `CRD_ANGc` (R123). -/
abbrev CRD_X (c : Nat) (w : Nat) : Nat := 0x40229000 + 0x20 * c + 0x4 * w

/-- `CRD_CMDc` (R123). -/
abbrev CRD_CMD (c : Nat) : Nat := 0x4022900C + 0x20 * c

/-- `CRD_RXc`, `CRD_RYc`, `CRD_RANGc` (R123). -/
abbrev CRD_RX (c : Nat) (w : Nat) : Nat := 0x40229010 + 0x20 * c + 0x4 * w

/-- `CRD_STATc` (R123). -/
abbrev CRD_STAT (c : Nat) : Nat := 0x4022901C + 0x20 * c

/-- `DCMP_CFGd` (R123). -/
abbrev DCMP_CFG (d : Nat) : Nat := 0x4022A000 + 0x40 * d

/-- `DCMP_FREQd` (R123). -/
abbrev DCMP_FREQ (d : Nat) : Nat := 0x4022A004 + 0x40 * d

/-- `DCMP_ANGLEd` (R123). -/
abbrev DCMP_ANGLE (d : Nat) : Nat := 0x4022A008 + 0x40 * d

/-- `DCMP_OUTd` (R123). -/
abbrev DCMP_OUT (d : Nat) (w : Nat) : Nat := 0x4022A010 + 0x40 * d + 0x4 * w

/-- `DCMP_STATd` (R123). -/
abbrev DCMP_STAT (d : Nat) : Nat := 0x4022A020 + 0x40 * d

/-- `INT_NAN_CNT` (R123). -/
abbrev INT_NAN_CNT : Nat := 0x4022B000

/-- `PRIM_CNT_OVF` (R123). -/
abbrev PRIM_CNT_OVF : Nat := 0x4022B004

/-! ### Gate channels, R151 -/

/-- `GATE_OWN` (R151). -/
abbrev GATE_OWN : Nat := 0x40300000

/-- `GATE_TEST_CMD` (R151). -/
abbrev GATE_TEST_CMD : Nat := 0x40300004

/-- `GATE_TEST_STAT` (R151). -/
abbrev GATE_TEST_STAT : Nat := 0x40300008

/-- `GATE_CLEAR` (R151). -/
abbrev GATE_CLEAR : Nat := 0x4030000C

/-- `GATE_DESAT_EN_A` (R151). -/
abbrev GATE_DESAT_EN_A : Nat := 0x40300010

/-- `GATE_DESAT_EN_B` (R151). -/
abbrev GATE_DESAT_EN_B : Nat := 0x40300014

/-- `GATE_CCFGc` (R151). -/
abbrev GATE_CCFG (c : Nat) : Nat := 0x40300100 + 0x4 * c

/-- `GATE_BLANKn` (R151). -/
abbrev GATE_BLANK (n : Nat) : Nat := 0x40300200 + 0x4 * n

/-- `GATE_HLPOSn` (R151). -/
abbrev GATE_HLPOS (n : Nat) : Nat := 0x40300280 + 0x8 * n

/-- `GATE_HLNEGn` (R151). -/
abbrev GATE_HLNEG (n : Nat) : Nat := 0x40300284 + 0x8 * n

/-- `GATE_HCFGh` (R151). -/
abbrev GATE_HCFG (h : Nat) : Nat := 0x40300400 + 0x40 * h

/-- `GATE_RWAITh` (R151). -/
abbrev GATE_RWAIT (h : Nat) : Nat := 0x40300404 + 0x40 * h

/-- `GATE_RFORGETh` (R151). -/
abbrev GATE_RFORGET (h : Nat) : Nat := 0x40300408 + 0x40 * h

/-- `GATE_SEQh_s` (R151). -/
abbrev GATE_SEQ (h : Nat) (s : Nat) : Nat := 0x40300420 + 0x40 * h + 0x4 * s

/-- `GATE_SELV_HIZ_A` (R151). -/
abbrev GATE_SELV_HIZ_A : Nat := 0x40300500

/-- `GATE_SELV_HIZ_B` (R151). -/
abbrev GATE_SELV_HIZ_B : Nat := 0x40300504

/-- `GATE_SELV_K` (R151). -/
abbrev GATE_SELV_K : Nat := 0x40300508

/-- `GATE_SELV_REQ` (R151). -/
abbrev GATE_SELV_REQ : Nat := 0x40308000

/-- `GATE_OWN_STAT` (R151). -/
abbrev GATE_OWN_STAT : Nat := 0x40308004

/-- `GATE_HSTATh` (R151). -/
abbrev GATE_HSTAT (h : Nat) : Nat := 0x40308010 + 0x4 * h

/-- `GATE_CSTATc` (R151). -/
abbrev GATE_CSTAT (c : Nat) : Nat := 0x40308100 + 0x4 * c

/-- `GATE_LFLTn` (R151). -/
abbrev GATE_LFLT (n : Nat) : Nat := 0x40308200 + 0x4 * n

/-- `GATE_MLEG_INFO` (R151). -/
abbrev GATE_MLEG_INFO : Nat := 0x40308300

/-- `GATE_MLEG_DT` (R151). -/
abbrev GATE_MLEG_DT : Nat := 0x40308304

/-- `GATE_DESAT_CNTc` (R151). -/
abbrev GATE_DESAT_CNT (c : Nat) : Nat := 0x40308400 + 0x4 * c

/-- `GATE_UV_CNTc` (R151). -/
abbrev GATE_UV_CNT (c : Nat) : Nat := 0x40308500 + 0x4 * c

/-- `GATE_HL_CNTn` (R151). -/
abbrev GATE_HL_CNT (n : Nat) : Nat := 0x40308600 + 0x4 * n

/-- `GATE_SELV_CNTh` (R151). -/
abbrev GATE_SELV_CNT (h : Nat) : Nat := 0x40308700 + 0x4 * h

/-- `GATE_RETRY_CNTh` (R151). -/
abbrev GATE_RETRY_CNT (h : Nat) : Nat := 0x40308710 + 0x4 * h

/-- `GATE_MLEG_CNTh` (R151). -/
abbrev GATE_MLEG_CNT (h : Nat) : Nat := 0x40308720 + 0x4 * h

/-- `GATE_OVF_DESAT_A` (R151). -/
abbrev GATE_OVF_DESAT_A : Nat := 0x40308800

/-- `GATE_OVF_DESAT_B` (R151). -/
abbrev GATE_OVF_DESAT_B : Nat := 0x40308804

/-- `GATE_OVF_UV_A` (R151). -/
abbrev GATE_OVF_UV_A : Nat := 0x40308808

/-- `GATE_OVF_UV_B` (R151). -/
abbrev GATE_OVF_UV_B : Nat := 0x4030880C

/-- `GATE_OVF_HL` (R151). -/
abbrev GATE_OVF_HL : Nat := 0x40308810

/-- `GATE_OVF_H` (R151). -/
abbrev GATE_OVF_H : Nat := 0x40308814

/-! ### Loom cycle engine, R211 -/

/-- `LOOM_CFG` (R211). -/
abbrev LOOM_CFG : Nat := 0x40400000

/-- `LOOM_OVL_VMAX` (R211). -/
abbrev LOOM_OVL_VMAX : Nat := 0x40400004

/-- `LOOM_OVL_VCHh` (R211). -/
abbrev LOOM_OVL_VCH (h : Nat) : Nat := 0x40400010 + 0x4 * h

/-- `LOOM_ST_STALEk` (R211). -/
abbrev LOOM_ST_STALE (k : Nat) : Nat := 0x40400040 + 0x4 * k

/-- `LOOM_ST_SUBk_w` (R211). -/
abbrev LOOM_ST_SUB (k : Nat) (w : Nat) : Nat := 0x40400100 + 0x20 * k + 0x4 * w

/-- `LOOM_T0_CKF` (R211). -/
abbrev LOOM_T0_CKF : Nat := 0x40400400

/-- `LOOM_TMUL` (R211). -/
abbrev LOOM_TMUL : Nat := 0x40400404

/-- `LOOM_T3_WDOG` (R211). -/
abbrev LOOM_T3_WDOG : Nat := 0x40400408

/-- `LOOM_IMG_ID` (R211). -/
abbrev LOOM_IMG_ID : Nat := 0x4040040C

/-- `LOOM_MODE` (R211). -/
abbrev LOOM_MODE : Nat := 0x40408000

/-- `LOOM_CTRL` (R211). -/
abbrev LOOM_CTRL : Nat := 0x40408004

/-- `LOOM_CYCLE` (R211). -/
abbrev LOOM_CYCLE : Nat := 0x40408008

/-- `LOOM_CYCLE_WRAP` (R211). -/
abbrev LOOM_CYCLE_WRAP : Nat := 0x4040800C

/-- `LOOM_DONE` (R211). -/
abbrev LOOM_DONE : Nat := 0x40408010

/-- `LOOM_KICK` (R211). -/
abbrev LOOM_KICK : Nat := 0x40408014

/-- `LOOM_IPI` (R211). -/
abbrev LOOM_IPI : Nat := 0x40408018

/-- `LOOM_XCHG_GO` (R211). -/
abbrev LOOM_XCHG_GO : Nat := 0x40408020

/-- `LOOM_XCHG_STAT` (R211). -/
abbrev LOOM_XCHG_STAT : Nat := 0x40408024

/-- `LOOM_IMG_STAT` (R211). -/
abbrev LOOM_IMG_STAT : Nat := 0x40408028

/-- `LOOM_OVR_INFO` (R211). -/
abbrev LOOM_OVR_INFO : Nat := 0x40408030

/-- `LOOM_OVR_CYCLE` (R211). -/
abbrev LOOM_OVR_CYCLE : Nat := 0x40408034

/-- `LOOM_OVR_AMOUNT` (R211). -/
abbrev LOOM_OVR_AMOUNT : Nat := 0x40408038

/-- `LOOM_EXC_CAUSE` (R211). -/
abbrev LOOM_EXC_CAUSE : Nat := 0x4040803C

/-- `LOOM_EXC_PC` (R211). -/
abbrev LOOM_EXC_PC : Nat := 0x40408040

/-- `LOOM_EXC_TVAL` (R211). -/
abbrev LOOM_EXC_TVAL : Nat := 0x40408044

/-- `LOOM_DISCARD_CNT` (R211). -/
abbrev LOOM_DISCARD_CNT : Nat := 0x40408050

/-- `LOOM_CB_OVF_CNT` (R211). -/
abbrev LOOM_CB_OVF_CNT : Nat := 0x40408054

/-- `LOOM_CB_CONFLICT_CNT` (R211). -/
abbrev LOOM_CB_CONFLICT_CNT : Nat := 0x40408058

/-- `LOOM_CB_BADADDR_CNT` (R211). -/
abbrev LOOM_CB_BADADDR_CNT : Nat := 0x4040805C

/-- `LOOM_TOL_CNT` (R211). -/
abbrev LOOM_TOL_CNT : Nat := 0x40408060

/-- `LOOM_OBJ_DROP_CNT` (R211). -/
abbrev LOOM_OBJ_DROP_CNT : Nat := 0x40408064

/-- `LOOM_ST_DROP_CNT` (R211). -/
abbrev LOOM_ST_DROP_CNT : Nat := 0x40408068

/-- `LOOM_CNT_OVF` (R211). -/
abbrev LOOM_CNT_OVF : Nat := 0x4040806C

/-- `LOOM_CB_ADDRt` (R211). -/
abbrev LOOM_CB_ADDR (t : Nat) : Nat := 0x40408100 + 0x8 * t

/-- `LOOM_CB_DATAt` (R211). -/
abbrev LOOM_CB_DATA (t : Nat) : Nat := 0x40408104 + 0x8 * t

/-- `LOOM_CB_FLUSH3` (R211). -/
abbrev LOOM_CB_FLUSH3 : Nat := 0x40408120

/-- `LOOM_CB_LVLt` (R211). -/
abbrev LOOM_CB_LVL (t : Nat) : Nat := 0x40408140 + 0x4 * t

/-- `LOOM_ST_STATk` (R211). -/
abbrev LOOM_ST_STAT (k : Nat) : Nat := 0x40408200 + 0x4 * k

/-- `LOOM_STOUTk_w` (R211). -/
abbrev LOOM_STOUT (k : Nat) (w : Nat) : Nat := 0x40408300 + 0x20 * k + 0x4 * w

/-- `LOOM_STINk_w` (R211). -/
abbrev LOOM_STIN (k : Nat) (w : Nat) : Nat := 0x40408500 + 0x20 * k + 0x4 * w

/-- `LOOM_TMR_CTRLi` (R211). -/
abbrev LOOM_TMR_CTRL (i : Nat) : Nat := 0x40409000 + 0x10 * i

/-- `LOOM_TMR_PRESETi` (R211). -/
abbrev LOOM_TMR_PRESET (i : Nat) : Nat := 0x40409004 + 0x10 * i

/-- `LOOM_TMR_ELAPi` (R211). -/
abbrev LOOM_TMR_ELAP (i : Nat) : Nat := 0x40409008 + 0x10 * i

/-- `LOOM_TMR_STATi` (R211). -/
abbrev LOOM_TMR_STAT (i : Nat) : Nat := 0x4040900C + 0x10 * i

/-- `LOOM_EDG_CTRLj` (R211). -/
abbrev LOOM_EDG_CTRL (j : Nat) : Nat := 0x4040A000 + 0x10 * j

/-- `LOOM_EDG_SRCj` (R211). -/
abbrev LOOM_EDG_SRC (j : Nat) : Nat := 0x4040A004 + 0x10 * j

/-- `LOOM_EDG_STATj` (R211). -/
abbrev LOOM_EDG_STAT (j : Nat) : Nat := 0x4040A008 + 0x10 * j

/-- `LOOM_OVL_LEGn` (R211). -/
abbrev LOOM_OVL_LEG (n : Nat) : Nat := 0x4040B000 + 0x4 * n

/-! ### DMA and bobbins, R283 -/

/-- `DMA_CFG` (R283). -/
abbrev DMA_CFG : Nat := 0x40500000

/-- `BOB_BASEb` (R283). -/
abbrev BOB_BASE (b : Nat) : Nat := 0x40500100 + 0x10 * b

/-- `BOB_LENb` (R283). -/
abbrev BOB_LEN (b : Nat) : Nat := 0x40500104 + 0x10 * b

/-- `BOB_CFGb` (R283). -/
abbrev BOB_CFG (b : Nat) : Nat := 0x40500108 + 0x10 * b

/-- `DMA_IRQ` (R283). -/
abbrev DMA_IRQ : Nat := 0x40508000

/-- `DMA_BUF_USED` (R283). -/
abbrev DMA_BUF_USED : Nat := 0x40508004

/-- `DMA_INFLIGHT` (R283). -/
abbrev DMA_INFLIGHT : Nat := 0x40508008

/-- `BOB_CTRLb` (R283). -/
abbrev BOB_CTRL (b : Nat) : Nat := 0x40508100 + 0x20 * b

/-- `BOB_STATb` (R283). -/
abbrev BOB_STAT (b : Nat) : Nat := 0x40508104 + 0x20 * b

/-- `BOB_CURb` (R283). -/
abbrev BOB_CUR (b : Nat) : Nat := 0x40508108 + 0x20 * b

/-- `BOB_HALTb` (R283). -/
abbrev BOB_HALT (b : Nat) : Nat := 0x4050810C + 0x20 * b

/-- `BOB_DONE_CNTb` (R283). -/
abbrev BOB_DONE_CNT (b : Nat) : Nat := 0x40508110 + 0x20 * b

/-- `BOB_DONE_WRAPb` (R283). -/
abbrev BOB_DONE_WRAP (b : Nat) : Nat := 0x40508114 + 0x20 * b

/-- `BOB_BAD_CNTb` (R283). -/
abbrev BOB_BAD_CNT (b : Nat) : Nat := 0x40508118 + 0x20 * b

/-- `BOB_LATE_CNTb` (R283). -/
abbrev BOB_LATE_CNT (b : Nat) : Nat := 0x4050811C + 0x20 * b

/-- `DMA_OVF_A` (R283). -/
abbrev DMA_OVF_A : Nat := 0x40508400

/-- `DMA_OVF_B` (R283). -/
abbrev DMA_OVF_B : Nat := 0x40508404

/-! ### Recorder, R284 -/

/-- `REC_CFGe` (R284). -/
abbrev REC_CFG (e : Nat) : Nat := 0x40510000 + 0x100 * e

/-- `REC_DIVe` (R284). -/
abbrev REC_DIV (e : Nat) : Nat := 0x40510004 + 0x100 * e

/-- `REC_TRGe` (R284). -/
abbrev REC_TRG (e : Nat) : Nat := 0x40510008 + 0x100 * e

/-- `REC_LEVELe` (R284). -/
abbrev REC_LEVEL (e : Nat) : Nat := 0x4051000C + 0x100 * e

/-- `REC_HYSTe` (R284). -/
abbrev REC_HYST (e : Nat) : Nat := 0x40510010 + 0x100 * e

/-- `REC_PREe` (R284). -/
abbrev REC_PRE (e : Nat) : Nat := 0x40510014 + 0x100 * e

/-- `REC_POSTe` (R284). -/
abbrev REC_POST (e : Nat) : Nat := 0x40510018 + 0x100 * e

/-- `REC_FLUSHe` (R284). -/
abbrev REC_FLUSH (e : Nat) : Nat := 0x4051001C + 0x100 * e

/-- `REC_SRCe_s` (R284). -/
abbrev REC_SRC (e : Nat) (s : Nat) : Nat := 0x40510080 + 0x100 * e + 0x4 * s

/-- `REC_CMDe` (R284). -/
abbrev REC_CMD (e : Nat) : Nat := 0x40518000 + 0x100 * e

/-- `REC_STATe` (R284). -/
abbrev REC_STAT (e : Nat) : Nat := 0x40518004 + 0x100 * e

/-- `REC_TPOS_LO`, `_HI` (R284). -/
abbrev REC_TPOS_LO (e : Nat) (w : Nat) : Nat := 0x40518008 + 0x100 * e + 0x4 * w

/-- `REC_TTIME_LO`, `_HI` (R284). -/
abbrev REC_TTIME_LO (e : Nat) (w : Nat) : Nat := 0x40518010 + 0x100 * e + 0x4 * w

/-- `REC_FRAMES_LO`, `_HI` (R284). -/
abbrev REC_FRAMES_LO (e : Nat) (w : Nat) : Nat := 0x40518018 + 0x100 * e + 0x4 * w

/-- `REC_FRAMES_WRAPe` (R284). -/
abbrev REC_FRAMES_WRAP (e : Nat) : Nat := 0x40518020 + 0x100 * e

/-- `REC_TRIG_CNTe` (R284). -/
abbrev REC_TRIG_CNT (e : Nat) : Nat := 0x40518024 + 0x100 * e

/-- `REC_GAP_CNTe` (R284). -/
abbrev REC_GAP_CNT (e : Nat) : Nat := 0x40518028 + 0x100 * e

/-- `REC_MISS_CNTe` (R284). -/
abbrev REC_MISS_CNT (e : Nat) : Nat := 0x4051802C + 0x100 * e

/-- `REC_HLVLe` (R284). -/
abbrev REC_HLVL (e : Nat) : Nat := 0x40518030 + 0x100 * e

/-- `REC_CNT_OVFe` (R284). -/
abbrev REC_CNT_OVF (e : Nat) : Nat := 0x40518034 + 0x100 * e

/-- `REC_USERw` (R284). -/
abbrev REC_USER (w : Nat) : Nat := 0x40518800 + 0x4 * w

/-! ### Ethernet and Ialos, R374 and R213 -/

/-- `TIME_LREQ_n` (R213). -/
abbrev TIME_LREQ (n : Nat) : Nat := 0x4060F000 + 0x4 * n

/-- `TIME_LREQ_GO` (R213). -/
abbrev TIME_LREQ_GO : Nat := 0x4060F030

/-- `TIME_LREQ_STAT` (R213). -/
abbrev TIME_LREQ_STAT : Nat := 0x4060F034

/-- `NET_CFG` (R374). -/
abbrev NET_CFG : Nat := 0x40600000

/-- `NET_MAC_LO` (R374). -/
abbrev NET_MAC_LO : Nat := 0x40600004

/-- `NET_MAC_HI` (R374). -/
abbrev NET_MAC_HI : Nat := 0x40600008

/-- `NET_SITE` (R374). -/
abbrev NET_SITE : Nat := 0x4060000C

/-- `NET_IP0` (R374). -/
abbrev NET_IP0 : Nat := 0x40600010

/-- `NET_IP1` (R374). -/
abbrev NET_IP1 : Nat := 0x40600014

/-- `NET_PFX` (R374). -/
abbrev NET_PFX : Nat := 0x40600018

/-- `NET_GW` (R374). -/
abbrev NET_GW : Nat := 0x4060001C

/-- `NET_PHYLATn` (R374). -/
abbrev NET_PHYLAT (n : Nat) : Nat := 0x40600020 + 0x4 * n

/-- `TIME_PTP_CFG` (R374). -/
abbrev TIME_PTP_CFG : Nat := 0x40600030

/-- `TIME_SERVO` (R374). -/
abbrev TIME_SERVO : Nat := 0x40600034

/-- `TIME_LIMS` (R374). -/
abbrev TIME_LIMS : Nat := 0x40600038

/-- `TIME_NOW_LO` (R374). -/
abbrev TIME_NOW_LO : Nat := 0x40608000

/-- `TIME_NOW_HI` (R374). -/
abbrev TIME_NOW_HI : Nat := 0x40608004

/-- `TIME_INC_LO` (R374). -/
abbrev TIME_INC_LO : Nat := 0x40608008

/-- `TIME_INC_HI` (R374). -/
abbrev TIME_INC_HI : Nat := 0x4060800C

/-- `TIME_STAT` (R374). -/
abbrev TIME_STAT : Nat := 0x40608010

/-- `TIME_OFFSET` (R374). -/
abbrev TIME_OFFSET : Nat := 0x40608014

/-- `TIME_RATE` (R374). -/
abbrev TIME_RATE : Nat := 0x40608018

/-- `TIME_PDELAYn` (R374). -/
abbrev TIME_PDELAY (n : Nat) : Nat := 0x4060801C + 0x4 * n

/-- `TIME_STEP_AT_LO`, `_HI` (R374). -/
abbrev TIME_STEP_AT_LO (w : Nat) : Nat := 0x40608028 + 0x4 * w

/-- `TIME_STEP_AMT_LO`, `_HI` (R374). -/
abbrev TIME_STEP_AMT_LO (w : Nat) : Nat := 0x40608030 + 0x4 * w

/-- `TIME_XCAP_IALOS_LO`, `_HI` (R374). -/
abbrev TIME_XCAP_IALOS_LO (w : Nat) : Nat := 0x40608038 + 0x4 * w

/-- `TIME_XCAP_EDGE_LO`, `_HI` (R374). -/
abbrev TIME_XCAP_EDGE_LO (w : Nat) : Nat := 0x40608040 + 0x4 * w

/-- `TIME_WRAP` (R374). -/
abbrev TIME_WRAP : Nat := 0x40608048

/-- `TIME_SYNC_LOSS_CNT` (R374). -/
abbrev TIME_SYNC_LOSS_CNT : Nat := 0x4060804C

/-- `ETH_RXDROP_CNTn` (R374). -/
abbrev ETH_RXDROP_CNT (n : Nat) : Nat := 0x40608050 + 0x4 * n

/-- `PRP_MISS_CNTn` (R374). -/
abbrev PRP_MISS_CNT (n : Nat) : Nat := 0x40608058 + 0x4 * n

/-- `NET_CNT_OVF` (R374). -/
abbrev NET_CNT_OVF : Nat := 0x40608060

/-- `ETH_LINK` (R374). -/
abbrev ETH_LINK : Nat := 0x40608064

/-! ### CAN FD, R374 -/

/-- `CAN_CFGc` (R374). -/
abbrev CAN_CFG (c : Nat) : Nat := 0x40610000 + 0x100 * c

/-- `CAN_TRXIDc` (R374). -/
abbrev CAN_TRXID (c : Nat) : Nat := 0x40610004 + 0x100 * c

/-- `CAN_TTXIDc` (R374). -/
abbrev CAN_TTXID (c : Nat) : Nat := 0x40610008 + 0x100 * c

/-- `CAN_STATc` (R374). -/
abbrev CAN_STAT (c : Nat) : Nat := 0x40618000 + 0x100 * c

/-- `CAN_BUSOFF_CNTc` (R374). -/
abbrev CAN_BUSOFF_CNT (c : Nat) : Nat := 0x40618004 + 0x100 * c

/-- `CAN_RXLOST_CNTc` (R374). -/
abbrev CAN_RXLOST_CNT (c : Nat) : Nat := 0x40618008 + 0x100 * c

/-- `CAN_CNT_OVFc` (R374). -/
abbrev CAN_CNT_OVF (c : Nat) : Nat := 0x4061800C + 0x100 * c

/-! ### Filut, R399 -/

/-- `RED_CFG` (R399). -/
abbrev RED_CFG : Nat := 0x40700000

/-- `RED_SYNC` (R399). -/
abbrev RED_SYNC : Nat := 0x40700004

/-- `RED_TIMES` (R399). -/
abbrev RED_TIMES : Nat := 0x40700008

/-- `RED_STAT` (R399). -/
abbrev RED_STAT : Nat := 0x40708000

/-- `RED_CTRL` (R399). -/
abbrev RED_CTRL : Nat := 0x40708004

/-- `RED_MATCH` (R399). -/
abbrev RED_MATCH : Nat := 0x40708008

/-- `RED_OFFSET` (R399). -/
abbrev RED_OFFSET : Nat := 0x4070800C

/-- `RED_IMG_CYCLE` (R399). -/
abbrev RED_IMG_CYCLE : Nat := 0x40708010

/-- `RED_DIAG` (R399). -/
abbrev RED_DIAG : Nat := 0x40708014

/-- `RED_TX_CNT` (R399). -/
abbrev RED_TX_CNT : Nat := 0x40708018

/-- `RED_TX_WRAP` (R399). -/
abbrev RED_TX_WRAP : Nat := 0x4070801C

/-- `RED_CRC_CNT` (R399). -/
abbrev RED_CRC_CNT : Nat := 0x40708020

/-- `RED_GAP_CNT` (R399). -/
abbrev RED_GAP_CNT : Nat := 0x40708024

/-- `RED_LATE_CNT` (R399). -/
abbrev RED_LATE_CNT : Nat := 0x40708028

/-- `RED_HANDOVER_CNT` (R399). -/
abbrev RED_HANDOVER_CNT : Nat := 0x4070802C

/-- `RED_CNT_OVF` (R399). -/
abbrev RED_CNT_OVF : Nat := 0x40708030

/-- `RED_HO_TIME_LO` (R399). -/
abbrev RED_HO_TIME_LO : Nat := 0x40708034

/-- `RED_HO_TIME_HI` (R399). -/
abbrev RED_HO_TIME_HI : Nat := 0x40708038

/-! ### Bridle, R261 -/

/-- `BRD_SA_CFGp` (R261). -/
abbrev BRD_SA_CFG (p : Nat) : Nat := 0x40800000 + 0x4 * p

/-- `BRD_GCFG` (R261). -/
abbrev BRD_GCFG : Nat := 0x40800020

/-- `BRD_STOP1` (R261). -/
abbrev BRD_STOP1 : Nat := 0x40800024

/-- `BRD_DEGR` (R261). -/
abbrev BRD_DEGR : Nat := 0x40800028

/-- `BRD_IMD_CFG` (R261). -/
abbrev BRD_IMD_CFG : Nat := 0x4080002C

/-- `BRD_IMD_T` (R261). -/
abbrev BRD_IMD_T : Nat := 0x40800030

/-- `BRD_LOCK_CFG` (R261). -/
abbrev BRD_LOCK_CFG : Nat := 0x40800034

/-- `BRD_K_CFGk` (R261). -/
abbrev BRD_K_CFG (k : Nat) : Nat := 0x40800040 + 0x4 * k

/-- `BRD_PERM_CFG` (R261). -/
abbrev BRD_PERM_CFG : Nat := 0x40800050

/-- `BRD_CFG_CRC` (R261). -/
abbrev BRD_CFG_CRC : Nat := 0x40800060

/-- `BRD_STAT` (R261). -/
abbrev BRD_STAT : Nat := 0x40808000

/-- `BRD_SA_STAT` (R261). -/
abbrev BRD_SA_STAT : Nat := 0x40808004

/-- `BRD_OUT_STAT` (R261). -/
abbrev BRD_OUT_STAT : Nat := 0x40808008

/-- `BRD_KREQ` (R261). -/
abbrev BRD_KREQ : Nat := 0x4080800C

/-- `BRD_DEGR_REM` (R261). -/
abbrev BRD_DEGR_REM : Nat := 0x40808010

/-- `BRD_PERMIT` (R261). -/
abbrev BRD_PERMIT : Nat := 0x40808014

/-- `BRD_EVT_TIME_LO` (R261). -/
abbrev BRD_EVT_TIME_LO : Nat := 0x40808018

/-- `BRD_EVT_TIME_HI` (R261). -/
abbrev BRD_EVT_TIME_HI : Nat := 0x4080801C

/-- `BRD_DEMAND_CNT` (R261). -/
abbrev BRD_DEMAND_CNT : Nat := 0x40808020

/-- `BRD_DEGR_CNT` (R261). -/
abbrev BRD_DEGR_CNT : Nat := 0x40808024

/-- `BRD_RESET_CNT` (R261). -/
abbrev BRD_RESET_CNT : Nat := 0x40808028

/-- `BRD_CNT_OVF` (R261). -/
abbrev BRD_CNT_OVF : Nat := 0x4080802C

/-! ### Thermal model, R304 -/

/-- `TH_CFG` (R304). -/
abbrev TH_CFG : Nat := 0x40900000

/-- `TH_R25` (R304). -/
abbrev TH_R25 : Nat := 0x40900004

/-- `TH_BETA` (R304). -/
abbrev TH_BETA : Nat := 0x40900008

/-- `TH_XCHK` (R304). -/
abbrev TH_XCHK : Nat := 0x4090000C

/-- `TH_NTCLIM` (R304). -/
abbrev TH_NTCLIM : Nat := 0x40900010

/-- `TH_DIOLIM` (R304). -/
abbrev TH_DIOLIM : Nat := 0x40900014

/-- `TH_LEGn` (R304). -/
abbrev TH_LEG (n : Nat) : Nat := 0x40900040 + 0x4 * n

/-- `TH_NBRk` (R304). -/
abbrev TH_NBR (k : Nat) : Nat := 0x409000A0 + 0x4 * k

/-- `TH_SCALEh` (R304). -/
abbrev TH_SCALE (h : Nat) : Nat := 0x40900100 + 0x100 * h

/-- `TH_VDCh` (R304). -/
abbrev TH_VDC (h : Nat) : Nat := 0x40900104 + 0x100 * h

/-- `TH_EREFh` (R304). -/
abbrev TH_EREF (h : Nat) : Nat := 0x40900108 + 0x100 * h

/-- `TH_EONh` (R304). -/
abbrev TH_EON (h : Nat) : Nat := 0x4090010C + 0x100 * h

/-- `TH_EOFFh` (R304). -/
abbrev TH_EOFF (h : Nat) : Nat := 0x40900110 + 0x100 * h

/-- `TH_VTh_p` (R304). -/
abbrev TH_VT (h : Nat) (p : Nat) : Nat := 0x40900120 + 0x100 * h + 0x4 * p

/-- `TH_FRh_k` (R304). -/
abbrev TH_FR (h : Nat) (k : Nat) : Nat := 0x40900140 + 0x100 * h + 0x4 * k

/-- `TH_FTh_k` (R304). -/
abbrev TH_FT (h : Nat) (k : Nat) : Nat := 0x40900150 + 0x100 * h + 0x4 * k

/-- `TH_HSRh` (R304). -/
abbrev TH_HSR (h : Nat) : Nat := 0x40900160 + 0x100 * h

/-- `TH_HSTh` (R304). -/
abbrev TH_HST (h : Nat) : Nat := 0x40900164 + 0x100 * h

/-- `TH_TJLIMh` (R304). -/
abbrev TH_TJLIM (h : Nat) : Nat := 0x40900168 + 0x100 * h

/-- `TH_TJRSTh` (R304). -/
abbrev TH_TJRST (h : Nat) : Nat := 0x4090016C + 0x100 * h

/-- `TH_STAT` (R304). -/
abbrev TH_STAT : Nat := 0x40908000

/-- `TH_RESTART` (R304). -/
abbrev TH_RESTART : Nat := 0x40908004

/-- `TH_NTC_BRK` (R304). -/
abbrev TH_NTC_BRK : Nat := 0x40908008

/-- `TH_WARN` (R304). -/
abbrev TH_WARN : Nat := 0x4090800C

/-- `TH_XTAL_CORR` (R304). -/
abbrev TH_XTAL_CORR : Nat := 0x40908010

/-- `TH_REFC_V` (R304). -/
abbrev TH_REFC_V : Nat := 0x40908014

/-- `TH_REFC_I` (R304). -/
abbrev TH_REFC_I : Nat := 0x40908018

/-- `TH_BROKEN_CNT` (R304). -/
abbrev TH_BROKEN_CNT : Nat := 0x40908020

/-- `TH_SD_CNT` (R304). -/
abbrev TH_SD_CNT : Nat := 0x40908024

/-- `TH_STALE_CNT` (R304). -/
abbrev TH_STALE_CNT : Nat := 0x40908028

/-- `TH_CNT_OVF` (R304). -/
abbrev TH_CNT_OVF : Nat := 0x4090802C

/-- `TH_TJn` (R304). -/
abbrev TH_TJ (n : Nat) : Nat := 0x40908100 + 0x4 * n

/-- `TH_PLOSSn` (R304). -/
abbrev TH_PLOSS (n : Nat) : Nat := 0x40908180 + 0x4 * n

/-- `TH_NTCk` (R304). -/
abbrev TH_NTC (k : Nat) : Nat := 0x40908200 + 0x4 * k

/-- `TH_NTCMk` (R304). -/
abbrev TH_NTCM (k : Nat) : Nat := 0x40908240 + 0x4 * k

/-- `TH_DIOd` (R304). -/
abbrev TH_DIO (d : Nat) : Nat := 0x40908280 + 0x4 * d

/-! ### Metrology mailbox, R236 -/

/-- `MBX_GEN` (R236). -/
abbrev MBX_GEN : Nat := 0x40A00000

/-- `MBX_STAT` (R236). -/
abbrev MBX_STAT : Nat := 0x40A00004

/-- `MBX_TIME_LO` (R236). -/
abbrev MBX_TIME_LO : Nat := 0x40A00008

/-- `MBX_TIME_HI` (R236). -/
abbrev MBX_TIME_HI : Nat := 0x40A0000C

/-- `MBX_REQ_ACK` (R236). -/
abbrev MBX_REQ_ACK : Nat := 0x40A00010

/-- `MBX_LOG_USED` (R236). -/
abbrev MBX_LOG_USED : Nat := 0x40A00014

/-- `MBX_REC_SEQ_LO` (R236). -/
abbrev MBX_REC_SEQ_LO : Nat := 0x40A00018

/-- `MBX_REC_SEQ_HI` (R236). -/
abbrev MBX_REC_SEQ_HI : Nat := 0x40A0001C

/-- `MBX_REC_FREE` (R236). -/
abbrev MBX_REC_FREE : Nat := 0x40A00020

/-- `MBX_CH_MASK` (R236). -/
abbrev MBX_CH_MASK : Nat := 0x40A00028

/-- `MBX_REFUSED_CNT` (R236). -/
abbrev MBX_REFUSED_CNT : Nat := 0x40A0002C

/-- `MBX_INTR_CNT` (R236). -/
abbrev MBX_INTR_CNT : Nat := 0x40A00030

/-- `MBX_SEAL0_CNT` (R236). -/
abbrev MBX_SEAL0_CNT : Nat := 0x40A00034

/-- `MBX_STAT2` (R236). -/
abbrev MBX_STAT2 : Nat := 0x40A00038

/-- `MBX_FW_VER` (R236). -/
abbrev MBX_FW_VER : Nat := 0x40A0003C

/-- `MBX_FW_HASH` (R236). -/
abbrev MBX_FW_HASH (w : Nat) : Nat := 0x40A00040 + 0x4 * w

/-- `MBX_PUBKEY` (R236). -/
abbrev MBX_PUBKEY (w : Nat) : Nat := 0x40A00060 + 0x4 * w

/-- `MP_STATm` (R236). -/
abbrev MP_STAT (m : Nat) : Nat := 0x40A00100 + 0x80 * m

/-- `MP_SEQm` (R236). -/
abbrev MP_SEQ (m : Nat) : Nat := 0x40A00104 + 0x80 * m

/-- `MP_REGm_r_LO`, `_HI` (R236). -/
abbrev MP_REGm_r_LO (m : Nat) (r : Nat) (w : Nat) : Nat := 0x40A00108 + 0x80 * m + 0x8 * r + 0x4 * w

/-- `MP_Pm`, `MP_Qm` (R236). -/
abbrev MP_P (m : Nat) (w : Nat) : Nat := 0x40A00138 + 0x80 * m + 0x4 * w

/-- `MP_Vm`, `MP_Im`, `MP_Fm` (R236). -/
abbrev MP_V (m : Nat) (w : Nat) : Nat := 0x40A00140 + 0x80 * m + 0x4 * w

/-- `MP_SIDm` (R236). -/
abbrev MP_SID (m : Nat) (w : Nat) : Nat := 0x40A00150 + 0x80 * m + 0x4 * w

end Sys2Proof.Machine.Addr
end

