-- ==== Sys2Proof/Machine/CntMap.lean ====
section
/-! DEFINITION. Where each sticky counter keeps its overflow bit (R10): the counters of the register
map, each with the register and the bit that show its overflow. -/

namespace Sys2Proof.Machine

/-- An array of sticky counters: its base address, stride and count, the register of the overflow bit of
the first, how far that register moves with the index, and the bit with its own step. -/
structure CntRow where
  base    : Nat
  stride  : Nat
  count   : Nat
  ovf     : Nat
  ovfStep : Nat
  bit     : Nat
  bitStep : Nat
deriving DecidableEq, Repr

namespace CntMap

/-- System, clock, power, measurement, filter, resampler and housekeeping counters. -/
def basicRows : List CntRow := [
  ⟨0x4000800C, 4, 1, 0x4000801C, 0, 0, 0⟩, ⟨0x40008010, 4, 3, 0x4000801C, 0, 1, 1⟩,
  ⟨0x40008020, 4, 4, 0x4000801C, 0, 4, 1⟩,
  ⟨0x40018010, 4, 3, 0x4001801C, 0, 0, 1⟩,
  ⟨0x40028024, 4, 2, 0x4002802C, 0, 0, 1⟩, ⟨0x40028044, 4, 8, 0x4002802C, 0, 2, 1⟩,
  ⟨0x40108010, 4, 3, 0x4010801C, 0, 0, 1⟩,
  ⟨0x4011800C, 4, 2, 0x4011801C, 0, 0, 1⟩, ⟨0x40118018, 4, 1, 0x4011801C, 0, 2, 0⟩,
  ⟨0x4012801C, 4, 1, 0x40128038, 0, 0, 0⟩, ⟨0x4012802C, 4, 1, 0x40128038, 0, 1, 0⟩,
  ⟨0x40128030, 4, 2, 0x40128038, 0, 2, 1⟩,
  ⟨0x40138008, 4, 3, 0x40138014, 0, 0, 1⟩, ⟨0x4013801C, 4, 1, 0x40138014, 0, 3, 0⟩]

/-- Shed, primitive and gate counters. -/
def stageRows : List CntRow := [
  ⟨0x4020800C, 4, 1, 0x40208010, 0, 0, 0⟩, ⟨0x40208014, 4, 1, 0x40208010, 0, 1, 0⟩,
  ⟨0x40208120, 0x40, 24, 0x40208138, 0x40, 0, 0⟩, ⟨0x40208124, 0x40, 24, 0x40208138, 0x40, 1, 0⟩,
  ⟨0x40208128, 0x40, 24, 0x40208138, 0x40, 2, 0⟩, ⟨0x4020812C, 0x40, 24, 0x40208138, 0x40, 3, 0⟩,
  ⟨0x40208130, 0x40, 24, 0x40208138, 0x40, 4, 0⟩, ⟨0x40208134, 0x40, 24, 0x40208138, 0x40, 5, 0⟩,
  ⟨0x4022B000, 4, 1, 0x4022B004, 0, 0, 0⟩,
  ⟨0x40308400, 4, 24, 0x40308800, 0, 0, 1⟩, ⟨0x40308460, 4, 24, 0x40308804, 0, 0, 1⟩,
  ⟨0x40308500, 4, 24, 0x40308808, 0, 0, 1⟩, ⟨0x40308560, 4, 24, 0x4030880C, 0, 0, 1⟩,
  ⟨0x40308600, 4, 24, 0x40308810, 0, 0, 1⟩,
  ⟨0x40308700, 4, 4, 0x40308814, 0, 0, 1⟩, ⟨0x40308710, 4, 4, 0x40308814, 0, 4, 1⟩,
  ⟨0x40308720, 4, 4, 0x40308814, 0, 8, 1⟩]

/-- Loom, DMA, recorder, network, pair, bridle, thermal and mailbox counters. -/
def unitRows : List CntRow := [
  ⟨0x4040800C, 4, 1, 0x4040806C, 0, 0, 0⟩, ⟨0x40408050, 4, 7, 0x4040806C, 0, 1, 1⟩,
  ⟨0x40508114, 0x20, 16, 0x40508400, 0, 0, 1⟩, ⟨0x40508118, 0x20, 16, 0x40508400, 0, 16, 1⟩,
  ⟨0x4050811C, 0x20, 16, 0x40508404, 0, 0, 1⟩,
  ⟨0x40518020, 0x100, 4, 0x40518034, 0x100, 0, 0⟩, ⟨0x40518024, 0x100, 4, 0x40518034, 0x100, 1, 0⟩,
  ⟨0x40518028, 0x100, 4, 0x40518034, 0x100, 2, 0⟩, ⟨0x4051802C, 0x100, 4, 0x40518034, 0x100, 3, 0⟩,
  ⟨0x40608048, 4, 6, 0x40608060, 0, 0, 1⟩,
  ⟨0x40618004, 0x100, 2, 0x4061800C, 0x100, 0, 0⟩, ⟨0x40618008, 0x100, 2, 0x4061800C, 0x100, 1, 0⟩,
  ⟨0x40708008, 4, 1, 0x40708030, 0, 0, 0⟩, ⟨0x4070801C, 4, 5, 0x40708030, 0, 1, 1⟩,
  ⟨0x40808020, 4, 3, 0x4080802C, 0, 0, 1⟩,
  ⟨0x40908020, 4, 3, 0x4090802C, 0, 0, 1⟩]

/-- Every sticky counter of the map. -/
def rows : List CntRow := basicRows ++ stageRows ++ unitRows

/-- The index of the counter at an address in a row. -/
def index? (r : CntRow) (a : Nat) : Option Nat :=
  if r.base ≤ a ∧ (a - r.base) % r.stride = 0 ∧ (a - r.base) / r.stride < r.count then
    some ((a - r.base) / r.stride)
  else none

/-- The register and bit that hold the overflow of the sticky counter at an address. -/
def ovf? (a : Nat) : Option (Nat × Nat) :=
  rows.findSome? (fun r => (index? r a).map (fun i => (r.ovf + r.ovfStep * i, r.bit + r.bitStep * i)))

end CntMap

end Sys2Proof.Machine
end

