-- ==== Sys2Proof/Config.lean ====
section
/-! DEFINITION. What the spec leaves to the factory, to the environment or open. Every constant here is
opaque: nothing in Lean can evaluate it, so a statement that holds, holds whatever its value. -/

namespace Sys2Proof.Config

open Sys2Proof

/-! ### Fixed at the factory -/

/-- Whether the unit is a JW8-48-E; otherwise it is a JW8-48-M (R1, R2). -/
opaque orderE : Bool

/-- The factory serial, low word (R34). -/
opaque serialLo : Word

/-- The factory serial, high word (R34). -/
opaque serialHi : Word

/-- Whether `PAIR_SEL` is left open, which makes the unit the B of a pair (R376). -/
opaque pairB : Bool

/-- The steward firmware version that `IDENTITY` returns (R344). -/
opaque stewardVersion : Word

/-- The words of the ROM coefficient set G5K (R88), two coefficients a word. -/
opaque g5kWord : Nat → Word

/-- The CRC-32C of G5K (R92). -/
opaque g5kCrc : Word

/-- The factory MAC address, bytes 2 to 5 (R374). -/
opaque macLo : Word

/-- The factory MAC address, bytes 0 and 1 (R374). -/
opaque macHi : Word

/-- Tap k of the symmetric 64-tap FIR of the precision path, in units of 2^-30 (R72 gives its shape
and not its coefficients). -/
opaque firTap : Nat → Int

/-! ### Free values -/

/-- A fresh free value: the n-th value the spec leaves open, for n the counter `freeCtr` of the state. -/
opaque freeWord : Nat → DWord

/-- The bytes of an event record, from the event's index, its argument and its Ialos time in ns (the spec gives the
records 64 bytes and no layout). -/
opaque eventBytes : Nat → Nat → Nat → List Byte

/-! ### Functions that the spec names without giving every bit of their results -/

/-- The sine of an unsigned 32-bit fraction of a turn, in units of 2^-30. -/
opaque sinTurn : Nat → Int

/-- The cosine of an unsigned 32-bit fraction of a turn, in units of 2^-30. -/
opaque cosTurn : Nat → Int

/-- A CORDIC rotation of (X, Y) by an angle (R119, typical errors only). -/
opaque cordicRotate : Word → Word → Word → Word × Word

/-- A CORDIC vectoring of (X, Y): the magnitude and the angle (R119). -/
opaque cordicVector : Word → Word → Word × Word

/-- A value divided by the square root of 3, in `DATA` units (R120). -/
opaque overSqrt3 : Int → Int

/-- The sine of an angle in rad as the kernel's binary32 arithmetic gives it (R166). -/
opaque f32Sin : Word → Word

/-- The cosine of an angle in rad as the kernel's binary32 arithmetic gives it (R166). -/
opaque f32Cos : Word → Word

/-- The angle of (x, y), called as atan2 y x, as the kernel's binary32 arithmetic gives it (R168). -/
opaque f32Atan2 : Word → Word → Word

/-- One step of the kernel's synchronous-frame loop (R177 gives it a bandwidth and no equations): from the
bandwidth in Hz, the step in ns, the magnitude, frequency and angle so far in pu and rad, and the three voltages
in pu, the next magnitude, frequency and angle. -/
opaque gfkEstimate : Nat → Nat → Word × Word × Word → Word × Word × Word → Word × Word × Word

/-- One step of the time servo (R366 gives it a bandwidth and no gains): from the bandwidth in 0.01 Hz, the integral so far
and the offset in ns, the next integral and the rate correction in ppb before its limit. -/
opaque timeServo : Nat → Int → Int → Int × Int

/-- SHA-256 of a byte string. -/
opaque sha256 : List Byte → List Byte

/-- Whether an ECDSA P-256 signature r, s of a hash verifies under a public key X, Y. -/
opaque ecdsaVerify : List Byte → List Byte → List Byte → Bool

/-! ### Keys and random draws of Tomus (R337, R338) -/

/-- The device public key, X then Y. -/
opaque deviceKey : List Byte

/-- The signature, r then s, of a hash by the device key. -/
opaque deviceSign : List Byte → List Byte

/-- The ephemeral public key of the n-th draw, X then Y. -/
opaque ephemeralKey : Nat → List Byte

/-- The x-coordinate of the product of the n-th ephemeral private key and a public key. -/
opaque ecdhX : Nat → List Byte → List Byte

/-- The 16-byte nonce of the n-th draw. -/
opaque nonce : Nat → List Byte

/-- The session identifier of the n-th draw. -/
opaque sessionIdent : Nat → Word

/-- Whether 64 bytes X, Y are a point of P-256. -/
opaque onCurve : List Byte → Bool

/-! ### The ledger (R216, R228, R230, R231) -/

/-- The ledger's firmware version (R228); the low 24 bits go into a record. -/
opaque ledgerVersion : Word

/-- The SHA-256 of the ledger's ROM firmware, or of the stored image (R216). -/
opaque ledgerFwHash : Bool → List Byte

/-- Whether the stored ledger image's signature verifies under the vendor key (R216). -/
opaque ledgerImageGood : List Byte → Bool

/-- The ledger's public key of a generation, X then Y (R231). -/
opaque ledgerPublicKey : Nat → List Byte

/-- The ledger's signature, r then s, of a hash under the key of a generation (R228). -/
opaque ledgerSign : Nat → List Byte → List Byte

/-- The local time of an OCMF reading from the Ialos time in ns and the offset in minutes, without its
suffix (R230 gives no format). -/
opaque ocmfTime : Nat → Int → List Byte

/-- The text of the ledger's firmware version in an OCMF record (R230 gives no format). -/
opaque ledgerVersionText : List Byte

/-! ### Characteristics fixed at the factory (R288, R295, R296, R405) -/

/-- The temperature in 1/16 °C of diode input `D0` to `D7` for a code. -/
opaque diodeTemp : Nat → Nat → Int

/-- The root-crystal correction in ppb for a temperature of `D5` in 1/16 °C. -/
opaque crystalPpb : Int → Int

/-- α ΔT + β ΔT² in ppb for the voltage or the current island and a ΔT in 1/16 °C. -/
opaque refDrift : Bool → Int → Int

/-- The voltage in µV at a supply or reference input, 24 to 43, for a code: the internal dividers are not
given. -/
opaque inputMicrovolt : Nat → Nat → Int

end Sys2Proof.Config
end

