-- ==== Sys2Proof/Machine/RegMap.lean ====
section
/-! DEFINITION. The register map: for every register of the peripheral blocks its address, its index
ranges, the bits of each access code of R6, its reset value and the kind of R22 that settles who may
write it and when. -/

namespace Sys2Proof.Machine

open Sys2Proof

/-- How a register takes a write (R22, R23 and the exceptions the blocks name). -/
inductive RegKind where
  /-- A configuration-page register, double-buffered under R23. -/
  | config
  /-- A configuration-page register that acts at once (R52, R87, R151, R283). -/
  | immediate
  /-- Written only by the loom commit engine. -/
  | committed
  /-- Written directly by the shuttle cores and the steward. -/
  | streamed
  /-- A direct register that the steward alone may write. -/
  | steward
  /-- A direct register that the steward and the debug port may write (R211). -/
  | stewardDebug
  /-- A direct register that the debug port alone may write, in HOLD (R211). -/
  | debugHold
  /-- Any other direct register. -/
  | direct
deriving DecidableEq, Repr

/-- One register, or one array of registers: the base address, the stride and count of each index, the
bits of each access code, whether it is an RC register, its reset value and its kind. -/
structure RegRow where
  base  : Nat
  dims  : List (Nat × Nat)
  rw    : Nat
  w1c   : Nat
  rws   : Nat
  wo    : Nat
  rc    : Bool
  reset : Nat
  kind  : RegKind
deriving DecidableEq, Repr

/-- Whether an offset from the base of an array lands on one of its registers. -/
def onGrid : List (Nat × Nat) → Nat → Bool
  | [], off => off == 0
  | (stride, count) :: ds, off =>
    let k := min (off / stride) (count - 1)
    onGrid ds (off - k * stride)

/-- Whether the row holds the register at an address. -/
def RegRow.has (r : RegRow) (a : Nat) : Bool := decide (r.base ≤ a) && onGrid r.dims (a - r.base)

namespace RegMap

/-- System control, the block at 0x4000_0000 (R34). -/
def sysRows : List RegRow := [
  ⟨0x40000000, [], 0x0, 0x0, 0x0, 0x0, false, 0x8010000, .direct⟩,  -- SYS_ID
  ⟨0x40000004, [], 0x0, 0x0, 0x0, 0x0, false, 0x0, .direct⟩,  -- SYS_SERIAL_LO
  ⟨0x40000008, [], 0x0, 0x0, 0x0, 0x0, false, 0x0, .direct⟩,  -- SYS_SERIAL_HI
  ⟨0x40000010, [], 0x0, 0x0, 0x0, 0x1, false, 0x0, .immediate⟩,  -- SYS_CFG_APPLY
  ⟨0x40000014, [], 0x0, 0x0, 0x0, 0x0, false, 0x0, .direct⟩,  -- SYS_CFG_STAT
  ⟨0x40000020, [], 0xFFFFFFFF, 0x0, 0x0, 0x0, false, 0x3E8, .config⟩,  -- SYS_SCRUB
  ⟨0x40000040, [], 0xFFFFFFFF, 0x0, 0x0, 0x0, false, 0xFFFFFFFF, .config⟩,  -- SYS_LEG_HARNESS0
  ⟨0x40000044, [], 0xFFFFFFFF, 0x0, 0x0, 0x0, false, 0xFFFFFFFF, .config⟩,  -- SYS_LEG_HARNESS1
  ⟨0x40000048, [], 0xFFFFFFFF, 0x0, 0x0, 0x0, false, 0xFFFFFFFF, .config⟩,  -- SYS_LEG_HARNESS2
  ⟨0x40008000, [], 0x0, 0x0, 0x0, 0x0, false, 0x0, .direct⟩,  -- SYS_BUSERR_ADDR
  ⟨0x40008004, [], 0x0, 0x80000000, 0x0, 0x0, false, 0x0, .direct⟩,  -- SYS_BUSERR_INFO
  ⟨0x4000800C, [], 0x0, 0x0, 0x0, 0x0, true, 0x0, .direct⟩,  -- SYS_BUSERR_CNT
  ⟨0x40008010, [], 0x0, 0x0, 0x0, 0x0, true, 0x0, .direct⟩,  -- SYS_ECC_CE_CNT
  ⟨0x40008014, [], 0x0, 0x0, 0x0, 0x0, true, 0x0, .direct⟩,  -- SYS_ECC_UE_CNT
  ⟨0x40008018, [], 0x0, 0x0, 0x0, 0x0, true, 0x0, .direct⟩,  -- SYS_DENIED_CNT
  ⟨0x4000801C, [], 0x0, 0x0, 0x0, 0x0, false, 0x0, .direct⟩,  -- SYS_CNT_OVF
  ⟨0x40008020, [(0x4, 4)], 0x0, 0x0, 0x0, 0x0, true, 0x0, .direct⟩  -- SYS_SEAL_REF_CNTn
]

/-- Clocks, the block at 0x4001_0000 (R430). -/
def clkRows : List RegRow := [
  ⟨0x40010000, [], 0x3FF, 0x0, 0x0, 0x0, false, 0xA, .config⟩,  -- CLK_CFG
  ⟨0x40010004, [], 0xFFFFFFFF, 0x0, 0x0, 0x0, false, 0x0, .config⟩,  -- CLK_TRIM
  ⟨0x40010008, [], 0xFFFFFFFF, 0x0, 0x0, 0x0, false, 0x2BC00FA, .config⟩,  -- CLK_LOCKF
  ⟨0x4001000C, [], 0x3FFF, 0x0, 0x0, 0x0, false, 0x64, .config⟩,  -- CLK_LOCKF_T
  ⟨0x40018000, [], 0x0, 0x0, 0x0, 0x0, false, 0x0, .direct⟩,  -- CLK_STAT
  ⟨0x40018004, [], 0x0, 0x0, 0x0, 0x0, false, 0x0, .direct⟩,  -- CLK_CORR
  ⟨0x40018008, [], 0x0, 0x0, 0x0, 0x0, false, 0x0, .direct⟩,  -- CLK_LOCKF_MV
  ⟨0x4001800C, [], 0x0, 0x0, 0x0, 0x0, false, 0x0, .direct⟩,  -- CLK_CTRL_VAL
  ⟨0x40018010, [], 0x0, 0x0, 0x0, 0x0, true, 0x0, .direct⟩,  -- CLK_LOL_CNT
  ⟨0x40018014, [], 0x0, 0x0, 0x0, 0x0, true, 0x0, .direct⟩,  -- CLK_LOR_CNT
  ⟨0x40018018, [], 0x0, 0x0, 0x0, 0x0, true, 0x0, .direct⟩,  -- CLK_FILT_CNT
  ⟨0x4001801C, [], 0x0, 0x0, 0x0, 0x0, false, 0x0, .direct⟩,  -- CLK_CNT_OVF
  ⟨0x40018020, [], 0x0, 0x0, 0x0, 0x0, false, 0x0, .direct⟩,  -- CLK_LOSS_TIME_LO
  ⟨0x40018024, [], 0x0, 0x0, 0x0, 0x0, false, 0x0, .direct⟩,  -- CLK_LOSS_TIME_HI
  ⟨0x40018028, [], 0x0, 0x0, 0x0, 0x0, false, 0x0, .direct⟩  -- CLK_COAST_LAST
]

/-- Power, the block at 0x4002_0000 (R416). -/
def pwrRows : List RegRow := [
  ⟨0x40020000, [], 0x103FF, 0x0, 0x0, 0x0, false, 0x64, .config⟩,  -- PWR_CFG
  ⟨0x40020004, [], 0x7, 0x0, 0x0, 0x0, false, 0x5, .config⟩,  -- PWR_WAKE_MASK
  ⟨0x40020008, [], 0xFFFFFFFF, 0x0, 0x0, 0x0, false, 0x0, .config⟩,  -- PWR_RTC_ALARM
  ⟨0x40028000, [], 0x0, 0x0, 0x0, 0x0, false, 0x0, .direct⟩,  -- PWR_STAT
  ⟨0x40028004, [], 0x0, 0x0, 0x0, 0x300F, false, 0x0, .steward⟩,  -- PWR_DOM_CTRL
  ⟨0x40028008, [], 0x0, 0x0, 0x0, 0x3, false, 0x0, .steward⟩,  -- PWR_SLEEP
  ⟨0x4002800C, [], 0x0, 0x0, 0x0, 0xFFFFFFFF, false, 0x0, .steward⟩,  -- PWR_RESET
  ⟨0x40028010, [], 0x0, 0x0, 0x0, 0x0, false, 0x0, .direct⟩,  -- PWR_REFUSED
  ⟨0x40028014, [], 0x0, 0x0, 0x0, 0x0, false, 0x0, .direct⟩,  -- PWR_STEP
  ⟨0x40028018, [], 0x0, 0x0, 0x0, 0x0, false, 0x0, .direct⟩,  -- PWR_NOT_READY
  ⟨0x4002801C, [], 0x0, 0x0, 0x0, 0x0, false, 0x0, .direct⟩,  -- PWR_START_TIME
  ⟨0x40028020, [], 0x0, 0x0, 0x0, 0x0, false, 0x0, .direct⟩,  -- PWR_MON_FLT
  ⟨0x40028024, [], 0x0, 0x0, 0x0, 0x0, true, 0x0, .direct⟩,  -- PWR_REFUSED_CNT
  ⟨0x40028028, [], 0x0, 0x0, 0x0, 0x0, true, 0x0, .direct⟩,  -- PWR_VINF_CNT
  ⟨0x4002802C, [], 0x0, 0x0, 0x0, 0x0, false, 0x0, .direct⟩,  -- PWR_CNT_OVF
  ⟨0x40028040, [], 0x0, 0x0, 0x0, 0x0, false, 0x1, .direct⟩,  -- PWR_RST_CAUSE
  ⟨0x40028044, [(0x4, 8)], 0x0, 0x0, 0x0, 0x0, true, 0x0, .direct⟩  -- PWR_RST_CNTk
]

/-- Modulators, the block at 0x4010_0000 (R52). -/
def modRows : List RegRow := [
  ⟨0x40100000, [], 0xFFFFFFFF, 0x0, 0x0, 0x0, false, 0x0, .config⟩,  -- MOD_ENABLE
  ⟨0x40100004, [], 0x79, 0x0, 0x0, 0x0, false, 0x40, .config⟩,  -- MOD_EXT_CFG
  ⟨0x40100008, [], 0x3FF007F, 0x0, 0x0, 0x0, false, 0x400018, .config⟩,  -- MOD_DET_CFG
  ⟨0x4010000C, [], 0xFFFFFFFF, 0x0, 0x0, 0x0, false, 0xC800, .config⟩,  -- MOD_EXT_FS
  ⟨0x40100200, [(0x8, 32)], 0x0, 0x0, 0x0, 0x0, false, 0x0, .direct⟩,  -- MOD_CAL_OFFn
  ⟨0x40100204, [(0x8, 32)], 0x0, 0x0, 0x0, 0x0, false, 0x40000000, .direct⟩,  -- MOD_CAL_GAINn
  ⟨0x40100300, [(0x4, 32)], 0x0, 0x0, 0x0, 0x0, false, 0xFF400000, .direct⟩,  -- MOD_CAL_INFOn
  ⟨0x40100700, [], 0x0, 0x0, 0x0, 0x7F07, false, 0x0, .immediate⟩,  -- CAL_CTRL
  ⟨0x40100704, [], 0xFFFFFFFF, 0x0, 0x0, 0x0, false, 0x0, .immediate⟩,  -- CAL_REF
  ⟨0x40100708, [], 0xFFFFFFFF, 0x0, 0x0, 0x0, false, 0x0, .immediate⟩,  -- CAL_RST_OFF
  ⟨0x4010070C, [], 0xFFFFFFFF, 0x0, 0x0, 0x0, false, 0x40000000, .immediate⟩,  -- CAL_RST_GAIN
  ⟨0x40108000, [], 0x0, 0x0, 0x0, 0x0, false, 0x0, .direct⟩,  -- MOD_ISL_STAT
  ⟨0x40108004, [], 0x0, 0xFFFFFFFF, 0x0, 0x0, false, 0x0, .direct⟩,  -- MOD_OVL
  ⟨0x40108008, [], 0x0, 0xFFFFFFFF, 0x0, 0x0, false, 0x0, .direct⟩,  -- MOD_FAULT
  ⟨0x4010800C, [], 0x0, 0x0, 0x0, 0x0, false, 0x0, .direct⟩,  -- MOD_VALID
  ⟨0x40108010, [], 0x0, 0x0, 0x0, 0x0, true, 0x0, .direct⟩,  -- MOD_OVL_CNT
  ⟨0x40108014, [], 0x0, 0x0, 0x0, 0x0, true, 0x0, .direct⟩,  -- MOD_FAULT_CNT
  ⟨0x40108018, [], 0x0, 0x0, 0x0, 0x0, true, 0x0, .direct⟩,  -- MOD_ISL_LOSS_CNT
  ⟨0x4010801C, [], 0x0, 0x0, 0x0, 0x0, false, 0x0, .direct⟩,  -- MOD_CNT_OVF
  ⟨0x40108100, [], 0x0, 0x0, 0x0, 0x0, false, 0x0, .direct⟩,  -- CAL_STAT
  ⟨0x40108104, [], 0x0, 0x0, 0x0, 0x0, false, 0x0, .direct⟩,  -- CAL_ZERO_MEAS
  ⟨0x40108108, [], 0x0, 0x0, 0x0, 0x0, false, 0x0, .direct⟩,  -- CAL_FULL_MEAS
  ⟨0x4010810C, [], 0x0, 0x0, 0x0, 0x0, false, 0x0, .direct⟩,  -- CAL_SPREAD
  ⟨0x40108110, [], 0x0, 0x0, 0x0, 0x0, false, 0x0, .direct⟩,  -- CAL_NEW_OFF
  ⟨0x40108114, [], 0x0, 0x0, 0x0, 0x0, false, 0x0, .direct⟩  -- CAL_NEW_GAIN
]

/-- Decimators, the block at 0x4011_0000 (R81). -/
def decRows : List RegRow := [
  ⟨0x40110100, [(0x4, 32)], 0xFF, 0x0, 0x0, 0x0, false, 0x0, .config⟩,  -- DEC_SKEWn
  ⟨0x40118000, [], 0x0, 0x0, 0x0, 0x0, false, 0x0, .direct⟩,  -- DEC_STAT
  ⟨0x40118004, [], 0x0, 0x0, 0x0, 0x0, false, 0x0, .direct⟩,  -- DEC_UNS
  ⟨0x40118008, [], 0x0, 0xFFFFFFFF, 0x0, 0x0, false, 0x0, .direct⟩,  -- DEC_CLIP
  ⟨0x4011800C, [], 0x0, 0x0, 0x0, 0x0, true, 0x0, .direct⟩,  -- DEC_CLIP_CNT
  ⟨0x40118010, [], 0x0, 0x0, 0x0, 0x0, true, 0x0, .direct⟩,  -- DEC_RESTART_CNT
  ⟨0x40118014, [], 0x0, 0x0, 0x0, 0x0, false, 0x0, .direct⟩,  -- DEC_PREC_SEQ
  ⟨0x40118018, [], 0x0, 0x0, 0x0, 0x0, true, 0x0, .direct⟩,  -- DEC_PREC_WRAP
  ⟨0x4011801C, [], 0x0, 0x0, 0x0, 0x0, false, 0x0, .direct⟩,  -- DEC_CNT_OVF
  ⟨0x40118100, [(0x4, 32)], 0x0, 0x0, 0x0, 0x0, false, 0x80000000, .direct⟩,  -- DEC_FASTn
  ⟨0x40118180, [(0x4, 32)], 0x0, 0x0, 0x0, 0x0, false, 0x80000000, .direct⟩,  -- DEC_MEDn
  ⟨0x40118200, [(0x4, 32)], 0x0, 0x0, 0x0, 0x0, false, 0x80000000, .direct⟩  -- DEC_PRECn
]

/-- Resampler, the block at 0x4012_0000 (R92). -/
def rsmRows : List RegRow := [
  ⟨0x40120000, [], 0xFF7, 0x0, 0x0, 0x0, false, 0x2, .config⟩,  -- RSM_CFG
  ⟨0x40120004, [], 0xFFFFFFFF, 0x0, 0x0, 0x0, false, 0x320000, .config⟩,  -- RSM_FNOM
  ⟨0x40120008, [], 0xFFFFFFFF, 0x0, 0x0, 0x0, false, 0xB6038E, .config⟩,  -- RSM_LIM
  ⟨0x4012000C, [], 0xFFFFFFFF, 0x0, 0x0, 0x0, false, 0x100, .config⟩,  -- RSM_XFADE
  ⟨0x40120010, [], 0x0, 0x0, 0x0, 0x1, false, 0x0, .immediate⟩,  -- RSM_COEF_CTRL
  ⟨0x40120014, [], 0xFFFFFFFF, 0x0, 0x0, 0x0, false, 0x0, .immediate⟩,  -- RSM_COEF_EXP
  ⟨0x40120040, [(0x4, 12)], 0xFF, 0x0, 0x0, 0x0, false, 0xFF, .config⟩,  -- RSM_LANEl
  ⟨0x40122000, [(0x4, 2048)], 0xFFFFFFFF, 0x0, 0x0, 0x0, false, 0x0, .immediate⟩,  -- RSM_COEF_A
  ⟨0x40124000, [(0x4, 2048)], 0xFFFFFFFF, 0x0, 0x0, 0x0, false, 0x0, .immediate⟩,  -- RSM_COEF_B
  ⟨0x40127000, [], 0x0, 0x0, 0x0, 0x0, false, 0x0, .direct⟩,  -- RSM_COEF_CRCA
  ⟨0x40127004, [], 0x0, 0x0, 0x0, 0x0, false, 0x0, .direct⟩,  -- RSM_COEF_CRCB
  ⟨0x40128000, [], 0x0, 0x0, 0x0, 0x0, false, 0x0, .direct⟩,  -- RSM_STAT
  ⟨0x40128004, [], 0xFFFFFFFF, 0x0, 0x0, 0x0, false, 0x320000, .committed⟩,  -- RSM_KFREQ
  ⟨0x40128008, [], 0xFFFFFFFF, 0x0, 0x0, 0x0, false, 0x0, .committed⟩,  -- RSM_KANGLE
  ⟨0x4012800C, [], 0x0, 0x0, 0x0, 0x0, false, 0x0, .direct⟩,  -- RSM_FREQ
  ⟨0x40128010, [], 0x0, 0x0, 0x0, 0x0, false, 0x0, .direct⟩,  -- RSM_RATIO_LO
  ⟨0x40128014, [], 0x0, 0x0, 0x0, 0x0, false, 0x0, .direct⟩,  -- RSM_RATIO_HI
  ⟨0x40128018, [], 0x0, 0x0, 0x0, 0x0, false, 0x0, .direct⟩,  -- RSM_CYC_CNT
  ⟨0x4012801C, [], 0x0, 0x0, 0x0, 0x0, true, 0x0, .direct⟩,  -- RSM_CYC_WRAP
  ⟨0x40128020, [], 0x0, 0x0, 0x0, 0x0, false, 0x0, .direct⟩,  -- RSM_SOC_TIME_LO
  ⟨0x40128024, [], 0x0, 0x0, 0x0, 0x0, false, 0x0, .direct⟩,  -- RSM_SOC_TIME_HI
  ⟨0x40128028, [], 0x0, 0x0, 0x0, 0x0, false, 0x0, .direct⟩,  -- RSM_OUT_CNT
  ⟨0x4012802C, [], 0x0, 0x0, 0x0, 0x0, true, 0x0, .direct⟩,  -- RSM_OUT_WRAP
  ⟨0x40128030, [], 0x0, 0x0, 0x0, 0x0, true, 0x0, .direct⟩,  -- RSM_STEP_CNT
  ⟨0x40128034, [], 0x0, 0x0, 0x0, 0x0, true, 0x0, .direct⟩,  -- RSM_XF_REFUSED_CNT
  ⟨0x40128038, [], 0x0, 0x0, 0x0, 0x0, false, 0x0, .direct⟩,  -- RSM_CNT_OVF
  ⟨0x40129000, [(0x400, 12), (0x4, 256)], 0x0, 0x0, 0x0, 0x0, false, 0x80000000, .direct⟩  -- RSM_WINl
]

/-- Housekeeping converter, the block at 0x4013_0000 (R60). -/
def hkRows : List RegRow := [
  ⟨0x40130000, [], 0x7F07, 0x0, 0x0, 0x0, false, 0x2D03, .config⟩,  -- HK_CFG
  ⟨0x40130004, [], 0x1F0F, 0x0, 0x0, 0x0, false, 0x101, .config⟩,  -- HK_INJ_CFG
  ⟨0x40130008, [], 0xFFF0FFF, 0x0, 0x0, 0x0, false, 0xFF00010, .config⟩,  -- HK_NTC_LIM
  ⟨0x40130100, [(0x4, 16)], 0xFFFFFFFF, 0x0, 0x0, 0x0, false, 0x0, .config⟩,  -- HK_SEQk
  ⟨0x40130140, [], 0xFFFFFFFF, 0x0, 0x0, 0x0, false, 0x0, .config⟩,  -- HK_INJ_SEQ0
  ⟨0x40130144, [], 0xFFFFFFFF, 0x0, 0x0, 0x0, false, 0x0, .config⟩,  -- HK_INJ_SEQ1
  ⟨0x40130200, [(0x8, 64)], 0x0, 0x0, 0x0, 0x0, false, 0x0, .direct⟩,  -- HK_CAL_OFFi
  ⟨0x40130204, [(0x8, 64)], 0x0, 0x0, 0x0, 0x0, false, 0x40000000, .direct⟩,  -- HK_CAL_GAINi
  ⟨0x40130400, [(0x4, 64)], 0x0, 0x0, 0x0, 0x0, false, 0xFF400000, .direct⟩,  -- HK_CAL_INFOi
  ⟨0x40138000, [], 0x0, 0x0, 0x0, 0x0, false, 0x0, .direct⟩,  -- HK_STAT
  ⟨0x40138004, [], 0x0, 0x0, 0x0, 0x1, false, 0x0, .committed⟩,  -- HK_INJ_TRIG
  ⟨0x40138008, [], 0x0, 0x0, 0x0, 0x0, true, 0x0, .direct⟩,  -- HK_ROUND_LATE_CNT
  ⟨0x4013800C, [], 0x0, 0x0, 0x0, 0x0, true, 0x0, .direct⟩,  -- HK_INJ_LOST_CNT
  ⟨0x40138010, [], 0x0, 0x0, 0x0, 0x0, true, 0x0, .direct⟩,  -- HK_ABORT_CNT
  ⟨0x40138014, [], 0x0, 0x0, 0x0, 0x0, false, 0x0, .direct⟩,  -- HK_CNT_OVF
  ⟨0x40138018, [], 0x0, 0x0, 0x0, 0x0, false, 0x0, .direct⟩,  -- HK_ROUND_CNT
  ⟨0x4013801C, [], 0x0, 0x0, 0x0, 0x0, true, 0x0, .direct⟩,  -- HK_ROUND_WRAP
  ⟨0x40138100, [(0x4, 64)], 0x0, 0x0, 0x0, 0x0, false, 0x0, .direct⟩,  -- HK_RESULTi
  ⟨0x40138200, [(0x4, 8)], 0x0, 0x0, 0x0, 0x0, false, 0x0, .direct⟩,  -- HK_INJ_RESULTj
  ⟨0x40138220, [], 0x0, 0x0, 0x0, 0x0, false, 0x0, .direct⟩,  -- HK_INJ_TIME_LO
  ⟨0x40138224, [], 0x0, 0x0, 0x0, 0x0, false, 0x0, .direct⟩  -- HK_INJ_TIME_HI
]

/-- Shed units, the block at 0x4020_0000 (R121), part 0. -/
def shedRows0 : List RegRow := [
  ⟨0x40200000, [], 0xFFFF0003, 0x0, 0x0, 0x0, false, 0x3E80000, .config⟩,  -- SHED_GCFG
  ⟨0x40201000, [(0x20, 24)], 0x7FF03, 0x0, 0x0, 0x0, false, 0xFF00, .config⟩,  -- SHED_CFGn
  ⟨0x40201004, [(0x20, 24)], 0x3FFFFF, 0x0, 0x0, 0x0, false, 0xA3D7, .config⟩,  -- SHED_BANDn
  ⟨0x40201008, [(0x20, 24)], 0x1FFFF, 0x0, 0x0, 0x0, false, 0x4E20, .config⟩,  -- SHED_DTn
  ⟨0x40202000, [(0x40, 4)], 0xFFFFC77, 0x0, 0x0, 0x0, false, 0x7518010, .config⟩,  -- SHED_HCFGh
  ⟨0x40202004, [(0x40, 4)], 0x1FFFF, 0x0, 0x0, 0x0, false, 0x424, .config⟩,  -- SHED_LATUPh
  ⟨0x40202008, [(0x40, 4)], 0x1FFFF, 0x0, 0x0, 0x0, false, 0x424, .config⟩,  -- SHED_LATDNh
  ⟨0x4020200C, [(0x40, 4)], 0xFFFFFFFF, 0x0, 0x0, 0x0, false, 0x12C012C, .config⟩,  -- SHED_TMINh
  ⟨0x40202010, [(0x40, 4)], 0x3FFFF, 0x0, 0x0, 0x0, false, 0x186A0, .config⟩,  -- SHED_FMAXh
  ⟨0x40202014, [(0x40, 4)], 0x3FFFF, 0x0, 0x0, 0x0, false, 0x0, .config⟩,  -- SHED_FTGTh
  ⟨0x40202018, [(0x40, 4)], 0x3FFFFF, 0x0, 0x0, 0x0, false, 0x1062, .config⟩,  -- SHED_BMINh
  ⟨0x4020201C, [(0x40, 4)], 0x3FFFFF, 0x0, 0x0, 0x0, false, 0x66666, .config⟩,  -- SHED_BMAXh
  ⟨0x40202020, [(0x40, 4)], 0x3FFFFF, 0x0, 0x0, 0x0, false, 0x0, .config⟩,  -- SHED_BAND2h
  ⟨0x40202024, [(0x40, 4)], 0xFFFFFFFF, 0x0, 0x0, 0x0, false, 0x10000, .config⟩,  -- SHED_SPGh
  ⟨0x40202028, [(0x40, 4)], 0xFFFFFFFF, 0x0, 0x0, 0x0, false, 0x0, .config⟩,  -- SHED_SPOh
  ⟨0x4020202C, [(0x40, 4)], 0x1FFF, 0x0, 0x0, 0x0, false, 0x1, .config⟩,  -- SHED_REFPh
  ⟨0x40202030, [(0x40, 4), (0x4, 4)], 0xFFFFFFFF, 0x0, 0x0, 0x0, false, 0x0, .config⟩,  -- SHED_HEDh_m
  ⟨0x40208000, [], 0xF, 0x0, 0x0, 0x0, false, 0x0, .committed⟩,  -- SHED_RUN
  ⟨0x40208004, [], 0x0, 0x0, 0x0, 0x0, false, 0x80000000, .direct⟩,  -- SHED_SETA
  ⟨0x40208008, [], 0x0, 0x0, 0x0, 0x0, false, 0x80000000, .direct⟩,  -- SHED_SETP
  ⟨0x4020800C, [], 0x0, 0x0, 0x0, 0x0, true, 0x0, .direct⟩,  -- SHED_SP_LOSS_CNT
  ⟨0x40208010, [], 0x0, 0x0, 0x0, 0x0, false, 0x0, .direct⟩,  -- SHED_GOVF
  ⟨0x40208014, [], 0x0, 0x0, 0x0, 0x0, true, 0x0, .direct⟩,  -- INJ_STOP_CNT
  ⟨0x40208100, [(0x40, 24)], 0xFFFFFF, 0x0, 0x0, 0x0, false, 0x0, .committed⟩,  -- SHED_REFn
  ⟨0x40208104, [(0x40, 24)], 0x0, 0x0, 0x0, 0xFFFFFF, false, 0x0, .streamed⟩,  -- SHED_FIFOn
  ⟨0x40208108, [(0x40, 24)], 0x0, 0x0, 0x0, 0xFFFFFFFF, false, 0x0, .streamed⟩,  -- SHED_EDGEn
  ⟨0x4020810C, [(0x40, 24)], 0x0, 0x0, 0x0, 0x0, false, 0x0, .direct⟩,  -- SHED_STATn
  ⟨0x40208110, [(0x40, 24)], 0x0, 0x0, 0x0, 0x0, false, 0x0, .direct⟩,  -- SHED_HNOWn
  ⟨0x40208114, [(0x40, 24)], 0x0, 0x0, 0x0, 0x0, false, 0x0, .direct⟩,  -- SHED_FSWn
  ⟨0x40208118, [(0x40, 24)], 0x0, 0x0, 0x0, 0x0, false, 0x0, .direct⟩  -- SHED_ERRn
]

/-- Shed units, the block at 0x4020_0000 (R121), part 1. -/
def shedRows1 : List RegRow := [
  ⟨0x4020811C, [(0x40, 24)], 0x0, 0x0, 0x0, 0x0, false, 0x0, .direct⟩,  -- SHED_EDGE_CNTn
  ⟨0x40208120, [(0x40, 24)], 0x0, 0x0, 0x0, 0x0, true, 0x0, .direct⟩,  -- SHED_EDGE_WRAPn
  ⟨0x40208124, [(0x40, 24)], 0x0, 0x0, 0x0, 0x0, true, 0x0, .direct⟩,  -- SHED_ILK_CNTn
  ⟨0x40208128, [(0x40, 24)], 0x0, 0x0, 0x0, 0x0, true, 0x0, .direct⟩,  -- SHED_UNDER_CNTn
  ⟨0x4020812C, [(0x40, 24)], 0x0, 0x0, 0x0, 0x0, true, 0x0, .direct⟩,  -- SHED_DROP_CNTn
  ⟨0x40208130, [(0x40, 24)], 0x0, 0x0, 0x0, 0x0, true, 0x0, .direct⟩,  -- SHED_LIMIT_CNTn
  ⟨0x40208134, [(0x40, 24)], 0x0, 0x0, 0x0, 0x0, true, 0x0, .direct⟩,  -- SHED_LATE_CNTn
  ⟨0x40208138, [(0x40, 24)], 0x0, 0x0, 0x0, 0x0, false, 0x0, .direct⟩,  -- SHED_CNT_OVFn
  ⟨0x40209000, [(0x200, 4)], 0x1FF, 0x0, 0x0, 0x0, false, 0x0, .committed⟩,  -- INJ_CTRLj
  ⟨0x40209004, [(0x200, 4)], 0xFFFFFF, 0x0, 0x0, 0x0, false, 0x0, .streamed⟩,  -- INJ_MASKj
  ⟨0x40209008, [(0x200, 4)], 0x7FFFFF, 0x0, 0x0, 0x0, false, 0x0, .streamed⟩,  -- INJ_AMPj
  ⟨0x4020900C, [(0x200, 4)], 0xFFFFFFFF, 0x0, 0x0, 0x0, false, 0x0, .streamed⟩,  -- INJ_P0j
  ⟨0x40209010, [(0x200, 4)], 0xFFFFFFFF, 0x0, 0x0, 0x0, false, 0x0, .streamed⟩,  -- INJ_P1j
  ⟨0x40209014, [(0x200, 4)], 0xFFFFFFFF, 0x0, 0x0, 0x0, false, 0x0, .streamed⟩,  -- INJ_P2j
  ⟨0x40209100, [(0x200, 4), (0x8, 32)], 0xFFFFFFFF, 0x0, 0x0, 0x0, false, 0x0, .streamed⟩,  -- INJ_TINCj_k
  ⟨0x40209104, [(0x200, 4), (0x8, 32)], 0xFFFFFFFF, 0x0, 0x0, 0x0, false, 0x0, .streamed⟩  -- INJ_TAPj_k
]

/-- Shed units (R121). -/
def shedRows : List RegRow := shedRows0 ++ shedRows1

/-- Edge synthesiser, the block at 0x4021_0000 (R122). -/
def edgeRows : List RegRow := [
  ⟨0x40218000, [], 0x0, 0x0, 0x0, 0x0, false, 0x0, .direct⟩,  -- EDGE_NOW_LO
  ⟨0x40218004, [], 0x0, 0x0, 0x0, 0x0, false, 0x0, .direct⟩,  -- EDGE_NOW_HI
  ⟨0x40218008, [], 0x0, 0x0, 0x0, 0x0, false, 0x0, .direct⟩,  -- EDGE_PEND
  ⟨0x40218100, [(0x4, 48)], 0x0, 0x0, 0x0, 0x0, false, 0x0, .direct⟩  -- EDGE_LASTc
]

/-- Integrators, CORDIC and decomposers, the block at 0x4022_0000 (R123). -/
def primRows : List RegRow := [
  ⟨0x40228000, [(0x40, 32)], 0xFFFFFFFF, 0x0, 0x0, 0x0, false, 0x0, .committed⟩,  -- INT_INn
  ⟨0x40228004, [(0x40, 32)], 0x7, 0x0, 0x0, 0x0, false, 0x0, .committed⟩,  -- INT_CTRLn
  ⟨0x40228008, [(0x40, 32)], 0x0, 0x0, 0x0, 0x0, false, 0x0, .direct⟩,  -- INT_OUTn
  ⟨0x4022800C, [(0x40, 32)], 0x0, 0x0, 0x0, 0x0, false, 0x0, .direct⟩,  -- INT_STATEn
  ⟨0x40228010, [(0x40, 32)], 0x0, 0x0, 0x0, 0x0, false, 0x0, .direct⟩,  -- INT_STATn
  ⟨0x40228014, [(0x40, 32)], 0xFFFFFFFF, 0x0, 0x0, 0x0, false, 0x0, .streamed⟩,  -- INT_INITn
  ⟨0x40228020, [(0x40, 32), (0x4, 4)], 0xFFFFFFFF, 0x0, 0x0, 0x0, false, 0x0, .streamed⟩,  -- INT_An
  ⟨0x40228030, [(0x40, 32), (0x4, 4)], 0xFFFFFFFF, 0x0, 0x0, 0x0, false, 0x0, .streamed⟩,  -- INT_Bn
  ⟨0x40229000, [(0x20, 8), (0x4, 3)], 0xFFFFFFFF, 0x0, 0x0, 0x0, false, 0x0, .streamed⟩,  -- CRD_Xc
  ⟨0x4022900C, [(0x20, 8)], 0x0, 0x0, 0x0, 0xFFFFFFFF, false, 0x0, .streamed⟩,  -- CRD_CMDc
  ⟨0x40229010, [(0x20, 8), (0x4, 3)], 0x0, 0x0, 0x0, 0x0, false, 0x0, .direct⟩,  -- CRD_RXc
  ⟨0x4022901C, [(0x20, 8)], 0x0, 0x0, 0x0, 0x0, false, 0x0, .direct⟩,  -- CRD_STATc
  ⟨0x4022A000, [(0x40, 4)], 0x80FFFFFF, 0x0, 0x0, 0x0, false, 0xFFFFFF, .committed⟩,  -- DCMP_CFGd
  ⟨0x4022A004, [(0x40, 4)], 0xFFFFFFFF, 0x0, 0x0, 0x0, false, 0x320000, .committed⟩,  -- DCMP_FREQd
  ⟨0x4022A008, [(0x40, 4)], 0xFFFFFFFF, 0x0, 0x0, 0x0, false, 0x0, .committed⟩,  -- DCMP_ANGLEd
  ⟨0x4022A010, [(0x40, 4), (0x4, 4)], 0x0, 0x0, 0x0, 0x0, false, 0x0, .direct⟩,  -- DCMP_OUTd
  ⟨0x4022A020, [(0x40, 4)], 0x0, 0x0, 0x0, 0x0, false, 0x0, .direct⟩,  -- DCMP_STATd
  ⟨0x4022B000, [], 0x0, 0x0, 0x0, 0x0, true, 0x0, .direct⟩,  -- INT_NAN_CNT
  ⟨0x4022B004, [], 0x0, 0x0, 0x0, 0x0, false, 0x0, .direct⟩  -- PRIM_CNT_OVF
]

/-- Gate channels, the block at 0x4030_0000 (R151), part 0. -/
def gateRows0 : List RegRow := [
  ⟨0x40300000, [], 0x3, 0x0, 0x0, 0x0, false, 0x0, .immediate⟩,  -- GATE_OWN
  ⟨0x40300004, [], 0x0, 0x0, 0x0, 0x73F, false, 0x0, .immediate⟩,  -- GATE_TEST_CMD
  ⟨0x40300008, [], 0x0, 0x0, 0x0, 0x0, false, 0x0, .direct⟩,  -- GATE_TEST_STAT
  ⟨0x4030000C, [], 0x0, 0x0, 0x0, 0xF, false, 0x0, .immediate⟩,  -- GATE_CLEAR
  ⟨0x40300010, [], 0xFFFFFF, 0x0, 0x0, 0x0, false, 0xFFFFFF, .config⟩,  -- GATE_DESAT_EN_A
  ⟨0x40300014, [], 0xFFFFFF, 0x0, 0x0, 0x0, false, 0xFFFFFF, .config⟩,  -- GATE_DESAT_EN_B
  ⟨0x40300100, [(0x4, 48)], 0x3F, 0x0, 0x0, 0x0, false, 0x18, .config⟩,  -- GATE_CCFGc
  ⟨0x40300200, [(0x4, 24)], 0x3F, 0x0, 0x0, 0x0, false, 0x14, .config⟩,  -- GATE_BLANKn
  ⟨0x40300280, [(0x8, 24)], 0xFFFFFFFF, 0x0, 0x0, 0x0, false, 0x400000, .config⟩,  -- GATE_HLPOSn
  ⟨0x40300284, [(0x8, 24)], 0xFFFFFFFF, 0x0, 0x0, 0x0, false, 0xFFC00000, .config⟩,  -- GATE_HLNEGn
  ⟨0x40300400, [(0x40, 4)], 0xFF0FF3, 0x0, 0xC, 0x0, false, 0x280530, .config⟩,  -- GATE_HCFGh
  ⟨0x40300404, [(0x40, 4)], 0x3FFF, 0x0, 0x0, 0x0, false, 0x64, .config⟩,  -- GATE_RWAITh
  ⟨0x40300408, [(0x40, 4)], 0xFFF, 0x0, 0x0, 0x0, false, 0x3C, .config⟩,  -- GATE_RFORGETh
  ⟨0x40300420, [(0x40, 4), (0x4, 8)], 0x0, 0x0, 0x1FF000F, 0x0, false, 0x0, .config⟩,  -- GATE_SEQh_s
  ⟨0x40300500, [], 0x0, 0x0, 0xFFFFFF, 0x0, false, 0x0, .config⟩,  -- GATE_SELV_HIZ_A
  ⟨0x40300504, [], 0x0, 0x0, 0xFFFFFF, 0x0, false, 0x0, .config⟩,  -- GATE_SELV_HIZ_B
  ⟨0x40300508, [], 0x0, 0x0, 0xFFFF, 0x0, false, 0xFFFF, .config⟩,  -- GATE_SELV_K
  ⟨0x40308000, [], 0xFF, 0x0, 0x0, 0x0, false, 0x0, .committed⟩,  -- GATE_SELV_REQ
  ⟨0x40308004, [], 0x0, 0x0, 0x0, 0x0, false, 0x0, .direct⟩,  -- GATE_OWN_STAT
  ⟨0x40308010, [(0x4, 4)], 0x0, 0x0, 0x0, 0x0, false, 0x0, .direct⟩,  -- GATE_HSTATh
  ⟨0x40308100, [(0x4, 48)], 0x0, 0x0, 0x0, 0x0, false, 0x3, .direct⟩,  -- GATE_CSTATc
  ⟨0x40308200, [(0x4, 24)], 0x0, 0x0, 0x0, 0x0, false, 0x0, .direct⟩,  -- GATE_LFLTn
  ⟨0x40308300, [], 0x0, 0x0, 0x0, 0x0, false, 0x0, .direct⟩,  -- GATE_MLEG_INFO
  ⟨0x40308304, [], 0x0, 0x0, 0x0, 0x0, false, 0x0, .direct⟩,  -- GATE_MLEG_DT
  ⟨0x40308400, [(0x4, 48)], 0x0, 0x0, 0x0, 0x0, true, 0x0, .direct⟩,  -- GATE_DESAT_CNTc
  ⟨0x40308500, [(0x4, 48)], 0x0, 0x0, 0x0, 0x0, true, 0x0, .direct⟩,  -- GATE_UV_CNTc
  ⟨0x40308600, [(0x4, 24)], 0x0, 0x0, 0x0, 0x0, true, 0x0, .direct⟩,  -- GATE_HL_CNTn
  ⟨0x40308700, [(0x4, 4)], 0x0, 0x0, 0x0, 0x0, true, 0x0, .direct⟩,  -- GATE_SELV_CNTh
  ⟨0x40308710, [(0x4, 4)], 0x0, 0x0, 0x0, 0x0, true, 0x0, .direct⟩,  -- GATE_RETRY_CNTh
  ⟨0x40308720, [(0x4, 4)], 0x0, 0x0, 0x0, 0x0, true, 0x0, .direct⟩  -- GATE_MLEG_CNTh
]

/-- Gate channels, the block at 0x4030_0000 (R151), part 1. -/
def gateRows1 : List RegRow := [
  ⟨0x40308800, [], 0x0, 0x0, 0x0, 0x0, false, 0x0, .direct⟩,  -- GATE_OVF_DESAT_A
  ⟨0x40308804, [], 0x0, 0x0, 0x0, 0x0, false, 0x0, .direct⟩,  -- GATE_OVF_DESAT_B
  ⟨0x40308808, [], 0x0, 0x0, 0x0, 0x0, false, 0x0, .direct⟩,  -- GATE_OVF_UV_A
  ⟨0x4030880C, [], 0x0, 0x0, 0x0, 0x0, false, 0x0, .direct⟩,  -- GATE_OVF_UV_B
  ⟨0x40308810, [], 0x0, 0x0, 0x0, 0x0, false, 0x0, .direct⟩,  -- GATE_OVF_HL
  ⟨0x40308814, [], 0x0, 0x0, 0x0, 0x0, false, 0x0, .direct⟩  -- GATE_OVF_H
]

/-- Gate channels (R151). -/
def gateRows : List RegRow := gateRows0 ++ gateRows1

/-- Loom cycle engine, the block at 0x4040_0000 (R211), part 0. -/
def loomRows0 : List RegRow := [
  ⟨0x40400000, [], 0xF07, 0x0, 0x0, 0x0, false, 0x4, .config⟩,  -- LOOM_CFG
  ⟨0x40400004, [], 0x7F, 0x0, 0x0, 0x0, false, 0x32, .config⟩,  -- LOOM_OVL_VMAX
  ⟨0x40400010, [(0x4, 4)], 0xFF, 0x0, 0x0, 0x0, false, 0xFF, .config⟩,  -- LOOM_OVL_VCHh
  ⟨0x40400040, [(0x4, 16)], 0xFFFF, 0x0, 0x0, 0x0, false, 0x3, .config⟩,  -- LOOM_ST_STALEk
  ⟨0x40400100, [(0x20, 16), (0x4, 8)], 0xFFFFFFFF, 0x0, 0x0, 0x0, false, 0x0, .config⟩,  -- LOOM_ST_SUBk_w
  ⟨0x40400400, [], 0x0, 0x0, 0x0, 0x0, false, 0x0, .direct⟩,  -- LOOM_T0_CKF
  ⟨0x40400404, [], 0x0, 0x0, 0x0, 0x0, false, 0x0, .direct⟩,  -- LOOM_TMUL
  ⟨0x40400408, [], 0x0, 0x0, 0x0, 0x0, false, 0x0, .direct⟩,  -- LOOM_T3_WDOG
  ⟨0x4040040C, [], 0x0, 0x0, 0x0, 0x0, false, 0x0, .direct⟩,  -- LOOM_IMG_ID
  ⟨0x40408000, [], 0x0, 0x0, 0x0, 0x0, false, 0x0, .direct⟩,  -- LOOM_MODE
  ⟨0x40408004, [], 0x0, 0x0, 0x0, 0xFFFFFFFF, false, 0x0, .stewardDebug⟩,  -- LOOM_CTRL
  ⟨0x40408008, [], 0x0, 0x0, 0x0, 0x0, false, 0x0, .direct⟩,  -- LOOM_CYCLE
  ⟨0x4040800C, [], 0x0, 0x0, 0x0, 0x0, true, 0x0, .direct⟩,  -- LOOM_CYCLE_WRAP
  ⟨0x40408010, [], 0x0, 0x0, 0x0, 0x3, false, 0x0, .streamed⟩,  -- LOOM_DONE
  ⟨0x40408014, [], 0x0, 0x0, 0x0, 0xFFFFFFFF, false, 0x0, .streamed⟩,  -- LOOM_KICK
  ⟨0x40408018, [], 0xF, 0x0, 0x0, 0x0, false, 0x0, .streamed⟩,  -- LOOM_IPI
  ⟨0x40408020, [], 0x1, 0x0, 0x0, 0x0, false, 0x0, .committed⟩,  -- LOOM_XCHG_GO
  ⟨0x40408024, [], 0x0, 0x0, 0x0, 0x0, false, 0x0, .direct⟩,  -- LOOM_XCHG_STAT
  ⟨0x40408028, [], 0x0, 0x0, 0x0, 0x0, false, 0x0, .direct⟩,  -- LOOM_IMG_STAT
  ⟨0x40408030, [], 0x0, 0x0, 0x0, 0x0, false, 0x0, .direct⟩,  -- LOOM_OVR_INFO
  ⟨0x40408034, [], 0x0, 0x0, 0x0, 0x0, false, 0x0, .direct⟩,  -- LOOM_OVR_CYCLE
  ⟨0x40408038, [], 0x0, 0x0, 0x0, 0x0, false, 0x0, .direct⟩,  -- LOOM_OVR_AMOUNT
  ⟨0x4040803C, [], 0x0, 0x0, 0x0, 0x0, false, 0x0, .direct⟩,  -- LOOM_EXC_CAUSE
  ⟨0x40408040, [], 0x0, 0x0, 0x0, 0x0, false, 0x0, .direct⟩,  -- LOOM_EXC_PC
  ⟨0x40408044, [], 0x0, 0x0, 0x0, 0x0, false, 0x0, .direct⟩,  -- LOOM_EXC_TVAL
  ⟨0x40408050, [], 0x0, 0x0, 0x0, 0x0, true, 0x0, .direct⟩,  -- LOOM_DISCARD_CNT
  ⟨0x40408054, [], 0x0, 0x0, 0x0, 0x0, true, 0x0, .direct⟩,  -- LOOM_CB_OVF_CNT
  ⟨0x40408058, [], 0x0, 0x0, 0x0, 0x0, true, 0x0, .direct⟩,  -- LOOM_CB_CONFLICT_CNT
  ⟨0x4040805C, [], 0x0, 0x0, 0x0, 0x0, true, 0x0, .direct⟩,  -- LOOM_CB_BADADDR_CNT
  ⟨0x40408060, [], 0x0, 0x0, 0x0, 0x0, true, 0x0, .direct⟩  -- LOOM_TOL_CNT
]

/-- Loom cycle engine, the block at 0x4040_0000 (R211), part 1. -/
def loomRows1 : List RegRow := [
  ⟨0x40408064, [], 0x0, 0x0, 0x0, 0x0, true, 0x0, .direct⟩,  -- LOOM_OBJ_DROP_CNT
  ⟨0x40408068, [], 0x0, 0x0, 0x0, 0x0, true, 0x0, .direct⟩,  -- LOOM_ST_DROP_CNT
  ⟨0x4040806C, [], 0x0, 0x0, 0x0, 0x0, false, 0x0, .direct⟩,  -- LOOM_CNT_OVF
  ⟨0x40408100, [(0x8, 4)], 0x0, 0x0, 0x0, 0xFFFFFFFF, false, 0x0, .streamed⟩,  -- LOOM_CB_ADDRt
  ⟨0x40408104, [(0x8, 4)], 0x0, 0x0, 0x0, 0xFFFFFFFF, false, 0x0, .streamed⟩,  -- LOOM_CB_DATAt
  ⟨0x40408120, [], 0x0, 0x0, 0x0, 0xFFFFFFFF, false, 0x0, .streamed⟩,  -- LOOM_CB_FLUSH3
  ⟨0x40408140, [(0x4, 4)], 0x0, 0x0, 0x0, 0x0, false, 0x0, .direct⟩,  -- LOOM_CB_LVLt
  ⟨0x40408200, [(0x4, 16)], 0x0, 0x0, 0x0, 0x0, false, 0x0, .direct⟩,  -- LOOM_ST_STATk
  ⟨0x40408300, [(0x20, 16), (0x4, 8)], 0xFFFFFFFF, 0x0, 0x0, 0x0, false, 0x0, .committed⟩,  -- LOOM_STOUTk_w
  ⟨0x40408500, [(0x20, 16), (0x4, 8)], 0x0, 0x0, 0x0, 0x0, false, 0x0, .direct⟩,  -- LOOM_STINk_w
  ⟨0x40409000, [(0x10, 64)], 0x3, 0x0, 0x0, 0x0, false, 0x0, .committed⟩,  -- LOOM_TMR_CTRLi
  ⟨0x40409004, [(0x10, 64)], 0xFFFFFFFF, 0x0, 0x0, 0x0, false, 0x0, .streamed⟩,  -- LOOM_TMR_PRESETi
  ⟨0x40409008, [(0x10, 64)], 0x0, 0x0, 0x0, 0x0, false, 0x0, .direct⟩,  -- LOOM_TMR_ELAPi
  ⟨0x4040900C, [(0x10, 64)], 0x0, 0x0, 0x0, 0x0, false, 0x0, .direct⟩,  -- LOOM_TMR_STATi
  ⟨0x4040A000, [(0x10, 128)], 0x1, 0x0, 0x0, 0x0, false, 0x0, .committed⟩,  -- LOOM_EDG_CTRLj
  ⟨0x4040A004, [(0x10, 128)], 0x0, 0x0, 0x0, 0x0, false, 0x0, .direct⟩,  -- LOOM_EDG_SRCj
  ⟨0x4040A008, [(0x10, 128)], 0x0, 0x0, 0x0, 0x0, false, 0x0, .direct⟩,  -- LOOM_EDG_STATj
  ⟨0x4040B000, [(0x4, 24)], 0x0, 0x0, 0x0, 0x3, false, 0x0, .debugHold⟩  -- LOOM_OVL_LEGn
]

/-- Loom cycle engine (R211). -/
def loomRows : List RegRow := loomRows0 ++ loomRows1

/-- DMA and bobbins, the block at 0x4050_0000 (R283). -/
def dmaRows : List RegRow := [
  ⟨0x40500000, [], 0x1, 0x0, 0x0, 0x0, false, 0x1, .config⟩,  -- DMA_CFG
  ⟨0x40500100, [(0x10, 16)], 0xFFFFFFE0, 0x0, 0x0, 0x0, false, 0x0, .immediate⟩,  -- BOB_BASEb
  ⟨0x40500104, [(0x10, 16)], 0xFFFF, 0x0, 0x0, 0x0, false, 0x1, .immediate⟩,  -- BOB_LENb
  ⟨0x40500108, [(0x10, 16)], 0x7F01, 0x0, 0x0, 0x0, false, 0x0, .config⟩,  -- BOB_CFGb
  ⟨0x40508000, [], 0x0, 0xFFFF, 0x0, 0x0, false, 0x0, .direct⟩,  -- DMA_IRQ
  ⟨0x40508004, [], 0x0, 0x0, 0x0, 0x0, false, 0x0, .direct⟩,  -- DMA_BUF_USED
  ⟨0x40508008, [], 0x0, 0x0, 0x0, 0x0, false, 0x0, .direct⟩,  -- DMA_INFLIGHT
  ⟨0x40508100, [(0x20, 16)], 0x0, 0x0, 0x0, 0x7, false, 0x0, .streamed⟩,  -- BOB_CTRLb
  ⟨0x40508104, [(0x20, 16)], 0x0, 0x0, 0x0, 0x0, false, 0x0, .direct⟩,  -- BOB_STATb
  ⟨0x40508108, [(0x20, 16)], 0x0, 0x0, 0x0, 0x0, false, 0x0, .direct⟩,  -- BOB_CURb
  ⟨0x4050810C, [(0x20, 16)], 0x0, 0x0, 0x0, 0x0, false, 0x0, .direct⟩,  -- BOB_HALTb
  ⟨0x40508110, [(0x20, 16)], 0x0, 0x0, 0x0, 0x0, false, 0x0, .direct⟩,  -- BOB_DONE_CNTb
  ⟨0x40508114, [(0x20, 16)], 0x0, 0x0, 0x0, 0x0, true, 0x0, .direct⟩,  -- BOB_DONE_WRAPb
  ⟨0x40508118, [(0x20, 16)], 0x0, 0x0, 0x0, 0x0, true, 0x0, .direct⟩,  -- BOB_BAD_CNTb
  ⟨0x4050811C, [(0x20, 16)], 0x0, 0x0, 0x0, 0x0, true, 0x0, .direct⟩,  -- BOB_LATE_CNTb
  ⟨0x40508400, [], 0x0, 0x0, 0x0, 0x0, false, 0x0, .direct⟩,  -- DMA_OVF_A
  ⟨0x40508404, [], 0x0, 0x0, 0x0, 0x0, false, 0x0, .direct⟩  -- DMA_OVF_B
]

/-- Recorder, the block at 0x4051_0000 (R284). -/
def recRows : List RegRow := [
  ⟨0x40510000, [(0x100, 4)], 0x80000007, 0x0, 0x0, 0x0, false, 0x0, .config⟩,  -- REC_CFGe
  ⟨0x40510004, [(0x100, 4)], 0xFFFF, 0x0, 0x0, 0x0, false, 0x0, .config⟩,  -- REC_DIVe
  ⟨0x40510008, [(0x100, 4)], 0xFF1F33, 0x0, 0x0, 0x0, false, 0x0, .config⟩,  -- REC_TRGe
  ⟨0x4051000C, [(0x100, 4)], 0xFFFFFFFF, 0x0, 0x0, 0x0, false, 0x0, .config⟩,  -- REC_LEVELe
  ⟨0x40510010, [(0x100, 4)], 0xFFFFFFFF, 0x0, 0x0, 0x0, false, 0x0, .config⟩,  -- REC_HYSTe
  ⟨0x40510014, [(0x100, 4)], 0x3FFF, 0x0, 0x0, 0x0, false, 0x0, .config⟩,  -- REC_PREe
  ⟨0x40510018, [(0x100, 4)], 0xFFFFFFFF, 0x0, 0x0, 0x0, false, 0x0, .config⟩,  -- REC_POSTe
  ⟨0x4051001C, [(0x100, 4)], 0x3FFF, 0x0, 0x0, 0x0, false, 0x0, .config⟩,  -- REC_FLUSHe
  ⟨0x40510080, [(0x100, 4), (0x4, 32)], 0xFFFF, 0x0, 0x0, 0x0, false, 0xFFFF, .config⟩,  -- REC_SRCe_s
  ⟨0x40518000, [(0x100, 4)], 0x0, 0x0, 0x0, 0xFFFFFFFF, false, 0x0, .streamed⟩,  -- REC_CMDe
  ⟨0x40518004, [(0x100, 4)], 0x0, 0x0, 0x0, 0x0, false, 0x0, .direct⟩,  -- REC_STATe
  ⟨0x40518008, [(0x100, 4), (0x4, 2)], 0x0, 0x0, 0x0, 0x0, false, 0x0, .direct⟩,  -- REC_TPOS_LO
  ⟨0x40518010, [(0x100, 4), (0x4, 2)], 0x0, 0x0, 0x0, 0x0, false, 0x0, .direct⟩,  -- REC_TTIME_LO
  ⟨0x40518018, [(0x100, 4), (0x4, 2)], 0x0, 0x0, 0x0, 0x0, false, 0x0, .direct⟩,  -- REC_FRAMES_LO
  ⟨0x40518020, [(0x100, 4)], 0x0, 0x0, 0x0, 0x0, true, 0x0, .direct⟩,  -- REC_FRAMES_WRAPe
  ⟨0x40518024, [(0x100, 4)], 0x0, 0x0, 0x0, 0x0, true, 0x0, .direct⟩,  -- REC_TRIG_CNTe
  ⟨0x40518028, [(0x100, 4)], 0x0, 0x0, 0x0, 0x0, true, 0x0, .direct⟩,  -- REC_GAP_CNTe
  ⟨0x4051802C, [(0x100, 4)], 0x0, 0x0, 0x0, 0x0, true, 0x0, .direct⟩,  -- REC_MISS_CNTe
  ⟨0x40518030, [(0x100, 4)], 0x0, 0x0, 0x0, 0x0, false, 0x0, .direct⟩,  -- REC_HLVLe
  ⟨0x40518034, [(0x100, 4)], 0x0, 0x0, 0x0, 0x0, false, 0x0, .direct⟩,  -- REC_CNT_OVFe
  ⟨0x40518800, [(0x4, 16)], 0xFFFFFFFF, 0x0, 0x0, 0x0, false, 0x0, .committed⟩  -- REC_USERw
]

/-- Ethernet and Ialos, the block at 0x4060_0000 (R374, R213), part 0. -/
def netRows0 : List RegRow := [
  ⟨0x4060F000, [(0x4, 12)], 0xFFFFFFFF, 0x0, 0x0, 0x0, false, 0x0, .steward⟩,  -- TIME_LREQ_n
  ⟨0x4060F030, [], 0x0, 0x0, 0x0, 0x1, false, 0x0, .steward⟩,  -- TIME_LREQ_GO
  ⟨0x4060F034, [], 0x0, 0x0, 0x0, 0x0, false, 0x0, .direct⟩,  -- TIME_LREQ_STAT
  ⟨0x40600000, [], 0xFF, 0x0, 0x0, 0x0, false, 0x3, .config⟩,  -- NET_CFG
  ⟨0x40600004, [], 0x0, 0x0, 0x0, 0x0, false, 0x0, .direct⟩,  -- NET_MAC_LO
  ⟨0x40600008, [], 0x0, 0x0, 0x0, 0x0, false, 0x0, .direct⟩,  -- NET_MAC_HI
  ⟨0x4060000C, [], 0x1FF, 0x0, 0x0, 0x0, false, 0x0, .config⟩,  -- NET_SITE
  ⟨0x40600010, [], 0xFFFFFFFF, 0x0, 0x0, 0x0, false, 0x0, .config⟩,  -- NET_IP0
  ⟨0x40600014, [], 0xFFFFFFFF, 0x0, 0x0, 0x0, false, 0x0, .config⟩,  -- NET_IP1
  ⟨0x40600018, [], 0x1F, 0x0, 0x0, 0x0, false, 0x17, .config⟩,  -- NET_PFX
  ⟨0x4060001C, [], 0xFFFFFFFF, 0x0, 0x0, 0x0, false, 0x0, .config⟩,  -- NET_GW
  ⟨0x40600020, [(0x4, 2)], 0x3FF03FF, 0x0, 0x0, 0x0, false, 0x0, .config⟩,  -- NET_PHYLATn
  ⟨0x40600030, [], 0xFFFFFF01, 0x0, 0x0, 0x0, false, 0xFFFF0001, .config⟩,  -- TIME_PTP_CFG
  ⟨0x40600034, [], 0xFFFFFFFF, 0x0, 0x0, 0x0, false, 0x64000A, .config⟩,  -- TIME_SERVO
  ⟨0x40600038, [], 0xFFFFFFFF, 0x0, 0x0, 0x0, false, 0x5003E8, .config⟩,  -- TIME_LIMS
  ⟨0x40608000, [], 0x0, 0x0, 0x0, 0x0, false, 0x0, .direct⟩,  -- TIME_NOW_LO
  ⟨0x40608004, [], 0x0, 0x0, 0x0, 0x0, false, 0x0, .direct⟩,  -- TIME_NOW_HI
  ⟨0x40608008, [], 0x0, 0x0, 0x0, 0x0, false, 0x66666666, .direct⟩,  -- TIME_INC_LO
  ⟨0x4060800C, [], 0x0, 0x0, 0x0, 0x0, false, 0x6, .direct⟩,  -- TIME_INC_HI
  ⟨0x40608010, [], 0x0, 0x0, 0x0, 0x0, false, 0x0, .direct⟩,  -- TIME_STAT
  ⟨0x40608014, [], 0x0, 0x0, 0x0, 0x0, false, 0x0, .direct⟩,  -- TIME_OFFSET
  ⟨0x40608018, [], 0x0, 0x0, 0x0, 0x0, false, 0x0, .direct⟩,  -- TIME_RATE
  ⟨0x4060801C, [(0x4, 2)], 0x0, 0x0, 0x0, 0x0, false, 0x0, .direct⟩,  -- TIME_PDELAYn
  ⟨0x40608028, [(0x4, 2)], 0x0, 0x0, 0x0, 0x0, false, 0x0, .direct⟩,  -- TIME_STEP_AT_LO
  ⟨0x40608030, [(0x4, 2)], 0x0, 0x0, 0x0, 0x0, false, 0x0, .direct⟩,  -- TIME_STEP_AMT_LO
  ⟨0x40608038, [(0x4, 2)], 0x0, 0x0, 0x0, 0x0, false, 0x0, .direct⟩,  -- TIME_XCAP_IALOS_LO
  ⟨0x40608040, [(0x4, 2)], 0x0, 0x0, 0x0, 0x0, false, 0x0, .direct⟩,  -- TIME_XCAP_EDGE_LO
  ⟨0x40608048, [], 0x0, 0x0, 0x0, 0x0, true, 0x0, .direct⟩,  -- TIME_WRAP
  ⟨0x4060804C, [], 0x0, 0x0, 0x0, 0x0, true, 0x0, .direct⟩,  -- TIME_SYNC_LOSS_CNT
  ⟨0x40608050, [(0x4, 2)], 0x0, 0x0, 0x0, 0x0, true, 0x0, .direct⟩  -- ETH_RXDROP_CNTn
]

/-- Ethernet and Ialos, the block at 0x4060_0000 (R374, R213), part 1. -/
def netRows1 : List RegRow := [
  ⟨0x40608058, [(0x4, 2)], 0x0, 0x0, 0x0, 0x0, true, 0x0, .direct⟩,  -- PRP_MISS_CNTn
  ⟨0x40608060, [], 0x0, 0x0, 0x0, 0x0, false, 0x0, .direct⟩,  -- NET_CNT_OVF
  ⟨0x40608064, [], 0x0, 0x0, 0x0, 0x0, false, 0x0, .direct⟩  -- ETH_LINK
]

/-- Ethernet and Ialos (R374, R213). -/
def netRows : List RegRow := netRows0 ++ netRows1

/-- CAN FD, the block at 0x4061_0000 (R374). -/
def canRows : List RegRow := [
  ⟨0x40610000, [(0x100, 2)], 0x333, 0x0, 0x0, 0x0, false, 0x0, .config⟩,  -- CAN_CFGc
  ⟨0x40610004, [(0x100, 2)], 0x1FFFFFFF, 0x0, 0x0, 0x0, false, 0x0, .config⟩,  -- CAN_TRXIDc
  ⟨0x40610008, [(0x100, 2)], 0x1FFFFFFF, 0x0, 0x0, 0x0, false, 0x0, .config⟩,  -- CAN_TTXIDc
  ⟨0x40618000, [(0x100, 2)], 0x0, 0x0, 0x0, 0x0, false, 0x0, .direct⟩,  -- CAN_STATc
  ⟨0x40618004, [(0x100, 2)], 0x0, 0x0, 0x0, 0x0, true, 0x0, .direct⟩,  -- CAN_BUSOFF_CNTc
  ⟨0x40618008, [(0x100, 2)], 0x0, 0x0, 0x0, 0x0, true, 0x0, .direct⟩,  -- CAN_RXLOST_CNTc
  ⟨0x4061800C, [(0x100, 2)], 0x0, 0x0, 0x0, 0x0, false, 0x0, .direct⟩  -- CAN_CNT_OVFc
]

/-- Filut, the block at 0x4070_0000 (R399). -/
def redRows : List RegRow := [
  ⟨0x40700000, [], 0x1F7, 0x0, 0x0, 0x0, false, 0x44, .config⟩,  -- RED_CFG
  ⟨0x40700004, [], 0xFFFFFFFF, 0x0, 0x0, 0x0, false, 0x3E803E8, .config⟩,  -- RED_SYNC
  ⟨0x40700008, [], 0xFFF3FFF, 0x0, 0x0, 0x0, false, 0xA01F4, .config⟩,  -- RED_TIMES
  ⟨0x40708000, [], 0x0, 0x0, 0x0, 0x0, false, 0x0, .direct⟩,  -- RED_STAT
  ⟨0x40708004, [], 0x0, 0x0, 0x0, 0xFFFFFFFF, false, 0x0, .steward⟩,  -- RED_CTRL
  ⟨0x40708008, [], 0x0, 0x0, 0x0, 0x0, false, 0x0, .direct⟩,  -- RED_MATCH
  ⟨0x4070800C, [], 0x0, 0x0, 0x0, 0x0, false, 0x0, .direct⟩,  -- RED_OFFSET
  ⟨0x40708010, [], 0x0, 0x0, 0x0, 0x0, false, 0x0, .direct⟩,  -- RED_IMG_CYCLE
  ⟨0x40708014, [], 0x0, 0x0, 0x0, 0x0, false, 0x0, .direct⟩,  -- RED_DIAG
  ⟨0x40708018, [], 0x0, 0x0, 0x0, 0x0, false, 0x0, .direct⟩,  -- RED_TX_CNT
  ⟨0x4070801C, [], 0x0, 0x0, 0x0, 0x0, true, 0x0, .direct⟩,  -- RED_TX_WRAP
  ⟨0x40708020, [], 0x0, 0x0, 0x0, 0x0, true, 0x0, .direct⟩,  -- RED_CRC_CNT
  ⟨0x40708024, [], 0x0, 0x0, 0x0, 0x0, true, 0x0, .direct⟩,  -- RED_GAP_CNT
  ⟨0x40708028, [], 0x0, 0x0, 0x0, 0x0, true, 0x0, .direct⟩,  -- RED_LATE_CNT
  ⟨0x4070802C, [], 0x0, 0x0, 0x0, 0x0, true, 0x0, .direct⟩,  -- RED_HANDOVER_CNT
  ⟨0x40708030, [], 0x0, 0x0, 0x0, 0x0, false, 0x0, .direct⟩,  -- RED_CNT_OVF
  ⟨0x40708034, [], 0x0, 0x0, 0x0, 0x0, false, 0x0, .direct⟩,  -- RED_HO_TIME_LO
  ⟨0x40708038, [], 0x0, 0x0, 0x0, 0x0, false, 0x0, .direct⟩  -- RED_HO_TIME_HI
]

/-- Bridle, the block at 0x4080_0000 (R261). -/
def brdRows : List RegRow := [
  ⟨0x40800000, [(0x4, 8)], 0x0, 0x0, 0xFF3F01FF, 0x0, false, 0xF3F0032, .config⟩,  -- BRD_SA_CFGp
  ⟨0x40800020, [], 0x0, 0x0, 0x71F, 0x0, false, 0x702, .config⟩,  -- BRD_GCFG
  ⟨0x40800024, [], 0x0, 0x0, 0x3FFF, 0x0, false, 0x1F4, .config⟩,  -- BRD_STOP1
  ⟨0x40800028, [], 0x0, 0x0, 0x7F07FF, 0x0, false, 0x32003C, .config⟩,  -- BRD_DEGR
  ⟨0x4080002C, [], 0x0, 0x0, 0x8F3F0000, 0x0, false, 0xF3F0000, .config⟩,  -- BRD_IMD_CFG
  ⟨0x40800030, [], 0x0, 0x0, 0x3FFF07FF, 0x0, false, 0x7D00064, .config⟩,  -- BRD_IMD_T
  ⟨0x40800034, [], 0x0, 0x0, 0x800000FF, 0x0, false, 0x0, .config⟩,  -- BRD_LOCK_CFG
  ⟨0x40800040, [(0x4, 4)], 0x0, 0x0, 0xF8F301FF, 0x0, false, 0x38F30064, .config⟩,  -- BRD_K_CFGk
  ⟨0x40800050, [], 0x0, 0x0, 0xFFFFFF, 0x0, false, 0xF0FFFF, .config⟩,  -- BRD_PERM_CFG
  ⟨0x40800060, [], 0x0, 0x0, 0x0, 0x0, false, 0x6330D6C9, .direct⟩,  -- BRD_CFG_CRC
  ⟨0x40808000, [], 0x0, 0x0, 0x0, 0x0, false, 0x0, .direct⟩,  -- BRD_STAT
  ⟨0x40808004, [], 0x0, 0x0, 0x0, 0x0, false, 0x0, .direct⟩,  -- BRD_SA_STAT
  ⟨0x40808008, [], 0x0, 0x0, 0x0, 0x0, false, 0x0, .direct⟩,  -- BRD_OUT_STAT
  ⟨0x4080800C, [], 0xF, 0x0, 0x0, 0x0, false, 0x0, .committed⟩,  -- BRD_KREQ
  ⟨0x40808010, [], 0x0, 0x0, 0x0, 0x0, false, 0x0, .direct⟩,  -- BRD_DEGR_REM
  ⟨0x40808014, [], 0x0, 0x0, 0x0, 0x0, false, 0x0, .direct⟩,  -- BRD_PERMIT
  ⟨0x40808018, [], 0x0, 0x0, 0x0, 0x0, false, 0x0, .direct⟩,  -- BRD_EVT_TIME_LO
  ⟨0x4080801C, [], 0x0, 0x0, 0x0, 0x0, false, 0x0, .direct⟩,  -- BRD_EVT_TIME_HI
  ⟨0x40808020, [], 0x0, 0x0, 0x0, 0x0, true, 0x0, .direct⟩,  -- BRD_DEMAND_CNT
  ⟨0x40808024, [], 0x0, 0x0, 0x0, 0x0, true, 0x0, .direct⟩,  -- BRD_DEGR_CNT
  ⟨0x40808028, [], 0x0, 0x0, 0x0, 0x0, true, 0x0, .direct⟩,  -- BRD_RESET_CNT
  ⟨0x4080802C, [], 0x0, 0x0, 0x0, 0x0, false, 0x0, .direct⟩  -- BRD_CNT_OVF
]

/-- Thermal model, the block at 0x4090_0000 (R304), part 0. -/
def thRows0 : List RegRow := [
  ⟨0x40900000, [], 0xFF07, 0x0, 0x0, 0x0, false, 0xFF06, .config⟩,  -- TH_CFG
  ⟨0x40900004, [], 0xFFFFFFFF, 0x0, 0x0, 0x0, false, 0x2710, .config⟩,  -- TH_R25
  ⟨0x40900008, [], 0xFFFFFFFF, 0x0, 0x0, 0x0, false, 0xD6B, .config⟩,  -- TH_BETA
  ⟨0x4090000C, [], 0xFFFF, 0x0, 0x0, 0x0, false, 0x80, .config⟩,  -- TH_XCHK
  ⟨0x40900010, [], 0xFFFFFFFF, 0x0, 0x0, 0x0, false, 0x5000640, .config⟩,  -- TH_NTCLIM
  ⟨0x40900014, [], 0xFFFFFFFF, 0x0, 0x0, 0x0, false, 0x6400730, .config⟩,  -- TH_DIOLIM
  ⟨0x40900040, [(0x4, 24)], 0xFF, 0x0, 0x0, 0x0, false, 0xFF, .config⟩,  -- TH_LEGn
  ⟨0x409000A0, [(0x4, 16)], 0xFF, 0x0, 0x0, 0x0, false, 0xFF, .config⟩,  -- TH_NBRk
  ⟨0x40900100, [(0x100, 4)], 0xFFFFFFFF, 0x0, 0x0, 0x0, false, 0x7D007D0, .config⟩,  -- TH_SCALEh
  ⟨0x40900104, [(0x100, 4)], 0x3FFFFFF, 0x0, 0x0, 0x0, false, 0x3E8FFFF, .config⟩,  -- TH_VDCh
  ⟨0x40900108, [(0x100, 4)], 0xFFFFFFFF, 0x0, 0x0, 0x0, false, 0x38403E8, .config⟩,  -- TH_EREFh
  ⟨0x4090010C, [(0x100, 4)], 0xFFFFFFFF, 0x0, 0x0, 0x0, false, 0x0, .config⟩,  -- TH_EONh
  ⟨0x40900110, [(0x100, 4)], 0xFFFFFFFF, 0x0, 0x0, 0x0, false, 0x0, .config⟩,  -- TH_EOFFh
  ⟨0x40900120, [(0x100, 4), (0x4, 8)], 0xFFFFFFFF, 0x0, 0x0, 0x0, false, 0x0, .config⟩,  -- TH_VTh_p
  ⟨0x40900140, [(0x100, 4), (0x4, 4)], 0xFFFFFFFF, 0x0, 0x0, 0x0, false, 0x0, .config⟩,  -- TH_FRh_k
  ⟨0x40900150, [(0x100, 4), (0x4, 4)], 0xFFFFFFFF, 0x0, 0x0, 0x0, false, 0xF4240, .config⟩,  -- TH_FTh_k
  ⟨0x40900160, [(0x100, 4)], 0xFFFFFFFF, 0x0, 0x0, 0x0, false, 0x0, .config⟩,  -- TH_HSRh
  ⟨0x40900164, [(0x100, 4)], 0xFFFFFFFF, 0x0, 0x0, 0x0, false, 0x3C, .config⟩,  -- TH_HSTh
  ⟨0x40900168, [(0x100, 4)], 0xFFFFFFFF, 0x0, 0x0, 0x0, false, 0x96008C0, .config⟩,  -- TH_TJLIMh
  ⟨0x4090016C, [(0x100, 4)], 0xFFFF, 0x0, 0x0, 0x0, false, 0x780, .config⟩,  -- TH_TJRSTh
  ⟨0x40908000, [], 0x0, 0x0, 0x0, 0x0, false, 0x0, .direct⟩,  -- TH_STAT
  ⟨0x40908004, [], 0x0, 0x0, 0x0, 0xF, false, 0x0, .steward⟩,  -- TH_RESTART
  ⟨0x40908008, [], 0x0, 0x0, 0x0, 0x0, false, 0x0, .direct⟩,  -- TH_NTC_BRK
  ⟨0x4090800C, [], 0x0, 0x0, 0x0, 0x0, false, 0x0, .direct⟩,  -- TH_WARN
  ⟨0x40908010, [], 0x0, 0x0, 0x0, 0x0, false, 0x0, .direct⟩,  -- TH_XTAL_CORR
  ⟨0x40908014, [], 0x0, 0x0, 0x0, 0x0, false, 0x0, .direct⟩,  -- TH_REFC_V
  ⟨0x40908018, [], 0x0, 0x0, 0x0, 0x0, false, 0x0, .direct⟩,  -- TH_REFC_I
  ⟨0x40908020, [], 0x0, 0x0, 0x0, 0x0, true, 0x0, .direct⟩,  -- TH_BROKEN_CNT
  ⟨0x40908024, [], 0x0, 0x0, 0x0, 0x0, true, 0x0, .direct⟩,  -- TH_SD_CNT
  ⟨0x40908028, [], 0x0, 0x0, 0x0, 0x0, true, 0x0, .direct⟩  -- TH_STALE_CNT
]

/-- Thermal model, the block at 0x4090_0000 (R304), part 1. -/
def thRows1 : List RegRow := [
  ⟨0x4090802C, [], 0x0, 0x0, 0x0, 0x0, false, 0x0, .direct⟩,  -- TH_CNT_OVF
  ⟨0x40908100, [(0x4, 24)], 0x0, 0x0, 0x0, 0x0, false, 0x0, .direct⟩,  -- TH_TJn
  ⟨0x40908180, [(0x4, 24)], 0x0, 0x0, 0x0, 0x0, false, 0x0, .direct⟩,  -- TH_PLOSSn
  ⟨0x40908200, [(0x4, 16)], 0x0, 0x0, 0x0, 0x0, false, 0x0, .direct⟩,  -- TH_NTCk
  ⟨0x40908240, [(0x4, 16)], 0x0, 0x0, 0x0, 0x0, false, 0x0, .direct⟩,  -- TH_NTCMk
  ⟨0x40908280, [(0x4, 8)], 0x0, 0x0, 0x0, 0x0, false, 0x0, .direct⟩  -- TH_DIOd
]

/-- Thermal model (R304). -/
def thRows : List RegRow := thRows0 ++ thRows1

/-- Metrology mailbox, the block at 0x40A0_0000 (R236). -/
def mbxRows : List RegRow := [
  ⟨0x40A00000, [], 0x0, 0x0, 0x0, 0x0, false, 0x0, .direct⟩,  -- MBX_GEN
  ⟨0x40A00004, [], 0x0, 0x0, 0x0, 0x0, false, 0x0, .direct⟩,  -- MBX_STAT
  ⟨0x40A00008, [], 0x0, 0x0, 0x0, 0x0, false, 0x0, .direct⟩,  -- MBX_TIME_LO
  ⟨0x40A0000C, [], 0x0, 0x0, 0x0, 0x0, false, 0x0, .direct⟩,  -- MBX_TIME_HI
  ⟨0x40A00010, [], 0x0, 0x0, 0x0, 0x0, false, 0x0, .direct⟩,  -- MBX_REQ_ACK
  ⟨0x40A00014, [], 0x0, 0x0, 0x0, 0x0, false, 0x0, .direct⟩,  -- MBX_LOG_USED
  ⟨0x40A00018, [], 0x0, 0x0, 0x0, 0x0, false, 0x0, .direct⟩,  -- MBX_REC_SEQ_LO
  ⟨0x40A0001C, [], 0x0, 0x0, 0x0, 0x0, false, 0x0, .direct⟩,  -- MBX_REC_SEQ_HI
  ⟨0x40A00020, [], 0x0, 0x0, 0x0, 0x0, false, 0x0, .direct⟩,  -- MBX_REC_FREE
  ⟨0x40A00028, [], 0x0, 0x0, 0x0, 0x0, false, 0x0, .direct⟩,  -- MBX_CH_MASK
  ⟨0x40A0002C, [], 0x0, 0x0, 0x0, 0x0, false, 0x0, .direct⟩,  -- MBX_REFUSED_CNT
  ⟨0x40A00030, [], 0x0, 0x0, 0x0, 0x0, false, 0x0, .direct⟩,  -- MBX_INTR_CNT
  ⟨0x40A00034, [], 0x0, 0x0, 0x0, 0x0, false, 0x0, .direct⟩,  -- MBX_SEAL0_CNT
  ⟨0x40A00038, [], 0x0, 0x0, 0x0, 0x0, false, 0x0, .direct⟩,  -- MBX_STAT2
  ⟨0x40A0003C, [], 0x0, 0x0, 0x0, 0x0, false, 0x0, .direct⟩,  -- MBX_FW_VER
  ⟨0x40A00040, [(0x4, 8)], 0x0, 0x0, 0x0, 0x0, false, 0x0, .direct⟩,  -- MBX_FW_HASH
  ⟨0x40A00060, [(0x4, 16)], 0x0, 0x0, 0x0, 0x0, false, 0x0, .direct⟩,  -- MBX_PUBKEY
  ⟨0x40A00100, [(0x80, 4)], 0x0, 0x0, 0x0, 0x0, false, 0x0, .direct⟩,  -- MP_STATm
  ⟨0x40A00104, [(0x80, 4)], 0x0, 0x0, 0x0, 0x0, false, 0x0, .direct⟩,  -- MP_SEQm
  ⟨0x40A00108, [(0x80, 4), (0x8, 6), (0x4, 2)], 0x0, 0x0, 0x0, 0x0, false, 0x0, .direct⟩,  -- MP_REGm_r_LO
  ⟨0x40A00138, [(0x80, 4), (0x4, 2)], 0x0, 0x0, 0x0, 0x0, false, 0x0, .direct⟩,  -- MP_Pm
  ⟨0x40A00140, [(0x80, 4), (0x4, 3)], 0x0, 0x0, 0x0, 0x0, false, 0x0, .direct⟩,  -- MP_Vm
  ⟨0x40A00150, [(0x80, 4), (0x4, 6)], 0x0, 0x0, 0x0, 0x0, false, 0x0, .direct⟩  -- MP_SIDm
]

/-- The rows of the block that holds an address, by its upper 16 bits (R20). -/
def blockRows (a : Nat) : List RegRow :=
  match a / 0x10000 with
  | 0x4000 => sysRows
  | 0x4001 => clkRows
  | 0x4002 => pwrRows
  | 0x4010 => modRows
  | 0x4011 => decRows
  | 0x4012 => rsmRows
  | 0x4013 => hkRows
  | 0x4020 => shedRows
  | 0x4021 => edgeRows
  | 0x4022 => primRows
  | 0x4030 => gateRows
  | 0x4040 => loomRows
  | 0x4050 => dmaRows
  | 0x4051 => recRows
  | 0x4060 => netRows
  | 0x4061 => canRows
  | 0x4070 => redRows
  | 0x4080 => brdRows
  | 0x4090 => thRows
  | 0x40A0 => mbxRows
  | _ => []

/-- The row of the register at an address, if the block lists one there. -/
def row? (a : Nat) : Option RegRow := (blockRows a).find? (fun r => r.has a)

/-- The four stored indices of `HK_SEQk` at reset: slots 4k to 4k + 3 name inputs 4k to 4k + 3 (R60). -/
def hkSeqReset (k : Nat) : Nat :=
  4 * k + (4 * k + 1) * 0x100 + (4 * k + 2) * 0x10000 + (4 * k + 3) * 0x1000000

/-- The share of read requests that bobbin b holds at reset (R283, R286). -/
def bobQuotaReset (b : Nat) : Nat :=
  if 2 ≤ b ∧ b ≤ 5 then 8 else if 6 ≤ b ∧ b ≤ 9 then 4 else 2

/-- The reset value of the register at an address. An address with no register reads zero (R8). -/
def resetValue (a : Nat) : Word :=
  if a = 0x40000000 then (if Config.orderE then 0x08020000 else 0x08010000)
  else if a = 0x40000004 then Config.serialLo
  else if a = 0x40000008 then Config.serialHi
  else if 0x40130100 ≤ a ∧ a < 0x40130140 then BitVec.ofNat 32 (hkSeqReset ((a - 0x40130100) / 4))
  else if 0x40202000 ≤ a ∧ a < 0x40202100 ∧ (a - 0x40202000) % 0x40 = 0x30 then 0x02020101
  else if 0x40122000 ≤ a ∧ a < 0x40124000 ∧ a % 4 = 0 then Config.g5kWord ((a - 0x40122000) / 4)
  else if 0x40500108 ≤ a ∧ a < 0x40500208 ∧ (a - 0x40500108) % 16 = 0 then
    BitVec.ofNat 32 (256 * bobQuotaReset ((a - 0x40500108) / 16))
  else if a = 0x40600004 then Config.macLo
  else if a = 0x40600008 then Config.macHi
  else if a = 0x40127000 then Config.g5kCrc
  else if a = 0x40127004 then 0x90444623
  else match row? a with
    | some r => BitVec.ofNat 32 r.reset
    | none => 0

end RegMap

end Sys2Proof.Machine
end

