-- ==== Sys2Proof/Machine/Sparse.lean ====
section
/-! DEFINITION. Sparse data by key: a list of keys and values in one canonical form, the keys strictly
rising and no entry equal to what an unlisted key reads as. The register file, the configuration
shadows, the field values and the memories all have this form. -/

namespace Sys2Proof.Machine.Sparse

variable {α : Type}

/-- The listed value of a key. -/
def find (k : Nat) : List (Nat × α) → Option α
  | [] => none
  | (j, v) :: l => if j = k then some v else find k l

/-- The list without the entry of key `k`. -/
def erase (k : Nat) : List (Nat × α) → List (Nat × α)
  | [] => []
  | (j, v) :: l => if j = k then erase k l else (j, v) :: erase k l

/-- The list with key `k` holding `v`, in its place in the rising order. -/
def insert (k : Nat) (v : α) : List (Nat × α) → List (Nat × α)
  | [] => [(k, v)]
  | (j, w) :: l =>
    if k < j then (k, v) :: (j, w) :: l
    else if k = j then (k, v) :: l
    else (j, w) :: insert k v l

/-- The value key `k` reads as, `dflt` being what an unlisted key reads as. -/
def read (dflt : α) (l : List (Nat × α)) (k : Nat) : α := (find k l).getD dflt

/-- The list after key `k` is written with `v`: writing what an unlisted key reads as removes the
entry, so that equal contents are equal lists. -/
def write [DecidableEq α] (dflt : α) (l : List (Nat × α)) (k : Nat) (v : α) : List (Nat × α) :=
  if v = dflt then erase k l else insert k v l

/-- The keys rise strictly. -/
def rising : List (Nat × α) → Bool
  | [] => true
  | [_] => true
  | (j, _) :: (k, w) :: l => decide (j < k) && rising ((k, w) :: l)

/-- The canonical form: keys strictly rising and no entry equal to what its key reads as unlisted. -/
def wf [DecidableEq α] (dflt : Nat → α) (l : List (Nat × α)) : Bool :=
  rising l && l.all (fun e => decide (e.2 ≠ dflt e.1))

end Sys2Proof.Machine.Sparse
end

