-- ==== Sys2Proof/Machine/State.lean ====
section
/-! DEFINITION. The state of the W8-48 as plain data. What a register of the map shows has its one home
in the register file `regs`; a structure below holds what the spec gives a block beyond its registers.
Times are instants in units of 50 ps, the scale of `EDGE_NOW` (R122). -/

namespace Sys2Proof.Machine

open Sys2Proof

/-! ### System, bus and always-on state -/

/-- A record of the event log on bobbin B12: what happened, one number that tells which instance, and
the Ialos time. The spec names the events and gives no layout of their 64 bytes. -/
structure Event where
  kind : EventKind
  arg  : Nat
  time : Nat
deriving DecidableEq, Repr

/-- The reservation a core holds for `LR` and `SC`: an 8-byte granule (R30). -/
abbrev Reservation := Option Nat

/-- A shuttle core (R185, R186): its control registers, the instant at which `mcycle` read 0, its general and
floating-point registers, and whether it is in reset or halted. `mhartid` is the core's number; no values are given
for `misa`, `mvendorid`, `marchid` and `mimpid`, which nothing changes. -/
structure CoreCsr where
  mstatus : Word
  mie     : Word
  mip     : Word
  mtvec   : Word
  mepc    : Word
  mcause  : Word
  mtval   : Word
  mscratch : Word
  cycleAt : Nat
  minstret : DWord
  fcsr    : Word
  pc      : Word
  xs      : Vector Word 32
  fs      : Vector Word 32
  halted  : Bool
deriving DecidableEq, Repr

/-- A core in reset: every register zero (DESIGN CHOICE: the spec gives no values). -/
def CoreCsr.reset : CoreCsr :=
  { mstatus := 0, mie := 0, mip := 0, mtvec := 0, mepc := 0, mcause := 0, mtval := 0, mscratch := 0, cycleAt := 0,
    minstret := 0, fcsr := 0, pc := 0, xs := Vector.replicate 32 0, fs := Vector.replicate 32 0, halted := true }

/-- `mcycle` at an instant: the cycles of CKC, of 1.6 ns, since `cycleAt` (R185, R186). -/
def CoreCsr.mcycle (x : CoreCsr) (t : Nat) : DWord := BitVec.ofNat 64 ((t - x.cycleAt) / 32)

/-- Supplies, sleep, reset and start-up state of the power block and of PD0 (R401 to R415): whether `VIN` is
valid and since when; the start of the power-fail sequence, whether `VIN` has come back in it, and how far it has
gone; whether the hold-up store is exhausted and `VBAK` was lost; whether a start-up is under way, the kind and the
instant of a reset that waits for the ledger, the level of a sleep entry under way and a wake that waits for its
end; the start of a PD11 cycle, the RTC with its instant, and the
excursions of R405 (the readings outside by input, the inputs out, whether a whole round with the stored entries
was clean). -/
structure Power where
  vinValid    : Bool
  startAt     : Nat
  vinfAt      : Option Nat
  vinBack     : Bool
  graceDone   : Bool
  shedDone    : Bool
  finalDone   : Bool
  storeEmpty  : Bool
  vbakLost    : Bool
  starting    : Bool
  resetReq    : Option (Nat × Nat)
  sleepEntry  : Option Nat
  wakePending : Bool
  pd11OffAt   : Option Nat
  rtcSeconds  : Nat
  rtcNanos    : Nat
  rtcAt       : Nat
  monRun      : List (Nat × Nat)
  monRoundOk  : Bool
deriving DecidableEq, Repr

/-- One seal loop as PD0 measures it (R438): whether it reads open, how many consecutive readings in the
window preceded, and the latch of any open reading. -/
structure SealLoop where
  openNow : Bool
  run     : Nat
  latch   : Bool
deriving DecidableEq, Repr

/-- The clock block beyond its registers (R423 to R428). -/
structure Clock where
  firstLock  : Option Nat
  lossAt     : Option Nat
  holdFrom   : Option Nat
  acquiring  : Bool
  trimUsed   : Int
deriving DecidableEq, Repr

/-! ### Measurement -/

/-- A modulator channel's received bits, newest first, since the last restart of its paths, and how many
bits have come since the restart of all paths and of the precision path (R78, R79). `good` counts the
consecutive fast words that carried neither `INV` nor `UNS` (R143). Bits before the
first of the list are the alternating zero-density pattern. `goodFast` and `goodMed` are the last valid
words (R289), `refComp` and `refNext` the reference correction in use and the one that the next T0 boundary puts in use, in
ppb (R296), and `precIndex` the index of the last precision word. -/
structure Channel where
  bits      : List Bool
  since     : Nat
  precSince : Nat
  good      : Nat
  stuckAt   : Option Nat
  lastFast  : Option Nat
  lastPrec  : Option Nat
  medIndex  : Option Nat
  goodFast  : Word
  goodMed   : Word
  refComp   : Int
  refNext   : Int
  precIndex : Option Nat
deriving DecidableEq, Repr

/-- The calibration engine beyond `CAL_STAT` (R63 to R67): the settling and the averaging in progress in
readings of Q1.30, the origin of the entry being written, whether a converter reading is wanted, and whether
the journalled write is complete. -/
structure CalEngine where
  settleTill : Option Nat
  cmdAt      : Nat
  count      : Nat
  sum        : Int
  least      : Int
  most       : Int
  zeroSpread : Nat
  origin     : Nat
  wants      : Bool
  written    : Bool
deriving DecidableEq, Repr

/-- A calibration entry committed to MRAM and waiting for the T0 boundary at which it passes into use
(R67). -/
structure CalPass where
  entry  : Nat
  offset : Word
  gain   : Word
  info   : Word
deriving DecidableEq, Repr

/-- The housekeeping converter beyond its registers (R54 to R59): the sequence of the round in progress, its
slot, whether a round and a regular conversion are in progress, the slot of the injected sequence that runs,
whether it is the calibration engine's, the mode of the conversion in progress, the instant of each input's
last regular result, whether the stored entries are loaded, and the recovery of R57. -/
structure Housekeeping where
  seq        : List Nat
  slot       : Nat
  inRound    : Bool
  regular    : Bool
  injected   : Option Nat
  injList    : List Nat
  calRun     : Bool
  queuedList : List Nat
  lowPower   : Bool
  roundWaits : Bool
  lastDone   : List (Nat × Nat)
  calLoaded  : Bool
  calRound   : Bool
  recovering : Bool
deriving DecidableEq, Repr

/-! ### Resampler -/

/-- One resampler lane: its last precision words with their indices, newest first, and the least index that
does not come before the last event that leaves outputs unsettled (R86). -/
structure Lane where
  words : List (Nat × Word)
  since : Nat
deriving DecidableEq, Repr

/-- The resampler beyond its registers (R82 to R89). Positions and ratios have 32 fraction bits and count
precision words; `newest` is the index of the last word the lanes took, `index` the index of the next
output in its cycle, `measFreq` the measured frequency in Q16.16, `crossings` the positions of the measuring
lane's crossings, newest first, `peak` and `peakWas` its largest magnitude since the last crossing and
before it, and `kfreqAt` the instant of the last kernel commit. -/
structure Resampler where
  pos        : Nat
  ratio      : Nat
  index      : Nat
  goodCycles : Nat
  fadeLen    : Nat
  fadeLeft   : Nat
  switchReq  : Bool
  paused     : Bool
  srcChange  : Bool
  measFreq   : Nat
  crossings  : List Nat
  peak       : Nat
  peakWas    : Nat
  newest     : Nat
  kfreqAt    : Option Nat
  lanes      : Vector Lane 12
deriving DecidableEq, Repr

/-! ### Shed units, injectors and primitives -/

/-- A step placed and waiting for its tap (R103); `start` marks the start step of R110. -/
structure PendingStep where
  up     : Bool
  target : Nat
  tap    : Nat
  lat    : Nat
  start  : Bool
deriving DecidableEq, Repr

/-- One fast word as a master unit keeps it for the slope (R101): the error, the terminal instant it
describes and whether it carried `OVL`, `CLIP` or `UNS`. -/
structure ErrorWord where
  err   : Int
  tau   : Int
  dirty : Bool
deriving DecidableEq, Repr

/-- The reference generator of a unit (R99): the value held, the linear move in progress and the FIFO,
oldest entry first. -/
structure RefGen where
  g        : Int
  fromVal  : Int
  toVal    : Int
  moveFrom : Nat
  moveTo   : Nat
  moving   : Bool
  active   : Bool
  due      : Option (Nat × Int)
  fifo     : List Int
deriving DecidableEq, Repr

/-- A shed unit beyond its registers (R95 to R112). -/
structure ShedUnit where
  lastUp    : Option Bool
  upTap     : Option Nat
  pending   : Option PendingStep
  quiet     : Int
  lastOn    : Nat
  errors    : List ErrorWord
  gen       : RefGen
  edges     : List (Nat × Nat)
  prevEdge  : Nat
  waitStart : Option Nat
  refOut    : Int
  injOut    : Int
  measured  : Int
  lastTap   : Nat
deriving DecidableEq, Repr

/-- A test-signal injector (R114, R115): the instant of its sample 0. -/
structure Injector where
  startAt : Option Nat
deriving DecidableEq, Repr

/-- The set-point inputs `SETA` and `SETP` (R100). -/
structure SetPoint where
  riseAt   : Option Nat
  setaLost : Bool
  setpLost : Bool
deriving DecidableEq, Repr

/-- A CORDIC rotator that is busy: the command, its operands and the instant it was given (R119). -/
structure Cordic where
  busy : Option (Nat × Nat)
  x    : Word
  y    : Word
  ang  : Word
deriving DecidableEq, Repr

/-- An integrator unit's previous input (R118). -/
structure Integrator where
  prevIn : Word
deriving DecidableEq, Repr

/-- A sequence decomposer (R120): its history of α and β, newest first, the angle and the end of `UNS`. -/
structure Decomposer where
  hist    : List (Int × Int)
  theta   : Nat
  freq    : Nat
  unsTill : Nat
  outputs : Option (List Word)
deriving DecidableEq, Repr

/-! ### Gate channels, legs and harnesses -/

/-- The selvedge entry that a gate island holds (R16, R133). -/
inductive IslandEntry where
  | none
  | off
  | hiz
deriving DecidableEq, Repr

/-- A gate channel beyond `GATE_CSTATc` (R16, R107, R133 to R140, R145). -/
structure GateChan where
  entry    : IslandEntry
  supplyUp : Bool
  lastOn   : Nat
  lastOff  : Nat
  sensing  : Bool
  onAt     : Option Nat
  softFrom : Option Nat
  hizAt    : Option Nat
  entryAt  : Option Nat
deriving DecidableEq, Repr

/-- A leg beyond `GATE_LFLTn` (R108, R138, R141, R145). `causes` has bit c − 1 for each cause c that
holds the leg's group. -/
structure Leg where
  hlGood    : Nat
  hlTrip    : Bool
  ilkTill   : Nat
  leaveAt   : Option Nat
  leaveSoft : Bool
  causes    : Nat
  heldAt    : Nat
  heldFree  : Bool
  tripAt    : Option (Nat × Nat)
  row       : Nat
deriving DecidableEq, Repr

/-- A harness beyond `GATE_HSTATh` (R142 to R149). -/
structure Harness where
  selvAt      : Nat
  faultAt     : Nat
  lastRelease : Option Nat
  offDone     : Bool
  waitFrom    : Option Nat
  cleared     : Bool
  runAt       : Nat
deriving DecidableEq, Repr

/-- The selvedge table in force in the islands (R144, R147). -/
structure SelvTable where
  hiz   : Nat
  modes : Vector Bool 4
  softs : Vector Bool 4
  steps : Vector (List Word) 4
  konts : Nat
deriving DecidableEq, Repr

/-- A comparator self-test in progress (R150). -/
structure GateTest where
  kind   : Nat
  target : Nat
  since  : Nat
deriving DecidableEq, Repr

/-! ### The loom -/

/-- An entry of an image's section table (R205). -/
structure Section where
  dest     : Nat
  offset   : Nat
  length   : Nat
  zeroFill : Bool
  retained : Bool
deriving DecidableEq, Repr

/-- An entry of an image's snapshot table (R205). -/
structure SnapEntry where
  source : Nat
  cores  : Nat
  task   : Nat
deriving DecidableEq, Repr

/-- An entry of an image's object table (R198, R205). -/
structure ObjEntry where
  objId   : Nat
  kind    : Nat
  task    : Nat
  arg0    : Nat
  srcBit  : Nat
  initial : Nat
deriving DecidableEq, Repr

/-- An entry of an image's station table (R201, R205). -/
structure StationEntry where
  number    : Nat
  transport : Nat
  task      : Nat
  inWords   : Nat
  outWords  : Nat
  address   : Nat
  timeout   : Nat
deriving DecidableEq, Repr

/-- An entry of an image's state-region table (R205, R381). -/
structure StateRegion where
  base    : Nat
  length  : Nat
  classT1 : Bool
deriving DecidableEq, Repr

/-- A loom image as its header, tables and trailer give it (R205). -/
structure LoomImage where
  bank     : Nat
  length   : Nat
  full     : Bool
  t0       : Nat
  t1Mul    : Nat
  t2Mul    : Nat
  t3Wdog   : Nat
  coreMap  : Nat
  sections : List Section
  snaps    : List SnapEntry
  objects  : List ObjEntry
  stations : List StationEntry
  regions  : List StateRegion
  starts   : List Nat
  kctx     : Nat
  layout   : List Byte
  hash     : List Byte
  keySlot  : Nat
deriving DecidableEq, Repr

/-- One entry of a commit buffer: the address of a committed register and its value (R192). -/
structure CommitEntry where
  addr  : Nat
  value : Word
deriving DecidableEq, Repr

/-- One of the tasks T0 to T3 as it runs (R188 to R197): whether an instance is running, the cores that
have written `LOOM_DONE`, the T0 boundaries left to its deadline, its commit buffer, the tolerance of R197, and
the bits of `FLAGS` that its next instance carries for having been started afresh. -/
structure Task where
  active   : Bool
  released : Nat
  done     : Nat
  left     : Nat
  addr     : Word
  buffer   : List CommitEntry
  tolUsed  : Bool
  tolNext  : Bool
  extended : Bool
  tolOk    : Bool
  first    : Nat
deriving DecidableEq, Repr

/-- A loom timer beyond its registers (R199): the instant from which elapsed counts, while it counts,
the elapsed time it had then, and the preset that is in use until a new one takes effect, with that instant. -/
structure Timer where
  runFrom   : Option Nat
  base      : Nat
  presetWas : Nat
  presetAt  : Nat
deriving DecidableEq, Repr

/-- A remote station beyond its registers (R201, R202). -/
structure Station where
  lastRx    : Option Nat
  timedOut  : Bool
  down      : Bool
  lostLatch : Bool
  lostSince : Bool
  fresh     : Bool
  seqIn     : Option Nat
  seqOut    : Nat
deriving DecidableEq, Repr

/-- An overrun whose instance still runs (R196): its task, the done limit that it missed, and whether `LOOM_DONE` has
come since. -/
structure Overrun where
  task     : Nat
  limit    : Nat
  finished : Bool
deriving DecidableEq, Repr

/-- A STOP to RUN change in progress (R195): the cause code it will show, and whether the image is reloaded. -/
structure RunChange where
  cause  : Nat
  loaded : Bool
deriving DecidableEq, Repr

/-- The loom beyond its registers (R188 to R210). `latched` holds the snapshot words of the last latch
by task and core, until the release that follows it; `kernelCmd` the kernel command that waits for the next T0
snapshot and `kernelNow` the one that the running T0 instance carries (R348). -/
structure Loom where
  image      : Option LoomImage
  armed      : Option LoomImage
  change     : Option RunChange
  resume     : Bool
  tasks      : Vector Task 4
  flush3     : Bool
  kickAt     : Nat
  t3Missed   : Bool
  overrun    : Option Overrun
  suppress   : Bool
  everRun    : Bool
  lost       : Nat
  paramReq   : Bool
  paramNow   : Bool
  latchTime  : Nat
  latched    : List (Nat × Nat × List Word)
  timers     : Vector Timer 64
  edgeFirst  : List Nat
  stations   : Vector Station 16
  kernelCmd  : Option Nat
  kernelNow  : Option Nat
  overlay    : Vector Bool 4
  firstCommit : Bool
  lastD      : Nat
deriving DecidableEq, Repr
/-! ### The ledger -/

/-- An open session of a metering point (R226): its start record's number, the slot reserved for its stop
record and its identifier. -/
structure Session where
  start : Nat
  slot  : Nat
  sid   : List Byte
deriving DecidableEq, Repr

/-- A metering point as the ledger holds it (R217 to R222). `pAcc` and `qAcc` are the integrals of the
present millisecond in products of `DATA` by words, `qAcc` over 2^16; `hist` the last voltages, newest
first; `cross` the positions of element 1's crossings in words with 16 fraction bits, newest first; `since`
the instant of the last complete set of valid words; `msFlags` and `flags` the flags of R229 of the present
millisecond and of the open session. -/
structure MeterPoint where
  pAcc    : Int
  qAcc    : Int
  words   : Nat
  sumV    : Int
  sumI    : Int
  sqV     : Nat
  sqI     : Nat
  peak    : Nat
  hist    : List (List Int)
  count   : Nat
  lastV   : Option Int
  cross   : List Nat
  since   : Option Nat
  missing : Bool
  msFlags : Nat
  flags   : Nat
  session : Option Session
  energy  : Vector Nat 6
  rem     : Vector Nat 6
  sat     : Bool
  freq    : Nat
deriving DecidableEq, Repr

/-- The ledger core and the steward's side of its request feed (R213 to R240): the result of the last frame with the number of the last
record given out, the record slots by slot,
number and whether the record is written; the mask of enabled points; the counters and their overflow bits
between refreshes; the points whose next record carries `SEAL`; the firmware image stored (0 none, 1 new, 2 in
use); the frames that wait for `TIME_LREQ`. -/
structure Meter where
  ready    : Bool
  en       : Nat
  points   : Vector MeterPoint 4
  calMask  : Nat
  sets     : List (Nat × Word)
  slots    : List (Nat × Nat × Bool)
  recSeq   : Nat
  logUsed  : Nat
  saveAt   : Nat
  ack      : Nat
  ackRec   : Nat
  refused  : Nat
  intrs    : Nat
  openings : Nat
  ovf      : Nat
  sealWas  : Bool
  sealFirst : Nat
  keyGen   : Nat
  romFw    : Bool
  image    : Nat
  lastMs   : Nat
  lastMsAt : Nat
  goAt     : Nat
  seqNo    : Nat
  queue    : List (List Byte)
deriving DecidableEq, Repr


/-! ### The bridle -/

/-- What a pair was before the changes of its channels at an instant: its state, and what is kept with it. -/
structure PairBefore where
  instant  : Nat
  state    : Nat
  settled  : Bool
  clean    : Bool
  changeAt : Option Nat
deriving DecidableEq, Repr

/-- An antivalent pair beyond `BRD_SA_STAT` (R242, R243): the accepted readings of its channels, the
instant of the first of the two changes in progress, whether a settled DEMAND has been reached since it
left OK, whether it left OK through a settled DEMAND only, what it was before the latest instant at which a channel changed, and the end
of a category 1 delay. -/
structure SaPair where
  chA       : Reading
  chB       : Reading
  changeAt  : Option Nat
  settled   : Bool
  clean     : Bool
  before    : Option PairBefore
  stop1Till : Option Nat
  degraded  : Bool
deriving DecidableEq, Repr

/-- A contactor output beyond `BRD_OUT_STAT` (R246 to R249): its feedback as read, whether a close
request stands, the instant of its last change while the feedback is due, the gate block's opening
request, and since when the feedback reads open. -/
structure Contactor where
  feedback  : Reading
  request   : Bool
  carried   : Bool
  checkFrom : Option Nat
  gateOpen  : Bool
  openSince : Option Nat
  dropout   : Bool
deriving DecidableEq, Repr

/-- The bridle beyond its registers (R241 to R260): `started` once the stored configuration has passed its
check, `resetDone` once the start-up reset of R260 has been given, `request` while it acts in the request
role. -/
structure Bridle where
  pairs     : Vector SaPair 8
  konts     : Vector Contactor 4
  imd       : Reading
  imdLowAt  : Option Nat
  blankTill : Option Nat
  lock      : Reading
  started   : Bool
  resetDone : Bool
  request   : Bool
  supvGood  : Option Nat
  degrPair  : Option Nat
  degrTill  : Nat
deriving DecidableEq, Repr
/-! ### Recorder engines and bobbins -/

/-- One frame of a recorder engine (R263): the capture it belongs to, its index since arming, its instant, its
time under R265 in ns and its words. -/
structure RecFrame where
  cap   : Nat
  index : Nat
  inst  : Nat
  time  : Nat
  words : List Word
deriving DecidableEq, Repr

/-- A gap (R272): its cause, the index and the time of its first missed frame and how many were missed. -/
structure Gap where
  cause  : Nat
  index  : Nat
  frames : Nat
  time   : Nat
deriving DecidableEq, Repr

/-- A recorder engine beyond its registers (R263 to R272): the pre-trigger ring and the elastic store, oldest
first; the pending gaps and the one in progress; the last frame; the edge arming; the frames left of POST;
by capture, the trigger position, whether it was short of frames, and the index of its last frame with
whether a stop ended it; and the block in hand, its gaps and whether it is closed. -/
structure RecEngine where
  cap      : Nat
  ring     : List RecFrame
  history  : List RecFrame
  gaps     : List Gap
  missing  : Option Gap
  last     : Option RecFrame
  riseArm  : Bool
  fallArm  : Bool
  postLeft : Option Nat
  trigs    : List (Nat × Nat)
  shorts   : List Nat
  ends     : List (Nat × Nat × Bool)
  lastCap  : Option Nat
  block    : List RecFrame
  blockGap : List Gap
  blockAt  : Nat
  closed   : Bool
deriving DecidableEq, Repr

/-- A bobbin beyond its registers (R274 to R280): the data its producer holds, oldest first, the descriptor in
hand, the instant of the last fetch that found it waiting, whether it stops after the descriptor in hand, and
the return to be repeated as `STAT` and `INFO`. -/
structure Bobbin where
  queue    : List (List Byte)
  inHand   : Option Nat
  waitFrom : Nat
  stopping : Bool
  retry    : Option (Nat × Nat)
deriving DecidableEq, Repr

/-! ### The thermal model -/

/-- One leg of the thermal model: the energy of the present millisecond in fJ (R289), the Foster stages and
the heatsink stage in nK (R290, R291). -/
structure ThermalLeg where
  energy : Int
  stages : Vector Int 4
  hs     : Int
deriving DecidableEq, Repr

/-- The cross-check of one NTC: consecutive rounds outside and inside its limits (R292, R293). -/
structure NtcCheck where
  bad  : Nat
  good : Nat
deriving DecidableEq, Repr

/-- The thermal block beyond its registers: `record` holds a record that waits for the MRAM (R299), `moduleOff`
that the domains of a module shutdown are to be switched off once it is written (R298), and `refused` the
first failing condition of the last restart (R302). -/
structure Thermal where
  legs      : Vector ThermalLeg 24
  checks    : Vector NtcCheck 16
  record    : Option (List Byte)
  moduleOff : Bool
  roundEnd  : Bool
  refused   : Nat
deriving DecidableEq, Repr


/-! ### Saddle, tacks and the stack -/

/-- One field of a requested set (R309, R311): its identifier, the value as stored, where it came from (0 the
saddle, 1 to 15 a tack, 0xFF the default) and a reason that is already settled. -/
structure CfgReq where
  id     : Nat
  raw    : Word
  origin : Nat
  why    : Nat
deriving DecidableEq, Repr

/-- A change of the set in force that is under way (R316): its source of R311, the stack, and once resolved the
requested set, the fields of tacks of policy 1 and the fields withheld when it was prepared. -/
structure CfgChange where
  source   : Nat
  stack    : List Nat
  resolved : Bool
  reqs     : List CfgReq
  whole    : List Nat
  kept     : List Nat
deriving DecidableEq, Repr

/-- The steward's configuration manager (R312 to R321): whether a set has been in force since the start of PD1,
the stack in force, the degraded state with the records taken under R320, where each value in force came from,
the change under way, the tack being stored (0 the saddle) with its transactions left, the lost-report counter
and its overflow bit, the hash of R318, the requests sent to the ledger with their sequence numbers, and the
time of the apply request that waits. -/
structure Cfg where
  loaded   : Bool
  stack    : List Nat
  degraded : Bool
  taken    : List (Nat × Word)
  origins  : List (Nat × Nat)
  change   : Option CfgChange
  store    : Option (Nat × Nat)
  storeSrc : Nat
  lost     : Nat
  lostOvf  : Bool
  hash     : List Byte
  ledger   : List (Nat × CfgReq)
  applyAt  : Option Nat
deriving DecidableEq, Repr

/-! ### MRAM -/

/-- What a finished MRAM transaction settles. -/
inductive TxNote where
  | plain
  | thermal
  | energy
  | ledgerConfig
  | record (slot : Nat)
  | logbook
  | bridle
  | calCommit
  | saddleCopy (second : Bool)
  | tack (t : Nat)
  | operation
deriving DecidableEq, Repr

/-- One operation of the MRAM controller (R323): part of the journal copy, the commit word, a write of
bytes at an address of the home region, or the mark of completion. -/
inductive MramOp where
  | journal
  | commit
  | home (addr : Nat) (bytes : List Byte)
  | complete
deriving DecidableEq, Repr

/-- A journalled transaction (R323): its writer's place in the order of priority (0 the thermal record, 1
the ledger, 2 the bridle, 3 the calibration engine and the logbook writer, 4 the steward), whether its
commit word is written, whether its next operation has started, and the operations that remain. -/
structure MramTx where
  writer    : Nat
  committed : Bool
  running   : Bool
  ops       : List MramOp
  note      : TxNote
deriving DecidableEq, Repr

/-! ### Tomus -/

/-- The counts of one transport (R344): received with its wraps, discards, queue drops, authentication refusals
and repeats. -/
structure TransportStats where
  rx      : Nat
  rxWrap  : Nat
  discard : Nat
  drop    : Nat
  auth    : Nat
  repeats : Nat
deriving DecidableEq, Repr

/-- An unfinished handshake (R338): the peer, the two ephemeral keys, the nonce and its instant. -/
structure Handshake where
  peer : Peer
  qh   : List Byte
  qd   : List Byte
  nd   : List Byte
  draw : Nat
  at50 : Nat
deriving DecidableEq, Repr

/-- The last reply to a peer (R334). -/
structure Stored where
  peer   : Peer
  seq    : Nat
  opcode : Nat
  reply  : List Byte
deriving DecidableEq, Repr

/-- A session (R338 to R340): its peer, slot, role, identifier and key; the last executed request and its
reply; how many have been executed, the instant of the last and how many tags in a row were refused. -/
structure Session' where
  peer   : Peer
  slot   : Nat
  role   : Nat
  ident  : Word
  key    : List Byte
  seq    : Nat
  opcode : Nat
  reply  : List Byte
  count  : Nat
  lastAt : Nat
  bad    : Nat
deriving DecidableEq, Repr

/-- An operation that runs on after its reply (R335): its opcode, the request that started it, the slot of its
session, its progress, and its final status with the instant of completion. -/
structure LongOp where
  req      : Req
  slot     : Option Nat
  progress : Nat
  final    : Option (Nat × Nat)
deriving DecidableEq, Repr

/-- A request whose reply waits for something else: a latch or the ledger's answer. -/
structure Waiting where
  req : Req
  key : Nat
deriving DecidableEq, Repr

/-- The steward's Tomus server (R327 to R343) and its key store (R337): the queue of B0, the handshakes, the
sessions, the stored replies, least recently used last, the long operations, the requests whose replies wait,
the replies that the SPI holds, the host keys with their roles, the staging buffer, the steward's bank now and after the
next reset, and one more than the kind of the image being
written, 0 for none. -/
structure Tomus where
  stats      : Vector TransportStats 5
  b0         : List Req
  hands      : List Handshake
  sessions   : List Session'
  stored     : List Stored
  ops        : List LongOp
  waits      : List Waiting
  spiOut     : List (List Byte)
  keys       : Vector (Option (Nat × List Byte)) 8
  staging    : List Byte
  stewBank   : Nat
  stewNext   : Nat
  imgKind    : Nat
deriving DecidableEq, Repr

/-! ### Networks and time -/

/-- What an Announce offers to the best master clock algorithm (R368). -/
structure Announce where
  priority1 : Nat
  class_    : Nat
  accuracy  : Nat
  variance  : Nat
  priority2 : Nat
  identity  : Nat
  steps     : Nat
deriving DecidableEq, Repr

/-- The role of a PTP port. -/
inductive PtpRole where
  | listening
  | slave
  | master
  | passive
deriving DecidableEq, Repr

/-- A PTP port (R368, R369): its role, the best Announce with its sender and when it was heard, the number of the
messages it sends, and the departure of its last Pdelay_Req. Of a two-step Sync that waits for its Follow_Up: its
number, its timestamp and its correction in 2^-16 ns; of a two-step Pdelay_Resp its number, its timestamp, when the
request reached the peer, and its correction. -/
structure PtpPort where
  role     : PtpRole
  best     : Option (Nat × Announce)
  heardAt  : Nat
  seq      : Nat
  pdelayAt : Option Int
  sync     : Option (Nat × Int × Int)
  resp     : Option (Nat × Int × Int × Int)
deriving DecidableEq, Repr

/-- The steward's network and time server beyond the registers (R355 to R373): the frames in the PRP window by source,
sequence number, port (2 for both) and instant; the next PRP sequence number; the PTP ports; the consecutive offsets
inside and outside the limit; the instants of the last Sync and of the start of HOLDOVER; the integral of the servo;
the instant at which `TPPS` rose, while it is high; the last Ialos second issued. -/
structure Net where
  prpSeen   : List (Nat × Nat × Nat × Nat)
  prpSeq    : Nat
  ports     : Vector PtpPort 2
  runIn     : Nat
  runOut    : Nat
  syncAt    : Nat
  holdFrom  : Option Nat
  integral  : Int
  tpps      : Option Nat
  lastSec   : Nat
deriving DecidableEq, Repr

/-! ### Pairs over the Filut link -/

/-- A line that carries what the unit sends. -/
inductive Port where
  | spi
  | eth (n : Nat)
  | udp (n dest port : Nat)
  | can (n ident : Nat)
  | filut
deriving DecidableEq, Repr

/-- A change of stored configuration that the active unit forwards to its standby (R388): the boundary at
which it acts, the opcode and its parameters. -/
structure Forwarded where
  cycle  : Nat
  opcode : Nat
  params : List Byte
deriving DecidableEq, Repr

/-- The redundancy manager and the Filut block beyond their registers (R376 to R400): whether the unit has stopped
sending images, whether it goes on to mode 0 once mode 1 is in force, and the instants of its own `HAND_N`, of
`PHAND_N` and of the rise of `POWN_N`. Received: the last valid frame, how many came in a row, whether the partner
has as many, the sequence numbers by frame type 1 to 5, the last complete T0 image by its cycle and payload, the
mirror of committed registers, the entries still missing and the commits since, the parts of the
T1 image under way and the last complete one, whether it came since the last gap with equal hashes. Sent: what is
left of the T1 image and of the mirror with their offsets and boundaries, whether the mirror is due, and when the
last image leaves the link. Then since when the pair is synchronised, the partner's state and the hash of its armed
image, the instant a takeover began, the instant of ready, and the changes to apply at a boundary. -/
structure Redundancy where
  stopTx     : Bool
  dropOwn    : Bool
  handAt     : Option Nat
  pownHighAt : Option Nat
  lastRx     : Option Nat
  rxRun      : Nat
  peerUp     : Bool
  rxSeq      : Vector (Option Nat) 6
  image      : Option (Nat × List Byte)
  mirror     : List CommitEntry
  mirrorLeft : Nat
  mirrorLate : List CommitEntry
  mirrorOk   : Bool
  t1Parts    : List (Nat × List Byte)
  t1Cycle    : Nat
  t1         : Option (Nat × List Byte)
  t1Since    : Bool
  t1Equal    : Bool
  txSeq      : Vector Nat 6
  txEnd      : Nat
  t1Tx       : List Byte
  t1TxOff    : Nat
  t1TxAt     : Nat
  mirrorTx   : List CommitEntry
  mirrorLen  : Nat
  mirrorTxAt : Nat
  mirrorDue  : Bool
  syncAt     : Option Nat
  partner    : Nat
  armedHash  : List Byte
  takeFrom   : Option Nat
  readyAt    : Option Nat
  forwarded  : List Forwarded
deriving DecidableEq, Repr

/-! ### The Ialos timebase -/

/-- The Ialos counter (R363): its value in ns at an instant with its fraction in units of 2^-33 ns, and the increment
that every CKT tick has added since then, in units of 2^-32 ns. -/
structure TimeBase where
  ns   : Nat
  frac : Nat
  at50 : Nat
  inc  : Nat
deriving DecidableEq, Repr

/-! ### The block -/

/-- Everything the spec gives the unit, but the queue of commands. -/
structure Device where
  now        : Nat
  regs       : List (Nat × Word)
  shadow     : List (Nat × Word)
  fields     : List (Nat × Word)
  mem        : List Host.Cell
  hiShadow   : Vector Word 9
  busData    : DWord
  freeCtr    : Nat
  resv       : Vector Reservation 5
  cores      : Vector CoreCsr 4
  events     : List Event
  power      : Power
  seals      : Vector SealLoop 4
  clock      : Clock
  time       : TimeBase
  chans      : Vector Channel 32
  cal        : CalEngine
  calPass    : List CalPass
  hk         : Housekeeping
  rsm        : Resampler
  shed       : Vector ShedUnit 24
  inj        : Vector Injector 4
  setp       : SetPoint
  ints       : Vector Integrator 32
  cordic     : Vector Cordic 8
  dcmp       : Vector Decomposer 4
  gchan      : Vector GateChan 48
  legs       : Vector Leg 24
  har        : Vector Harness 4
  selv       : SelvTable
  selvNext   : Bool
  gtest      : Option GateTest
  bridle     : Bridle
  mram       : List MramTx
  red        : Redundancy
  out        : List (Port × List Byte)
  recs       : Vector RecEngine 4
  bobs       : Vector Bobbin 16
  loom       : Loom
  meter      : Meter
  therm      : Thermal
  cfg        : Cfg
  tomus      : Tomus
  net        : Net
deriving DecidableEq, Repr

/-- The unit and the queue of the commands that wait, first in, first out. -/
structure State where
  dev     : Device
  pending : List Instr
deriving DecidableEq, Repr

/-- Why a step stops with a fault. -/
inductive Fault where
  /-- No meaning raises it: the spec gives every command of the table an effect. Safe. -/
  | stopped
deriving DecidableEq, Repr

/-- Why a step is refused. -/
inductive Refusal where
  /-- Raised by an arm of `exec` for a command that has no meaning yet, by its mnemonic. Safe. -/
  | notModelled (mnemonic : String)
deriving DecidableEq, Repr
/-! ### Reset -/

/-- A channel with no bits received: its paths act on the alternating zero-density pattern (R79). -/
def Channel.initial : Channel :=
  ⟨[], 0, 0, 0, none, none, none, none, 0, 0, 0, 0, none⟩

/-- A lane with no words. -/
def Lane.initial : Lane := ⟨[], 0⟩

/-- A shed unit at rest. -/
def ShedUnit.initial : ShedUnit :=
  { lastUp := none, upTap := none, pending := none, quiet := 0, lastOn := 0, errors := [],
    gen := ⟨0, 0, 0, 0, 0, false, false, none, []⟩, edges := [], prevEdge := 0, waitStart := none,
    refOut := 0, injOut := 0, measured := 0, lastTap := 0 }

/-- A gate channel whose island has no supply. -/
def GateChan.initial : GateChan := ⟨.none, false, 0, 0, false, none, none, none, none⟩

/-- A leg at rest. -/
def Leg.initial : Leg := ⟨0, false, 0, none, false, 0, 0, false, none, 0⟩

/-- A harness at rest. -/
def Harness.initial : Harness := ⟨0, 0, none, false, none, false, 0⟩

/-- A metering point before the ledger has loaded it. -/
def MeterPoint.initial : MeterPoint :=
  { pAcc := 0, qAcc := 0, words := 0, sumV := 0, sumI := 0, sqV := 0, sqI := 0, peak := 0, hist := [], count := 0,
    lastV := none, cross := [], since := none, missing := false, msFlags := 0, flags := 0, session := none,
    energy := Vector.replicate 6 0, rem := Vector.replicate 6 0, sat := false, freq := 0 }

/-- An antivalent pair before its channels have been read. -/
def SaPair.initial : SaPair := ⟨.lost, .lost, none, false, false, none, none, false⟩

/-- A contactor output that is off. -/
def Contactor.initial : Contactor := ⟨.lost, false, false, none, false, none, false⟩

/-- A recorder engine that is idle. -/
def RecEngine.initial : RecEngine :=
  { cap := 0, ring := [], history := [], gaps := [], missing := none, last := none, riseArm := false,
    fallArm := false, postLeft := none, trigs := [], shorts := [], ends := [], lastCap := none, block := [],
    blockGap := [], blockAt := 0, closed := false }

/-- A leg of the thermal model at the ambient it starts from. -/
def ThermalLeg.initial : ThermalLeg := ⟨0, Vector.replicate 4 0, 0⟩

/-- A task that no instance of runs. -/
def Task.initial : Task := ⟨false, 0, 0, 0, 0, [], false, false, false, false, 0⟩

/-- A station that has not been heard. -/
def Station.initial : Station := ⟨none, false, false, false, false, false, none, 0⟩

/-- The loom in STOP with no image loaded. -/
def Loom.initial : Loom :=
  { image := none, armed := none, change := none, resume := false,
    tasks := Vector.replicate 4 Task.initial, flush3 := false, kickAt := 0, t3Missed := false, overrun := none,
    suppress := false, everRun := false, lost := 0, paramReq := false, paramNow := false, latchTime := 0,
    latched := [], timers := Vector.replicate 64 ⟨none, 0, 0, 0⟩, edgeFirst := [],
    stations := Vector.replicate 16 Station.initial, kernelCmd := none, kernelNow := none, overlay := Vector.replicate 4 false,
    firstCommit := true, lastD := 0 }

/-- The ledger before its first start. -/
def Meter.initial : Meter :=
  { ready := false, en := 0, points := Vector.replicate 4 MeterPoint.initial, calMask := 0, sets := [], slots := [],
    recSeq := 0, logUsed := 0, saveAt := 0, ack := 0, ackRec := 0, refused := 0, intrs := 0, openings := 0, ovf := 0,
    sealWas := true, sealFirst := 0, keyGen := 0, romFw := true, image := 0, lastMs := 0, lastMsAt := 0, goAt := 0,
    seqNo := 1, queue := [] }

/-- The bridle before it has checked its stored configuration. -/
def Bridle.initial : Bridle :=
  { pairs := Vector.replicate 8 SaPair.initial, konts := Vector.replicate 4 Contactor.initial, imd := .lost,
    imdLowAt := none, blankTill := none, lock := .lost, started := false, resetDone := false, request := false,
    supvGood := none, degrPair := none, degrTill := 0 }

/-- The redundancy manager before any frame. -/
def Redundancy.initial : Redundancy :=
  { stopTx := false, dropOwn := false, handAt := none, pownHighAt := some 0, lastRx := none, rxRun := 0,
    peerUp := false, rxSeq := Vector.replicate 6 none, image := none, mirror := [], mirrorLeft := 0,
    mirrorLate := [], mirrorOk := false, t1Parts := [], t1Cycle := 0, t1 := none, t1Since := false, t1Equal := false,
    txSeq := Vector.replicate 6 0, txEnd := 0, t1Tx := [], t1TxOff := 0, t1TxAt := 0, mirrorTx := [], mirrorLen := 0,
    mirrorTxAt := 0, mirrorDue := false, syncAt := none, partner := 0, armedHash := [], takeFrom := none,
    readyAt := none, forwarded := [] }

/-- The Tomus server with no session and no host key. -/
def Tomus.initial : Tomus :=
  { stats := Vector.replicate 5 ⟨0, 0, 0, 0, 0, 0⟩, b0 := [], hands := [], sessions := [], stored := [], ops := [],
    waits := [], spiOut := [], keys := Vector.replicate 8 none, staging := [], stewBank := 0, stewNext := 0,
    imgKind := 0 }

/-- The network server before any frame. -/
def Net.initial : Net :=
  { prpSeen := [], prpSeq := 0,
    ports := Vector.replicate 2 ⟨.listening, none, 0, 0, none, none, none⟩, runIn := 0, runOut := 0, syncAt := 0, holdFrom := none,
    integral := 0, tpps := none, lastSec := 0 }

/-- The supplies before `VIN` is valid. -/
def Power.initial : Power :=
  { vinValid := false, startAt := 0, vinfAt := none, vinBack := false, graceDone := false, shedDone := false,
    finalDone := false, storeEmpty := true, vbakLost := true, starting := false, resetReq := none, sleepEntry := none,
    wakePending := false, pd11OffAt := none, rtcSeconds := 0, rtcNanos := 0, rtcAt := 0,
    monRun := [], monRoundOk := false }

/-- The resampler at rest. -/
def Resampler.initial : Resampler :=
  { pos := 0, ratio := 0, index := 0, goodCycles := 0, fadeLen := 0, fadeLeft := 0, switchReq := false, paused := false,
    srcChange := false, measFreq := 0, crossings := [], peak := 0, peakWas := 0, newest := 0, kfreqAt := none,
    lanes := Vector.replicate 12 Lane.initial }

/-- The unit before `VIN` has become valid for the first time: every register at its reset value, every domain off,
nothing sent and nothing stored. -/
def Device.initial : Device :=
  { now := 0, regs := [], shadow := [], fields := [], mem := [], hiShadow := Vector.replicate 9 0, busData := 0,
    freeCtr := 0, resv := Vector.replicate 5 none, cores := Vector.replicate 4 CoreCsr.reset,
    events := [], power := Power.initial, seals := Vector.replicate 4 ⟨true, 0, true⟩,
    clock := ⟨none, none, none, false, 0⟩, time := ⟨0, 0, 0, 0x666666666⟩, chans := Vector.replicate 32 Channel.initial,
    cal := ⟨none, 0, 0, 0, 0, 0, 0, 0, false, false⟩, calPass := [],
    hk := { seq := [], slot := 0, inRound := false, regular := false, injected := none, injList := [], calRun := false,
            queuedList := [], lowPower := false, roundWaits := false, lastDone := [], calLoaded := false,
            calRound := false, recovering := false },
    rsm := Resampler.initial, shed := Vector.replicate 24 ShedUnit.initial, inj := Vector.replicate 4 ⟨none⟩,
    setp := ⟨none, true, true⟩, ints := Vector.replicate 32 ⟨0⟩, cordic := Vector.replicate 8 ⟨none, 0, 0, 0⟩,
    dcmp := Vector.replicate 4 ⟨[], 0, 0, 0, none⟩, gchan := Vector.replicate 48 GateChan.initial,
    legs := Vector.replicate 24 Leg.initial, har := Vector.replicate 4 Harness.initial,
    selv := ⟨0, Vector.replicate 4 false, Vector.replicate 4 false, Vector.replicate 4 [], 0⟩, selvNext := false,
    gtest := none, bridle := Bridle.initial, mram := [], red := Redundancy.initial, out := [],
    recs := Vector.replicate 4 RecEngine.initial, bobs := Vector.replicate 16 ⟨[], none, 0, false, none⟩,
    loom := Loom.initial, meter := Meter.initial,
    therm := ⟨Vector.replicate 24 ThermalLeg.initial, Vector.replicate 16 ⟨0, 0⟩, none, false, false, 0⟩,
    cfg := { loaded := false, stack := [], degraded := false, taken := [], origins := [], change := none, store := none,
             storeSrc := 0, lost := 0, lostOvf := false, hash := [], ledger := [], applyAt := none },
    tomus := Tomus.initial, net := Net.initial }

/-- The state after reset: a unit without `VIN` and no command waiting. The first command that does more is
`VIN_VALID`, from which start-up runs (R408, R410). -/
def State.reset : State := ⟨Device.initial, []⟩

end Sys2Proof.Machine
end

