-- ==== Sys2Proof/Machine/Ops.lean ====
section
/-! DEFINITION. The named operations over the unit that every meaning is written in: registers, counters,
time, events, seals, domains and free values. -/

namespace Sys2Proof.Machine

open Sys2Proof

/-! ### Registers -/

/-- The value of the register at an address (R6): what the register file lists, else its reset value. -/
def rd (d : Device) (a : Nat) : Word := (Sparse.find a d.regs).getD (RegMap.resetValue a)

/-- The unit with the register at an address holding a value, whatever its access code: the hardware's
own write. -/
def wr (d : Device) (a : Nat) (v : Word) : Device :=
  { d with regs := Sparse.write (RegMap.resetValue a) d.regs a v }

/-- A register as a natural number. -/
def rdN (d : Device) (a : Nat) : Nat := (rd d a).toNat

/-- A register as a signed number. -/
def rdI (d : Device) (a : Nat) : Int := (rd d a).toInt

/-- A register written with a natural number modulo 2^32. -/
def wrN (d : Device) (a n : Nat) : Device := wr d a (word n)

/-- A register written with the two's complement of an integer. -/
def wrI (d : Device) (a : Nat) (z : Int) : Device := wr d a (wordOfInt z)

/-- A field of a register. -/
def rdF (d : Device) (a lo len : Nat) : Nat := field (rd d a) lo len

/-- A field of a register, written. -/
def wrF (d : Device) (a lo len v : Nat) : Device := wr d a (setField (rd d a) lo len v)

/-- A bit of a register. -/
def rdB (d : Device) (a i : Nat) : Bool := bit (rd d a) i

/-- A bit of a register, written. -/
def wrB (d : Device) (a i : Nat) (b : Bool) : Device := wr d a (setBit (rd d a) i b)

/-- A pair of registers that hold the low and the high word of a 64-bit value (R12). -/
def rd64 (d : Device) (a : Nat) : Nat := rdN d a + 2 ^ 32 * rdN d (a + 4)

/-- Such a pair, written. -/
def wr64 (d : Device) (a n : Nat) : Device := wr (wr d a (loWord n)) (a + 4) (hiWord n)

/-- The unit after `f` for each element of a list, in order. -/
def each {α : Type} (l : List α) (f : Device → α → Device) (d : Device) : Device := l.foldl f d

/-- The unit after `f` if a condition holds, else unchanged. -/
def whenB (b : Bool) (f : Device → Device) (d : Device) : Device := if b then f d else d

/-- Element `i` of a vector replaced by what `f` makes of it. -/
def upd {α : Type} {n : Nat} (v : Vector α n) (i : Fin n) (f : α → α) : Vector α n :=
  v.set i.1 (f v[i.1]) i.2

/-- The index `i` of a bank of `n`, where it has one. -/
def fin? (n i : Nat) : Option (Fin n) := if h : i < n then some ⟨i, h⟩ else none

/-- The unit after `f` at index `i` of a bank of `n`; unchanged where the bank has no such index. -/
def atFin (n i : Nat) (f : Fin n → Device → Device) (d : Device) : Device :=
  if h : i < n then f ⟨i, h⟩ d else d

/-! ### Counters (R10, R11) -/

/-- The overflow bit of the sticky counter at an address. -/
def setOvf (d : Device) (a : Nat) (b : Bool) : Device :=
  match CntMap.ovf? a with
  | some (r, i) => wrB d r i b
  | none => d

/-- The sticky counter at an address advanced by `n`: it sticks at 2^32 − 1 and its overflow bit sets
there. -/
def countBy (d : Device) (a n : Nat) : Device :=
  if rdN d a + n < 0xFFFFFFFF then wrN d a (rdN d a + n)
  else setOvf (wrN d a 0xFFFFFFFF) a true

/-- The sticky counter at an address advanced by one. -/
def count (d : Device) (a : Nat) : Device := countBy d a 1

/-- The sticky counter at an address cleared, with its overflow bit. -/
def clearCount (d : Device) (a : Nat) : Device := setOvf (wrN d a 0) a false

/-- The 32-bit wrapping counter at an address advanced by one; a wrap advances its wrap count. -/
def countWrap (d : Device) (a wrap : Nat) : Device :=
  if rdN d a = 0xFFFFFFFF then count (wrN d a 0) wrap else wrN d a (rdN d a + 1)

/-! ### Time -/

/-- One CKF cycle, 3.2 ns, in units of 50 ps (R420, R421). -/
def ckf : Nat := 64

/-- One CKM cycle, 12.8 ns, in units of 50 ps. -/
def ckm : Nat := 256

/-- A number of nanoseconds in units of 50 ps. -/
def ns (n : Nat) : Nat := 20 * n

/-- A number of microseconds in units of 50 ps. -/
def us (n : Nat) : Nat := 20000 * n

/-- A number of milliseconds in units of 50 ps. -/
def ms (n : Nat) : Nat := 20000000 * n

/-- A number of seconds in units of 50 ps. -/
def sec (n : Nat) : Nat := 20000000000 * n

/-- The unit at an instant: time never runs back. -/
def at50 (d : Device) (t : Nat) : Device := { d with now := max d.now t }

/-- The fraction that has built up by an instant in units of 2^-33 ns (R363): half an increment for each CKF edge, which
is half a CKT tick, since the last setting. -/
def TimeBase.fraction (b : TimeBase) (t : Nat) : Nat := b.frac + (t / 64 - b.at50 / 64) * b.inc

/-- The count of nanoseconds at an instant (R363, R364), its wraps not taken off. -/
def TimeBase.total (b : TimeBase) (t : Nat) : Nat := b.ns + b.fraction t / 2 ^ 33

/-- The Ialos time in ns at an instant: a counter of 64 bits that wraps (R363). -/
def TimeBase.read (b : TimeBase) (t : Nat) : Nat := b.total t % 2 ^ 64

/-- The next CKT tick after an instant. -/
def nextTick (t : Nat) : Nat := (t / 128 + 1) * 128

/-- The Ialos time of the tick that ends the one in which an instant lies: a boundary falls in the tick in which the
counter crosses it (R370). -/
def TimeBase.tickRead (b : TimeBase) (t : Nat) : Nat := b.read (nextTick t)

/-- The same counter told from an instant on, its fraction kept. -/
def TimeBase.settle (b : TimeBase) (t : Nat) : TimeBase :=
  { b with ns := b.read t, frac := b.fraction t % 2 ^ 33, at50 := t / 64 * 64 }

/-- The Ialos time in ns now. -/
def ialos (d : Device) : Nat := d.time.read d.now

/-- The value of `EDGE_NOW` at an instant: 50 ps units since the first lock (R122). -/
def edgeNow (d : Device) (t : Nat) : Nat :=
  match d.clock.firstLock with
  | some t0 => (t - t0) % 2 ^ 64
  | none => 0

/-! ### Events, seals, domains, free values -/

/-- Whether seal `n` reads open (R438). -/
def sealOpen (d : Device) (n : Fin 4) : Bool := d.seals[n.1].openNow

/-- A refusal on account of seal `n`, counted (R7, R35). -/
def sealRefused (d : Device) (n : Nat) : Device := count d (Addr.SYS_SEAL_REF_CNT n)

/-- Whether power domain `n` is on. -/
def domOn (d : Device) (n : Nat) : Bool := rdB d Addr.PWR_STAT n

/-- Power domain `n` on or off. -/
def setDom (d : Device) (n : Nat) (b : Bool) : Device := wrB d Addr.PWR_STAT n b

/-- Whether the unit reports ready (R411). -/
def unitReady (d : Device) : Bool := rdB d Addr.PWR_STAT 20

/-- A free value: the next one, and the unit with the counter advanced. -/
def fresh (d : Device) : DWord × Device :=
  (Config.freeWord d.freeCtr, { d with freeCtr := d.freeCtr + 1 })

/-! ### Modes and memberships that many chapters ask for -/

/-- The mode of the loom (R194). -/
inductive LoomMode where
  | stop
  | run
  | hold
deriving DecidableEq, Repr

/-- The mode that `LOOM_MODE` shows. -/
def loomMode (d : Device) : LoomMode :=
  match rdF d Addr.LOOM_MODE 0 2 with
  | 1 => .run
  | 2 => .hold
  | _ => .stop

/-- The state of a harness (R461). -/
inductive HarnessState where
  | disabled
  | running
  | selvedge
  | ready
  | latched
deriving DecidableEq, Repr

/-- The code of a harness state in `GATE_HSTATh`. -/
def HarnessState.code : HarnessState → Nat
  | .disabled => 0
  | .running => 1
  | .selvedge => 2
  | .ready => 3
  | .latched => 4

/-- The state that `GATE_HSTATh` shows. -/
def hstate (d : Device) (h : Nat) : HarnessState :=
  match rdF d (Addr.GATE_HSTAT h) 0 3 with
  | 1 => .running
  | 2 => .selvedge
  | 3 => .ready
  | 4 => .latched
  | _ => .disabled

/-- `GATE_HSTATh` with another state. -/
def setHstate (d : Device) (h : Nat) (s : HarnessState) : Device :=
  wrF d (Addr.GATE_HSTAT h) 0 3 s.code

/-- A harness is enabled while its state reads anything but DISABLED (R461). -/
def harnessEnabled (d : Device) (h : Nat) : Bool := hstate d h != .disabled

/-- The harness a leg belongs to, if any (R4, R34). -/
def legHarness (d : Device) (n : Nat) : Option Nat :=
  let c := rdF d (0x40000040 + 4 * (n / 8)) (4 * (n % 8)) 4
  if c < 4 then some c else none

/-- The legs of a harness. -/
def legsOf (d : Device) (h : Nat) : List (Fin 24) :=
  (List.finRange 24).filter (fun n => legHarness d n == some h)

/-- The gate-ownership mode in force (R132). -/
def ownMode (d : Device) : Nat := rdF d Addr.GATE_OWN_STAT 0 2

/-- The mode of a shed unit (R95). -/
def shedMode (d : Device) (n : Nat) : Nat := rdF d (Addr.SHED_CFG n) 0 2

/-- The number of legs in a group of a harness (R96). -/
def groupSize (d : Device) (h : Nat) : Nat := rdF d (Addr.SHED_HCFG h) 10 2 + 1

/-- The master unit that drives a leg: the leg's own unit in modes 1 and 2; in mode 3 the nearest unit
below it in mode 1 or 2, of the same harness, whose group reaches the leg (R95, R96). -/
def masterOf (d : Device) (n : Nat) : Option Nat :=
  match legHarness d n with
  | none => none
  | some h =>
    let ok (m : Nat) : Bool :=
      (shedMode d m == 1 || shedMode d m == 2) && legHarness d m == some h && decide (n < m + groupSize d h)
    match shedMode d n with
    | 0 => none
    | 3 =>
      if 1 ≤ n ∧ ok (n - 1) then some (n - 1)
      else if 2 ≤ n ∧ shedMode d (n - 1) = 3 ∧ ok (n - 2) then some (n - 2)
      else if 3 ≤ n ∧ shedMode d (n - 1) = 3 ∧ shedMode d (n - 2) = 3 ∧ ok (n - 3) then some (n - 3)
      else none
    | _ => some n

/-- The legs that a master unit drives: its own and the mode 3 legs above it within its group. -/
def groupLegs (d : Device) (m : Nat) : List (Fin 24) :=
  (List.finRange 24).filter (fun n => masterOf d n == some m)

/-- The master units of a harness. -/
def mastersOf (d : Device) (h : Nat) : List (Fin 24) :=
  (legsOf d h).filter (fun n => masterOf d n == some n.1)

/-- The channel a shed unit names, 0xFF for none (R121). -/
def shedChan (d : Device) (n : Nat) : Nat := rdF d (Addr.SHED_CFG n) 8 8

/-- Whether a metering point is assigned to a channel; settled by the metrology fields in force. -/
def inList (x : Nat) (l : List Nat) : Bool := l.contains x

/-- The harness a leg belongs to, as an index. -/
def harOf (d : Device) (n : Nat) : Option (Fin 4) := (legHarness d n).bind (fin? 4)

/-- A command whose effect leaves the unit as `d`: the queue is not touched. -/
def done (s : State) (d : Device) : Host.Outcome State Fault Refusal := .next { s with dev := d }

end Sys2Proof.Machine
end

