-- ==== Sys2Proof/Machine/Memory.lean ====
section
/-! DEFINITION. The memories of the map (R20) as sparse bytes, and the journalled transactions of the MRAM
controller (R322 to R324). -/

namespace Sys2Proof.Machine

open Sys2Proof

/-! ### Records of fields (R308) -/

/-- The 8-byte record of a field. -/
def fieldRecord (id : Nat) (v : Word) : List Byte :=
  let head := bytesLE 2 id ++ [0]
  let val := bytesLE 4 v.toNat
  head ++ [crc8 (head ++ val)] ++ val

/-- The identifier and the value of a record that parses. -/
def parseRecord (bs : List Byte) : Option (Nat × Word) :=
  let id := sliceLE bs 0 2
  let ok := bs.length = 8 ∧ bs[3]? = some (crc8 (bs.take 3 ++ bs.drop 4))
  if ok ∧ FieldMap.allocated id then some (id, word (sliceLE bs 4 4)) else none

/-- A list cut into pieces of `n`; `fuel` bounds the number of pieces. -/
def chunks {α : Type} (n : Nat) : Nat → List α → List (List α)
  | 0, _ => []
  | fuel + 1, l => if l.isEmpty then [] else l.take n :: chunks n fuel (l.drop n)

/-! ### What an unwritten byte reads as -/

/-- The base of the MRAM. -/
def mramBase : Nat := 0x60000000

/-- The bridle region (R258, R322). -/
def bridleBase : Nat := 0x60080000

/-- The identifiers of the bridle fields in ascending order. -/
def bridleIds : List Nat := sortOn id (FieldMap.idsOf FieldMap.brdRows)

/-- The bridle region of R258 over the values of its fields. -/
def bridleRegion (value : Nat → Word) : List Byte :=
  let body := bytesLE 4 bridleIds.length ++ bridleIds.flatMap (fun id => fieldRecord id (value id))
  body ++ bytesLE 4 (crc32c body)

/-- A byte that nothing has written: zero, but in the bridle region, which holds the defaults as
delivered (DESIGN CHOICE: the spec gives no contents), in the NOR banks, which are erased (PRESUMED: erased flash
reads as ones), and in the kernel's version word in the boot ROM, which reads 0x0001_0000 (R154). -/
def initByte (a : Nat) : Byte :=
  if a = 0xF02 then 1
  else if 0xC0000000 ≤ a ∧ a < 0xC4000000 then 0xFF
  else if bridleBase ≤ a ∧ a < bridleBase + 888 then
    ((bridleRegion FieldMap.defaultOf)[a - bridleBase]?).getD 0
  else 0

/-- The canonical form of a memory: addresses strictly rising, and no byte listed that equals what its address reads as
unlisted. -/
def Memory.wf (m : List Host.Cell) : Bool := Sparse.wf initByte m

/-! ### Bytes -/

/-- The byte at an address of a memory. -/
def memByte (d : Device) (a : Nat) : Byte := (Sparse.find a d.mem).getD (initByte a)

/-- The reserved part of a core's loom area, where writes are ignored (R191). -/
def loomReserved (a : Nat) : Bool :=
  decide (0x10000000 ≤ a ∧ a < 0x10400000 ∧ 0x81880 ≤ a % 0x100000 ∧ a % 0x100000 < 0x82000)

/-- A byte written. -/
def putByte (d : Device) (a : Nat) (b : Byte) : Device :=
  { d with mem := if loomReserved a then d.mem else Sparse.write (initByte a) d.mem a b }

/-- `n` bytes from an address. -/
def memBytes (d : Device) (a n : Nat) : List Byte := (List.range n).map (fun i => memByte d (a + i))

/-- Bytes written from an address on. -/
def putBytes (d : Device) (a : Nat) : List Byte → Device
  | [] => d
  | b :: bs => putBytes (putByte d a b) (a + 1) bs

/-- The little-endian number in `n` bytes from an address. -/
def memNat (d : Device) (a n : Nat) : Nat := natLE (memBytes d a n)

/-- A number written in `n` little-endian bytes. -/
def putNat (d : Device) (a n v : Nat) : Device := putBytes d a (bytesLE n v)

/-- The reservations of R30 after a write of `n` bytes at `a`: every one of a granule that the write touches is
cleared, but the writer's own. -/
def breakResv (own : Option (Fin 5)) (a n : Nat) (d : Device) : Device :=
  { d with resv := Vector.ofFn (fun c : Fin 5 =>
      match d.resv[c.1] with
      | some g => if own ≠ some c ∧ a / 8 ≤ g ∧ g ≤ (a + n - 1) / 8 then none else some g
      | none => none) }

/-- Bytes written by an engine or by hardware. -/
def dmaPut (d : Device) (a : Nat) (bs : List Byte) : Device := breakResv none a bs.length (putBytes d a bs)

/-- A number written by an engine or by hardware. -/
def dmaPutNat (d : Device) (a n v : Nat) : Device := dmaPut d a (bytesLE n v)

/-- Every byte of a range back to what an unwritten byte reads as: an erased NOR range, a zero-filled section, or a
memory that has lost its supply. -/
def memForget (d : Device) (a n : Nat) : Device :=
  { d with mem := d.mem.filter (fun c => !(decide (a ≤ c.1) && decide (c.1 < a + n))) }

/-- Two ranges of `n` bytes exchanged. -/
def memSwap (d : Device) (a b n : Nat) : Device :=
  let x := memBytes d a n
  let y := memBytes d b n
  putBytes (putBytes d a y) b x

/-! ### MRAM transactions (R323) -/

/-- The transaction that the controller starts next: the first of the writer of the highest priority. -/
def nextTx (l : List MramTx) : Option Nat :=
  (List.range 5).findSome? (fun w => l.findIdx? (fun t => t.writer == w))

/-- The controller starts an operation where none is in progress; none while a thermal record waits for the
write in progress (R299). -/
def mramKick (d : Device) : Device :=
  if d.mram.any (·.running) || d.therm.record.isSome then d
  else match nextTx d.mram with
    | some i => { d with mram := d.mram.modify i (fun t => { t with running := true }) }
    | none => d

/-- The operations of a transaction with the given targets: its journal copy, its commit word, its home
writes of at most 1 KiB each and the mark of completion. -/
def txOps (targets : List (Nat × List Byte)) : List MramOp :=
  let total := (targets.map (fun t => t.2.length)).sum
  List.replicate (max 1 (ceilDiv total 1024)) .journal ++ [.commit]
    ++ targets.flatMap (fun t =>
        (chunks 1024 (t.2.length + 1) t.2).zipIdx.map (fun p => MramOp.home (t.1 + 1024 * p.2) p.1))
    ++ [.complete]

/-- A journalled transaction handed to the controller. -/
def mramPut (d : Device) (writer : Nat) (note : TxNote) (targets : List (Nat × List Byte)) : Device :=
  mramKick { d with mram := d.mram ++ [{ writer := writer, committed := false, running := false,
                                          ops := txOps targets, note := note }] }

/-- The 64 bytes of an event record. -/
def eventBytes (e : Event) : List Byte := (Config.eventBytes e.kind.ctorIdx e.arg e.time ++ zeros 64).take 64

/-- An event: its record on bobbin B12, and in the ring of event records, which the steward writes (R322). -/
def raise (d : Device) (k : EventKind) (arg : Nat) : Device :=
  let e : Event := ⟨k, arg, ialos d⟩
  let n := d.events.length
  let d := { d with events := d.events ++ [e],
                    bobs := upd d.bobs 12 (fun b => { b with queue := b.queue ++ [eventBytes e] }) }
  mramPut d 4 .plain [(0x60040000 + 64 * (n % 4096), eventBytes e)]

/-- The thermal record's own transaction (R299, R301): the journal copy, whose CRC is its commit word, the home
slot and the completion mark. -/
def thermalPut (d : Device) (rec' : List Byte) : Device :=
  let tx : MramTx :=
    { writer := 0, committed := false, running := false, note := .thermal
      ops := [.home 0x60031080 rec', .home 0x60031000 rec', .complete] }
  mramKick { d with mram := d.mram ++ [tx] }

/-- What one operation of the controller does to memory. -/
def mramApply (d : Device) : MramOp → Device
  | .home a bs => putBytes d a bs
  | _ => d

/-- Recovery of the journals (R324): a committed transaction is written home, any other is discarded. -/
def mramRecover (d : Device) : Device :=
  let d' := each d.mram (fun d t => if t.committed then t.ops.foldl mramApply d else d) d
  { d' with mram := [] }

/-! ### Values in force of configuration fields -/

/-- The register and the lowest bit of the field of index `i` of a row. -/
def destOf (r : FieldRow) (i : Nat) : Option (Nat × Nat) :=
  match r.dest with
  | .none => none
  | .reg base stride per lo step _ _ _ _ => some (base + stride * (i / per), lo + step * (i % per))

/-- The value in force of a field: from its register bits, or from the list of fields. -/
def fieldOf (d : Device) (id : Nat) : Word :=
  match FieldMap.find? id with
  | none => 0
  | some (r, i) =>
    match r.dest with
    | .none => (Sparse.find id d.fields).getD (FieldMap.FieldRow.default r i)
    | .reg base stride per lo step len sub shr _ =>
      let raw := field (rd d (base + stride * (i / per))) (lo + step * (i % per)) len
      if r.clamp = .backup ∧ raw = 7 then 15 else word ((raw + sub) * 2 ^ shr)

/-- A field as a natural number. -/
def fieldN (d : Device) (id : Nat) : Nat := (fieldOf d id).toNat

/-- A field as a signed number. -/
def fieldI (d : Device) (id : Nat) : Int := (fieldOf d id).toInt

/-- A field put in force. -/
def setFieldOf (d : Device) (id : Nat) (v : Word) : Device :=
  match FieldMap.find? id with
  | none => d
  | some (r, i) =>
    match r.dest with
    | .none => { d with fields := Sparse.write (FieldMap.FieldRow.default r i) d.fields id v }
    | .reg base stride per lo step len sub shr _ =>
      wrF d (base + stride * (i / per)) (lo + step * (i % per)) len (v.toNat / 2 ^ shr - sub)

end Sys2Proof.Machine
end

