-- ==== Sys2Proof/Machine/Map.lean ====
section
/-! DEFINITION. The address map (R20): which addresses are memories, in which power domain a target lies, and
which initiator may reach it. -/

namespace Sys2Proof.Machine

open Sys2Proof

/-- What an address belongs to. -/
inductive Target where
  | rom
  | itcm (n : Nat)
  | dtcm (n : Nat)
  | sram
  | stewardSram
  | block (base : Nat)
  | mram
  | lpddr
  | nor
  | unmapped
deriving DecidableEq, Repr

/-- The bases of the peripheral blocks. -/
def blockBases : List Nat :=
  [0x40000000, 0x40010000, 0x40020000, 0x40100000, 0x40110000, 0x40120000, 0x40130000, 0x40200000, 0x40210000,
   0x40220000, 0x40300000, 0x40400000, 0x40500000, 0x40510000, 0x40600000, 0x40610000, 0x40700000, 0x40800000,
   0x40900000, 0x40A00000]

/-- The target of an address. -/
def target (a : Nat) : Target :=
  let tcm := a % 0x100000
  if a < 0x80000 then .rom
  else if 0x10000000 ≤ a ∧ a < 0x10400000 then
    let n := (a - 0x10000000) / 0x100000
    if tcm < 0x20000 then .itcm n else if 0x80000 ≤ tcm ∧ tcm < 0xA0000 then .dtcm n else .unmapped
  else if 0x20000000 ≤ a ∧ a < 0x20380000 then .sram
  else if 0x20380000 ≤ a ∧ a < 0x20400000 then .stewardSram
  else if 0x40000000 ≤ a ∧ a < 0x41000000 then
    if blockBases.contains (a / 0x10000 * 0x10000) then .block (a / 0x10000 * 0x10000) else .unmapped
  else if 0x60000000 ≤ a ∧ a < 0x60400000 then .mram
  else if 0x80000000 ≤ a ∧ a < 0xA0000000 then .lpddr
  else if 0xC0000000 ≤ a ∧ a < 0xC4000000 then .nor
  else .unmapped

/-- The power domain that a target lies in (R13, R26). The block at 0x4060_0000 holds the timebase and its
feed, and is taken to lie in PD1 (DEDUCED). -/
def Target.domain : Target → Nat
  | .itcm n | .dtcm n => if n < 2 then 2 else 3
  | .block b =>
    if b = 0x40610000 ∨ b = 0x40700000 then 6
    else if b = 0x40800000 then 11
    else if b = 0x40A00000 then 4
    else 1
  | _ => 1

/-- The cause of R26 with which an access to a target fails for want of power or of its clock; 0 where it
answers. LPDDR answers only while CKL runs (R281). -/
def targetDown (d : Device) (tg : Target) : Nat :=
  if domOn d tg.domain = false then 5
  else if tg = .lpddr ∧ rdB d Addr.CLK_STAT 5 = true then 3
  else 0

/-- The cause with which an access of the DMA engines fails (R20, R26, R281); 0 where it answers. The rings
that the steward sets up lie in its own SRAM. -/
def dmaCause (d : Device) (steward write : Bool) (a : Nat) : Nat :=
  match target a with
  | .unmapped => 1
  | .rom => if write then 2 else 0
  | .itcm _ => 2
  | .stewardSram => if steward then 0 else 2
  | .block _ => 2
  | .mram => if write then 2 else targetDown d .mram
  | .nor => if write then 2 else 0
  | tg => targetDown d tg

/-- The first failing beat of `n` bytes from an address, as its offset and cause. -/
def dmaFail (d : Device) (steward write : Bool) (a n : Nat) : Option (Nat × Nat) :=
  let first := dmaCause d steward write a
  let lastA := a + (n - 1)
  if first ≠ 0 then some (0, first)
  else
    let c := dmaCause d steward write lastA
    if target a = target lastA then none
    else some (0x20000 - a % 0x20000, if c = 0 then 2 else c)

end Sys2Proof.Machine
end

