-- ==== Sys2Proof/Machine/Hooks.lean ====
section
/-! DEFINITION. What one block asks of another at the instant something happens: an injected sequence of
the housekeeping converter (R56 to R58), a recorder trigger (R268, R270), and the opening of a contactor
output (R246). -/

namespace Sys2Proof.Machine

open Sys2Proof

/-! ### Injected sequences -/

/-- The inputs of the injected sequence as configured (R56, R60): `LEN` of 0 or 9 to 15 acts as 1. -/
def hkInjSequence (d : Device) : List Nat :=
  let len := rdF d Addr.HK_INJ_CFG 0 4
  let len := if 1 ≤ len ∧ len ≤ 8 then len else 1
  (List.range len).map (fun j =>
    if j < 4 then rdF d Addr.HK_INJ_SEQ0 (8 * j) 6 else rdF d Addr.HK_INJ_SEQ1 (8 * (j - 4)) 6)

/-- `HK_STAT` with a phase, an input and a slot. -/
def hkShow (d : Device) (phase input slot : Nat) : Device :=
  wrF (wrF (wrF d Addr.HK_STAT 8 2 phase) Addr.HK_STAT 10 6 input) Addr.HK_STAT 0 7 slot

/-- A conversion of an input begins, in the mode that `HK_CFG` names now (R54). -/
def hkBegin (d : Device) (phase input slot : Nat) : Device :=
  hkShow { d with hk := { d.hk with lowPower := rdB d Addr.HK_CFG 2 } } phase input slot

/-- An injected sequence starts, the calibration engine's or a triggered one: its first conversion's Ialos
time is stored (R56). -/
def hkStartInjected (d : Device) (cal : Bool) (seq : List Nat) : Device :=
  match seq with
  | [] => d
  | i :: _ =>
    let d := { d with hk := { d.hk with injected := some 0, injList := seq, calRun := cal } }
    wr64 (hkBegin d 2 i 0x7F) Addr.HK_INJ_TIME_LO (ialos d)

/-- A sequence starts during a regular conversion under abort-and-restart: the slot is converted again
afterwards (R57). -/
def hkAbort (d : Device) (cal : Bool) (seq : List Nat) : Device :=
  let d := count d Addr.HK_ABORT_CNT
  hkStartInjected { d with hk := { d.hk with regular := false } } cal seq

/-- A trigger of the injected sequence `seq` (R57, R58): it starts, stops a regular conversion with
`ABORT`, waits for its end without, is queued to a depth of one, or is dropped and counted. -/
def hkInject (d : Device) (seq : List Nat) : Device :=
  let queue (d : Device) : Device := { wrB d Addr.HK_STAT 7 true with hk := { d.hk with queuedList := seq } }
  if rdB d Addr.HK_STAT 7 then count d Addr.HK_INJ_LOST_CNT
  else if d.hk.injected.isSome then queue d
  else if d.hk.regular then (if rdB d Addr.HK_CFG 1 then hkAbort d false seq else queue d)
  else hkStartInjected d false seq

/-- A trigger source of R56, by its bit of `TRIG_MASK`: 0 the register, 1 the thermal pre-warning, 2 `VIN`
falling, 3 the bridle, 4 the recorder. It acts while the converter and the source are enabled. -/
def hkTrigger (d : Device) (src : Nat) : Device :=
  if rdB d Addr.HK_CFG 0 && rdB d Addr.HK_INJ_CFG (8 + src) then hkInject d (hkInjSequence d) else d

/-! ### Switching losses (R289) -/

/-- The current of a leg in units of A / 2^22, from the last valid fast or medium word of its master's
channel; none where the master names no channel. -/
def legCurrent (d : Device) (n : Nat) (medium : Bool) : Option Nat :=
  match masterOf d n, legHarness d n with
  | some m, some h =>
    match fin? 32 (shedChan d m) with
    | some c =>
      let w := if medium then (d.chans[c.1]).goodMed else (d.chans[c.1]).goodFast
      some ((signed 24 (field w 0 24)).natAbs * rdF d (Addr.TH_SCALE h) 0 16)
    | none => none
  | _, _ => none

/-- The blocking voltage of a harness in units of 2^-22 / 1000 V. -/
def linkVoltage (d : Device) (h : Nat) : Option Int :=
  match fin? 32 (rdF d (Addr.TH_VDC h) 0 8), fin? 32 (rdF d (Addr.TH_VDC h) 8 8) with
  | some p, some n =>
    some ((signed 24 (field (d.chans[p.1]).goodFast 0 24) - signed 24 (field (d.chans[n.1]).goodFast 0 24))
      * rdF d (Addr.TH_SCALE h) 16 16 * rdF d (Addr.TH_VDC h) 16 10)
  | _, _ => none

/-- Whether the unit accumulates losses: the model enabled, and not the standby of a pair (R289, R294). -/
def lossesRun (d : Device) : Bool := rdB d Addr.TH_CFG 0 && rdF d Addr.RED_STAT 0 3 != 3

/-- The energy of an edge of a gate of leg `n` from OFF to ON, or from ON, added in fJ. -/
def edgeLoss (d : Device) (n : Fin 24) (on : Bool) : Device :=
  match legHarness d n.1, legCurrent d n.1 false with
  | some h, some i =>
    match linkVoltage d h with
    | some v =>
      if lossesRun d then
        let e := rdN d (if on then Addr.TH_EON h else Addr.TH_EOFF h)
        let den := 2 ^ 44 * 1000 * max 1 (rdF d (Addr.TH_EREF h) 0 16) * max 1 (rdF d (Addr.TH_EREF h) 16 16)
        let x := roundDiv (e * 1000000000 * i * v) den
        { d with therm := { d.therm with legs := upd d.therm.legs n (fun l => { l with energy := l.energy + x }) } }
      else d
    | none => d
  | _, _ => d

/-! ### Recorder triggers -/

/-- The base period of an engine's instants in units of 50 ps (R72, R188, R265); for base 3 the period of
the resampler's present cycle. -/
def recPeriod (d : Device) (e : Nat) : Nat :=
  let base := match rdF d (Addr.REC_CFG e) 0 3 with
    | 0 => 8 * ckm
    | 1 => 32 * ckm
    | 2 => 1024 * ckm
    | 3 => 1024 * ckm * d.rsm.ratio / 2 ^ 32
    | _ => rdN d Addr.LOOM_T0_CKF * ckf
  base * (rdF d (Addr.REC_DIV e) 0 16 + 1)

/-- A trigger position and time set in the registers of an engine (R270). -/
def recPlace (d : Device) (e p time : Nat) : Device :=
  wr64 (wr64 d (Addr.REC_TPOS_LO e 0) p) (Addr.REC_TTIME_LO e 0) time

/-- The engine passes to POST at a trigger (R267): `PRE_SHORT` where it was still in PREFILL, the last
`REC_PRE` frames of the ring kept, the post count armed, the edge arming cleared. -/
def recToPost (d : Device) (e : Fin 4) (p : Nat) : Device :=
  let short := rdF d (Addr.REC_STAT e.1) 0 3 == 1
  let d := wrF (wrB (wrB d (Addr.REC_STAT e.1) 3 short) (Addr.REC_STAT e.1) 4 false) (Addr.REC_STAT e.1) 0 3 3
  let post := rdN d (Addr.REC_POST e.1)
  let pre := rdF d (Addr.REC_PRE e.1) 0 14
  count
    { d with recs := upd d.recs e (fun r =>
        { r with postLeft := if post = 0 then none else some post,
                 trigs := (r.cap, p) :: r.trigs.take 3, shorts := if short then r.cap :: r.shorts.take 3 else r.shorts,
                 history := r.history ++ r.ring.drop (r.ring.length - pre), ring := [],
                 riseArm := false, fallArm := false }) }
    (Addr.REC_TRIG_CNT e.1)

/-- Whether an engine evaluates a trigger (R267): PREFILL or ARMED. -/
def recArmed (d : Device) (e : Nat) : Bool :=
  rdF d (Addr.REC_STAT e) 0 3 == 1 || rdF d (Addr.REC_STAT e) 0 3 == 2

/-- A trigger stamped at `t` between two frames (R270): the position from the last frame taken, a free
position where no frame has been taken since arming. -/
def recStamp (d : Device) (e : Fin 4) (t : Nat) : Device :=
  match (d.recs[e.1]).last with
  | some f =>
    let per := recPeriod d e.1
    let frac := clampN 1 256 (roundDiv (256 * ((t : Int) - f.inst)) (max per 1)).toNat
    let p := 256 * f.index + frac
    recToPost (recPlace d e.1 p (f.time + (frac * per + 2560) / 5120)) e p
  | none =>
    let (x, d) := fresh d
    let (y, d) := fresh d
    recToPost (recPlace d e.1 x.toNat y.toNat) e x.toNat

/-- An internal event of the codes of R268 at instant `t`: every engine in mode 3 that names it, and is
evaluating triggers, triggers; each accepted trigger offers the recorder event of R56 and is itself an
event of the other engines. `fuel` bounds the chain, which visits each engine at most once. -/
def recEvent (fuel : Nat) (d : Device) (code t : Nat) : Device :=
  match fuel with
  | 0 => d
  | fuel + 1 =>
    each (List.finRange 4)
      (fun d e =>
        let want := rdF d (Addr.REC_TRG e.1) 16 8
        let hit := want == code || (want == 4 && decide (code < 4))
        if rdF d (Addr.REC_TRG e.1) 0 2 == 3 && hit && recArmed d e.1 then
          recEvent fuel (hkTrigger (recStamp d e t) 4) (0x10 + e.1) t
        else d) d

/-- The trigger of engine `e` at its own instant by force or by an external edge (R268). -/
def recForce (d : Device) (e : Fin 4) (t : Nat) : Device :=
  if recArmed d e.1 then recEvent 4 (hkTrigger (recStamp d e t) 4) (0x10 + e.1) t else d

/-! ### Contactor outputs -/

/-- Contactor output `n` off (R246): the feedback becomes due, and it closes again only on a new rise. -/
def kontOff (d : Device) (n : Fin 4) : Device :=
  let was := rdB d Addr.BRD_OUT_STAT (4 + n.1)
  let d := wrB d Addr.BRD_OUT_STAT (4 + n.1) false
  { d with bridle := { d.bridle with konts := upd d.bridle.konts n (fun k =>
      { k with request := false, carried := false,
               checkFrom := if was then some d.now else k.checkFrom }) } }

/-- The gate block's opening requests of a harness at the selvedge (R145): every contactor whose nibble
of `GATE_SELV_K` names the harness opens. -/
def selvContactors (d : Device) (h : Nat) : Device :=
  each (List.finRange 4)
    (fun d n =>
      if d.selv.konts.testBit (4 * n.1 + h) then
        kontOff { d with bridle := { d.bridle with
          konts := upd d.bridle.konts n (fun k => { k with gateOpen := true }) } } n
      else d) d

/-! ### Long Tomus operations (R335) -/

/-- The running long operation whose opcode is in the list, if any. -/
def opRunning (d : Device) (ops : List Nat) : Option LongOp :=
  d.tomus.ops.find? (fun o => o.final.isNone && ops.contains o.req.opcode)

/-- The running long operation of one of the opcodes ends with a status at `t`. -/
def opFinish (d : Device) (ops : List Nat) (status progress t : Nat) : Device :=
  { d with tomus := { d.tomus with ops := d.tomus.ops.map (fun o =>
      if o.final.isNone && ops.contains o.req.opcode then
        { o with final := some (status, t), progress := progress }
      else o) } }

end Sys2Proof.Machine
end

