-- ==== Sys2Proof/Machine/Stage.lean ====
section
/-! DEFINITION. The power stage: gate channels turning on and off, row changes and the interlock, faults
and their reach, the selvedge and release (R105 to R113, R131 to R149, R461). -/

namespace Sys2Proof.Machine

open Sys2Proof

/-! ### Channel states (R131) -/

/-- The state of a gate channel. -/
inductive ChanState where
  | on
  | off
  | soft
  | hiz
deriving DecidableEq, Repr

/-- The code of a channel state in `GATE_CSTATc`. -/
def ChanState.code : ChanState → Nat
  | .on => 0
  | .off => 1
  | .soft => 2
  | .hiz => 3

/-- The state that `GATE_CSTATc` shows. -/
def cstate (d : Device) (c : Nat) : ChanState :=
  match rdF d (Addr.GATE_CSTAT c) 0 3 with
  | 0 => .on
  | 1 => .off
  | 2 => .soft
  | _ => .hiz

/-- `GATE_CSTATc` with another state; the clamp reads 0 until the island reports it (R140, R151). -/
def setCstate (d : Device) (c : Nat) (s : ChanState) : Device :=
  wrF (wrB d (Addr.GATE_CSTAT c) 4 false) (Addr.GATE_CSTAT c) 0 3 s.code

/-- The leg of a gate channel (R4). -/
def legOf (c : Nat) : Nat := c / 2

/-- The high-side and the low-side channel of a leg (R4). -/
def gatesOf (n : Fin 24) : List (Fin 48) := [⟨2 * n.1, by omega⟩, ⟨2 * n.1 + 1, by omega⟩]

/-- The dead time of a leg in 50 ps units (R106). -/
def deadTime (d : Device) (n : Nat) : Nat := rdF d (Addr.SHED_DT n) 0 17

/-- `EDGE_PEND` of a leg: a tap or a turn-on is pending (R122). -/
def showPend (d : Device) (n : Fin 24) : Device :=
  let tap := match fin? 24 ((masterOf d n.1).getD 24) with
    | some m => ((d.shed[m.1]).pending).isSome
    | none => false
  let on := (gatesOf n).any (fun c => ((d.gchan[c.1]).onAt).isSome)
  wrB d Addr.EDGE_PEND n.1 (tap || on)

/-- Whether the island's held entry calls for HIZ at the selvedge (R145): its bit of the table in force. -/
def entryHiz (d : Device) (c : Nat) : Bool := d.selv.hiz.testBit c

/-- A channel reaches OFF at `t`: while its harness is at the selvedge and its entry is HIZ, it passes to
HIZ 10 µs after the later of the entry into the selvedge and this instant (R145). -/
def reachOff (d : Device) (t : Nat) (c : Fin 48) : Device :=
  let d := setCstate d c.1 .off
  let atSelv := match legHarness d (legOf c.1) with
    | some h => match fin? 4 h with
      | some h => if hstate d h.1 = .selvedge ∨ hstate d h.1 = .latched then some (d.har[h.1]).selvAt else none
      | none => none
    | none => none
  let held := rdB d (Addr.GATE_LFLT (legOf c.1)) 5
  let from' := match atSelv, fin? 24 (legOf c.1) with
    | some s, _ => some (max s t)
    | none, some n => if held then some (max (d.legs[n.1]).heldAt t) else none
    | none, none => none
  { d with gchan := upd d.gchan c (fun g =>
      { g with lastOff := t, softFrom := none, sensing := false,
               hizAt := if entryHiz d c.1 then from'.map (· + us 10) else none }) }

/-- A gate turns off at `t` (R131, R139): from ON to SOFT or OFF; a channel in SOFT completes it; in OFF
and HIZ nothing changes. A turn-on still waiting is cancelled. -/
def turnOff (d : Device) (t : Nat) (soft : Bool) (c : Fin 48) : Device :=
  let d := { d with gchan := upd d.gchan c (fun g => { g with onAt := none }) }
  match cstate d c.1 with
  | .on =>
    let d := atFin 24 (legOf c.1) (fun n d => edgeLoss d n false) (wrN d (Addr.EDGE_LAST c.1) (edgeNow d t))
    if soft then
      { setCstate d c.1 .soft with gchan := upd d.gchan c (fun g =>
          { g with softFrom := some t, lastOff := t, sensing := false }) }
    else reachOff d t c
  | _ => d

/-- The interlock refuses a command that would turn both gates of a leg on (R108): both are held off,
commands are discarded for one dead time, and it is counted and raised. -/
def interlock (d : Device) (t : Nat) (n : Fin 24) : Device :=
  let d := each (gatesOf n) (fun d c => turnOff d t false c) d
  let d := { d with legs := upd d.legs n (fun l => { l with ilkTill := t + deadTime d n.1, row := 0 }) }
  showPend (raise (count d (Addr.SHED_ILK_CNT n.1)) .interlock n.1) n

/-- Whether the gates of a leg follow their commands: mode 2, the harness running or under a debug
overlay, and the leg's group not held (R132, R141, R204). -/
def legFollows (d : Device) (n : Nat) : Bool :=
  ownMode d == 2 && !rdB d (Addr.GATE_LFLT n) 5 &&
    match legHarness d n with
    | some h => hstate d h == .running ||
        (match fin? 4 h with | some h => d.loom.overlay[h.1] | none => false)
    | none => false

/-- Whether an island receives commands and can carry them out: it has its supply and is not held at its own entry
(R16, R133). -/
def obeys (d : Device) (c : Fin 48) : Bool := (d.gchan[c.1]).supplyUp && (d.gchan[c.1]).entryAt.isNone

/-- A gate turns on at `t` (R107, R108, R136), from OFF or, after a release, from HIZ (R148): the interlock refuses it
while the other gate of its leg is on; a leg that does not follow commands, an island on its own, a channel in SOFT and a
command earlier than the interlock allows leave the gate off. -/
def turnOn (d : Device) (t : Nat) (c : Fin 48) : Device :=
  let d := { d with gchan := upd d.gchan c (fun g => { g with onAt := none }) }
  let other : Nat := if c.1 % 2 = 0 then c.1 + 1 else c.1 - 1
  atFin 24 (legOf c.1) (fun n d =>
    if cstate d other = .on then interlock d t n
    else if legFollows d n.1 && obeys d c && (cstate d c.1 == .off || cstate d c.1 == .hiz) && decide ((d.legs[n.1]).ilkTill ≤ t) then
      let d := setCstate (wrB d (Addr.GATE_CSTAT c.1) 3 false) c.1 .on
      let d := edgeLoss (wrB (wrN d (Addr.EDGE_LAST c.1) (edgeNow d t)) (Addr.GATE_LFLT n.1) 6 false) n true
      showPend { d with gchan := upd d.gchan c (fun g => { g with lastOn := t, sensing := false, hizAt := none }) } n
    else showPend d n) d

/-- The code of group leg `j` in a heddle row (R105). -/
def rowCode (row j : Nat) : Nat := row / 4 ^ j % 4

/-- The leg state `code` commanded at tap `t` (R105, R107, R108): what it turns off goes off at `t`, what
it turns on waits for the leg's dead time, what stays is not touched; a channel that a selvedge left in HIZ
goes to OFF, since the row applies in full (R148); both on is refused. -/
def legCommand (d : Device) (t : Nat) (n : Fin 24) (code : Nat) : Device :=
  if code = 3 then interlock d t n
  else
    let d := { d with legs := upd d.legs n (fun l => { l with row := code }) }
    let d := each (gatesOf n) (fun d c =>
      let want := if c.1 % 2 = 0 then code = 2 else code = 1
      if want then
        if cstate d c.1 = .on then d
        else { d with gchan := upd d.gchan c (fun g => { g with onAt := some (t + deadTime d n.1) }) }
      else if cstate d c.1 = .hiz ∧ obeys d c = true ∧ legFollows d n.1 = true then reachOff d t c
      else turnOff d t false c) d
    showPend d n

/-! ### Stopping the masters of a harness (R111, R112, R114) -/

/-- An injector stops and is counted (R114). -/
def stopInjector (d : Device) (j : Fin 4) : Device :=
  let d := { d with inj := upd d.inj j (fun i => { i with startAt := none }) }
  count (wrB d (Addr.INJ_CTRL j.1) 0 false) Addr.INJ_STOP_CNT

/-- Every running injector that targets a leg of the harness stops (R114). -/
def stopInjectors (d : Device) (h : Nat) : Device :=
  each (List.finRange 4) (fun d j =>
    if rdB d (Addr.INJ_CTRL j.1) 0 && (legsOf d h).any (fun n => rdB d (Addr.INJ_MASK j.1) n.1)
    then stopInjector d j else d) d

/-- The master units of a harness cancel their pending steps and stop; turn-ons that wait are cancelled. -/
def stopUnits (d : Device) (h : Nat) : Device :=
  each (legsOf d h) (fun d n =>
    let d := { d with shed := upd d.shed n (fun u => { u with pending := none, waitStart := none }) }
    let d := each (gatesOf n) (fun d c =>
      { d with gchan := upd d.gchan c (fun g => { g with onAt := none }) }) d
    showPend (wrB (wrB d (Addr.SHED_STAT n.1) 30 false) (Addr.SHED_STAT n.1) 24 false) n) d

/-- `SELV` of the shed units of a harness follows its state (R112). -/
def showSelv (d : Device) (h : Nat) : Device :=
  let b := hstate d h == .selvedge || hstate d h == .latched
  each (legsOf d h) (fun d n => wrB d (Addr.SHED_STAT n.1) 31 b) d

/-! ### Turn-off order (R145) -/

/-- The steps of a sequence as far as the first with an empty mask. -/
def liveSteps (steps : List Word) : List Word := steps.takeWhile (fun w => field w 0 4 ≠ 0)

/-- The instant at which group leg `j` leaves, counted from `s`: by its step, else with the last step;
at `s` where the list is empty or the harness turns all off. -/
def leaveAt (steps : List Word) (s j : Nat) : Nat :=
  let rec go : List Word → Nat → Nat
    | [], at' => at'
    | w :: ws, at' =>
      let at' := at' + ns (50 * field w 16 9)
      if (field w 0 4).testBit j then at' else go ws at'
  go (liveSteps steps) s

/-- The instant at which a leg of a harness leaves when its group begins to turn off at `s`. -/
def legLeaves (d : Device) (h : Fin 4) (s : Nat) (n : Fin 24) : Nat :=
  if d.selv.modes[h.1] then
    leaveAt (d.selv.steps[h.1]) s (n.1 - (masterOf d n.1).getD n.1)
  else s

/-- The gates of a leg leave, through SOFT or OFF. -/
def legOut (d : Device) (t : Nat) (soft : Bool) (n : Fin 24) : Device :=
  let d := { d with legs := upd d.legs n (fun l => { l with leaveAt := none, row := 0 }) }
  showPend (each (gatesOf n) (fun d c => turnOff d t soft c) d) n

/-- A channel already in OFF when its leg begins to turn off at `s` passes to HIZ 10 µs after `s` where its entry is HIZ
(R145). -/
def offToHiz (d : Device) (s : Nat) (c : Fin 48) : Device :=
  if cstate d c.1 = .off ∧ entryHiz d c.1 = true ∧ obeys d c = true ∧ ownMode d = 2 then
    { d with gchan := upd d.gchan c (fun g => { g with hizAt := some (max s g.lastOff + us 10) }) }
  else d

/-- A leg begins to turn off at `s` in its harness's order; a leg that already does keeps its own order
(R146). -/
def legBegin (d : Device) (h : Fin 4) (s t : Nat) (soft : Bool) (n : Fin 24) : Device :=
  if ((d.legs[n.1]).leaveAt).isSome then d
  else
    let d := each (gatesOf n) (fun d c => offToHiz d s c) d
    let due := legLeaves d h s n
    if due ≤ t then legOut d t soft n
    else { d with legs := upd d.legs n (fun l => { l with leaveAt := some due, leaveSoft := soft }) }

/-! ### The selvedge (R143 to R146, R149) -/

/-- Bit of `GATE_HSTATh` that records a cause. -/
def causeBit (c : Nat) : Nat := 7 + c

/-- The causes that hold a harness, as a mask with bit c − 1 for cause c. -/
def causes (d : Device) (h : Nat) : Nat := rdF d (Addr.GATE_HSTAT h) 8 16

/-- A cause recorded; the first is shown (R143). -/
def addCause (d : Device) (h c : Nat) : Device :=
  let d := if causes d h = 0 then wrF d (Addr.GATE_HSTAT h) 24 8 c else d
  wrB d (Addr.GATE_HSTAT h) (causeBit c) true

/-- A cause released. -/
def dropCause (d : Device) (h c : Nat) : Device := wrB d (Addr.GATE_HSTAT h) (causeBit c) false

/-- The number of the try that a fault at `t` begins (R149): one more in the present run within
`GATE_RETRY_FORGET` of the last release, else 1. -/
def nextTry (d : Device) (h : Fin 4) (t : Nat) : Nat :=
  match (d.har[h.1]).lastRelease with
  | some r =>
    if t < r + sec (rdF d (Addr.GATE_RFORGET h.1) 0 12) then rdF d (Addr.GATE_HSTAT h.1) 4 4 + 1 else 1
  | none => rdF d (Addr.GATE_HSTAT h.1) 4 4 + 1

/-- `GATE_RETRY_TRIES` of a harness; 0 acts as 1 (R151). -/
def retryTries (d : Device) (h : Nat) : Nat := max 1 (rdF d (Addr.GATE_HCFG h) 4 4)

/-- The gates of a harness go to the selvedge at `t` (R112, R145): its masters and injectors stop, its
`SHED_RUN` bit reads 0, its legs leave in order, contactor openings are requested, and the entry is
counted and offered to the recorder. -/
def selvGates (d : Device) (h : Fin 4) (t c : Nat) : Device :=
  let soft := (1 ≤ c ∧ c ≤ 3) ∨ c = 6 ∨ d.selv.softs[h.1] = true
  let d := stopInjectors (stopUnits (wrB d Addr.SHED_RUN h.1 false) h.1) h.1
  let d := { d with har := upd d.har h (fun a =>
    { a with selvAt := t, faultAt := t, waitFrom := some t, offDone := false, cleared := false }) }
  let d := each (legsOf d h.1) (fun d n => legBegin d h t t (decide soft) n) d
  let d := count (selvContactors d h.1) (Addr.GATE_SELV_CNT h.1)
  recEvent 4 (showSelv d h.1) h.1 t

/-- A harness goes to the selvedge with a cause at `t`. A DISABLED harness, and one already at the
selvedge, only records the cause; a RUNNING harness begins a try for causes 0x01 to 0x07, and latches
where that would be one try too many (R143, R149, R461). -/
def selvedge (d : Device) (h : Fin 4) (t c : Nat) : Device :=
  let d := addCause d h.1 c
  match hstate d h.1 with
  | .disabled | .selvedge | .latched => d
  | .ready => selvGates (setHstate d h.1 .selvedge) h t c
  | .running =>
    if c ≤ 7 then
      let n := nextTry d h t
      if retryTries d h.1 < n then selvGates (setHstate d h.1 .latched) h t c
      else selvGates (setHstate (wrF d (Addr.GATE_HSTAT h.1) 4 4 n) h.1 .selvedge) h t c
    else selvGates (setHstate d h.1 .selvedge) h t c

/-- Every harness goes to the selvedge with a cause. -/
def selvedgeAll (d : Device) (t c : Nat) : Device :=
  each (List.finRange 4) (fun d h => selvedge d h t c) d

/-! ### Faults of a leg (R141, R142) -/

/-- A group held (R141): it turns off in the harness's order and is held off; a group not yet held begins
a try, and one try too many latches the harness instead. -/
def holdGroup (d : Device) (h : Fin 4) (m t c : Nat) : Device :=
  let soft := decide (1 ≤ c ∧ c ≤ 3)
  let fresh' := (groupLegs d m).all (fun n => !rdB d (Addr.GATE_LFLT n.1) 5)
  let hold (d : Device) : Device :=
    each (groupLegs d m) (fun d n =>
      let d := { d with legs := upd d.legs n (fun l => { l with heldAt := t, heldFree := false }) }
      legBegin (wrB d (Addr.GATE_LFLT n.1) 5 true) h t t soft n) d
  if fresh' then
    let n := nextTry d h t
    if retryTries d h.1 < n then selvGates (setHstate (addCause d h.1 c) h.1 .latched) h t c
    else hold (wrF d (Addr.GATE_HSTAT h.1) 4 4 n)
  else d

/-- The other leg of the harness with a short-circuit trip stamped no more than 2 µs before `t` (R142). -/
def otherTrip (d : Device) (h t : Nat) (n : Fin 24) : Option (Fin 24 × Nat × Nat) :=
  (legsOf d h).findSome? (fun m =>
    if m = n then none
    else match (d.legs[m.1]).tripAt with
      | some (s, c) => if t - s ≤ us 2 ∧ s - t ≤ us 2 then some (m, s, c) else none
      | none => none)

/-- A fault of a leg with cause 0x01 to 0x05, stamped at `s` and known at `t` (R141, R142): shown in
`GATE_LFLTn`; of a running harness in mode 2 it reaches the group or the harness, and two short-circuit
trips within 2 µs send the harness to the selvedge with cause 0x06. -/
def legFault (d : Device) (n : Fin 24) (s t c : Nat) : Device :=
  let d := wrF d (Addr.GATE_LFLT n.1) 0 5 c
  match (legHarness d n.1).bind (fin? 4) with
  | none => d
  | some h =>
    if hstate d h.1 ≠ .running ∧ hstate d h.1 ≠ .selvedge ∧ hstate d h.1 ≠ .latched ∨ ownMode d ≠ 2 then d
    else
      let d := { d with legs := upd d.legs n (fun l => { l with
        causes := l.causes ||| 2 ^ (c - 1),
        tripAt := if c ≤ 3 then some (s, c) else l.tripAt }) }
      let pair := if c ≤ 3 then otherTrip d h.1 s n else none
      match pair with
      | some (m, s', c') =>
        if rdB d (Addr.GATE_HSTAT h.1) (causeBit 6) then raise d .multiLegMore n.1
        else
          let first := if s' ≤ s then m.1 else n.1
          let second := if s' ≤ s then n.1 else m.1
          let cause := if s' ≤ s then c' else c
          let d := wrN d Addr.GATE_MLEG_INFO (first * 2 ^ 24 + second * 2 ^ 16 + h.1 * 2 ^ 8 + cause)
          let d := wrN d Addr.GATE_MLEG_DT (if s' ≤ s then s - s' else s' - s)
          let d := raise (count d (Addr.GATE_MLEG_CNT h.1)) .multiLeg h.1
          selvedge d h t 6
      | none =>
        match hstate d h.1 with
        | .running =>
          if rdB d (Addr.GATE_HCFG h.1) 1 then selvedge d h t c
          else holdGroup d h ((masterOf d n.1).getD n.1) t c
        | _ => addCause d h.1 c

/-! ### Release (R148, R149) -/

/-- The causes 0x01 to 0x05 that still hold a leg: desaturation while a gate is in SOFT, a hard limit
until eight good words, undervoltage until its release threshold (R138, R148). -/
def legCauses (d : Device) (n : Fin 24) : Nat :=
  let m := (d.legs[n.1]).causes
  let softNow := (gatesOf n).any (fun c => cstate d c.1 == .soft)
  let uv := (gatesOf n).any (fun c => rdB d (Addr.GATE_CSTAT c.1) 5)
  let uvn := (gatesOf n).any (fun c => rdB d (Addr.GATE_CSTAT c.1) 6)
  (if m.testBit 0 ∧ softNow then 1 else 0) + (if m.testBit 1 ∧ (d.legs[n.1]).hlTrip then 2 else 0)
    + (if m.testBit 2 ∧ (d.legs[n.1]).hlTrip then 4 else 0) + (if m.testBit 3 ∧ uv then 8 else 0)
    + (if m.testBit 4 ∧ uvn then 16 else 0)

/-- The channels whose fast words the shed units and hard-limit comparators of a harness use (R143). -/
def wordChannels (d : Device) (h : Nat) : List Nat :=
  ((mastersOf d h).map (fun n => shedChan d n.1)).filter (fun c => c < 32)

/-- Whether cause 0x07 of a harness has gone: eight consecutive good fast words of every channel it uses
(R143). -/
def wordsBack (d : Device) (h : Nat) : Bool :=
  (wordChannels d h).all (fun c => match fin? 32 c with
    | some c => decide (8 ≤ (d.chans[c.1]).good)
    | none => true)

/-- The causes of a leg and of a harness brought up to what still holds (R148). -/
def refreshCauses (d : Device) (h : Fin 4) : Device :=
  let d := each (legsOf d h.1) (fun d n =>
    { d with legs := upd d.legs n (fun l => { l with causes := legCauses d n }) }) d
  let holds (mask : Nat) : Bool := (legsOf d h.1).any (fun n => (d.legs[n.1]).causes &&& mask ≠ 0)
  let d := each [1, 2, 3, 4, 5] (fun d c => if holds (2 ^ (c - 1)) then d else dropCause d h.1 c) d
  let d := if holds 7 then d else dropCause d h.1 6
  if wordsBack d h.1 then dropCause d h.1 7 else d

/-- A group is released: its hold ends and it is counted (R148, R149). -/
def releaseGroup (d : Device) (h : Fin 4) (m t : Nat) : Device :=
  let d := each (groupLegs d m) (fun d n => wrB d (Addr.GATE_LFLT n.1) 5 false) d
  count { d with har := upd d.har h (fun a => { a with lastRelease := some t }) } (Addr.GATE_RETRY_CNT h.1)

/-- A harness is released: it reads READY, its held groups with it, and it is counted; a contactor that
no other harness holds open may close again on a new rise (R112, R148, R149, R256). -/
def releaseHarness (d : Device) (h : Fin 4) (t : Nat) : Device :=
  let d := setHstate d h.1 .ready
  let d := each (legsOf d h.1) (fun d n => wrB d (Addr.GATE_LFLT n.1) 5 false) d
  let d := { d with har := upd d.har h (fun a => { a with lastRelease := some t, waitFrom := none, cleared := false }) }
  let d := count (showSelv d h.1) (Addr.GATE_RETRY_CNT h.1)
  let still (n : Fin 4) : Bool := (List.range 4).any (fun g => d.selv.konts.testBit (4 * n.1 + g) &&
    (hstate d g == .selvedge || hstate d g == .latched))
  { d with bridle := { d.bridle with konts := Vector.ofFn (fun n : Fin 4 =>
      let k := d.bridle.konts[n.1]
      { k with gateOpen := k.gateOpen && still n }) } }

/-- Release of a harness where every cause has gone and the 20 µs of R148 have passed: at once in the
clearing mode of the next edge, and for a latched harness after `GATE_CLEAR`; in timed mode it waits for
`GATE_RETRY_WAIT` (R148, R149). -/
def tryRelease (d : Device) (h : Fin 4) (t : Nat) : Device :=
  let d := refreshCauses d h
  let free := causes d h.1 = 0 ∧ (d.har[h.1]).offDone = true
  match hstate d h.1 with
  | .selvedge => if free ∧ rdB d (Addr.GATE_HCFG h.1) 0 = false then releaseHarness d h t else d
  | .latched => if free ∧ (d.har[h.1]).cleared = true then releaseHarness d h t else d
  | _ => d

/-- A cause of a harness is released by its owner, and the harness with it where it was the last. -/
def ownerRelease (d : Device) (h : Fin 4) (t c : Nat) : Device := tryRelease (dropCause d h.1 c) h t

/-- The step of a master releases its held group in the clearing mode of the next edge, where every cause
has gone and the step turns on a gate of the group (R148). -/
def edgeRelease (d : Device) (h : Fin 4) (m t row : Nat) : Device :=
  let d := refreshCauses d h
  let legs := groupLegs d m
  let held := legs.any (fun n => rdB d (Addr.GATE_LFLT n.1) 5)
  let free := legs.all (fun n => (d.legs[n.1]).causes == 0 && (d.legs[n.1]).heldFree)
  let turnsOn := legs.any (fun n => let c := rowCode row (n.1 - m); c == 1 || c == 2)
  if held && free && turnsOn && !rdB d (Addr.GATE_HCFG h.1) 0 then releaseGroup d h m t else d

/-- A row change of master `m` at tap `t` (R107, R141, R148): a held group's gates do not follow it until
it is released, and a group being released takes its row in full. -/
def rowChange (d : Device) (h : Fin 4) (m t row : Nat) : Device :=
  let d := edgeRelease d h m t row
  each (groupLegs d m) (fun d n =>
    if rdB d (Addr.GATE_LFLT n.1) 5 then d else legCommand d t n (rowCode row (n.1 - m))) d

end Sys2Proof.Machine
end

