-- ==== Sys2Proof/Machine/Bridle.lean ====
section
/-! DEFINITION. The bridle: antivalent pairs, insulation and cable-lock inputs, enables, contactors with
their feedback, supervision, degraded mode, permits, resets and the stored configuration (R241 to
R262). -/

namespace Sys2Proof.Machine

open Sys2Proof

/-! ### Reading the configuration -/

/-- A bit of a pair's configuration: 31 `EN`, 30 `DEGR`, 29 `AUTO`, 28 `STOP1`. -/
def pairBit (d : Device) (p i : Nat) : Bool := rdB d (Addr.BRD_SA_CFG p) i

/-- The state of a pair: 0 OK, 1 DEMAND, 2 DISC, 3 LOST1, 4 LOST2. -/
def pairState (d : Device) (p : Nat) : Nat := rdF d Addr.BRD_SA_STAT (3 * p) 3

/-- A pair's state, written. -/
def setPairState (d : Device) (p s : Nat) : Device := wrF d Addr.BRD_SA_STAT (3 * p) 3 s

/-- Whether a pair's reaction is held. -/
def pairHeld (d : Device) (p : Nat) : Bool := rdB d Addr.BRD_SA_STAT (24 + p)

/-- Whether a pair's enables and contactors follow its reaction now: at once in category 0, after the
delay in category 1 (R243). -/
def pairActs (d : Device) (p : Fin 8) : Bool :=
  pairHeld d p.1 && (d.bridle.pairs[p.1]).stop1Till.isNone

/-- Degraded mode (R253). -/
def degraded (d : Device) : Bool := rdB d Addr.BRD_STAT 1

/-- A bridle fault (R251). -/
def bridleFaulty (d : Device) : Bool := rdB d Addr.BRD_STAT 2

/-- A supervision fault (R250). -/
def supvFault (d : Device) : Bool := rdB d Addr.BRD_STAT 3

/-- A supervision fault that acts on the outputs. -/
def supvActs (d : Device) : Bool := supvFault d && rdB d Addr.BRD_GCFG 8

/-- Whether `KF`n reads closed, with `FBINV` (R248). A LOST reading is neither open nor closed. -/
def kfClosed (d : Device) (n : Fin 4) : Bool :=
  (d.bridle.konts[n.1]).feedback == (if rdB d (Addr.BRD_K_CFG n.1) 30 then Reading.zero else Reading.one)

/-- Whether `KF`n reads open. -/
def kfOpen (d : Device) (n : Fin 4) : Bool :=
  (d.bridle.konts[n.1]).feedback == (if rdB d (Addr.BRD_K_CFG n.1) 30 then Reading.one else Reading.zero)

/-- Whether `K`n is on. -/
def kontOn (d : Device) (n : Nat) : Bool := rdB d Addr.BRD_OUT_STAT (4 + n)

/-- Whether `WELD`n is set. -/
def welded (d : Device) (n : Nat) : Bool := rdB d Addr.BRD_OUT_STAT (12 + n)

/-- The field of a mask that holds where `b` does. -/
def maskIf (b : Bool) (m : Nat) : Nat := if b then m else 0

/-- Whether the cable-lock condition opens its contactors (R244). -/
def lockOpens (d : Device) : Bool := rdB d Addr.BRD_LOCK_CFG 31 && d.bridle.lock != .one

/-- The harnesses that reactions and faults in force name (R243, R244, R248 to R251). -/
def bridleHarnesses (d : Device) : Nat :=
  let pairs := (List.range 8).foldl (fun m p =>
    m ||| maskIf (pairHeld d p) (rdF d (Addr.BRD_SA_CFG p) 16 4)) 0
  let konts := (List.finRange 4).foldl (fun m n =>
    m ||| maskIf (welded d n.1 || (d.bridle.konts[n.1]).dropout) (rdF d (Addr.BRD_K_CFG n.1) 20 4)) 0
  pairs ||| konts ||| maskIf (rdB d Addr.BRD_OUT_STAT 24) (rdF d Addr.BRD_IMD_CFG 16 4)
    ||| maskIf (rdB d Addr.BRD_OUT_STAT 25) (rdF d Addr.BRD_LOCK_CFG 4 4)
    ||| maskIf (supvFault d || bridleFaulty d) 0xF

/-- The enables that reactions and faults in force take low (R245). -/
def bridleEnablesLow (d : Device) : Nat :=
  let pairs := (List.finRange 8).foldl (fun m p =>
    m ||| maskIf (pairActs d p) (rdF d (Addr.BRD_SA_CFG p.1) 20 2)) 0
  let konts := (List.range 4).foldl (fun m n =>
    m ||| maskIf (welded d n) (rdF d (Addr.BRD_K_CFG n) 16 2)) 0
  pairs ||| konts ||| maskIf (rdB d Addr.BRD_OUT_STAT 24) (rdF d Addr.BRD_IMD_CFG 20 2)
    ||| maskIf (supvActs d || bridleFaulty d || !d.bridle.started) 3
    ||| maskIf (rdB d Addr.BRD_GCFG 10 && !d.bridle.resetDone) 3

/-- Whether an open condition acts on `K`n (R246). -/
def kontOpens (d : Device) (n : Fin 4) : Bool :=
  (List.finRange 8).any (fun p => pairActs d p && rdB d (Addr.BRD_SA_CFG p.1) (24 + n.1))
    || (rdB d Addr.BRD_OUT_STAT 24 && rdB d Addr.BRD_IMD_CFG (24 + n.1))
    || (lockOpens d && rdB d Addr.BRD_LOCK_CFG n.1)
    || (d.bridle.konts[n.1]).gateOpen
    || (List.range 4).any (fun m => welded d m && rdF d (Addr.BRD_K_CFG m) 27 3 == n.1)
    || welded d n.1 || rdB d Addr.BRD_OUT_STAT (16 + n.1) || (d.bridle.konts[n.1]).dropout
    || bridleFaulty d || supvActs d || !d.bridle.started

/-! ### Outputs -/

/-- `K`n on: the feedback becomes due, and the insulation input is blanked (R244, R248). -/
def kontClose (d : Device) (n : Fin 4) (t : Nat) : Device :=
  let d := wrB d Addr.BRD_OUT_STAT (4 + n.1) true
  let d := { d with bridle := { d.bridle with konts := upd d.bridle.konts n (fun k =>
    { k with checkFrom := some t }) } }
  if rdB d Addr.BRD_IMD_CFG (24 + n.1) then
    { d with bridle := { d.bridle with blankTill := some (t + ms (rdF d Addr.BRD_IMD_T 16 14)) } }
  else d

/-- Whether `K`n shall be on in the role in force (R246, R255). -/
def kontWanted (d : Device) (n : Fin 4) : Bool :=
  let k := d.bridle.konts[n.1]
  rdB d (Addr.BRD_K_CFG n.1) 31 && !kontOpens d n && (!d.bridle.request || k.request || k.carried)

/-- The contactor outputs follow their conditions. -/
def driveKonts (d : Device) (t : Nat) : Device :=
  each (List.finRange 4) (fun d n =>
    if kontOpens d n then kontOff d n
    else if kontWanted d n then (if kontOn d n.1 then d else kontClose d n t)
    else if kontOn d n.1 then kontOff d n
    else d) d

/-- The enables follow their conditions (R245, R260). -/
def driveEnables (d : Device) : Device := wrF d Addr.BRD_OUT_STAT 0 2 (3 - bridleEnablesLow d)

/-- The permits (R254). -/
def drivePermits (d : Device) (t : Nat) : Device :=
  let hm := bridleHarnesses d
  each (List.range 4) (fun d h =>
    let test := rdB d Addr.BRD_PERM_CFG (20 + h) && !hm.testBit h && !degraded d
    let absent := rdB d Addr.BRD_PERM_CFG (16 + h) && (List.finRange 4).all (fun n =>
      !rdB d Addr.BRD_PERM_CFG (4 * h + n.1) ||
        (kfOpen d n && !welded d n.1 &&
          (match (d.bridle.konts[n.1]).openSince with
            | some s => decide (s + sec 1 ≤ t)
            | none => false)))
    wrB (wrB d Addr.BRD_PERMIT h test) Addr.BRD_PERMIT (4 + h) absent) d

/-- The harnesses named by what is in force go to the selvedge with cause 0x0B, and those no longer named
are released from it (R143, R243). -/
def driveHarnesses (d : Device) (t : Nat) : Device :=
  let now := bridleHarnesses d
  let was := rdF d Addr.BRD_STAT 8 4
  let d := wrF d Addr.BRD_STAT 8 4 now
  each (List.finRange 4) (fun d h =>
    if now.testBit h.1 && !was.testBit h.1 then selvedge d h t 0x0B
    else if was.testBit h.1 && !now.testBit h.1 then ownerRelease d h t 0x0B
    else d) d

/-- Everything the bridle drives brought up to its state. -/
def bridleSettle (d : Device) (t : Nat) : Device :=
  let d := driveEnables (driveKonts (driveHarnesses d t) t)
  drivePermits d t

/-! ### Critical events and degraded mode (R252, R253, R256) -/

/-- A critical event or a start of degraded mode: stamped, and offered to the housekeeping converter and
the recorder. -/
def bridleEvent (d : Device) (t : Nat) : Device :=
  let d := wr64 d (Addr.BRD_EVT_TIME_LO) (ialos d)
  recEvent 4 (hkTrigger d 3) 0x20 t

/-- A critical event, counted. -/
def critical (d : Device) (t : Nat) : Device := bridleEvent (count d Addr.BRD_DEMAND_CNT) t

/-- A pair's reaction begins (R243). -/
def pairReact (d : Device) (p : Fin 8) (t : Nat) : Device :=
  let till := if pairBit d p.1 28 then some (t + ms (rdF d Addr.BRD_STOP1 0 14)) else none
  let d := if pairHeld d p.1 then d
    else { d with bridle := { d.bridle with pairs := upd d.bridle.pairs p (fun a => { a with stop1Till := till }) } }
  critical (wrB d Addr.BRD_SA_STAT (24 + p.1) true) t

/-- Degraded mode begins (R253). -/
def degradedStart (d : Device) (p : Fin 8) (t : Nat) : Device :=
  let d := { d with bridle := { d.bridle with degrPair := some p.1,
                                               degrTill := t + sec (rdF d Addr.BRD_DEGR 0 11) } }
  let d := wrN (wrB d Addr.BRD_STAT 1 true) Addr.BRD_DEGR_REM (rdF d Addr.BRD_DEGR 0 11)
  bridleEvent (count d Addr.BRD_DEGR_CNT) t

/-- Degraded mode ends; the full limits return. -/
def degradedEnd (d : Device) : Device :=
  wrN (wrB { d with bridle := { d.bridle with degrPair := none } } Addr.BRD_STAT 1 false) Addr.BRD_DEGR_REM 0

/-- `BRD_DEGR_REM` at an instant: the seconds left. -/
def degradedLeft (d : Device) (t : Nat) : Nat :=
  if degraded d then ceilDiv (d.bridle.degrTill - t) (sec 1) else 0

/-! ### Pairs (R242, R243) -/

/-- The state a pair takes with the readings `a` and `b`, from state `s` (R242): the state, and whether it
has settled in DEMAND. -/
def pairNext (s : Nat) (settled : Bool) (inTime : Bool) (a b : Reading) : Nat × Bool :=
  let ok := a == .one && b == .zero
  let dem := a == .zero && b == .one
  let lostA := a == .lost
  let lostB := b == .lost
  if lostA && (lostB || b == .one) || lostB && a == .zero then (4, false)
  else if dem then (if s = 1 && !settled && !inTime then (2, false) else (1, true))
  else if lostA || lostB then (if s = 2 || s = 4 then (s, false) else (3, false))
  else if s = 2 || s = 3 || s = 4 then (s, false)
  else if ok then (if s = 1 then (if settled then (if inTime then (0, false) else (2, false)) else (1, false)) else (0, false))
  else (1, settled)

/-- What a pair is judged from at `t`: what it was before its first change of that instant (R242). -/
def pairBefore (d : Device) (p : Fin 8) (t : Nat) : PairBefore :=
  let q := d.bridle.pairs[p.1]
  let here : PairBefore := ⟨t, pairState d p.1, q.settled, q.clean, q.changeAt⟩
  match q.before with
  | some b => if b.instant = t then b else here
  | none => here

/-- A pair after a change of one of its readings at `t`: its state, its reaction, or degraded mode. Both channels that
change at one instant count as one change. -/
def pairChange (d : Device) (p : Fin 8) (t : Nat) : Device :=
  let q := d.bridle.pairs[p.1]
  if !pairBit d p.1 31 then d
  else
    let b := pairBefore d p t
    let s := pairState d p.1
    let disc := ms (rdF d (Addr.BRD_SA_CFG p.1) 0 9)
    let inTime := match b.changeAt with
      | some c => decide (t ≤ c + disc)
      | none => true
    let (s', settled) := pairNext b.state b.settled inTime q.chA q.chB
    let moving := s' = 1 && !(q.chA == .zero && q.chB == .one) && !(q.chA == .one && q.chB == .zero)
    let clean := if b.state = 0 then true else b.clean && (s' == 0 || s' == 1)
    let d := { d with bridle := { d.bridle with pairs := upd d.bridle.pairs p (fun a =>
      { a with settled := settled, clean := clean && (s' == 0 || s' == 1), before := some b,
               changeAt := if moving then some (b.changeAt.getD t) else none }) } }
    let d := setPairState d p.1 s'
    let demandRead := q.chA == .zero || q.chB == .one
    let wasCritical := s = 1 || s = 2 || s = 4 || s = 3 && pairHeld d p.1
    if s' = 0 then
      if s ≠ 0 ∧ pairBit d p.1 29 ∧ clean = true then
        wrB { d with bridle := { d.bridle with pairs := upd d.bridle.pairs p (fun a => { a with stop1Till := none }) } }
          Addr.BRD_SA_STAT (24 + p.1) false
      else d
    else if s' = 3 && !wasCritical then
      if s = 3 then (if demandRead then pairReact d p t else d)
      else if pairBit d p.1 30 && !degraded d then
        { degradedStart d p t with bridle := { (degradedStart d p t).bridle with
            pairs := upd d.bridle.pairs p (fun a => { a with degraded := true }) } }
      else pairReact d p t
    else if wasCritical then d
    else pairReact d p t

/-- The pairs after a change of the configuration: one no longer enabled is ignored, one enabled is judged
by its readings (R242). -/
def pairsFollow (d : Device) (t : Nat) : Device :=
  each (List.finRange 8) (fun d p =>
    if pairBit d p.1 31 then (if d.bridle.started then pairChange d p t else d)
    else wrB (setPairState d p.1 0) Addr.BRD_SA_STAT (24 + p.1) false) d

/-! ### Feedback (R248, R249) -/

/-- A weld of `K`n: shown, and a critical event. -/
def weld (d : Device) (n : Fin 4) (t : Nat) : Device :=
  if welded d n.1 then d else critical (wrB d Addr.BRD_OUT_STAT (12 + n.1) true) t

/-- The feedback of `K`n judged once it is no longer due (R248, R255): in the follower role for welds
only. -/
def judgeFeedback (d : Device) (n : Fin 4) (t : Nat) (changed : Bool) : Device :=
  if kontOn d n.1 then
    if d.bridle.request && !kfClosed d n then
      if changed then critical (wrB d Addr.BRD_OUT_STAT (16 + n.1) true) t
      else critical { d with bridle := { d.bridle with
        konts := upd d.bridle.konts n (fun k => { k with dropout := true }) } } t
    else d
  else if kfClosed d n && rdB d (Addr.BRD_K_CFG n.1) 31 then weld d n t
  else d

/-- `BRD_K_KFTIME` after a change of `K`n its feedback is checked. -/
def kfCheck (n : Fin 4) (t : Nat) (d : Device) : Device :=
  match (d.bridle.konts[n.1]).checkFrom with
  | some c =>
    if c + ms (rdF d (Addr.BRD_K_CFG n.1) 0 9) ≤ t then
      let d := { d with bridle := { d.bridle with konts := upd d.bridle.konts n (fun k => { k with checkFrom := none }) } }
      bridleSettle (judgeFeedback d n t true) t
    else d
  | none => d

/-! ### Input changes (R241, R244) -/

/-- A monitored input: the two channels of a pair, `IMD`, `CBL_LK` or a feedback. -/
inductive BridleInput where
  | pairA (p : Fin 8)
  | pairB (p : Fin 8)
  | imd
  | lock
  | feedback (n : Fin 4)
deriving DecidableEq, Repr

/-- The input that a number names: 2p and 2p + 1 the channels of pair p, 16 `IMD`, 17 `CBL_LK`, 18 to 21
`KF0` to `KF3`. -/
def bridleInput (i : Nat) : Option BridleInput :=
  if i < 16 then (fin? 8 (i / 2)).map (fun p => if i % 2 = 0 then .pairA p else .pairB p)
  else if i = 16 then some .imd
  else if i = 17 then some .lock
  else (fin? 4 (i - 18)).map .feedback

/-- The cable-lock reaction follows the input and the contactors it names (R244). -/
def lockFollow (d : Device) : Device :=
  if lockOpens d then
    if (List.range 4).any (fun n => kontOn d n && rdB d Addr.BRD_LOCK_CFG n) then wrB d Addr.BRD_OUT_STAT 25 true
    else d
  else wrB d Addr.BRD_OUT_STAT 25 false

/-- An accepted change of a bridle input (R241): it has held for `BRD_IN_FILT`. -/
def bridleInputChange (i : Nat) (r : Reading) (t : Nat) (d : Device) : Device :=
  if !domOn d 11 then d
  else match bridleInput i with
    | none => d
    | some (.pairA p) =>
      let d := { d with bridle := { d.bridle with pairs := upd d.bridle.pairs p (fun a => { a with chA := r }) } }
      bridleSettle (if d.bridle.started then pairChange d p t else d) t
    | some (.pairB p) =>
      let d := { d with bridle := { d.bridle with pairs := upd d.bridle.pairs p (fun a => { a with chB := r }) } }
      bridleSettle (if d.bridle.started then pairChange d p t else d) t
    | some .imd =>
      { d with bridle := { d.bridle with imd := r, imdLowAt := if r = .one then none else some (d.bridle.imdLowAt.getD t) } }
    | some .lock => bridleSettle (lockFollow { d with bridle := { d.bridle with lock := r } }) t
    | some (.feedback n) =>
      let d := { d with bridle := { d.bridle with konts := upd d.bridle.konts n (fun k => { k with feedback := r }) } }
      let d := wrB d Addr.BRD_OUT_STAT (8 + n.1) (kfClosed d n)
      let d := { d with bridle := { d.bridle with konts := upd d.bridle.konts n (fun k =>
        { k with openSince := if kfOpen d n then some (k.openSince.getD t) else none }) } }
      bridleSettle (if (d.bridle.konts[n.1]).checkFrom.isSome || !d.bridle.started then d
        else judgeFeedback d n t false) t

/-- The channels of a pair have not agreed within `BRD_SA_DISC_p` of the first change (R242). -/
def saDisc (p : Fin 8) (t : Nat) (d : Device) : Device :=
  match (d.bridle.pairs[p.1]).changeAt with
  | some c =>
    if c + ms (rdF d (Addr.BRD_SA_CFG p.1) 0 9) ≤ t ∧ pairBit d p.1 31 ∧ pairState d p.1 = 1 then
      let held := pairHeld d p.1
      let d := { d with bridle := { d.bridle with pairs := upd d.bridle.pairs p (fun a =>
        { a with changeAt := none, settled := false, clean := false }) } }
      let d := setPairState d p.1 2
      bridleSettle (if held then d else pairReact d p t) t
    else d
  | none => d

/-- The delay of a category 1 stop has passed (R243). -/
def stop1Expiry (p : Fin 8) (t : Nat) (d : Device) : Device :=
  match (d.bridle.pairs[p.1]).stop1Till with
  | some x =>
    if x ≤ t then
      bridleSettle { d with bridle := { d.bridle with
        pairs := upd d.bridle.pairs p (fun a => { a with stop1Till := none }) } } t
    else d
  | none => d

/-! ### Insulation (R244) -/

/-- `IMD` has read 0 or LOST for `BRD_IMD_FILT` outside its blanking. -/
def imdFault (t : Nat) (d : Device) : Device :=
  match d.bridle.imdLowAt with
  | some s =>
    let from' := max s (d.bridle.blankTill.getD 0)
    if rdB d Addr.BRD_IMD_CFG 31 ∧ from' + ms (rdF d Addr.BRD_IMD_T 0 11) ≤ t
        ∧ rdB d Addr.BRD_OUT_STAT 24 = false ∧ domOn d 11 then
      bridleSettle (critical (wrB d Addr.BRD_OUT_STAT 24 true) t) t
    else d
  | none => d

/-- The blanking of `IMD` ends. -/
def imdBlankEnd (t : Nat) (d : Device) : Device :=
  match d.bridle.blankTill with
  | some b =>
    if b ≤ t then
      { d with bridle := { d.bridle with blankTill := none, imdLowAt := d.bridle.imdLowAt.map (max b) } }
    else d
  | none => d

/-! ### Faults, tests and resets (R245, R247, R250, R251) -/

/-- A bridle fault: every output off and every harness at the selvedge until a power cycle of PD11. -/
def bridleFault (t : Nat) (d : Device) : Device :=
  if domOn d 11 && !bridleFaulty d then
    bridleSettle (critical (raise (wrB d Addr.BRD_STAT 2 true) .bridleFault 0) t) t
  else d

/-- The once-a-second test of the enable switches of a channel: each enable commanded high falls low for
the pulse, and a read-back that does not is a bridle fault (R245, R251). -/
def senTest (low : Nat) (t : Nat) (d : Device) : Device :=
  if rdB d Addr.BRD_GCFG 9 && domOn d 11 && (List.range 2).any (fun i => rdB d Addr.BRD_OUT_STAT i && !low.testBit i) then
    bridleFault t d
  else d

/-- A window of the CKF supervision with its cycle count (R250). -/
def ckfWindow (cycles t : Nat) (d : Device) : Device :=
  if !domOn d 11 then d
  else if cycles < 2875 ∨ 3375 < cycles then
    let was := supvFault d
    let d := wrB { d with bridle := { d.bridle with supvGood := none } } Addr.BRD_STAT 3 true
    bridleSettle (if was then d else critical d t) t
  else { d with bridle := { d.bridle with supvGood := some (d.bridle.supvGood.getD t) } }

/-- A valid reset at the rise of `SRES_N` after a low of `low` that a high of `high` preceded (R247): it
releases what has gone, meets the start-up condition of R260 where every enabled pair is OK, and ends a
repaired degraded mode. -/
def bridleReset (low high t : Nat) (d : Device) : Device :=
  let stuck := rdB d Addr.BRD_STAT 4
  if domOn d 11 ∧ ms 50 ≤ low ∧ low ≤ sec 5 ∧ (stuck = false ∨ ms 50 ≤ high) then
    let d := count (wrB d Addr.BRD_STAT 4 false) Addr.BRD_RESET_CNT
    let d := each (List.finRange 8) (fun d p =>
      if pairState d p.1 = 0 then
        wrB { d with bridle := { d.bridle with pairs := upd d.bridle.pairs p (fun a =>
          { a with stop1Till := none, degraded := false }) } } Addr.BRD_SA_STAT (24 + p.1) false
      else d) d
    let d := match d.bridle.degrPair with
      | some p => if degraded d ∧ pairState d p = 0 ∧ t < d.bridle.degrTill then degradedEnd d else d
      | none => d
    let d := if d.bridle.imd = .one then wrB d Addr.BRD_OUT_STAT 24 false else d
    let d := each (List.finRange 4) (fun d n =>
      let d := wrB d Addr.BRD_OUT_STAT (16 + n.1) false
      let d := { d with bridle := { d.bridle with konts := upd d.bridle.konts n (fun k => { k with dropout := false }) } }
      if kfOpen d n then wrB d Addr.BRD_OUT_STAT (12 + n.1) false else d) d
    let d := match d.bridle.supvGood with
      | some g => if g + sec 1 ≤ t then wrB d Addr.BRD_STAT 3 false else d
      | none => d
    let allOk := (List.range 8).all (fun p => !pairBit d p 31 || pairState d p == 0)
    let d := if allOk then { d with bridle := { d.bridle with resetDone := true } } else d
    bridleSettle d t
  else d

/-- `SRES_N` has been low for longer than 5 s. -/
def sresStuck (low : Nat) (d : Device) : Device :=
  if domOn d 11 ∧ sec 5 < low then wrB d Addr.BRD_STAT 4 true else d

/-- The budget of degraded mode has run out: the pair's reaction applies (R253). -/
def degradedExpiry (t : Nat) (d : Device) : Device :=
  match d.bridle.degrPair with
  | some p =>
    if degraded d ∧ d.bridle.degrTill ≤ t then
      atFin 8 p (fun p d => bridleSettle (if pairHeld d p.1 then d else pairReact d p t) t) (degradedEnd d)
    else d
  | none => d

/-- The power-absent permits brought up to `t` (R254). -/
def powerAbsent (t : Nat) (d : Device) : Device := if domOn d 11 then drivePermits d t else d

/-! ### Roles and close requests (R248, R255) -/

/-- A commit of `BRD_KREQ` (R248, R256): a rise of a bit closes its contactor where no open condition acts,
else `KREQ_REF` is set; a bit committed 0 opens it. -/
def kreqCommit (d : Device) (v : Word) (t : Nat) : Device :=
  let old := rd d Addr.BRD_KREQ
  let d := wrN d Addr.BRD_KREQ (field v 0 4)
  let d := each (List.finRange 4) (fun d n =>
    let rise := bit v n.1 && !bit old n.1
    let refused := bit v n.1 && kontOpens d n
    let d := wrB d Addr.BRD_OUT_STAT (20 + n.1) refused
    { d with bridle := { d.bridle with konts := upd d.bridle.konts n (fun k =>
        { k with request := bit v n.1 && (k.request || k.carried || rise) && !refused, carried := false }) } }) d
  if domOn d 11 then bridleSettle d t else d

/-- The bridle takes its role from the ownership mode in force (R255): on the change to the request role
each contactor that is on stays on until the first commit. -/
def bridleRole (d : Device) (t : Nat) : Device :=
  let req := ownMode d == 2
  let d := wrB d Addr.BRD_STAT 5 req
  if req == d.bridle.request then d
  else
    let d := { d with bridle := { d.bridle with request := req, konts := Vector.ofFn (fun n : Fin 4 =>
      { d.bridle.konts[n.1] with request := false, carried := req && kontOn d n.1 }) } }
    if domOn d 11 then bridleSettle d t else d

/-! ### Start-up and configuration (R258, R260) -/

/-- Every volatile part of the bridle as PD11 powers up: enables low and contactors off. -/
def bridlePowerUp (d : Device) : Device :=
  let d := each [Addr.BRD_STAT, Addr.BRD_SA_STAT, Addr.BRD_OUT_STAT, Addr.BRD_KREQ, Addr.BRD_DEGR_REM,
    Addr.BRD_PERMIT, Addr.BRD_EVT_TIME_LO, Addr.BRD_EVT_TIME_HI, Addr.BRD_DEMAND_CNT, Addr.BRD_DEGR_CNT,
    Addr.BRD_RESET_CNT, Addr.BRD_CNT_OVF] (fun d a => wrN d a 0) d
  { d with bridle := { d.bridle with
      started := false, resetDone := false, request := false, supvGood := none, degrPair := none,
      blankTill := none,
      pairs := d.bridle.pairs.map (fun a => { a with changeAt := none, settled := false, clean := false,
                                                     stop1Till := none, degraded := false }),
      konts := d.bridle.konts.map (fun k => { k with request := false, carried := false, checkFrom := none,
                                                     gateOpen := false, dropout := false }) } }

/-- The records of the stored configuration, if it passes its check (R258). -/
def bridleStored (d : Device) : Option (List (Nat × Word)) :=
  let n := memNat d bridleBase 4
  if n = bridleIds.length then
    let body := memBytes d bridleBase (4 + 8 * n)
    let recs := (List.range n).map (fun i => parseRecord ((body.drop (4 + 8 * i)).take 8))
    let ids := recs.filterMap (fun r => r.map (·.1))
    if recs.all (·.isSome) ∧ ids = bridleIds ∧ memNat d (bridleBase + 4 + 8 * n) 4 = crc32c body then
      some (recs.filterMap id)
    else none
  else none

/-- The check of the stored configuration at the power-up of PD11 (R258, R260): it passes into force, each
enabled pair that is not OK is a settled DEMAND, and each enabled contactor whose feedback does not read
open is welded; or it fails, which is a bridle fault. -/
def bridleCheck (t : Nat) (d : Device) : Device :=
  if !domOn d 11 || d.bridle.started then d
  else match bridleStored d with
    | none => bridleFault t d
    | some recs =>
      let d := each recs (fun d r => setFieldOf d r.1 r.2) d
      let d := wrN d Addr.BRD_CFG_CRC (memNat d (bridleBase + 4 + 8 * bridleIds.length) 4)
      let d := wrB { d with bridle := { d.bridle with started := true } } Addr.BRD_STAT 0 true
      let d := each (List.finRange 8) (fun d p =>
        let q := d.bridle.pairs[p.1]
        if pairBit d p.1 31 && !(q.chA == .one && q.chB == .zero) then
          pairReact (setPairState { d with bridle := { d.bridle with
            pairs := upd d.bridle.pairs p (fun a => { a with settled := true, clean := true }) } } p.1 1) p t
        else d) d
      let d := each (List.finRange 4) (fun d n =>
        if rdB d (Addr.BRD_K_CFG n.1) 31 && !kfOpen d n then weld d n t else d) d
      bridleSettle (bridleRole (lockFollow d) t) t

/-- The stored configuration rewritten over the values in force: a transaction of the bridle (R258). -/
def bridleStore (d : Device) : Device :=
  let bs := bridleRegion (fieldOf d)
  let d := wrN d Addr.BRD_CFG_CRC (natLE (bs.drop (bs.length - 4)))
  mramPut d 2 .bridle [(bridleBase, bs)]

/-- A write of a register of the configuration page (R7, R258): under an open `SEAL1` it is stored and
applies; under a closed one it is ignored and counted. -/
def bridleCfgWrite (offset : Nat) (v : Word) (t : Nat) (d : Device) : Device :=
  let a := 0x40800000 + offset
  match RegMap.row? a with
  | none => d
  | some r =>
    if offset < 0x8000 ∧ r.rws ≠ 0 then
      if sealOpen d 1 then
        let d := bridleStore (wr d a (BitVec.ofNat 32 (v.toNat &&& r.rws)))
        bridleSettle (lockFollow (pairsFollow d t)) t
      else sealRefused d 1
    else d

end Sys2Proof.Machine
end

