-- ==== Sys2Proof/Machine/Own.lean ====
section
/-! DEFINITION. Gate ownership (R132 to R134, R377) and self-diagnosis faults (R390, R391). -/

namespace Sys2Proof.Machine

open Sys2Proof

/-- The state that `RED_STAT` shows (R378). -/
def redState (d : Device) : Nat := rdF d Addr.RED_STAT 0 3

/-- `RED_STAT.STATE`, written. -/
def setRedState (d : Device) (s : Nat) : Device := wrF d Addr.RED_STAT 0 3 s

/-- Whether the unit is paired (R376). -/
def paired (d : Device) : Bool := rdB d Addr.RED_CFG 0

/-- Whether the pair is synchronised (R387). -/
def pairSync (d : Device) : Bool := rdB d Addr.RED_STAT 5

/-- Whether every turn-off sequence has completed: no gate is in ON or SOFT and no leg waits to leave. -/
def allGatesOut (d : Device) : Bool :=
  (List.finRange 48).all (fun c => cstate d c.1 == .off || cstate d c.1 == .hiz)
    && (List.finRange 24).all (fun n => (d.legs[n.1]).leaveAt.isNone)

/-- The entry that an island with supply and link holds in an ownership mode (R133). -/
def entryOf (d : Device) (m c : Nat) : IslandEntry :=
  match m with
  | 0 => .hiz
  | 1 => .off
  | _ => if entryHiz d c then .hiz else .off

/-- An ownership mode comes into force (R132, R133): every island that can receive it takes its entry;
mode 0 takes every channel to HIZ and mode 1 to OFF; mode 2 releases cause 0x0F (R143). -/
def ownForce (d : Device) (m t : Nat) : Device :=
  let d := wrF (wrB d Addr.GATE_OWN_STAT 3 false) Addr.GATE_OWN_STAT 0 2 m
  let d := wrF d Addr.GATE_OWN 0 2 m
  let d := each (List.finRange 48) (fun d c =>
    let g := d.gchan[c.1]
    if g.supplyUp && rdB d (Addr.GATE_CSTAT c.1) 7 then
      let d := { d with gchan := upd d.gchan c (fun g => { g with entry := entryOf d m c.1, hizAt := none }) }
      if m = 0 then setCstate d c.1 .hiz
      else if m = 1 then setCstate d c.1 .off
      else d
    else d) d
  let d := if m = 2 then each (List.finRange 4) (fun d h => ownerRelease d h t 0x0F) d else d
  bridleRole d t

/-- A write of `GATE_OWN.MODE` (R132): refused while a change is pending and for any change but 0↔1 and
1↔2; a change from 2 to 1 first sends every harness to the selvedge with cause 0x0F. -/
def ownWrite (v : Nat) (t : Nat) (d : Device) : Device :=
  let m := ownMode d
  let refuse := wrB d Addr.GATE_OWN_STAT 2 true
  let accept := wrB d Addr.GATE_OWN_STAT 2 false
  if rdB d Addr.GATE_OWN_STAT 3 then refuse
  else if v = m then accept
  else if v = 1 ∧ m = 0 ∨ v = 0 ∧ m = 1 ∨ v = 2 ∧ m = 1 then ownForce accept v t
  else if v = 1 ∧ m = 2 then selvedgeAll (wrB accept Addr.GATE_OWN_STAT 3 true) t 0x0F
  else refuse

/-- `HAND_N` of this unit (R377, R391). -/
def setHand (d : Device) (low : Bool) (t : Nat) : Device :=
  let d := wrB d Addr.RED_STAT 12 low
  { d with red := { d.red with handAt := if low then some t else none } }

/-- A pending change from mode 2 to 1 completes once every sequence has (R132); a yielding unit then
drives `HAND_N` low 47.6 ns later (R391), and a unit whose takeover failed goes on to mode 0 (R398). -/
def ownDone (t : Nat) (d : Device) : Device :=
  if rdB d Addr.GATE_OWN_STAT 3 ∧ allGatesOut d then
    let d := ownForce d 1 t
    if redState d = 4 then setHand d true (t + 952)
    else if d.red.dropOwn then ownWrite 0 t { d with red := { d.red with dropOwn := false } }
    else d
  else d

/-- An ACTIVE unit with a synchronised standby begins to give up control (R391): no further T0 frame, the
state YIELDING, and mode 1 written. -/
def yieldStart (d : Device) (code t : Nat) : Device :=
  let d := wrN d Addr.RED_DIAG (code + 2 ^ 31)
  ownWrite 1 t (setRedState { d with red := { d.red with stopTx := true } } 4)

/-- A self-diagnosis fault (R390, R391, R398): recorded, handed over where a synchronised standby stands by,
and the end of a takeover in progress. -/
def selfDiag (d : Device) (code t : Nat) : Device :=
  let d := wrN d Addr.RED_DIAG (code + 2 ^ 31)
  if paired d ∧ redState d = 2 ∧ pairSync d then yieldStart d code t
  else if redState d = 5 then
    let d := setHand (setRedState { d with red := { d.red with takeFrom := none } } 6) false t
    if ownMode d = 1 then ownWrite 0 t d
    else ownWrite 1 t { d with red := { d.red with dropOwn := true } }
  else d

end Sys2Proof.Machine
end

