-- ==== Sys2Proof/Machine/Image.lean ====
section
/-! DEFINITION. The loom image in a NOR bank: its tables, the checks of R206, and its loading into the memories
(R195, R205 to R208). -/

namespace Sys2Proof.Machine

open Sys2Proof

/-! ### Places -/

/-- The loom slot of a bank: 0 A, 1 B (R205). -/
def loomSlot (bank : Nat) : Nat := 0xC1000000 + 0x2000000 * bank

/-- The ITCM and the DTCM of a shuttle core (R20). -/
def itcmBase (n : Nat) : Nat := 0x10000000 + 0x100000 * n

/-- The DTCM of a shuttle core. -/
def dtcmBase (n : Nat) : Nat := itcmBase n + 0x80000

/-- The size of the half of an ITCM and of a DTCM working area in the exchangeable layout (R207). -/
def itcmHalf : Nat := 0x10000

/-- The size of a DTCM working half. -/
def dtcmHalf : Nat := 0xE000

/-- The place of a loom key slot (R322): 64 bytes of key, then their CRC-32C. DESIGN CHOICE: the spec gives no
stride. -/
def loomKeyAddr (slot : Nat) : Nat := 0x60032000 + 68 * slot

/-- The key in a loom key slot, where its CRC is good. -/
def loomKey (d : Device) (slot : Nat) : Option (List Byte) :=
  let k := memBytes d (loomKeyAddr slot) 64
  if slot < 4 ∧ memNat d (loomKeyAddr slot + 64) 4 = crc32c k then some k else none

/-! ### Tables (R205) -/

/-- The section table of an image. -/
def readSections (d : Device) (base off n : Nat) : List Section :=
  (List.range n).map (fun i =>
    let e := base + off + 16 * i
    let flags := memNat d (e + 12) 4
    { dest := memNat d e 4, offset := memNat d (e + 4) 4, length := memNat d (e + 8) 4,
      zeroFill := decide (flags % 4 ≠ 0), retained := flags.testBit 2 })

/-- The snapshot table. -/
def readSnaps (d : Device) (base off n : Nat) : List SnapEntry :=
  (List.range n).map (fun i =>
    let e := base + off + 8 * i
    { source := memNat d e 4, cores := memNat d (e + 4) 1, task := memNat d (e + 5) 1 })

/-- The object table. -/
def readObjects (d : Device) (base off n : Nat) : List ObjEntry :=
  (List.range n).map (fun i =>
    let e := base + off + 16 * i
    { objId := memNat d e 2, kind := memNat d (e + 2) 1, task := memNat d (e + 3) 1,
      arg0 := memNat d (e + 4) 4, srcBit := memNat d (e + 8) 4, initial := memNat d (e + 12) 4 })

/-- The station table. -/
def readStations (d : Device) (base off n : Nat) : List StationEntry :=
  (List.range n).map (fun i =>
    let e := base + off + 16 * i
    { number := memNat d e 1, transport := memNat d (e + 1) 1, task := memNat d (e + 2) 1,
      inWords := memNat d (e + 3) 1, outWords := memNat d (e + 4) 1, address := memNat d (e + 8) 4,
      timeout := memNat d (e + 12) 4 })

/-- The state-region table. -/
def readRegions (d : Device) (base off n : Nat) : List StateRegion :=
  (List.range n).map (fun i =>
    let e := base + off + 8 * i
    let w := memNat d (e + 4) 4
    { base := memNat d e 4, length := w % 2 ^ 31, classT1 := decide (2 ^ 31 ≤ w) })

/-- The image in the loom slot of a bank, as its header, tables and trailer give it. -/
def readImage (d : Device) (bank : Nat) : LoomImage :=
  let b := loomSlot bank
  let n (off k : Nat) : Nat := memNat d (b + off) k
  let len := n 0x08 4
  let snaps := n 0x30 2 + n 0x32 2 + n 0x34 2
  { bank := bank, length := len, full := decide (n 0x07 1 ≠ 0),
    t0 := if n 0x10 4 = 0 then 6250 else n 0x10 4,
    t1Mul := n 0x14 2, t2Mul := n 0x16 2, t3Wdog := n 0x18 4, coreMap := n 0x1C 2,
    sections := readSections d b (n 0x20 4) (n 0x24 2),
    snaps := readSnaps d b (n 0x2C 4) snaps,
    objects := readObjects d b (n 0x28 4) (n 0x26 2),
    stations := readStations d b (n 0x38 4) (n 0x36 1),
    regions := readRegions d b (n 0x3C 4) (n 0x37 1),
    starts := (List.range 4).map (fun c => n (0x40 + 4 * c) 4),
    kctx := n 0x50 4,
    layout := memBytes d (b + 0x58) 16,
    hash := memBytes d (b + len - 128) 32,
    keySlot := n (len - 128 + 96) 1 }

/-! ### Checks (R206) -/

/-- Whether `n` bytes from `a` lie in one shuttle core's ITCM, at offsets below `lim`. -/
def inItcm (a n lim : Nat) : Bool :=
  (List.range 4).any (fun c => decide (itcmBase c ≤ a ∧ a + n ≤ itcmBase c + lim))

/-- Whether `n` bytes from `a` lie in one shuttle core's DTCM, at offsets from `lo` below `lim`. -/
def inDtcm (a n lo lim : Nat) : Bool :=
  (List.range 4).any (fun c => decide (dtcmBase c + lo ≤ a ∧ a + n ≤ dtcmBase c + lim))

/-- Whether a section lies where a section may: a TCM outside the loom area, shared SRAM outside the steward's
part, or LPDDR. -/
def sectionPlaced (s : Section) : Bool :=
  inItcm s.dest s.length 0x20000 || inDtcm s.dest s.length 0x2000 0x20000
    || decide (0x20000000 ≤ s.dest ∧ s.dest + s.length ≤ 0x20380000)
    || decide (0x80000000 ≤ s.dest ∧ s.dest + s.length ≤ 0xA0000000)

/-- Whether two sections share a byte. -/
def sectionsMeet (s t : Section) : Bool :=
  decide (s.dest < t.dest + t.length ∧ t.dest < s.dest + s.length)

/-- Whether no two sections of a list share a byte. -/
def sectionsApart : List Section → Bool
  | [] => true
  | s :: rest => rest.all (fun t => !sectionsMeet s t) && sectionsApart rest

/-- Whether a section lies in a TCM. -/
def inTcm (s : Section) : Bool := inItcm s.dest s.length 0x20000 || inDtcm s.dest s.length 0 0x20000

/-- Whether the TCM use of a section keeps to the layout of R207. -/
def sectionLaid (full : Bool) (s : Section) : Bool :=
  let halves := !inTcm s || inItcm s.dest s.length itcmHalf || inDtcm s.dest s.length 0 (0x4000 + dtcmHalf)
  (full || halves) && (!s.retained || inDtcm s.dest s.length 0x2000 0x4000)

/-- The cores of task `t` by the task-core map. -/
def coresOf (i : LoomImage) (t : Nat) : Nat := i.coreMap / 16 ^ t % 16

/-- The snapshot words of a task on a core, in list order. -/
def snapList (i : LoomImage) (t c : Nat) : List SnapEntry :=
  i.snaps.filter (fun e => e.task == t && e.cores.testBit c)

/-- Whether an object is a timer. -/
def ObjEntry.timer (o : ObjEntry) : Bool := decide (1 ≤ o.kind ∧ o.kind ≤ 4)

/-- Whether an object is an edge detector. -/
def ObjEntry.edge (o : ObjEntry) : Bool := decide (0x11 ≤ o.kind ∧ o.kind ≤ 0x13)

/-- The timers of an image, in the order of their slots. -/
def timersOf (i : LoomImage) : List ObjEntry := i.objects.filter (·.timer)

/-- The edge detectors of an image, in the order of their slots. -/
def edgesOf (i : LoomImage) : List ObjEntry := i.objects.filter (·.edge)

/-- Whether the tables keep their limits (check 0x09). -/
def tablesFit (d : Device) (i : LoomImage) : Bool :=
  let b := loomSlot i.bank
  let total (one : Bool) : Nat := ((i.regions.filter (fun r => r.classT1 == one)).map (·.length)).sum
  decide (1 ≤ i.sections.length ∧ i.sections.length ≤ 64 ∧ memNat d (b + 0x26) 2 ≤ 192)
    && decide ((timersOf i).length ≤ 64 ∧ (edgesOf i).length ≤ 128 ∧ i.stations.length ≤ 16 ∧ i.regions.length ≤ 16)
    && (List.range 4).all (fun c => decide ((snapList i 0 c).length ≤ 384 ∧ (snapList i 1 c).length ≤ 512
        ∧ (snapList i 2 c).length ≤ 512))
    && decide (total false ≤ 2048 ∧ total true ≤ 32768)
    && i.regions.all (fun r => inDtcm r.base r.length 0 0x20000)
    && i.stations.all (fun s => decide (s.number < 16 ∧ s.inWords ≤ 8 ∧ s.outWords ≤ 8))

/-- Whether the task-core map agrees with the start addresses and the multiples (check 0x0B). -/
def mapFits (i : LoomImage) : Bool :=
  let started := (List.range 3).all (fun t =>
    (List.range 4).all (fun c => !(coresOf i t).testBit c || decide ((i.starts[c]?).getD 0 ≠ 0)))
  decide (coresOf i 0 ≠ 0) && started
    && (decide (i.t1Mul = 0) || decide (coresOf i 1 ≠ 0)) && (decide (i.t2Mul = 0) || decide (coresOf i 2 ≠ 0))

/-- The code of the first check of R206 that an image in a loom slot fails, 0 where it passes; `ledger` asks for an
image of type 0x02. -/
def imageCode (d : Device) (bank : Nat) (ledger : Bool) : Nat :=
  let b := loomSlot bank
  let i := readImage d bank
  let len := i.length
  let typ := memNat d (b + 6) 1
  let tr := b + len - 128
  let sig := memBytes d (tr + 32) 64
  let keyed := match loomKey d i.keySlot with
    | some k => Config.ecdsaVerify k i.hash sig
    | none => false
  if memNat d b 4 ≠ 0x4D4F4C57 ∨ memNat d (b + 4) 2 ≠ 1 ∨ len % 16 ≠ 0 ∨ 0x1000000 < len ∨ len < 384 then 1
  else if memNat d (b + 0xFC) 4 ≠ crc32c (memBytes d b 252) then 2
  else if i.hash ≠ Config.sha256 (memBytes d b (len - 128)) then 3
  else if ledger = false ∧ keyed = false then 4
  else if memNat d (b + 0x0C) 1 ≠ 8 ∨ memNat d (b + 0x0D) 1 ≠ 0 then 5
  else if (ledger = true ∧ (typ ≠ 2 ∨ Config.orderE = false)) ∨ (ledger = false ∧ typ ≠ 1) then 6
  else if ledger then 0
  else if i.sections.all sectionPlaced = false ∨ sectionsApart i.sections = false then 7
  else if i.sections.all (sectionLaid i.full) = false then 8
  else if tablesFit d i = false then 9
  else if ¬ (i.objects.map (·.objId)).Nodup ∨ ¬ (i.stations.map (·.number)).Nodup then 10
  else if mapFits i = false then 11
  else 0

/-- `LOOM_IMG_STAT` after a check of the active bank's image. -/
def showImage (d : Device) (code : Nat) : Device :=
  wrF (wrB d Addr.LOOM_IMG_STAT 0 (code == 0)) Addr.LOOM_IMG_STAT 8 8 code

/-- The loom's active bank. -/
def loomBank (d : Device) : Nat := rdF d Addr.LOOM_MODE 16 1

/-! ### Loading (R195, R208) -/

/-- A section written at an address. -/
def loadSection (base dest : Nat) (d : Device) (s : Section) : Device :=
  if s.zeroFill then memForget d dest s.length else putBytes d dest (memBytes d (base + s.offset) s.length)

/-- Where the loader puts a section of an image that waits to be switched in: in the inactive half (R207, R208). -/
def inactiveDest (s : Section) : Nat :=
  if inItcm s.dest s.length itcmHalf then s.dest + itcmHalf
  else if inDtcm s.dest s.length 0x4000 (0x4000 + dtcmHalf) then s.dest + dtcmHalf
  else s.dest

/-- Every section of an image loaded in its place. -/
def loadImage (d : Device) (i : LoomImage) : Device :=
  i.sections.foldl (fun d s => loadSection (loomSlot i.bank) s.dest d s) d

/-- The sections of an image copied for an exchange; a retained section is not loaded. -/
def armImage (d : Device) (i : LoomImage) : Device :=
  (i.sections.filter (fun s => !s.retained)).foldl (fun d s => loadSection (loomSlot i.bank) (inactiveDest s) d s) d

/-- The halves of every TCM exchanged (R207, R208). -/
def swapHalves (d : Device) : Device :=
  each (List.range 4) (fun d c =>
    memSwap (memSwap d (itcmBase c) (itcmBase c + itcmHalf) itcmHalf)
      (dtcmBase c + 0x4000) (dtcmBase c + 0x4000 + dtcmHalf) dtcmHalf) d

/-- The registers that name the loaded image. -/
def showLoaded (d : Device) (i : LoomImage) : Device :=
  let d := wrN (wrN d Addr.LOOM_T0_CKF i.t0) Addr.LOOM_TMUL (i.t2Mul * 65536 + i.t1Mul)
  wrN (wrN d Addr.LOOM_T3_WDOG i.t3Wdog) Addr.LOOM_IMG_ID (natLE (i.hash.take 4))

end Sys2Proof.Machine
end

