-- ==== Sys2Proof/Machine/Flags.lean ====
section
/-! DEFINITION. The flags of a path word and of a resampled word, and their `DATA` (R75). -/

namespace Sys2Proof.Machine

open Sys2Proof

/-- `DATA` of a path word, as a signed number (R75). -/
def dataOf (w : Word) : Int := signed 24 (field w 0 24)

/-- The magnitude at which a value is clipped: 1.25 times full scale (R74). -/
def dataMax : Int := 5242880

/-- `INV`: the channel is invalid and `DATA` reads 0 (R75). -/
def flagInv (w : Word) : Bool := bit w 31

/-- `OVL`: the input window holds an overloaded bit (R75). -/
def flagOvl (w : Word) : Bool := bit w 30

/-- `UNS`: the path is not settled (R75). -/
def flagUns (w : Word) : Bool := bit w 29

/-- `CLIP`: the value was clipped (R74, R75). -/
def flagClip (w : Word) : Bool := bit w 28

/-- A word of the format from its flags, bits 27 to 24 (the output count of a path; `FREF` and `SOC` of a resampled
word) and its `DATA` (R75). -/
def formatWord (inv ovl uns clip : Bool) (seq : Nat) (v : Int) : Word :=
  word (inv.toNat * 2 ^ 31 + ovl.toNat * 2 ^ 30 + uns.toNat * 2 ^ 29 + clip.toNat * 2 ^ 28 + seq % 16 * 2 ^ 24
    + (Int.emod v (2 ^ 24)).toNat)

end Sys2Proof.Machine
end

