-- ==== Sys2Proof/Machine/Shed.lean ====
section
/-! DEFINITION. The shed units: reference generator, injectors, decisions, taps, edge lists, set-points,
and the CORDIC rotators (R95 to R119). -/

namespace Sys2Proof.Machine

open Sys2Proof

/-- One period of the fast path, 102.4 ns (R72). -/
def fastPeriod : Nat := 8 * ckm

/-- One period of the medium path, 409.6 ns (R72). -/
def mediumPeriod : Nat := 32 * ckm

/-- One period of the precision path, 13.107 2 µs (R72). -/
def precisionPeriod : Nat := 1024 * ckm

/-! ### The reference generator (R99) -/

/-- g at an instant: on its linear move, rounded half away from zero, or the value held. -/
def RefGen.value (r : RefGen) (t : Nat) : Int :=
  if r.moving then
    if r.moveTo ≤ t then r.toVal
    else r.fromVal + roundDiv ((r.toVal - r.fromVal) * ((t : Int) - r.moveFrom)) (max 1 (r.moveTo - r.moveFrom))
  else r.g

/-- `FIFO_LVL` and `EDGE_LVL` of a unit follow its lists. -/
def showLevels (d : Device) (n : Fin 24) : Device :=
  let u := d.shed[n.1]
  wrF (wrF d (Addr.SHED_STAT n.1) 16 8 u.gen.fifo.length) (Addr.SHED_STAT n.1) 8 8 u.edges.length

/-- The FIFO of a unit flushed, each entry counted (R99, R111). -/
def flushFifo (d : Device) (n : Fin 24) : Device :=
  let k := ((d.shed[n.1]).gen.fifo).length
  let d := { d with shed := upd d.shed n (fun u => { u with gen := { u.gen with fifo := [] } }) }
  showLevels (if k = 0 then d else countBy d (Addr.SHED_DROP_CNT n.1) k) n

/-- The edge list of a unit flushed, each entry counted (R111). -/
def flushEdges (d : Device) (n : Fin 24) : Device :=
  let k := ((d.shed[n.1]).edges).length
  let d := { d with shed := upd d.shed n (fun u => { u with edges := [] }) }
  showLevels (if k = 0 then d else countBy d (Addr.SHED_DROP_CNT n.1) k) n

/-- A committed reference whose four CKF cycles have passed takes effect: the ramp ends, the FIFO is
flushed and the generator is idle (R99). -/
def genSettle (d : Device) (n : Fin 24) (t : Nat) : Device :=
  match (d.shed[n.1]).gen.due with
  | some (at', v) =>
    if at' ≤ t then
      let d := flushFifo d n
      { d with shed := upd d.shed n (fun u => { u with gen :=
          { u.gen with g := v, moving := false, active := false, due := none } }) }
    else d
  | none => d

/-- A pop instant of the generator (R99): an entry starts a linear move, an empty FIFO leaves g where it
is with `UNDERRUN`; an idle generator does nothing. -/
def refPop (n : Fin 24) (t : Nat) (d : Device) : Device :=
  let d := genSettle d n t
  let r := (d.shed[n.1]).gen
  let h := (harOf d n.1).getD 0
  if r.active then
    match r.fifo with
    | v :: rest =>
      let per := max 1 (rdF d (Addr.SHED_REFP h.1) 0 13) * mediumPeriod
      let d := { d with shed := upd d.shed n (fun u => { u with gen :=
        { u.gen with g := v, fromVal := r.value t, toVal := v, moveFrom := t, moveTo := t + per,
                     moving := true, fifo := rest } }) }
      showLevels (wrB d (Addr.SHED_STAT n.1) 28 false) n
    | [] =>
      let onset := !rdB d (Addr.SHED_STAT n.1) 28
      let d := { d with shed := upd d.shed n (fun u => { u with gen :=
        { u.gen with g := r.value t, moving := false, active := false } }) }
      whenB onset (fun d => count d (Addr.SHED_UNDER_CNT n.1)) (wrB d (Addr.SHED_STAT n.1) 28 true)
  else d

/-- A streamed write of the reference FIFO (R99). -/
def fifoWrite (n : Fin 24) (v : Word) (t : Nat) (d : Device) : Device :=
  let d := genSettle d n t
  if 64 ≤ ((d.shed[n.1]).gen.fifo).length then count d (Addr.SHED_DROP_CNT n.1)
  else showLevels { d with shed := upd d.shed n (fun u => { u with gen :=
      { u.gen with fifo := u.gen.fifo ++ [dataOf v], active := true } }) } n

/-! ### Injectors (R114, R115) -/

/-- The two taps of the maximal-length register of an order (R115). -/
def prbsTaps (order : Nat) : Nat × Nat :=
  match order with
  | 9 => (9, 5)
  | 11 => (11, 9)
  | 15 => (15, 14)
  | 23 => (23, 18)
  | _ => (7, 6)

/-- One step of the maximal-length register. -/
def prbsStep (order r : Nat) : Nat :=
  let (a, b) := prbsTaps order
  (2 * r + ((r.testBit (a - 1)).xor (r.testBit (b - 1))).toNat) % 2 ^ a

/-- Sample `k` of injector `j`, in `DATA` units (R115). -/
def injSample (d : Device) (j k : Nat) : Int :=
  let amp := (rdF d (Addr.INJ_AMP j) 0 23 : Int)
  match rdF d (Addr.INJ_CTRL j) 1 2 with
  | 0 =>
    let order := rdF d (Addr.INJ_CTRL j) 4 5
    let bits := k / (rdF d (Addr.INJ_P0 j) 0 16 + 1)
    let (a, _) := prbsTaps order
    let r := Nat.repeat (prbsStep order) bits (2 ^ a - 1)
    if r.testBit (a - 1) then amp else -amp
  | 1 =>
    let len := max 1 (rdN d (Addr.INJ_P2 j))
    let inc0 := (rdN d (Addr.INJ_P0 j) : Int)
    let inc1 := (rdN d (Addr.INJ_P1 j) : Int)
    let phase := inc0 * k + Int.fdiv ((inc1 - inc0) * (k * (k - 1) / 2 : Nat)) len
    roundDiv (amp * Config.sinTurn (Int.emod phase (2 ^ 32)).toNat) (2 ^ 30)
  | 2 =>
    ((List.range 32).map (fun i =>
      let a := signed 16 (rdF d (Addr.INJ_TAP j i) 16 16)
      let ph := rdF d (Addr.INJ_TAP j i) 0 16 * 2 ^ 16 + rdN d (Addr.INJ_TINC j i) * k
      if a = 0 then 0 else roundDiv (amp * a * Config.sinTurn (ph % 2 ^ 32)) (2 ^ 45))).sum
  | _ => 0

/-- The output of injector `j` at a fast-path instant: zero before its sample 0 and while disabled. -/
def injAt (d : Device) (j : Fin 4) (t : Nat) : Int :=
  match (d.inj[j.1]).startAt with
  | some s => if rdB d (Addr.INJ_CTRL j.1) 0 ∧ s ≤ t then injSample d j.1 ((t - s) / fastPeriod) else 0
  | none => 0

/-- The sum of the injector outputs that target a leg. -/
def injSum (d : Device) (n t : Nat) : Int :=
  ((List.finRange 4).map (fun j => if rdB d (Addr.INJ_MASK j.1) n then injAt d j t else 0)).sum

/-- The end of a chirp (R115): it repeats, or `EN` clears without being counted. -/
def chirpEnd (j : Fin 4) (t : Nat) (d : Device) : Device :=
  match (d.inj[j.1]).startAt with
  | some s =>
    let len := max 1 (rdN d (Addr.INJ_P2 j.1)) * fastPeriod
    if rdB d (Addr.INJ_CTRL j.1) 0 ∧ rdF d (Addr.INJ_CTRL j.1) 1 2 = 1 ∧ s + len ≤ t then
      if rdB d (Addr.INJ_CTRL j.1) 3 then
        { d with inj := upd d.inj j (fun i => { i with startAt := some (s + len) }) }
      else
        wrB { d with inj := upd d.inj j (fun i => { i with startAt := none }) } (Addr.INJ_CTRL j.1) 0 false
    else d
  | none => d

/-! ### Set-points (R100) -/

/-- Whether a unit's reference source uses `SETA`, and whether it uses `SETP` (R98). -/
def usesSeta (d : Device) (n : Nat) : Bool :=
  let s := rdF d (Addr.SHED_CFG n) 16 3
  s == 1 || s == 3

/-- Whether a unit's reference source uses `SETP`. -/
def usesSetp (d : Device) (n : Nat) : Bool :=
  let s := rdF d (Addr.SHED_CFG n) 16 3
  s == 2 || s == 4

/-- `SP_LOSS` of every unit follows the set-point it uses. -/
def showSpLoss (d : Device) : Device :=
  each (List.finRange 24) (fun d n =>
    wrB d (Addr.SHED_STAT n.1) 27
      ((usesSeta d n.1 && d.setp.setaLost) || (usesSetp d n.1 && d.setp.setpLost))) d

/-- A set-point lost: its value is taken as 0, and each onset is counted. -/
def loseSetp (d : Device) (seta : Bool) : Device :=
  let was := if seta then d.setp.setaLost else d.setp.setpLost
  let d := { d with setp := if seta then { d.setp with setaLost := true } else { d.setp with setpLost := true } }
  let d := wr d (if seta then Addr.SHED_SETA else Addr.SHED_SETP) 0x80000000
  showSpLoss (if was then d else count d Addr.SHED_SP_LOSS_CNT)

/-- A valid update of a set-point. -/
def gainSetp (d : Device) (seta : Bool) (v : Int) : Device :=
  let d := { d with setp := if seta then { d.setp with setaLost := false } else { d.setp with setpLost := false } }
  showSpLoss (wrN d (if seta then Addr.SHED_SETA else Addr.SHED_SETP) (Int.emod v (2 ^ 24)).toNat)

/-- A rising edge on `SETP` in pulse-width mode (R100): `high` is the high time of the period that ends,
in CKF cycles. -/
def setpRise (high t : Nat) (d : Device) : Device :=
  if rdF d Addr.SHED_GCFG 0 2 = 1 then
    let prev := d.setp.riseAt
    let d := { d with setp := { d.setp with riseAt := some t } }
    match prev with
    | none => d
    | some r =>
      let per := (t - r) / ckf
      if per < us 20 / ckf then loseSetp d false
      else gainSetp d false (roundDiv ((2 * (high : Int) - per) * 4194304) per)
  else d

/-- Whether a set-point has lost its input (R100). -/
def setpGone (d : Device) (seta : Bool) (t : Nat) : Bool :=
  if seta then !rdB d Addr.MOD_EXT_CFG 0 || rdB d (Addr.DEC_FAST 31) 31
  else match rdF d Addr.SHED_GCFG 0 2 with
    | 1 =>
      let fmin := max 1 (rdF d Addr.SHED_GCFG 16 16)
      decide (2 * sec 1 / fmin ≤ t - (d.setp.riseAt).getD 0)
    | 2 => rdB d (Addr.HK_RESULT 44) 30
    | _ => false

/-- The loss of a set-point whose limit has passed (R100). -/
def setpLoss (seta : Bool) (t : Nat) (d : Device) : Device :=
  if setpGone d seta t then loseSetp d seta else d

/-! ### The reference and the error (R97, R98) -/

/-- r of a unit at a fast-path instant, whether the limit acts, and the injection added. -/
def reference (d : Device) (n : Fin 24) (h : Fin 4) (t : Nat) : Int × Bool × Int :=
  let g := ((d.shed[n.1]).gen).value t
  let sp (w : Word) (lost : Bool) : Int :=
    let v := if lost then 0 else dataOf w
    roundDiv (rdI d (Addr.SHED_SPG h.1) * v) (2 ^ 16) + rdI d (Addr.SHED_SPO h.1)
  let a := sp (rd d Addr.SHED_SETA) d.setp.setaLost
  let p := sp (rd d Addr.SHED_SETP) d.setp.setpLost
  let base := match rdF d (Addr.SHED_CFG n.1) 16 3 with
    | 1 => a
    | 2 => p
    | 3 => g + a
    | 4 => g + p
    | _ => g
  let inj := injSum d n.1 t
  let r := base + inj
  (clampI (-dataMax) dataMax r, decide (r < -dataMax ∨ dataMax < r), inj)

/-! ### Steps (R101 to R105) -/

/-- `SHED_LEVELS` − 1 of a harness; 0 acts as 1 (R121). -/
def topLevel (d : Device) (h : Nat) : Nat := max 1 (rdF d (Addr.SHED_HCFG h) 4 3)

/-- The row of a level: its up-row or its down-row (R105). -/
def heddleRow (d : Device) (h level : Nat) (up : Bool) : Nat :=
  rdF d (Addr.SHED_HED h (level / 2)) (16 * (level % 2) + if up then 0 else 8) 8

/-- The present level of a unit. -/
def levelOf (d : Device) (n : Nat) : Nat := rdF d (Addr.SHED_STAT n) 0 3

/-- The band half-width in use. -/
def bandOf (d : Device) (n : Nat) : Int := (rdN d (Addr.SHED_HNOW n) : Int)

/-- The two thresholds of a unit (R101). -/
def thresholds (d : Device) (n : Fin 24) (h : Nat) : Int × Int :=
  let b := bandOf d n.1
  let b2 := b + (rdF d (Addr.SHED_BAND2 h) 0 22 : Int)
  match (d.shed[n.1]).lastUp with
  | none => (b, -b)
  | some true => (b2, -b)
  | some false => (b, -b2)

/-- The latest of the instants of R103 that a step to `row` must wait for; `freq` is set where the
frequency term applies. -/
def stepFloor (d : Device) (n : Fin 24) (h : Fin 4) (row : Nat) (freq : Bool) : Int :=
  let ton := ns (rdF d (Addr.SHED_TMIN h.1) 16 16)
  let toff := ns (rdF d (Addr.SHED_TMIN h.1) 0 16)
  let gates := (groupLegs d n.1).flatMap (fun l =>
    (gatesOf l).map (fun c =>
      let code := rowCode row (l.1 - n.1)
      let want := if c.1 % 2 = 0 then code = 2 else code = 1
      let isOn := cstate d c.1 = .on
      if isOn ∧ ¬ want then ((d.gchan[c.1]).lastOn + ton : Int)
      else if want ∧ ¬ isOn ∧ 0 < (d.gchan[c.1]).lastOff then
        ((d.gchan[c.1]).lastOff + toff : Int) - deadTime d l.1
      else 0))
  let fmax := max 1 (rdF d (Addr.SHED_FMAX h.1) 0 18)
  let fq := if freq then match (d.shed[n.1]).upTap with
    | some u => ((u + ceilDiv (sec 1) fmax : Nat) : Int)
    | none => 0 else 0
  (fq :: ((d.shed[n.1]).lastOn : Int) :: gates).foldl max 0

/-- A step placed (R103): raised to the instants it must wait for and counted if that moves it; pending
until its tap. -/
def place (d : Device) (n : Fin 24) (h : Fin 4) (p : PendingStep) : Device :=
  let row := heddleRow d h.1 p.target p.up
  let fl := stepFloor d n h row (p.up && !p.start)
  let late := decide ((p.tap : Int) < fl)
  let p := if late then { p with tap := fl.toNat } else p
  let d := { d with shed := upd d.shed n (fun u => { u with pending := some p }) }
  showPend (whenB late (fun d => count d (Addr.SHED_LIMIT_CNT n.1)) (wrB d (Addr.SHED_STAT n.1) 24 true)) n

/-- The latency of a step in a direction (R101). -/
def stepLat (d : Device) (h : Nat) (up : Bool) : Nat :=
  if up then rdF d (Addr.SHED_LATUP h) 0 17 else rdF d (Addr.SHED_LATDN h) 0 17

/-- The step up or down from the present level, to be placed at `tap`. -/
def stepOf (d : Device) (n h : Nat) (up : Bool) (tap : Nat) : PendingStep :=
  { up := up, target := if up then levelOf d n + 1 else levelOf d n - 1, tap := tap,
    lat := stepLat d h up, start := false }

/-- Whether the slope over the last N fast periods is invalid (R101): too few words, a dirty word, or a
word that describes an instant not after `quiet`. -/
def slopeInvalid (es : List ErrorWord) (n : Nat) (quiet : Int) : Bool :=
  match es[n]? with
  | some e => (es.take (n + 1)).any (fun w => w.dirty) || decide (e.tau ≤ quiet)
  | none => true

/-- The decision on a word (R101): `es` are the errors, newest first, and `tau` the terminal instant of
the newest. -/
def decideStep (d : Device) (n : Fin 24) (h : Fin 4) (t : Nat) (tau : Int) (es : List ErrorWord) : Device :=
  let u := d.shed[n.1]
  let tdec := t + 6 * ckf
  let earliest := tdec + 8 * ckf
  let sn := rdF d (Addr.SHED_HCFG h.1) 12 2 + 1
  let pred := rdB d (Addr.SHED_HCFG h.1) 15
  let bad := slopeInvalid es sn u.quiet
  let d := wrB d (Addr.SHED_STAT n.1) 26 bad
  let e := ((es.head?).map (·.err)).getD 0
  let (up', dn') := thresholds d n h.1
  let top := topLevel d h.1
  let lvl := levelOf d n.1
  let late (d : Device) (b : Bool) : Device := whenB (b && pred && !bad) (fun d => count d (Addr.SHED_LATE_CNT n.1)) d
  if u.pending.isSome ∨ tau ≤ u.quiet then d
  else if up' < e ∧ lvl < top then place (late d true) n h (stepOf d n.1 h.1 true earliest)
  else if e < dn' ∧ 0 < lvl then place (late d true) n h (stepOf d n.1 h.1 false earliest)
  else if ¬ pred ∨ bad then d
  else
    let s := e - ((es[sn]?).map (·.err)).getD 0
    let go (up : Bool) (thr : Int) : Device :=
      let num := (thr - e) * sn * fastPeriod
      let cross := if 0 < s then roundDiv num s.toNat else roundDiv (-num) (-s).toNat
      let tap := tau + cross - stepLat d h.1 up
      if tap < (earliest + 32 * ckf : Nat) then
        place (late d (decide (tap ≤ earliest))) n h (stepOf d n.1 h.1 up (max tap earliest).toNat)
      else d
    if 0 < s ∧ lvl < top then go true up'
    else if s < 0 ∧ 0 < lvl then go false dn'
    else d

/-- The start step of a mode 1 master on a word that carries neither `INV` nor `UNS` (R110): a step to
`SHED_START_LEVEL` with its up-row at the earliest tap, h at the configured band. -/
def startStep (n : Fin 24) (t : Nat) (d : Device) : Device :=
  match harOf d n.1, (d.shed[n.1]).waitStart with
  | some h, some from' =>
    let c := shedChan d n.1
    let w := rd d (Addr.DEC_FAST c)
    if rdB d (Addr.SHED_STAT n.1) 30 ∧ shedMode d n.1 = 1 ∧ from' < t ∧ bit w 31 = false ∧ bit w 29 = false then
      let d := { d with shed := upd d.shed n (fun u => { u with waitStart := none, lastUp := none, upTap := none }) }
      let d := wrN d (Addr.SHED_HNOW n.1) (rdF d (Addr.SHED_BAND n.1) 0 22)
      place d n h { up := true, target := min (rdF d (Addr.SHED_HCFG h.1) 0 3) (topLevel d h.1),
                    tap := t + 14 * ckf, lat := stepLat d h.1 true, start := true }
    else d
  | _, _ => d

/-- A master unit on a fast word of its channel that is not invalid, available at `t` (R97, R101, R110). -/
def unitWord (d : Device) (n : Fin 24) (h : Fin 4) (w : Word) (t : Nat) : Device :=
  let d := genSettle d n t
  let (r, lim, inj) := reference d n h t
  let i := dataOf w
  let e := if rdB d (Addr.SHED_HCFG h.1) 14 then r + i else r - i
  let tau : Int := (t : Int) - rdF d (Addr.SHED_HCFG h.1) 16 8 * ckf
  let ew : ErrorWord := { err := e, tau := tau, dirty := bit w 30 || bit w 29 || bit w 28 }
  let es := (ew :: (d.shed[n.1]).errors).take 5
  let d := wrI (wrB d (Addr.SHED_STAT n.1) 25 lim) (Addr.SHED_ERR n.1) e
  let d := { d with shed := upd d.shed n (fun u => { u with errors := es, refOut := r, injOut := inj, measured := i }) }
  if rdB d (Addr.SHED_STAT n.1) 30 ∧ shedMode d n.1 = 1 then
    if ((d.shed[n.1]).waitStart).isSome then startStep n t d else decideStep d n h t tau es
  else d

/-- The adaptive shed at an up-step whose period was `T` (R104). -/
def adapt (d : Device) (n : Fin 24) (h : Fin 4) (T : Nat) : Device :=
  let T := max 1 T
  let d := wrI d (Addr.SHED_FSW n.1) (roundDiv (sec 1) T)
  let ft := rdF d (Addr.SHED_FTGT h.1) 0 18
  if ft = 0 then wrN d (Addr.SHED_HNOW n.1) (rdF d (Addr.SHED_BAND n.1) 0 22)
  else
    let hv := bandOf d n.1
    let g := (rdF d (Addr.SHED_HCFG h.1) 24 4 + 1 : Int)
    let den := 2 * 16 * T * ft
    let num := 2 * hv * (16 * T * ft + g * ((sec 1 : Nat) - (T * ft : Nat)))
    let num := clampI (hv * 16 * T * ft) (hv * 64 * T * ft) num
    let num := clampI (rdF d (Addr.SHED_BMIN h.1) 0 22 * den) (rdF d (Addr.SHED_BMAX h.1) 0 22 * den) num
    wrI d (Addr.SHED_HNOW n.1) (roundDiv num den)

/-- A tap of unit `n` counted (R121). -/
def countTap (d : Device) (n : Nat) : Device := countWrap d (Addr.SHED_EDGE_CNT n) (Addr.SHED_EDGE_WRAP n)

/-- The instant at which the last turn-on of a step tapped at `t` takes place. -/
def lastTurnOn (d : Device) (m row t : Nat) : Nat :=
  (groupLegs d m).foldl (fun x l =>
    let c := rowCode row (l.1 - m)
    if c = 1 ∨ c = 2 then max x (t + deadTime d l.1) else x) t

/-- The tap of a pending step (R103, R104, R107): the row change begins, the level changes and the
direction is recorded; an up-step after the first adapts the band. -/
def tapStep (n : Fin 24) (t : Nat) (d : Device) : Device :=
  match harOf d n.1, (d.shed[n.1]).pending with
  | some h, some p =>
    if p.tap ≤ t ∧ rdB d (Addr.SHED_STAT n.1) 30 then
      let row := heddleRow d h.1 p.target p.up
      let prev := (d.shed[n.1]).upTap
      let d := { d with shed := upd d.shed n (fun u =>
        { u with pending := none, lastUp := if p.start then none else some p.up,
                 upTap := if p.up && !p.start then some p.tap else u.upTap,
                 quiet := (p.tap + p.lat : Nat), lastTap := p.tap,
                 lastOn := lastTurnOn d n.1 row p.tap }) }
      let d := wrF (wrB d (Addr.SHED_STAT n.1) 24 false) (Addr.SHED_STAT n.1) 0 3 p.target
      let d := whenB p.start (fun d => wrB d (Addr.SHED_STAT n.1) 29 true) d
      let d := countTap (rowChange d h n.1 p.tap row) n.1
      match prev with
      | some u => if p.up ∧ p.start = false then adapt d n h (p.tap - u) else d
      | none => d
    else d
  | _, _ => d

/-! ### Schedule mode (R109) -/

/-- The T0 deadline that follows an instant: the next boundary of the grid of the loaded image. -/
def nextDeadline (d : Device) (t : Nat) : Nat :=
  let per := max 1 (rdN d Addr.LOOM_T0_CKF) * ckf
  d.loom.lastD + ((t - d.loom.lastD) / per + 1) * per

/-- A streamed write of an edge list (R109). -/
def edgeWrite (n : Fin 24) (v : Word) (t : Nat) (d : Device) : Device :=
  if 32 ≤ ((d.shed[n.1]).edges).length then count d (Addr.SHED_DROP_CNT n.1)
  else showLevels { d with shed := upd d.shed n (fun u => { u with
      edges := u.edges ++ [(field v 29 3, nextDeadline d t + field v 0 29)] }) } n

/-- The first entry of the edge list of a running mode 2 master at `t` (R109): at its time, raised by the
terms of R103 but the frequency; one whose time has passed or precedes its predecessor's is late. -/
def edgeEntry (n : Fin 24) (t : Nat) (d : Device) : Device :=
  match harOf d n.1, (d.shed[n.1]).edges with
  | some h, (lvl, tm) :: rest =>
    if rdB d (Addr.SHED_STAT n.1) 30 ∧ shedMode d n.1 = 2 then
      let cur := levelOf d n.1
      let row := heddleRow d h.1 lvl (decide (cur < lvl))
      let late := decide (tm < (d.shed[n.1]).prevEdge ∨ tm + ckf < t)
      let tap := if late then t else tm
      let fl := stepFloor d n h row false
      let raised := decide ((tap : Int) < fl)
      let tap := max tap fl.toNat
      if tap ≤ t then
        let d := { d with shed := upd d.shed n (fun u =>
          { u with edges := rest, prevEdge := tm, lastTap := tap,
                   lastOn := lastTurnOn d n.1 row tap, lastUp := some (decide (cur < lvl)) }) }
        let d := wrF (showLevels d n) (Addr.SHED_STAT n.1) 0 3 lvl
        let d := whenB late (fun d => count d (Addr.SHED_LATE_CNT n.1)) d
        let d := whenB raised (fun d => count d (Addr.SHED_LIMIT_CNT n.1)) d
        if lvl = cur ∧ rdB d (Addr.SHED_STAT n.1) 29 then d
        else countTap (rowChange (wrB d (Addr.SHED_STAT n.1) 29 true) h n.1 tap row) n.1
      else d
    else d
  | _, _ => d

/-- A gate whose dead time has passed goes on (R107). -/
def deadTimeOver (c : Fin 48) (t : Nat) (d : Device) : Device :=
  match (d.gchan[c.1]).onAt with
  | some u => if u ≤ t then turnOn d u c else d
  | none => d

/-! ### CORDIC rotators (R119) -/

/-- A write of `CMD`: 1 rotates, 2 vectors; it starts or restarts the rotator with the operands as they
stand, and `DONE` reads 0 until it completes. -/
def cordicWrite (c : Fin 8) (cmd : Word) (t : Nat) (d : Device) : Device :=
  if cmd = 1 ∨ cmd = 2 then
    wrB { d with cordic := upd d.cordic c (fun _ =>
      { busy := some (cmd.toNat, t), x := rd d (Addr.CRD_X c.1 0), y := rd d (Addr.CRD_X c.1 1),
        ang := rd d (Addr.CRD_X c.1 2) }) } (Addr.CRD_STAT c.1) 0 false
  else d

/-- A rotator completes 24 CKF cycles after its command: results and `DONE`. -/
def cordicDone (c : Fin 8) (t : Nat) (d : Device) : Device :=
  let r := d.cordic[c.1]
  match r.busy with
  | some (cmd, t0) =>
    if t0 + 24 * ckf ≤ t then
      let d := { d with cordic := upd d.cordic c (fun r => { r with busy := none }) }
      let d := if cmd = 1 then
          let p := Config.cordicRotate r.x r.y r.ang
          wr (wr d (Addr.CRD_RX c.1 0) p.1) (Addr.CRD_RX c.1 1) p.2
        else
          let p := Config.cordicVector r.x r.y
          wr (wr (wr d (Addr.CRD_RX c.1 0) p.1) (Addr.CRD_RX c.1 1) 0) (Addr.CRD_RX c.1 2) p.2
      wrB d (Addr.CRD_STAT c.1) 0 true
    else d
  | none => d

end Sys2Proof.Machine
end

