-- ==== Sys2Proof/Machine/Gate.lean ====
section
/-! DEFINITION. The gate channels: undervoltage, desaturation, soft turn-off and clamp, islands and their
entries, the selvedge in progress, release, latching and the off-state self-test (R126 to R153), and the
commits of `SHED_RUN` and `GATE_SELV_REQ` (R110 to R112). -/

namespace Sys2Proof.Machine

open Sys2Proof

/-- The harness of a gate channel. -/
def chanHar (d : Device) (c : Nat) : Option (Fin 4) := harOf d (legOf c)

/-- `f` on the leg of a channel. -/
def onLeg (c : Fin 48) (f : Fin 24 → Device → Device) (d : Device) : Device := atFin 24 (legOf c.1) f d

/-- Whether a trip of a channel or leg is one under test (R150). -/
def underTest (d : Device) (kinds : List Nat) (target : Nat) : Bool :=
  match d.gtest with
  | some g => kinds.contains g.kind && g.target == target
  | none => false

/-! ### Islands (R16, R133, R135, R143, R392) -/

/-- An island has received no command frame for 40 CKF cycles: its channel goes to the entry it holds. -/
def islandTimeout (c : Fin 48) (t : Nat) (d : Device) : Device :=
  let g := d.gchan[c.1]
  if !g.supplyUp then d
  else
    let d := turnOff d t false c
    let d := { d with gchan := upd d.gchan c (fun g => { g with entryAt := some t }) }
    match g.entry with
    | .none => setCstate d c.1 .hiz
    | .off => d
    | .hiz =>
      let due := match cstate d c.1 with
        | .off => some (max t (d.gchan[c.1]).lastOff + us 10)
        | _ => none
      { d with gchan := upd d.gchan c (fun g => { g with hizAt := due }) }

/-- In a paired unit an island that has held its entry for 20 µs, less the tolerance of 2 µs, passes to
HIZ (R392). -/
def islandHiz (c : Fin 48) (t : Nat) (d : Device) : Device :=
  match (d.gchan[c.1]).entryAt with
  | some s =>
    if paired d ∧ s + us 18 ≤ t then
      setCstate { d with gchan := upd d.gchan c (fun g => { g with hizAt := none, softFrom := none }) } c.1 .hiz
    else d
  | none => d

/-- The gate bank receives no valid reports from an island (R143, R390): `LINK` clears, the harness goes to
the selvedge with cause 0x08, and a self-diagnosis fault is raised. -/
def islandLinkLost (c : Fin 48) (t : Nat) (d : Device) : Device :=
  let d := raise (wrB d (Addr.GATE_CSTAT c.1) 7 false) .gateLink c.1
  let d := match chanHar d c.1 with
    | some h => selvedge d h t 8
    | none => d
  selfDiag d 4 t

/-- `VD` of an island comes up (R133, R135): it holds HIZ with no entry, and the undervoltage bits read 1. -/
def islandSupplyUp (c : Fin 48) (d : Device) : Device :=
  let vn := match chanHar d c.1 with
    | some h => rdF d (Addr.GATE_HCFG h.1) 10 2 != 0
    | none => false
  let d := wrB (wrB (wrB (setCstate d c.1 .hiz) (Addr.GATE_CSTAT c.1) 5 true) (Addr.GATE_CSTAT c.1) 6 vn)
    (Addr.GATE_CSTAT c.1) 7 true
  { d with gchan := upd d.gchan c (fun g =>
      { g with supplyUp := true, entry := .none, sensing := false, onAt := none, softFrom := none,
               hizAt := none, entryAt := none }) }

/-! ### Undervoltage (R135) -/

/-- A filtered undervoltage of `VD`, or of `VN`; with `dead` the supply has also fallen below what the
island can drive with, and its outputs are high-impedance. -/
def uvloTrip (c : Fin 48) (vn dead : Bool) (t : Nat) (d : Device) : Device :=
  let i := if vn then 6 else 5
  let enabled := !vn || (match chanHar d c.1 with
    | some h => rdF d (Addr.GATE_HCFG h.1) 10 2 != 0
    | none => false)
  if !enabled || underTest d [if vn then 3 else 2] c.1 then d
  else
    let onset := !rdB d (Addr.GATE_CSTAT c.1) i
    let d := wrB d (Addr.GATE_CSTAT c.1) i true
    let d := if cstate d c.1 = .on then turnOff d t false c else d
    let d := if onset then
        onLeg c (fun n d => legFault d n t t (if vn then 5 else 4)) (count d (Addr.GATE_UV_CNT c.1))
      else d
    if dead then
      setCstate { d with gchan := upd d.gchan c (fun g =>
        { g with supplyUp := false, entry := .none, softFrom := none, hizAt := none }) } c.1 .hiz
    else d

/-- A supply has passed its release threshold for the filter time: the bit clears; with `VD` back the
island takes its entry from the ownership mode (R133), and what the undervoltage held may be released. -/
def uvloRelease (c : Fin 48) (vn : Bool) (t : Nat) (d : Device) : Device :=
  if !(d.gchan[c.1]).supplyUp then d
  else
    let d := wrB d (Addr.GATE_CSTAT c.1) (if vn then 6 else 5) false
    let d := if !vn && (d.gchan[c.1]).entry == .none then
        let d := { d with gchan := upd d.gchan c (fun g => { g with entry := entryOf d (ownMode d) c.1 }) }
        if ownMode d = 0 then d else setCstate d c.1 .off
      else d
    match chanHar d c.1 with
    | some h => tryRelease d h t
    | none => d

/-! ### Desaturation, SOFT and the clamp (R136, R139, R140) -/

/-- The blanking time after a turn-on has passed: the sense source is enabled. -/
def blankingEnd (c : Fin 48) (t : Nat) (d : Device) : Device :=
  let g := d.gchan[c.1]
  if cstate d c.1 = .on ∧ g.lastOn + ns (50 * rdF d (Addr.GATE_BLANK (legOf c.1)) 0 6) ≤ t then
    { d with gchan := upd d.gchan c (fun g => { g with sensing := true }) }
  else d

/-- Whether desaturation of a channel is enabled. -/
def desatEnabled (d : Device) (c : Nat) : Bool :=
  if c < 24 then rdB d Addr.GATE_DESAT_EN_A c else rdB d Addr.GATE_DESAT_EN_B (c - 24)

/-- A confirmed desaturation stamped at `stamp` and known at `t`: the island takes its channel to SOFT, and
cause 0x01 is reported. -/
def desatTrip (c : Fin 48) (stamp t : Nat) (d : Device) : Device :=
  if cstate d c.1 = .on ∧ (d.gchan[c.1]).sensing = true ∧ desatEnabled d c.1 = true
      ∧ underTest d [1] c.1 = false then
    let d := turnOff d stamp true c
    let d := { d with gchan := upd d.gchan c (fun g => { g with softFrom := some (stamp + ns 40) }) }
    let d := count (wrB d (Addr.GATE_CSTAT c.1) 3 true) (Addr.GATE_DESAT_CNT c.1)
    onLeg c (fun n d => legFault d n stamp t 1) (recEvent 4 d 0x21 t)
  else d

/-- SOFT has lasted `GATE_SOFT_TIME`: the channel passes to OFF. -/
def softEnd (c : Fin 48) (t : Nat) (d : Device) : Device :=
  let last := match chanHar d c.1 with
    | some h => rdF d (Addr.GATE_HCFG h.1) 16 8
    | none => rdF d (Addr.GATE_HCFG 0) 16 8
  match (d.gchan[c.1]).softFrom with
  | some s =>
    if cstate d c.1 = .soft ∧ s + ns (50 * last) ≤ t then
      let d := reachOff d t c
      let d := if (d.gchan[c.1]).entryAt.isSome ∧ (d.gchan[c.1]).entry = .hiz then
          { d with gchan := upd d.gchan c (fun g => { g with hizAt := some (t + us 10) }) }
        else d
      match chanHar d c.1 with
      | some h => tryRelease d h t
      | none => d
    else d
  | none => d

/-- In OFF the voltage at `CLMP` has fallen below `VN` + 2.0 V: the clamp is enabled. -/
def millerClamp (c : Fin 48) (d : Device) : Device :=
  if cstate d c.1 = .off then wrB d (Addr.GATE_CSTAT c.1) 4 true else d

/-! ### The selvedge in progress (R144 to R147) -/

/-- A sequence step's delay has passed: the legs of the harness that are due leave. -/
def selvStep (h : Fin 4) (t : Nat) (d : Device) : Device :=
  each (legsOf d h.1) (fun d n =>
    match (d.legs[n.1]).leaveAt with
    | some due => if due ≤ t then legOut d due (d.legs[n.1]).leaveSoft n else d
    | none => d) d

/-- 10 µs after reaching OFF at the selvedge, a channel whose entry is HIZ passes to HIZ. -/
def selvHiz (c : Fin 48) (t : Nat) (d : Device) : Device :=
  match (d.gchan[c.1]).hizAt with
  | some x =>
    if x ≤ t ∧ cstate d c.1 = .off then
      setCstate { d with gchan := upd d.gchan c (fun g => { g with hizAt := none }) } c.1 .hiz
    else d
  | none => d

/-- The selvedge table of the registers in force (R144). -/
def selvTable (d : Device) : SelvTable :=
  { hiz := rdF d Addr.GATE_SELV_HIZ_A 0 24 + 2 ^ 24 * rdF d Addr.GATE_SELV_HIZ_B 0 24,
    modes := Vector.ofFn (fun h : Fin 4 => rdB d (Addr.GATE_HCFG h.1) 2),
    softs := Vector.ofFn (fun h : Fin 4 => rdB d (Addr.GATE_HCFG h.1) 3),
    steps := Vector.ofFn (fun h : Fin 4 => (List.range 8).map (fun s => rd d (Addr.GATE_SEQ h.1 s))),
    konts := rdF d Addr.GATE_SELV_K 0 16 }

/-- A changed table has reached every island (R147): it is in force, and each island holds its entry. -/
def selvReload (d : Device) : Device :=
  if d.selvNext then
    let d := { d with selv := selvTable d, selvNext := false }
    { d with gchan := Vector.ofFn (fun c : Fin 48 =>
        let g := d.gchan[c.1]
        if g.supplyUp && rdB d (Addr.GATE_CSTAT c.1) 7 then { g with entry := entryOf d (ownMode d) c.1 } else g) }
  else d

/-! ### Release (R148, R149) -/

/-- Whether every gate of a list of legs has been in OFF or HIZ for 20 µs, counted not before `from'`. -/
def offFor20 (d : Device) (legs : List (Fin 24)) (from' t : Nat) : Bool :=
  decide (from' + us 20 ≤ t) && legs.all (fun n => (d.legs[n.1]).leaveAt.isNone &&
    (gatesOf n).all (fun c => (cstate d c.1 == .off || cstate d c.1 == .hiz)
      && decide ((d.gchan[c.1]).lastOff + us 20 ≤ t)))

/-- 20 µs after the last gate of the fault is off, release becomes possible: of the harness, and of each
held group. -/
def holdoffEnd (h : Fin 4) (t : Nat) (d : Device) : Device :=
  let d := each (legsOf d h.1) (fun d n =>
    if rdB d (Addr.GATE_LFLT n.1) 5 ∧ offFor20 d (groupLegs d ((masterOf d n.1).getD n.1)) (d.legs[n.1]).heldAt t then
      { d with legs := upd d.legs n (fun l => { l with heldFree := true }) }
    else d) d
  match hstate d h.1 with
  | .selvedge | .latched =>
    if offFor20 d (legsOf d h.1) (d.har[h.1]).selvAt t then
      tryRelease { d with har := upd d.har h (fun a => { a with offDone := true }) } h t
    else d
  | _ => d

/-- Whether every leg of a list belongs to a harness. -/
def legsInHarness (d : Device) (legs : List (Fin 24)) (h : Fin 4) : Bool :=
  legs.all (fun n => legHarness d n.1 == some h.1)

/-- `GATE_RETRY_WAIT` after the fault, in timed mode (R148): of the group of leg `leg`, or with none of the
harness. With a cause still present the wait begins again. -/
def retryWait (h : Fin 4) (leg : Option Nat) (t : Nat) (d : Device) : Device :=
  let wait := ms (rdF d (Addr.GATE_RWAIT h.1) 0 14)
  if !rdB d (Addr.GATE_HCFG h.1) 0 then d
  else match leg with
    | none =>
      match hstate d h.1, (d.har[h.1]).waitFrom with
      | .selvedge, some w =>
        if w + wait ≤ t then
          let d := refreshCauses d h
          if causes d h.1 = 0 ∧ (d.har[h.1]).offDone = true then releaseHarness d h t
          else { d with har := upd d.har h (fun a => { a with waitFrom := some t }) }
        else d
      | _, _ => d
    | some m =>
      let legs := groupLegs d m
      if hstate d h.1 = .running ∧ legs.any (fun n => rdB d (Addr.GATE_LFLT n.1) 5) = true
          ∧ legs.all (fun n => decide ((d.legs[n.1]).heldAt + wait ≤ t)) = true
          ∧ legsInHarness d legs h = true then
        let d := refreshCauses d h
        if legs.all (fun n => (d.legs[n.1]).causes == 0 && (d.legs[n.1]).heldFree) then releaseGroup d h m t
        else { d with legs := Vector.ofFn (fun n : Fin 24 =>
          if legs.contains n then { d.legs[n.1] with heldAt := t } else d.legs[n.1]) }
      else d

/-- A harness that has run for `GATE_RETRY_FORGET` without a fault starts a new run of tries (R149). -/
def retryForget (h : Fin 4) (t : Nat) (d : Device) : Device :=
  let quiet := (legsOf d h.1).foldl (fun x n => max x (d.legs[n.1]).heldAt)
    (max (d.har[h.1]).runAt (d.har[h.1]).faultAt)
  if hstate d h.1 = .running ∧ quiet + sec (rdF d (Addr.GATE_RFORGET h.1) 0 12) ≤ t then
    wrF d (Addr.GATE_HSTAT h.1) 4 4 0
  else d

/-- `GATE_CLEAR` (R149): the named harnesses lose their run of tries, and those latched are released as soon
as every cause has gone and the 20 µs have passed. -/
def gateClear (mask : Nat) (t : Nat) (d : Device) : Device :=
  each (List.finRange 4) (fun d h =>
    if mask.testBit h.1 then
      let d := wrF d (Addr.GATE_HSTAT h.1) 4 4 0
      let d := { d with har := upd d.har h (fun a =>
        { a with lastRelease := none, cleared := hstate d h.1 == .latched }) }
      tryRelease d h t
    else d) d

/-! ### The off-state self-test (R150) -/

/-- Whether the self-test may start: its leg is off with nothing pending, its harness is not running, the
bridle permits it and the channel has its supply. -/
def testAllowed (d : Device) (kind target : Nat) : Bool :=
  let n := if kind ≤ 3 then legOf target else target
  match fin? 24 n, harOf d n with
  | some n, some h =>
    (gatesOf n).all (fun c => cstate d c.1 == .off || cstate d c.1 == .hiz)
      && !rdB d Addr.EDGE_PEND n.1 && hstate d h.1 != .running && rdB d Addr.BRD_PERMIT h.1
      && (decide (4 ≤ kind) || (!rdB d (Addr.GATE_CSTAT target) 5 && !rdB d (Addr.GATE_CSTAT target) 6))
      && decide (1 ≤ kind ∧ kind ≤ 5)
  | _, _ => false

/-- A write of `GATE_TEST_CMD`: the test starts, or is refused with `RESULT` 3; a test in progress goes
on. -/
def gateTestWrite (v : Word) (t : Nat) (d : Device) : Device :=
  let kind := field v 8 3
  let target := field v 0 6
  if d.gtest.isSome then d
  else if testAllowed d kind target then
    wrN { d with gtest := some { kind := kind, target := target, since := t } } Addr.GATE_TEST_STAT (2 ^ 31)
  else wrN d Addr.GATE_TEST_STAT (3 * 2 ^ 28)

/-- The longest time to trip that passes a self-test, in ns: two fast words for the hard limits. -/
def testLimit (kind : Nat) : Nat := if kind = 1 then 1000 else if kind ≤ 3 then 2000 else 204

/-- A self-test completes: with the time to trip in ns, or with no trip, whose `TRIP_NS` is a free value. -/
def gateTestDone (trip : Option Nat) (d : Device) : Device :=
  match d.gtest with
  | some g =>
    let d := { d with gtest := none }
    match trip with
    | some n =>
      let pass := decide (n ≤ testLimit g.kind)
      wrN d Addr.GATE_TEST_STAT ((if pass then 1 else 2) * 2 ^ 28 + min n 0xFFFF)
    | none =>
      let (x, d) := fresh d
      wrN d Addr.GATE_TEST_STAT (2 * 2 ^ 28 + x.toNat % 2 ^ 16)
  | none => d

/-! ### Commits that start, stop and request (R110 to R112, R143, R461) -/

/-- `HL_NONE` of every leg follows the channel of its master (R137); a leg that no unit drives has no hard-limit channel. -/
def showHlNone (d : Device) : Device :=
  each (List.finRange 24) (fun d n =>
    wrB d (Addr.GATE_LFLT n.1) 7 (match masterOf d n.1 with
      | some m => decide (32 ≤ shedChan d m)
      | none => true)) d

/-- Whether a commit of `SHED_RUN` = 1 to a harness is ignored: outside mode 2, at the selvedge or latched,
with a cause recorded, or while one of its comparators is under test (R112, R132, R150, R461). -/
def runIgnored (d : Device) (h : Fin 4) : Bool :=
  ownMode d != 2 || hstate d h.1 == .selvedge || hstate d h.1 == .latched || causes d h.1 != 0 ||
    (match d.gtest with
      | some g => legHarness d (if g.kind ≤ 3 then legOf g.target else g.target) == some h.1
      | none => false)

/-- The harness starts (R110). -/
def startHarness (d : Device) (h : Fin 4) (t : Nat) : Device :=
  let d := wrB (setHstate d h.1 .running) Addr.SHED_RUN h.1 true
  let d := { d with har := upd d.har h (fun a => { a with runAt := t }) }
  each (mastersOf d h.1) (fun d n =>
    let one := shedMode d n.1 == 1
    let d := wrB (wrB d (Addr.SHED_STAT n.1) 30 true) (Addr.SHED_STAT n.1) 29 false
    { d with shed := upd d.shed n (fun u =>
        { u with waitStart := if one then some t else none, pending := none, lastUp := none, upTap := none }) })
    (showSelv d h.1)

/-- A commit of 1 to a harness's bit of `SHED_RUN`: ignored, sent to the selvedge by an undervoltage, or the
start (R110, R112, R135). -/
def runCommit (d : Device) (h : Fin 4) (t : Nat) : Device :=
  if hstate d h.1 = .running || runIgnored d h then d
  else
    let chans := (legsOf d h.1).flatMap gatesOf
    let uv := chans.any (fun c => rdB d (Addr.GATE_CSTAT c.1) 5)
    let uvn := chans.any (fun c => rdB d (Addr.GATE_CSTAT c.1) 6)
    if uv || uvn then
      let c := if uv then 4 else 5
      let d := { d with legs := Vector.ofFn (fun n : Fin 24 =>
        if legHarness d n.1 == some h.1 && (gatesOf n).any (fun g => rdB d (Addr.GATE_CSTAT g.1) (c + 1)) then
          { d.legs[n.1] with causes := (d.legs[n.1]).causes ||| 2 ^ (c - 1) }
        else d.legs[n.1]) }
      selvGates (setHstate (addCause d h.1 c) h.1 .selvedge) h t c
    else startHarness d h t

/-- A commit of 0 to a harness's bit (R111, R461): a running or ready harness reads DISABLED, its pending
steps are cancelled, its gates go off, its FIFOs and edge lists are flushed and its injectors stop. -/
def stopCommit (d : Device) (h : Fin 4) (t : Nat) : Device :=
  let d := wrB d Addr.SHED_RUN h.1 false
  match hstate d h.1 with
  | .running | .ready =>
    let d := stopInjectors (stopUnits d h.1) h.1
    let d := each (legsOf d h.1) (fun d n =>
      let d := each (gatesOf n) (fun d c => turnOff d t false c) d
      let d := wrB (flushEdges (flushFifo d n) n) (Addr.GATE_LFLT n.1) 5 false
      { d with legs := upd d.legs n (fun l => { l with leaveAt := none, row := 0, causes := 0 }) }) d
    showSelv (setHstate d h.1 .disabled) h.1
  | _ => d

/-- A commit of `SHED_RUN`. -/
def shedRunCommit (d : Device) (v : Word) (t : Nat) : Device :=
  each (List.finRange 4) (fun d h => if bit v h.1 then runCommit d h t else stopCommit d h t) d

/-- The cause that a value of `GATE_SELV_REQ` asks of a harness: 0x09, or 0x0E where the bit above says so, else 0 (R143). -/
def selvWant (v : Word) (h : Fin 4) : Nat := if bit v h.1 then (if bit v (4 + h.1) then 0x0E else 0x09) else 0

/-- A commit of `GATE_SELV_REQ` (R143): each request bit sends its harness to the selvedge. -/
def selvReqEnter (d : Device) (v : Word) (t : Nat) : Device :=
  each (List.finRange 4) (fun d h =>
    let c := selvWant v h
    if c ≠ 0 ∧ rdB d (Addr.GATE_HSTAT h.1) (causeBit c) = false then selvedge d h t c else d)
    (wrN d Addr.GATE_SELV_REQ (field v 0 8))

/-- The causes that a commit of `GATE_SELV_REQ` no longer asks for are released (R143). -/
def selvReqRelease (d : Device) (v : Word) (t : Nat) : Device :=
  each (List.finRange 4) (fun d h =>
    let drop (c : Nat) (d : Device) : Device :=
      if selvWant v h ≠ c ∧ rdB d (Addr.GATE_HSTAT h.1) (causeBit c) then ownerRelease d h t c else d
    drop 0x0E (drop 0x09 d)) d

end Sys2Proof.Machine
end

