-- ==== Sys2Proof/Machine/Decim.lean ====
section
/-! DEFINITION. The modulators' validity and the decimation paths (R42 to R52, R72 to R81), the hard-limit
comparators (R137, R138) and the sequence decomposers (R120). -/

namespace Sys2Proof.Machine

open Sys2Proof

/-! ### Validity (R46 to R50) -/

/-- Whether a channel belongs to the current island; the others belong to the voltage island (R42). -/
def currentIsland (c : Nat) : Bool := decide (12 ≤ c)

/-- Whether a channel is an external bitstream (R42, R46). -/
def external (d : Device) (c : Nat) : Bool :=
  decide (28 ≤ c) && !(c == 31 && rdB d Addr.MOD_EXT_CFG 0)

/-- Whether the island of a channel shows power-good and link in `MOD_ISL_STAT`. -/
def islandGood (d : Device) (c : Nat) : Bool :=
  let b := if currentIsland c then 3 else 0
  rdB d Addr.MOD_ISL_STAT b && rdB d Addr.MOD_ISL_STAT (b + 1)

/-- Whether a channel is valid: `MOD_VALID`. -/
def chanValid (d : Device) (c : Nat) : Bool := rdB d Addr.MOD_VALID c

/-- A restart of all three paths of a channel (R78): the history becomes the zero-density pattern. -/
def restartPaths (d : Device) (c : Fin 32) : Device :=
  countBy { d with chans := upd d.chans c (fun h => { h with bits := [], since := 0, precSince := 0 }) }
    Addr.DEC_RESTART_CNT 3

/-- A restart of the precision path alone, by a change of skew. -/
def restartPrecision (d : Device) (c : Fin 32) : Device :=
  count { d with chans := upd d.chans c (fun h => { h with precSince := 0 }) } Addr.DEC_RESTART_CNT

/-- A channel becomes valid where it is enabled, its island is good and it is not stuck; its paths restart. -/
def revalidate (d : Device) (c : Fin 32) : Device :=
  if rdB d Addr.MOD_ENABLE c.1 && islandGood d c.1 && (d.chans[c.1]).stuckAt.isNone && !chanValid d c.1 then
    restartPaths (wrB d Addr.MOD_VALID c.1 true) c
  else d

/-- The onset of an overload of a channel (R47). -/
def overloadOnset (c : Fin 32) (d : Device) : Device :=
  count (wrB d Addr.MOD_OVL c.1 true) Addr.MOD_OVL_CNT

/-- An external bitstream shows no transition for `MEAS_STUCK_RUN` cycles (R48): it is stuck and invalid. -/
def stuck (c : Fin 32) (t : Nat) (d : Device) : Device :=
  if external d c.1 then
    let d := wrB (count (wrB d Addr.MOD_FAULT c.1 true) Addr.MOD_FAULT_CNT) Addr.MOD_VALID c.1 false
    { d with chans := upd d.chans c (fun h => { h with stuckAt := some t }) }
  else d

/-- A stuck channel whose first transition came at `first` becomes valid again (R48). -/
def stuckRecovery (c : Fin 32) (first t : Nat) (d : Device) : Device :=
  let wait := max 256 (2 * rdF d Addr.MOD_DET_CFG 16 10) * ckm
  match (d.chans[c.1]).stuckAt with
  | some s =>
    if s ≤ first ∧ first + wait ≤ t then
      revalidate { d with chans := upd d.chans c (fun h => { h with stuckAt := none }) } c
    else d
  | none => d

/-- An island loses power-good, or its coupler frames (R49): its channels become invalid. A loss of an island that is
lost already only clears its bit. -/
def islandLoss (current powerGood : Bool) (d : Device) : Device :=
  let i := if current then 3 else 0
  let good := rdB d Addr.MOD_ISL_STAT i && rdB d Addr.MOD_ISL_STAT (i + 1)
  let d := wrB d Addr.MOD_ISL_STAT (if powerGood then i else i + 1) false
  let d := if good then count d Addr.MOD_ISL_LOSS_CNT else d
  each (List.finRange 32) (fun d c =>
    if currentIsland c.1 == current then wrB d Addr.MOD_VALID c.1 false else d) d

/-- An island shows power-good and 256 consecutive valid frames (R49): its channels become valid again. -/
def islandRecovery (current : Bool) (d : Device) : Device :=
  let b := if current then 3 else 0
  let d := wrB (wrB (wrB d Addr.MOD_ISL_STAT b true) Addr.MOD_ISL_STAT (b + 1) true) Addr.MOD_ISL_STAT (b + 2) true
  each (List.finRange 32) (fun d c => if currentIsland c.1 == current then revalidate d c else d) d

/-! ### Windows of bits -/

/-- The bit received `i` bits ago; before the last restart the alternating pattern (R78). -/
def Channel.bitAt (h : Channel) (i : Nat) : Bool :=
  (h.bits[i]?).getD ((i - h.bits.length) % 2 == 0)

/-- A bit as the density it stands for. -/
def bitVal (b : Bool) : Int := if b then 1 else -1

/-- The sums of every `n` consecutive elements of a list. -/
def boxSum (n : Nat) (l : List Int) : List Int :=
  let first := (l.take n).sum
  let step (acc : Int × List Int) (p : Int × Int) : Int × List Int :=
    let s := acc.1 - p.1 + p.2
    (s, s :: acc.2)
  (((l.zip (l.drop n)).foldl step (first, [first])).2).reverse

/-- `k` passes of `boxSum`. -/
def boxPass (n : Nat) : Nat → List Int → List Int
  | 0, l => l
  | k + 1, l => boxPass n k (boxSum n l)

/-- The length of the run of identical bits that ends, in time, at bit `i`, up to `m`. -/
def runBack (h : Channel) (i : Nat) : Nat → Nat
  | 0 => 0
  | m + 1 => if h.bitAt (i + 1) = h.bitAt i then 1 + runBack h (i + 1) m else 1

/-- Whether a window of `len` bits, `skew` bits back, holds a bit at or after the one at which an overload
run was detected (R80). -/
def windowOverload (h : Channel) (run len skew : Nat) : Bool :=
  (List.range len).any (fun i =>
    decide (i + skew + run ≤ h.bits.length) && decide (run ≤ runBack h (i + skew) run))

/-- The density of the fast or medium path, as a sum over the third power of its ratio (R72). -/
def sinc3 (h : Channel) (osr : Nat) : Int :=
  let len := 3 * (osr - 1) + 1
  ((boxPass osr 3 ((List.range len).map (fun i => bitVal (h.bitAt i)))).headD 0)

/-- The density of the precision path in units of 2^-60 (R72): sinc5 outputs 64 bits apart through the ROM
FIR, whose coefficients the spec does not give. -/
def precisionDensity (h : Channel) (skew : Nat) : Int :=
  let bits := (List.range 4348).map (fun i => bitVal (h.bitAt (i + skew)))
  let s5 := boxPass 64 5 bits
  ((List.range 64).map (fun k => Config.firTap k * (s5[64 * k]?).getD 0)).sum

/-! ### Calibration and scaling (R62, R74, R296) -/

/-- The pulse density that is nominal full scale, over 65 536 (R42, R45). -/
def fullScale (d : Device) (c : Nat) : Nat :=
  if external d c then max 1 (rdN d Addr.MOD_EXT_FS) else 49152

/-- `DATA` of a density `num / den` before clipping: y = (x + offset) × gain, rounded half away from zero
to multiples of `step`. -/
def scaled (d : Device) (c : Fin 32) (num : Int) (den step : Nat) : Int :=
  let off := rdI d (Addr.MOD_CAL_OFF c.1)
  let gain := (rdN d (Addr.MOD_CAL_GAIN c.1) : Int) * (1000000000 + (d.chans[c.1]).refComp)
  let den := den * fullScale d c.1
  let num := num * 65536
  roundDiv ((num * 2 ^ 30 + off * den) * gain * 2 ^ 22) (den * 2 ^ 60 * 1000000000 * step) * step

/-- A path's output number at an instant: the periods since the first lock (R73). -/
def pathIndex (d : Device) (period t : Nat) : Nat :=
  match d.clock.firstLock with
  | some t0 => (t - t0) / period
  | none => 0

/-- A path word (R75) from its parts; a clipped one shows in `DEC_CLIP` and is counted (R74). -/
def pathWord (d : Device) (c : Fin 32) (y : Int) (ovl uns : Bool) (seq : Nat) : Word × Device :=
  if chanValid d c.1 then
    let v := clampI (-dataMax) dataMax y
    let clip := decide (v ≠ y)
    let d := if clip then count (wrB d Addr.DEC_CLIP c.1 true) Addr.DEC_CLIP_CNT else d
    (formatWord false ovl uns clip seq v, d)
  else (formatWord true ovl uns false seq 0, d)

/-- The eight newest bits of a channel taken in, bit 0 of `bits` first. -/
def takeBits (h : Channel) (bits : Nat) : Channel :=
  { h with bits := (((List.range 8).map (fun i => bits.testBit (7 - i))) ++ h.bits).take 4704,
           since := h.since + 8, precSince := h.precSince + 8 }

/-! ### Hard limits (R137, R138, R253) -/

/-- A limit as it is compared: in degraded mode scaled by `BRD_DEGR_LIMIT` %, truncated towards zero, for
the harnesses of the degraded pair. -/
def limitInForce (d : Device) (n : Nat) (v : Int) : Int :=
  match d.bridle.degrPair, legHarness d n with
  | some p, some h =>
    if degraded d && rdB d (Addr.BRD_SA_CFG p) (16 + h) then Int.tdiv (v * rdF d Addr.BRD_DEGR 16 7) 100 else v
  | _, _ => v

/-- Whether a gate of a leg that is on is still in its blanking. -/
def blanked (d : Device) (n : Fin 24) : Bool :=
  (gatesOf n).any (fun c => cstate d c.1 == .on && !(d.gchan[c.1]).sensing)

/-- The hard-limit comparator of a leg on a fast word that carries neither `INV` nor `UNS`. -/
def hardLimit (d : Device) (n : Fin 24) (w : Word) (t : Nat) : Device :=
  let x := dataOf w
  let pos := limitInForce d n.1 (rdI d (Addr.GATE_HLPOS n.1))
  let neg := limitInForce d n.1 (rdI d (Addr.GATE_HLNEG n.1))
  let inside := 16 * x ≤ 15 * pos ∧ 15 * neg ≤ 16 * x
  if pos < x ∨ x < neg then
    if underTest d [4, 5] n.1 then d
    else
      let d := { d with legs := upd d.legs n (fun l => { l with hlGood := 0 }) }
      let on := (gatesOf n).filter (fun c => cstate d c.1 == .on)
      if on.isEmpty then
        if (gatesOf n).all (fun c => cstate d c.1 != .soft) then wrB d (Addr.GATE_LFLT n.1) 6 true else d
      else
        let cause := if blanked d n then 3 else 2
        let d := each on (fun d c => turnOff d t true c) d
        let d := { d with legs := upd d.legs n (fun l => { l with hlTrip := true }) }
        legFault (recEvent 4 (count d (Addr.GATE_HL_CNT n.1)) 0x22 t) n t t cause
  else
    let good := if inside then min 8 ((d.legs[n.1]).hlGood + 1) else 0
    let gone := decide (8 ≤ good) && (d.legs[n.1]).hlTrip
    let d := { d with legs := upd d.legs n (fun l => { l with hlGood := good, hlTrip := l.hlTrip && !gone }) }
    if gone = true then
      match harOf d n.1 with
      | some h => tryRelease d h t
      | none => d
    else d

/-- The legs whose master names a channel. -/
def legsOnChannel (d : Device) (c : Nat) : List (Fin 24) :=
  (List.finRange 24).filter (fun n => match masterOf d n.1 with
    | some m => shedChan d m == c
    | none => false)

/-! ### The fast path (R72, R97, R137, R143) -/

/-- A fast word of a channel: delivered after calibration and scaling; the hard limits and the shed units
that use the channel act on it, and `SETA` follows channel 31. -/
def fastWord (c : Fin 32) (bits t : Nat) (d : Device) : Device :=
  let d := { d with chans := upd d.chans c (fun h => takeBits h bits) }
  let h := d.chans[c.1]
  let run := rdF d Addr.MOD_DET_CFG 0 7
  let (w, d) := pathWord d c (scaled d c (sinc3 h 8) 512 256) (windowOverload h run 22 0)
    (decide (h.since < 22)) (pathIndex d fastPeriod t)
  let d := wr d (Addr.DEC_FAST c.1) w
  let inv := bit w 31
  let d := { d with chans := upd d.chans c (fun h =>
    { h with good := if inv || bit w 29 then 0 else h.good + 1,
             lastFast := if inv then h.lastFast else some t,
             goodFast := if inv then h.goodFast else w }) }
  let d := if c.1 = 31 ∧ rdB d Addr.MOD_EXT_CFG 0 = true ∧ inv = false then gainSetp d true (dataOf w) else d
  let legs := legsOnChannel d c.1
  let d := if inv || bit w 29 then d else each legs (fun d n => hardLimit d n w t) d
  let d := if inv then d else
    each legs (fun d n => if masterOf d n.1 = some n.1 then
      (match harOf d n.1 with | some h => unitWord d n h w t | none => d) else d) d
  each (List.finRange 4) (fun d h =>
    if (wordChannels d h.1).contains c.1 && rdB d (Addr.GATE_HSTAT h.1) (causeBit 7) && wordsBack d h.1 then
      tryRelease d h t
    else d) d

/-- Whether no valid fast word of a channel has come for two output periods. -/
def wordsGone (d : Device) (c : Fin 32) (t : Nat) : Bool :=
  match (d.chans[c.1]).lastFast with
  | some s => decide (s + 2 * fastPeriod ≤ t)
  | none => true

/-- No valid fast word of a channel for two output periods (R50): every harness that uses it goes to the
selvedge with cause 0x07. -/
def fastMissing (c : Fin 32) (t : Nat) (d : Device) : Device :=
  if wordsGone d c t then
    let d := { d with chans := upd d.chans c (fun h => { h with good := 0 }) }
    each (List.finRange 4) (fun d h =>
      if (wordChannels d h.1).contains c.1 then selvedge d h t 7 else d) d
  else d

/-! ### The medium path and the decomposers (R72, R120) -/

/-- The three channels of a decomposer. -/
def dcmpChannels (d : Device) (k : Nat) : List Nat := (List.range 3).map (fun i => rdF d (Addr.DCMP_CFG k) (8 * i) 8)

/-- `FREQ` of a decomposer, limited to 40 to 70 Hz. -/
def dcmpFreq (d : Device) (k : Nat) : Nat := clampN (40 * 65536) (70 * 65536) (rdN d (Addr.DCMP_FREQ k))

/-- A value of a decomposer's history a quarter period ago, by linear interpolation. -/
def quarterAgo (l : List Int) (freq : Nat) : Int :=
  let num := 244140625 * 65536
  let den := 400 * max 1 freq
  let k := num / den
  let r := num % den
  let at' (i : Nat) : Int := (l[i]?).getD 0
  roundDiv (at' k * (den - r : Nat) + at' (k + 1) * r) den

/-- (x, y) turned back by θ. -/
def turnBack (x y : Int) (theta : Nat) : Int × Int :=
  let s := Config.sinTurn theta
  let c := Config.cosTurn theta
  (roundDiv (x * c + y * s) (2 ^ 30), roundDiv (y * c - x * s) (2 ^ 30))

/-- A decomposer at a medium instant whose three words have come: the outputs of the instant before appear,
and those of this one are formed (R120). A word with `INV` freezes the outputs alone: the history and θ go on. -/
def dcmpUpdate (d : Device) (k : Fin 4) (ws : List Word) : Device :=
  let p := d.dcmp[k.1]
  let d := match p.outputs with
    | some o => each (o.zipIdx) (fun d x => wr d (Addr.DCMP_OUT k.1 x.2) x.1) d
    | none => d
  let x (i : Nat) : Int := dataOf ((ws[i]?).getD 0)
  let al := roundDiv (2 * x 0 - x 1 - x 2) 3
  let be := Config.overSqrt3 (x 1 - x 2)
  let hist := ((al, be) :: p.hist).take 16384
  let f := dcmpFreq d k.1
  let theta := (p.theta + (f * 2 ^ 28 + 5000000000) / 10000000000) % 2 ^ 32
  let next (o : Option (List Word)) (inv : Bool) : Device :=
    wrB { d with dcmp := upd d.dcmp k (fun p => { p with hist := hist, theta := theta, freq := f, outputs := o }) }
      (Addr.DCMP_STAT k.1) 1 inv
  if ws.any (fun w => bit w 31) then next none true
  else
    let aq := quarterAgo (hist.map (·.1)) f
    let bq := quarterAgo (hist.map (·.2)) f
    let half (z : Int) : Int := roundDiv z 2
    let pos := turnBack (half (al - bq)) (half (be + aq)) p.theta
    let neg := turnBack (half (al + bq)) (half (be - aq)) ((2 ^ 32 - p.theta) % 2 ^ 32)
    next (some [wordOfInt pos.1, wordOfInt pos.2, wordOfInt neg.1, wordOfInt neg.2]) false

/-- The `UNS` flag of a decomposer ends a quarter period and one medium period after its cause. -/
def dcmpUnsEnd (k : Fin 4) (t : Nat) (d : Device) : Device :=
  if (d.dcmp[k.1]).unsTill ≤ t then wrB d (Addr.DCMP_STAT k.1) 0 false else d

/-- The onset of `UNS` of a decomposer at `t`. -/
def dcmpUnsettle (d : Device) (k : Fin 4) (t : Nat) : Device :=
  let q := 244140625 * 65536 * mediumPeriod / (400 * dcmpFreq d k.1) + mediumPeriod
  wrB { d with dcmp := upd d.dcmp k (fun p => { p with unsTill := t + q }) } (Addr.DCMP_STAT k.1) 0 true

/-- A medium word of a channel delivered, and the decomposers whose three words of the instant have come. -/
def mediumPath (c : Fin 32) (t : Nat) (d : Device) : Device :=
  let h := d.chans[c.1]
  let run := rdF d Addr.MOD_DET_CFG 0 7
  let k := pathIndex d mediumPeriod t
  let (w, d) := pathWord d c (scaled d c (sinc3 h 32) 32768 16) (windowOverload h run 94 0)
    (decide (h.since < 94)) k
  let d := wr d (Addr.DEC_MED c.1) w
  let d := { d with chans := upd d.chans c (fun h =>
    { h with medIndex := some k, goodMed := if bit w 31 then h.goodMed else w }) }
  each (List.finRange 4) (fun d q =>
    let chs := dcmpChannels d q.1
    let ready := chs.all (fun x => match fin? 32 x with
      | some x => (d.chans[x.1]).medIndex == some k
      | none => false)
    if rdB d (Addr.DCMP_CFG q.1) 31 && chs.contains c.1 && ready then
      dcmpUpdate d q (chs.map (fun x => rd d (Addr.DEC_MED x)))
    else d) d

/-! ### The precision path (R72, R77) -/

/-- The precision word of a channel delivered: the word, its raw reading in units of 2^-30 of nominal full
scale before calibration (R63), and the unit. -/
def precisionPath (c : Fin 32) (t : Nat) (d : Device) : Word × Int × Device :=
  let h := d.chans[c.1]
  let run := rdF d Addr.MOD_DET_CFG 0 7
  let skew := rdF d (Addr.DEC_SKEW c.1) 0 8
  let x := precisionDensity h skew
  let k := pathIndex d precisionPeriod t
  let uns := decide (h.since < 4348 + skew) || decide (h.precSince < 4348)
  let raw := roundDiv (x * 65536) (2 ^ 30 * fullScale d c.1)
  let (w, d) := pathWord d c (scaled d c x (2 ^ 60) 1) (windowOverload h run 4348 skew) uns k
  let d := wrB (wr d (Addr.DEC_PREC c.1) w) Addr.DEC_UNS c.1 uns
  let wraps := k / 2 ^ 32 - (rdN d Addr.DEC_PREC_WRAP)
  let d := if wraps = 0 then d else countBy d Addr.DEC_PREC_WRAP wraps
  let d := wrN d Addr.DEC_PREC_SEQ k
  (w, raw, { d with chans := upd d.chans c (fun h =>
    { h with lastPrec := if bit w 31 then h.lastPrec else some t }) })

/-- `DEC_STAT` at an instant: the three decimation phases. -/
def decStat (d : Device) (t : Nat) : Word :=
  match d.clock.firstLock with
  | some t0 =>
    let n := (t - t0) / ckm
    word (n % 1024 * 2 ^ 16 + n % 32 * 2 ^ 8 + n % 8)
  | none => 0

end Sys2Proof.Machine
end

