-- ==== Sys2Proof/Machine/Real.lean ====
section
/-! DEFINITION. Numbers beyond the integers: binary32 arithmetic with rounding to nearest even, and the
logarithm and exponential by fixed-point series of 60 fraction bits (DEDUCED: far below every rounding that
the spec states). -/

namespace Sys2Proof.Machine

open Sys2Proof

/-! ### Square roots -/

/-- One bit of the integer square root. -/
def isqrtStep (n : Nat) (r : Nat) (b : Nat) : Nat := if (r + 2 ^ b) * (r + 2 ^ b) ≤ n then r + 2 ^ b else r

/-- The integer square root of a number. -/
def isqrt (n : Nat) : Nat := ((List.range (n.log2 / 2 + 1)).reverse).foldl (isqrtStep n) 0

/-! ### binary32 -/

namespace F32

/-- The binary32 word of ±m·2^e, rounded to nearest, ties to even. -/
def round (neg : Bool) (m : Nat) (e : Int) : Word :=
  let s := if neg then 2 ^ 31 else 0
  if m = 0 then word s
  else
    let q : Int := max (m.log2 + e - 23) (-149)
    let sh := q - e
    let n : Nat :=
      if sh ≤ 0 then m * 2 ^ (-sh).toNat
      else
        let k := 2 ^ sh.toNat
        let r := m % k
        let t := m / k
        if 2 * r > k ∨ (2 * r = k ∧ t % 2 = 1) then t + 1 else t
    let w := (q + 149).toNat * 2 ^ 23 + n
    word (s + min w 0x7F800000)

/-- A quiet NaN. -/
def nan : Word := 0x7FC00000

/-- Infinity with a sign. -/
def inf (neg : Bool) : Word := if neg then 0xFF800000 else 0x7F800000

/-- The sign bit. -/
def neg? (a : Word) : Bool := bit a 31

/-- Whether a word is a NaN. -/
def isNan (a : Word) : Bool := decide (field a 0 31 > 0x7F800000)

/-- Whether a word is an infinity. -/
def isInf (a : Word) : Bool := decide (field a 0 31 = 0x7F800000)

/-- Whether a word is finite. -/
def finite (a : Word) : Bool := decide (field a 0 31 < 0x7F800000)

/-- The significand of a finite word. -/
def mant (a : Word) : Nat := if field a 23 8 = 0 then field a 0 23 else field a 0 23 + 2 ^ 23

/-- The exponent of a finite word's significand. -/
def expo (a : Word) : Int := if field a 23 8 = 0 then -149 else (field a 23 8 : Int) - 150

/-- The signed significand. -/
def smant (a : Word) : Int := if neg? a then -(mant a : Int) else mant a

/-- A signed dyadic number rounded. -/
def ofDyadic (m : Int) (e : Int) : Word := round (decide (m < 0)) m.natAbs e

/-- A ratio rounded once. -/
def ofRatio (num : Int) (den : Nat) : Word :=
  let n := num.natAbs * 2 ^ 200
  let q := n / max 1 den
  round (decide (num < 0)) (2 * q + (if n % max 1 den = 0 then 0 else 1)) (-201)

/-- The square root of a ratio rounded once. -/
def ofSqrtRatio (num den : Nat) : Word :=
  let n := num * 2 ^ 200 / max 1 den
  let r := isqrt n
  round false (2 * r + (if r * r = n then 0 else 1)) (-101)

/-- An integer as binary32. -/
def ofInt (z : Int) : Word := ofDyadic z 0

/-- Negation. -/
def neg (a : Word) : Word := setBit a 31 (!neg? a)

/-- Magnitude. -/
def abs (a : Word) : Word := setBit a 31 false

/-- Addition. -/
def add (a b : Word) : Word :=
  if isNan a || isNan b then nan
  else if isInf a then (if isInf b && neg? a != neg? b then nan else a)
  else if isInf b then b
  else
    let e := min (expo a) (expo b)
    let m := smant a * 2 ^ (expo a - e).toNat + smant b * 2 ^ (expo b - e).toNat
    if m = 0 then (if neg? a && neg? b then word (2 ^ 31) else 0) else ofDyadic m e

/-- Subtraction. -/
def sub (a b : Word) : Word := add a (neg b)

/-- Multiplication. -/
def mul (a b : Word) : Word :=
  let s := neg? a != neg? b
  if isNan a || isNan b then nan
  else if isInf a || isInf b then (if mant a = 0 && finite a || mant b = 0 && finite b then nan else inf s)
  else round s (mant a * mant b) (expo a + expo b)

/-- Division. -/
def div (a b : Word) : Word :=
  let s := neg? a != neg? b
  if isNan a || isNan b then nan
  else if isInf a then (if isInf b then nan else inf s)
  else if isInf b then round s 0 0
  else if mant b = 0 then (if mant a = 0 then nan else inf s)
  else
    let n := mant a * 2 ^ 64
    let q := n / mant b
    round s (2 * q + (if n % mant b = 0 then 0 else 1)) (expo a - expo b - 65)

/-- Square root. -/
def sqrt (a : Word) : Word :=
  if isNan a then nan
  else if mant a = 0 && finite a then a
  else if neg? a then nan
  else if isInf a then a
  else
    let odd := decide (expo a % 2 ≠ 0)
    let m := mant a * (if odd then 2 else 1) * 2 ^ 64
    let e := if odd then expo a - 1 else expo a
    let r := isqrt m
    round false (2 * r + (if r * r = m then 0 else 1)) (e / 2 - 33)

/-- Whether a < b, for numbers. -/
def lt (a b : Word) : Bool :=
  if isNan a || isNan b then false
  else if isInf a || isInf b then
    (if isInf a && isInf b then neg? a && !neg? b else if isInf a then neg? a else !neg? b)
  else
    let e := min (expo a) (expo b)
    decide (smant a * 2 ^ (expo a - e).toNat < smant b * 2 ^ (expo b - e).toNat)

/-- Whether a ≤ b, for numbers. -/
def le (a b : Word) : Bool := !isNan a && !isNan b && !lt b a

/-- The lesser of two. -/
def min (a b : Word) : Word := if lt b a then b else a

/-- The greater of two. -/
def max (a b : Word) : Word := if lt a b then b else a

/-- `x` limited to `lo … hi`. -/
def clamp (lo hi x : Word) : Word := max lo (min hi x)

/-- The value times 2^k to the nearest integer, half away from zero; 0 where it is not finite. -/
def toFixed (a : Word) (k : Nat) : Int :=
  if finite a then
    let e := expo a + k
    if 0 ≤ e then smant a * 2 ^ e.toNat else roundDiv (smant a) (2 ^ (-e).toNat)
  else 0

end F32

/-! ### Logarithm and exponential -/

/-- ln 2 in units of 2^-60. -/
def ln2Fix : Int := 799144290325165979

/-- 2 artanh(z / 2^60) in units of 2^-60, for |z| at most a third of 2^60. -/
def artanh2 (z : Int) : Int :=
  let z2 := roundDiv (z * z) (2 ^ 60)
  let step (acc : Int × Int) (j : Nat) : Int × Int :=
    (acc.1 + roundDiv (2 * acc.2) (2 * j + 1), roundDiv (acc.2 * z2) (2 ^ 60))
  ((List.range 24).foldl step (0, z)).1

/-- The natural logarithm of a positive ratio in units of 2^-60. -/
def lnFix (num den : Nat) : Int :=
  let k : Int := (num.log2 : Int) - den.log2
  let a := if 0 ≤ k then num else num * 2 ^ (-k).toNat
  let b := if 0 ≤ k then den * 2 ^ k.toNat else den
  k * ln2Fix + artanh2 (roundDiv (((a : Int) - b) * 2 ^ 60) (a + b))

/-- e to the power −num/den in units of 2^-60. -/
def expNegFix (num den : Nat) : Nat :=
  let x := num * 2 ^ 60 / max 1 den
  let k := x / 799144290325165979
  let r : Int := (x % 799144290325165979 : Nat)
  let step (acc : Int × Int) (j : Nat) : Int × Int :=
    let t := roundDiv (-(acc.2 * r)) ((j + 1) * 2 ^ 60)
    (acc.1 + t, t)
  let y := ((List.range 24).foldl step ((2 ^ 60 : Int), (2 ^ 60 : Int))).1
  if 60 < k then 0 else (roundDiv y (2 ^ k)).toNat

end Sys2Proof.Machine
end

