-- ==== Sys2Proof/Machine/Prims.lean ====
section
/-! DEFINITION. The primitives that a commit drives: integrator units (R117, R118), sequence decomposers (R120),
injectors (R114) and the loom's timers (R198, R199); and the registers that follow time of themselves. -/

namespace Sys2Proof.Machine

open Sys2Proof

/-! ### Integrators (R117, R118) -/

/-- The coefficient `w` (0 `KP`, 1 `KI`, 2 `MIN`, 3 `MAX`) of the active bank of an integrator. -/
def intCoef (d : Device) (n w : Nat) : Word :=
  rd d (if rdB d (Addr.INT_STAT n) 0 then Addr.INT_B n w else Addr.INT_A n w)

/-- `x` limited to the active bank's `MIN` to `MAX`. -/
def intLimit (d : Device) (n : Nat) (x : Word) : Word := F32.clamp (intCoef d n 2) (intCoef d n 3) x

/-- The bank swap of R118: the state is rescaled so that the new gains reproduce the limited old output. -/
def intSwap (d : Device) (n : Fin 32) : Device :=
  let d := wrB d (Addr.INT_STAT n.1) 0 (!rdB d (Addr.INT_STAT n.1) 0)
  let e := (d.ints[n.1]).prevIn
  let y := intLimit d n.1 (rd d (Addr.INT_OUT n.1))
  if F32.finite (intCoef d n.1 0) && F32.finite e && F32.finite y then
    wr d (Addr.INT_STATE n.1) (F32.sub y (F32.mul (intCoef d n.1 0) e))
  else d

/-- The computation of one cycle (R117). -/
def intCompute (d : Device) (n : Fin 32) : Device :=
  let e := rd d (Addr.INT_IN n.1)
  let x := rd d (Addr.INT_STATE n.1)
  let k (w : Nat) : Word := intCoef d n.1 w
  let d := { d with ints := upd d.ints n (fun i => { i with prevIn := e }) }
  if F32.finite e && F32.finite x && (List.range 4).all (fun w => F32.finite (k w)) then
    let ki := F32.mul (k 1) e
    let x' := F32.add x ki
    let u := F32.add (F32.mul (k 0) e) x'
    let r : Word × Word × Nat :=
      if F32.lt (k 3) u then (k 3, if F32.lt 0 ki then x else x', 1)
      else if F32.lt u (k 2) then (k 2, if F32.lt ki 0 then x else x', 2)
      else (u, x', 0)
    let d := wr (wr d (Addr.INT_OUT n.1) r.1) (Addr.INT_STATE n.1) r.2.1
    wrB (wrF d (Addr.INT_STAT n.1) 1 2 r.2.2) (Addr.INT_STAT n.1) 3 false
  else count (wrB d (Addr.INT_STAT n.1) 3 true) Addr.INT_NAN_CNT

/-- An integrator unit at a commit; `act` says whether its control register was committed. -/
def intStep (act : Bool) (d : Device) (n : Fin 32) : Device :=
  let c := rd d (Addr.INT_CTRL n.1)
  let d := if act && bit c 1 then intSwap d n else d
  let d := if act && bit c 2 then wr d (Addr.INT_STATE n.1) (rd d (Addr.INT_INIT n.1)) else d
  if bit c 0 then intCompute d n else d

/-! ### Commits to the decomposers and injectors (R114, R120) -/

/-- The registers of a decomposer after a commit that found `old`: θ at a commit of `ANGLE`, and the causes of
`UNS`. -/
def dcmpCommit (old : Device) (angle : Bool) (t : Nat) (d : Device) (k : Fin 4) : Device :=
  let d := if angle then { d with dcmp := upd d.dcmp k (fun p => { p with theta := rdN d (Addr.DCMP_ANGLE k.1) }) } else d
  let was := rd old (Addr.DCMP_CFG k.1)
  let now := rd d (Addr.DCMP_CFG k.1)
  let jump := (dcmpFreq d k.1 - dcmpFreq old k.1) + (dcmpFreq old k.1 - dcmpFreq d k.1)
  let cause := bit now 31 && (!bit was 31 || field was 0 24 != field now 0 24 || decide (32768 < jump))
  let d := if bit now 31 && !bit was 31 then
      { d with dcmp := upd d.dcmp k (fun p => { p with hist := [], outputs := none }) } else d
  if cause then dcmpUnsettle d k t else d

/-- The first fast-path instant after `t` (R73). -/
def nextFast (d : Device) (t : Nat) : Nat :=
  match d.clock.firstLock with
  | some t0 => t0 + ((t - t0) / fastPeriod + 1) * fastPeriod
  | none => t

/-- `INJ_CTRL` of an injector committed at `t`: setting `EN` starts it, clearing `EN` ends its output. -/
def injCommit (old : Device) (t : Nat) (d : Device) (j : Fin 4) : Device :=
  let was := rdB old (Addr.INJ_CTRL j.1) 0
  let is := rdB d (Addr.INJ_CTRL j.1) 0
  if is && !was then { d with inj := upd d.inj j (fun _ => ⟨some (nextFast d (t + 4 * ckf))⟩) }
  else if was && !is then { d with inj := upd d.inj j (fun _ => ⟨none⟩) }
  else d

/-! ### Timers (R198, R199) -/

/-- The type of a timer: 1 to 4, or 0 where the slot is unused. -/
def tmrType (d : Device) (i : Nat) : Nat := rdF d (Addr.LOOM_TMR_STAT i) 8 8

/-- The preset of a timer in µs at an instant: a new one is in use from the next µs step. -/
def tmrPreset (d : Device) (i : Fin 64) (t : Nat) : Nat :=
  let m := d.loom.timers[i.1]
  if t < m.presetAt then m.presetWas else rdN d (Addr.LOOM_TMR_PRESET i.1)

/-- The elapsed time of a timer in µs at an instant. It stops at the preset. -/
def tmrElapsed (d : Device) (i : Fin 64) (t : Nat) : Nat :=
  let m := d.loom.timers[i.1]
  match m.runFrom with
  | some s => max m.base (min (tmrPreset d i t) (m.base + (t - s) / us 1))
  | none => m.base

/-- `Q` of a timer at an instant, by its type, its `IN` and its elapsed time. -/
def tmrQ (d : Device) (i : Fin 64) (t : Nat) : Bool :=
  let q := rdB d (Addr.LOOM_TMR_STAT i.1) 0
  let on := rdB d (Addr.LOOM_TMR_CTRL i.1) 0
  let e := tmrElapsed d i t
  let full := decide (tmrPreset d i t ≤ e)
  match tmrType d i.1 with
  | 1 => on && full
  | 2 => on || (q && !full)
  | 3 => q && !full
  | 4 => full && (on || q || decide (0 < e))
  | _ => false

/-- A timer brought up to an instant: its registers show elapsed and `Q`. -/
def tmrSettle (d : Device) (i : Fin 64) (t : Nat) : Device :=
  let e := tmrElapsed d i t
  let q := tmrQ d i t
  let d := wrB (wrN d (Addr.LOOM_TMR_ELAP i.1) e) (Addr.LOOM_TMR_STAT i.1) 0 q
  { d with loom := { d.loom with timers := upd d.loom.timers i (fun m =>
      { m with base := e, runFrom := m.runFrom.map (fun s => s + (t - s) / us 1 * us 1) }) } }

/-- A timer given its elapsed time, `Q` and whether it counts from `t` on. -/
def tmrSet (d : Device) (i : Fin 64) (e : Nat) (q runs : Bool) (t : Nat) : Device :=
  let d := wrB (wrN d (Addr.LOOM_TMR_ELAP i.1) e) (Addr.LOOM_TMR_STAT i.1) 0 q
  { d with loom := { d.loom with timers := upd d.loom.timers i (fun m =>
      { m with base := e, runFrom := if runs then some t else none }) } }

/-- A commit of a timer's control register: `RESET` acts once, then `IN` by the timer's type. -/
def tmrCommit (d : Device) (i : Fin 64) (v : Word) (t : Nat) : Device :=
  let was := rdB d (Addr.LOOM_TMR_CTRL i.1) 0
  let on := bit v 0
  let d := tmrSettle d i t
  let d := wr d (Addr.LOOM_TMR_CTRL i.1) (setField (rd d (Addr.LOOM_TMR_CTRL i.1)) 0 2 (field v 0 2))
  let d := if bit v 1 then tmrSet d i 0 false (was && tmrType d i.1 != 2 && tmrType d i.1 != 3) t else d
  let e := tmrElapsed d i t
  let q := rdB d (Addr.LOOM_TMR_STAT i.1) 0
  let runs := ((d.loom.timers[i.1]).runFrom).isSome
  let p := tmrPreset d i t
  match tmrType d i.1 with
  | 1 => if on then (if runs then d else tmrSet d i 0 (p == 0) true t) else tmrSet d i 0 false false t
  | 2 =>
    if on then tmrSet d i 0 true false t
    else if was then tmrSet d i 0 (q && p != 0) (q && p != 0) t
    else d
  | 3 => if on && !was && !q then tmrSet d i 0 (p != 0) (p != 0) t else d
  | 4 =>
    if on then (if runs then d else tmrSet d i e (q || decide (p ≤ e)) true t)
    else tmrSet d i e q false t
  | _ => d

/-- A streamed write of a preset: in use from the next µs step. -/
def tmrPresetWrite (i : Fin 64) (v : Word) (t : Nat) (d : Device) : Device :=
  let was := tmrPreset d i t
  let d := tmrSettle d i t
  let step := match (d.loom.timers[i.1]).runFrom with
    | some s => s + us 1
    | none => t + us 1
  wr { d with loom := { d.loom with timers := upd d.loom.timers i (fun m =>
      { m with presetWas := was, presetAt := step }) } } (Addr.LOOM_TMR_PRESET i.1) v

/-- A timer's elapsed time has reached its preset (R199): its registers show it and the `Q` that its type gives. -/
def tmrExpiry (i : Fin 64) (t : Nat) (d : Device) : Device :=
  if tmrPreset d i t ≤ tmrElapsed d i t then tmrSettle d i t else d

/-! ### Registers that follow time (R6, R73, R122, R199, R254, R363, R430) -/

/-- The word that a read of a register returns at an instant: what the register file holds, but for the registers
that count by themselves. -/
def live (d : Device) (a t : Nat) : Word :=
  if a = Addr.EDGE_NOW_LO then loWord (edgeNow d t)
  else if a = Addr.EDGE_NOW_HI then hiWord (edgeNow d t)
  else if a = Addr.DEC_STAT then decStat d t
  else if a = Addr.TIME_NOW_LO then loWord (d.time.read t)
  else if a = Addr.TIME_NOW_HI then hiWord (d.time.read t)
  else if a = Addr.BRD_DEGR_REM then word (degradedLeft d t)
  else if a = Addr.CLK_COAST_LAST then
    match d.clock.lossAt with
    | some s => if rdB d Addr.CLK_STAT 3 then word (min 0xFFFFFFFF ((t - s) / us 1)) else rd d a
    | none => rd d a
  else if 0x40409000 ≤ a ∧ a < 0x40409400 then
    match fin? 64 ((a - 0x40409000) / 16) with
    | some i =>
      if a % 16 = 8 then word (tmrElapsed d i t)
      else if a % 16 = 12 then setBit (rd d a) 0 (tmrQ d i t)
      else rd d a
    | none => rd d a
  else rd d a

end Sys2Proof.Machine
end

