-- ==== Sys2Proof/Machine/Station.lean ====
section
/-! DEFINITION. Remote stations (R201, R202, R361, R362) and edge detectors (R200): what the loom takes in at a latch
and sends at a commit. -/

namespace Sys2Proof.Machine

open Sys2Proof

/-! ### The image in use -/

/-- The station of a number in the table of the loaded image. -/
def stationEntry (d : Device) (k : Nat) : Option StationEntry :=
  d.loom.image.bind (fun i => i.stations.find? (fun s => s.number == k))

/-- A station beyond its registers, changed. -/
def updStation (d : Device) (k : Fin 16) (f : Station → Station) : Device :=
  { d with loom := { d.loom with stations := upd d.loom.stations k f } }

/-! ### Loss (R201) -/

/-- The transport of a station is down: its controller is bus-off, or both Ethernet ports have lost link. -/
def transportDown (d : Device) (s : StationEntry) : Bool :=
  match s.transport with
  | 1 => rdF d (Addr.CAN_STAT 0) 0 2 == 2 || !domOn d 6
  | 2 => rdF d (Addr.CAN_STAT 1) 0 2 == 2 || !domOn d 6
  | _ => rdF d Addr.ETH_LINK 0 2 == 0 || !domOn d 6

/-- Whether a station is lost. -/
def stationLost (d : Device) (k : Fin 16) : Bool :=
  (d.loom.stations[k.1]).timedOut || (d.loom.stations[k.1]).down

/-- `LOST` and the memory of a loss follow the station; a frame taken before a loss does not end it (R202). -/
def showLost (d : Device) (k : Fin 16) : Device :=
  let l := stationLost d k
  let begins := l && !rdB d (Addr.LOOM_ST_STAT k.1) 0
  updStation (wrB d (Addr.LOOM_ST_STAT k.1) 0 l) k (fun s =>
    { s with lostSince := s.lostSince || l, fresh := s.fresh && !begins })

/-- Every station takes up the state of its transport. -/
def stationsFollow (d : Device) : Device :=
  each (List.finRange 16) (fun d k =>
    match stationEntry d k.1 with
    | some e => showLost (updStation d k (fun s => { s with down := transportDown d e })) k
    | none => d) d

/-- No valid frame has come for the timeout of a station (R201). -/
def stationTimeout (k : Fin 16) (t : Nat) (d : Device) : Device :=
  match stationEntry d k.1 with
  | some e =>
    let s := d.loom.stations[k.1]
    let since := s.lastRx.getD 0
    if since + us e.timeout ≤ t then showLost (updStation d k (fun s => { s with timedOut := true })) k else d
  | none => d

/-! ### Frames (R361, R362) -/

/-- Whether a sequence number is later than the last, modulo 2^`bits`. -/
def laterSeq (bits : Nat) (last : Option Nat) (n : Nat) : Bool :=
  match last with
  | none => true
  | some l => let x := (n + 2 ^ (bits + 1) - l % 2 ^ bits) % 2 ^ bits; decide (0 < x ∧ x < 2 ^ (bits - 1))

/-- The next valid data length of a CAN FD frame. -/
def canLength (n : Nat) : Nat :=
  ([0, 1, 2, 3, 4, 5, 6, 7, 8, 12, 16, 20, 24, 32, 48, 64].find? (fun l => decide (n ≤ l))).getD 64

/-- Bytes padded with zeros to a valid data length of CAN FD. -/
def canPad (bs : List Byte) : List Byte := bs ++ zeros (canLength bs.length - bs.length)

/-- The words of a station frame, taken as its inputs. -/
def stationTake (d : Device) (k : Fin 16) (seq : Nat) (ws : List Byte) (n t : Nat) : Device :=
  let d := each (List.range n) (fun d w => wrN d (Addr.LOOM_STIN k.1 w) (sliceLE ws (4 * w) 4)) d
  showLost (updStation d k (fun s => { s with lastRx := some t, timedOut := false, fresh := true, seqIn := some seq })) k

/-- A station frame of a station whose number the frame names (UDP) or whose identifier it carries (CAN FD): checked,
and taken as the inputs, or discarded (R362). `src` is the site address of the sender, or the identifier. A pair is
named by either of its addresses (R376). -/
def stationFrame (transport src : Nat) (bs : List Byte) (t : Nat) (d : Device) : Device :=
  if transport = 3 then
    let w := sliceLE bs 16 1
    let k := sliceLE bs 3 1
    match fin? 16 k, stationEntry d k with
    | some k, some e =>
      let crc := decide (24 + 4 * w = bs.length ∧ sliceLE bs (20 + 4 * w) 4 = crc32c (bs.take (20 + 4 * w)))
      let head := decide (sliceLE bs 0 2 = 0x4657 ∧ sliceLE bs 2 1 = 1 ∧ src / 2 = e.address / 2 ∧ e.transport = 3
        ∧ w = e.inWords)
      let seq := sliceLE bs 4 4
      if crc && head && laterSeq 32 (d.loom.stations[k.1]).seqIn seq then stationTake d k seq (bs.drop 20) w t else d
    | _, _ => d
  else
    each (List.finRange 16) (fun d k =>
      match stationEntry d k.1 with
      | some e =>
        let seq := sliceLE bs 0 1
        if e.transport = transport ∧ src = e.address + 1 ∧ sliceLE bs 1 3 = 0 ∧ bs.length = canLength (4 + 4 * e.inWords)
            ∧ laterSeq 8 (d.loom.stations[k.1]).seqIn seq then
          stationTake d k seq (bs.drop 4) e.inWords t
        else d
      | none => d) d

/-- The port a frame for another unit leaves through: the first with link, or port 0. -/
def udpPort (d : Device) : Nat :=
  if rdB d Addr.ETH_LINK 0 || !rdB d Addr.ETH_LINK 1 || rdB d Addr.NET_CFG 2 then 0 else 1

/-- A UDP payload that leaves through port `n`, and under PRP through both (R358). -/
def sendUdp (n dest port : Nat) (bytes : List Byte) (d : Device) : Device :=
  let one (k : Nat) : Port × List Byte := (.udp k dest port, bytes)
  { d with out := d.out ++ (if rdB d Addr.NET_CFG 2 then [one 0, one 1] else [one n]) }

/-- The outputs of a station sent at a commit at Ialos time `time` (R202, R361), or discarded and counted. -/
def stationSend (time : Nat) (d : Device) (k : Fin 16) : Device :=
  match stationEntry d k.1 with
  | none => d
  | some e =>
    let s := d.loom.stations[k.1]
    let d := updStation d k (fun s => { s with seqOut := (s.seqOut + 1) % 2 ^ 32 })
    if s.lostLatch || s.lostSince || stationLost d k then count d Addr.LOOM_ST_DROP_CNT
    else
      let ws := (List.range e.outWords).flatMap (fun w => bytesLE 4 (rdN d (Addr.LOOM_STOUT k.1 w)))
      if e.transport = 3 then
        let body := [0x57, 0x46, 1, BitVec.ofNat 8 k.1] ++ bytesLE 4 s.seqOut ++ bytesLE 8 time
          ++ [BitVec.ofNat 8 e.outWords, 0, 0, 0] ++ ws
        let n := udpPort d
        let ip := fieldN d (0x0C04 + n) + e.address
        sendUdp n ip 48121 (body ++ bytesLE 4 (crc32c body)) d
      else
        { d with out := d.out ++ [(.can (e.transport - 1) e.address, canPad ([BitVec.ofNat 8 s.seqOut, 0, 0, 0] ++ ws))] }

/-- The stations of a task at its commit. -/
def stationsSend (d : Device) (task time : Nat) : Device :=
  each (List.finRange 16) (fun d k =>
    match stationEntry d k.1 with
    | some e => if e.task = task then stationSend time d k else d
    | none => d) d

/-- The latch of a station (R202): `STALE`, `SUBST` and the count. -/
def stationLatch (d : Device) (k : Fin 16) : Device :=
  let s := d.loom.stations[k.1]
  let a := Addr.LOOM_ST_STAT k.1
  let lost := stationLost d k
  let stale := lost || (!s.fresh && (rdB d a 1 || s.lostSince))
  let n := if stale then min 65535 (rdF d a 16 16 + 1) else 0
  let sub := stale && decide (rdF d (Addr.LOOM_ST_STALE k.1) 0 16 ≤ n)
  let d := wrF (wrB (wrB d a 1 stale) a 2 sub) a 16 16 n
  updStation d k (fun s => { s with lostLatch := lost, lostSince := lost, fresh := false })

/-- The stations of a task at its latch. -/
def stationsLatch (d : Device) (task : Nat) : Device :=
  each (List.finRange 16) (fun d k =>
    match stationEntry d k.1 with
    | some e => if e.task = task then stationLatch d k else d
    | none => d) d

/-- Whether a station of a task is stale. -/
def taskStale (d : Device) (task : Nat) : Bool :=
  (List.finRange 16).any (fun k =>
    match stationEntry d k.1 with
    | some e => e.task == task && rdB d (Addr.LOOM_ST_STAT k.1) 1
    | none => false)

/-! ### Words at a latch (R190, R200) -/

/-- A source word at an instant: a register, or a word of memory; the inputs of a station with `SUBST` are its
substitutes. -/
def sourceWord (d : Device) (a t : Nat) : Word :=
  if 0x40408500 ≤ a ∧ a < 0x40408700 then
    let k := (a - 0x40408500) / 32
    if rdB d (Addr.LOOM_ST_STAT k) 2 then rd d (Addr.LOOM_ST_SUB k ((a - 0x40408500) % 32 / 4)) else rd d a
  else
    match target a with
    | .block _ => live d a t
    | _ => word (memNat d a 4)

/-- The bit an edge detector samples: its own `IN`, or a bit of its source word. -/
def edgeBit (d : Device) (j t : Nat) : Bool :=
  let src := rdF d (Addr.LOOM_EDG_STAT j) 8 5
  if rdN d (Addr.LOOM_EDG_SRC j) = 0 then rdB d (Addr.LOOM_EDG_CTRL j) 0
  else bit (sourceWord d (rdN d (Addr.LOOM_EDG_SRC j)) t) src

/-- An edge detector samples at a latch of its task (R200). -/
def edgeSample (t : Nat) (d : Device) (j : Nat) : Device :=
  let a := Addr.LOOM_EDG_STAT j
  let x := edgeBit d j t
  let prev := if d.loom.edgeFirst.contains j then x else rdB d a 2
  let e := match rdF d a 16 8 with
    | 0x11 => x && !prev
    | 0x12 => !x && prev
    | 0x13 => x != prev
    | _ => false
  let d := wrB (wrB (wrB d a 0 x) a 1 e) a 2 x
  { d with loom := { d.loom with edgeFirst := d.loom.edgeFirst.filter (· ≠ j) } }

/-- The edge detectors of a task at its latch. -/
def edgesLatch (d : Device) (task t : Nat) : Device :=
  match d.loom.image with
  | some i => each ((edgesOf i).zipIdx.filter (fun o => o.1.task == task)) (fun d o => edgeSample t d o.2) d
  | none => d

end Sys2Proof.Machine
end

