-- ==== Sys2Proof/Machine/Filut.lean ====
section
/-! DEFINITION. What the unit sends over the Filut link (R379 to R384): frames, the T0 image and the T1 image. -/

namespace Sys2Proof.Machine

open Sys2Proof

/-! ### Frames (R379, R380) -/

/-- The time of `n` bytes on the link: 200 bytes per µs. -/
def linkTime (n : Nat) : Nat := 100 * n

/-- Whether the link runs: the unit is paired, its network domain is on and CKL is not gated. -/
def filutRuns (d : Device) : Bool := paired d && domOn d 6 && !rdB d Addr.CLK_STAT 5

/-- The header of a frame. -/
def filutHeader (d : Device) (type flags seq cycle time len : Nat) : List Byte :=
  [0x57, 0x50, BitVec.ofNat 8 type, BitVec.ofNat 8 flags] ++ bytesLE 4 seq ++ bytesLE 4 cycle ++ bytesLE 8 time
    ++ bytesLE 4 (rdN d Addr.LOOM_IMG_ID) ++ (d.cfg.hash ++ zeros 4).take 4 ++ bytesLE 2 len ++ zeros 2

/-- A frame sent: the sequence number of its type advances, and the frame is counted. -/
def filutSend (d : Device) (type flags cycle time : Nat) (payload : List Byte) : Device :=
  if filutRuns d then
    let seq := (d.red.txSeq[type]?).getD 0
    let body := filutHeader d type flags seq cycle time payload.length ++ payload
    let d := countWrap d Addr.RED_TX_CNT Addr.RED_TX_WRAP
    let txSeq := d.red.txSeq.set! type ((seq + 1) % 2 ^ 32)
    { d with red := { d.red with txSeq := txSeq }, out := d.out ++ [(.filut, body ++ bytesLE 4 (crc32c body))] }
  else d

/-- A control frame (R387, R388, R396). DESIGN CHOICE: the spec gives its payload no layout: a code, then what the
code takes. -/
def controlFrame (d : Device) (flags code : Nat) (body : List Byte) : Device :=
  filutSend d 5 flags (rdN d Addr.LOOM_CYCLE) (ialos d) (BitVec.ofNat 8 code :: body)

/-- A status frame. DESIGN CHOICE: its payload is the state, flags (bit 0: 64 valid frames in a row received, bit 1:
the mirror is not complete, bit 2: synchronised), the states of the harnesses, and the hash of the image armed for
an exchange. -/
def statusFrame (d : Device) : Device :=
  let hs := (List.range 4).map (fun h => BitVec.ofNat 8 (hstate d h).code)
  let armed := (d.loom.armed.map (·.hash)).getD []
  let flags := (decide (64 ≤ d.red.rxRun)).toNat + 2 * (redState d == 3 && !d.red.mirrorOk).toNat
    + 4 * (redState d == 3 && pairSync d).toNat
  filutSend d 4 0 (rdN d Addr.LOOM_CYCLE) (ialos d)
    ([BitVec.ofNat 8 (redState d), BitVec.ofNat 8 flags] ++ hs ++ (armed ++ zeros 32).take 32)

/-- A T0 frame that is on the link at `t` is cut off: what has not left is lost (R384, R426). -/
def cutFrame (d : Device) (t : Nat) : Device :=
  if t < d.red.txEnd then
    let out := match d.out.reverse.findIdx? (fun o => o.1 == .filut) with
      | some i =>
        d.out.modify (d.out.length - 1 - i) (fun o => (o.1, o.2.take (o.2.length + 8 - (d.red.txEnd - t + 99) / 100)))
      | none => d.out
    { d with red := { d.red with txEnd := t }, out := out }
  else d

/-! ### Images (R381 to R383) -/

/-- The state regions of a class, in the order of their table. -/
def regionBytes (d : Device) (one : Bool) : List Byte :=
  match d.loom.image with
  | some i => (i.regions.filter (fun r => r.classT1 == one)).flatMap (fun r => memBytes d r.base r.length)
  | none => []

/-- The commit set: every committed register that changed at D. -/
def commitBytes (cs : List CommitEntry) : List Byte :=
  bytesLE 4 cs.length ++ cs.flatMap (fun c => bytesLE 4 c.addr ++ bytesLE 4 c.value.toNat)

/-- The hardware record after the commit set. -/
def hardwareBytes (d : Device) (t : Nat) : List Byte :=
  (List.range 4).flatMap (fun h =>
      bytesLE 4 (rdN d (Addr.GATE_HSTAT h)) ++ bytesLE 4 (rdF d (Addr.GATE_HSTAT h) 4 4))
    ++ (List.range 32).flatMap (fun n => bytesLE 4 (rdN d (Addr.INT_STATE n)) ++ bytesLE 4 (rdN d (Addr.INT_OUT n)))
    ++ (List.range 32).map (fun n => BitVec.ofNat 8 (rdF d (Addr.INT_STAT n) 0 4))
    ++ (List.finRange 64).flatMap (fun i =>
        let q := tmrQ d i t
        let pulse := tmrType d i.1 == 3 && q
        bytesLE 4 (tmrElapsed d i t)
          ++ [BitVec.ofNat 8 (q.toNat + 2 * (rdB d (Addr.LOOM_TMR_CTRL i.1) 0).toNat + 4 * pulse.toNat), 0, 0, 0])
    ++ (List.range 16).map (fun b => BitVec.ofNat 8
        ((List.range 8).map (fun k => if rdB d (Addr.LOOM_EDG_STAT (8 * b + k)) 2 then 2 ^ k else 0)).sum)
    ++ (List.range 16).flatMap (fun k => bytesLE 4 (rdN d (Addr.LOOM_ST_STAT k)))

/-- A temperature rise in nK as a signed 32-bit number of µK. DESIGN CHOICE: the spec gives 20 bytes a leg and no
unit. -/
def microKelvin (x : Int) : Nat := (wordOfInt (roundDiv x 1000)).toNat

/-- The T1 image. -/
def t1Image (d : Device) : List Byte :=
  regionBytes d true
    ++ (List.range 32).flatMap (fun n => (List.range 8).flatMap (fun w => bytesLE 4 (rdN d (Addr.INT_A n w))))
    ++ (List.range 64).flatMap (fun i => bytesLE 4 (rdN d (Addr.LOOM_TMR_PRESET i)))
    ++ d.therm.legs.toList.flatMap (fun l =>
        l.stages.toList.flatMap (fun s => bytesLE 4 (microKelvin s)) ++ bytesLE 4 (microKelvin l.hs))
    ++ memBytes d 0x60031000 128 ++ (d.cfg.hash ++ zeros 32).take 32
    ++ ((d.loom.image.map (·.hash)).getD [] ++ zeros 32).take 32

/-- The T0 image frame of boundary D leaves at D + 16 (R382, R384): none from a unit that is giving up control; a
frame still on the link is cut off and counted. An image begins anew at each T1 boundary. DESIGN CHOICE: a paired
unit sends a status frame at every boundary at which it sends no image, and at every T1 boundary. -/
def imageSend (cs : List CommitEntry) (xchg t1 : Bool) (dl : Nat) (d : Device) : Device :=
  if redState d = 2 ∧ d.red.stopTx = false ∧ filutRuns d = true then
    let at' := dl + 16 * ckf
    let d := if at' < d.red.txEnd then cutFrame (count d Addr.RED_LATE_CNT) at' else d
    let payload := commitBytes cs ++ hardwareBytes d (dl + 3 * ckf) ++ regionBytes d false
    let d := filutSend d 1 xchg.toNat (rdN d Addr.LOOM_CYCLE) (d.time.read dl) payload
    let d := { d with red := { d.red with txEnd := at' + linkTime (payload.length + 44) } }
    if t1 then
      statusFrame { d with red := { d.red with t1Tx := t1Image d, t1TxOff := 0, t1TxAt := rdN d Addr.LOOM_CYCLE } }
    else d
  else statusFrame d

end Sys2Proof.Machine
end

