-- ==== Sys2Proof/Machine/Fields.lean ====
section
/-! DEFINITION. The two passes that every requested set of configuration values goes through (R309): each
field against its own table, then the rules that name another field. -/

namespace Sys2Proof.Machine

open Sys2Proof

/-! ### First pass -/

/-- Whether a word names a recorder source of R264. -/
def recSourceOk (v : Nat) : Bool :=
  decide (v < 0x20 ∨ 0x100 ≤ v ∧ v < 0x120 ∨ 0x200 ≤ v ∧ v < 0x220 ∨ 0x300 ≤ v ∧ v < 0x30C
    ∨ 0x400 ≤ v ∧ v < 0x400 + 8 * 24 ∧ v % 8 < 6 ∨ 0x600 ≤ v ∧ v < 0x620 ∨ 0x640 ≤ v ∧ v < 0x650
    ∨ 0x700 ≤ v ∧ v < 0x740 ∨ 0x800 ≤ v ∧ v < 0x830 ∨ 0x900 ≤ v ∧ v < 0x910)

/-- Whether an address lies in a region that may hold a ring or a buffer: shared SRAM outside the steward's
part, a DTCM, or LPDDR (R20, R286). -/
def ringRegion (a : Nat) : Bool :=
  decide (0x20000000 ≤ a ∧ a < 0x20380000 ∨ 0x80000000 ≤ a ∧ a < 0xA0000000
    ∨ 0x10080000 ≤ a ∧ a < 0x103A0000 ∧ a % 0x100000 / 0x20000 = 4)

/-- The leg codes 0b11 of a heddle word made 0b00. -/
def heddleClean (v : Nat) : Nat :=
  ((List.range 16).map (fun i => if v / 4 ^ i % 4 = 3 then 0 else v / 4 ^ i % 4 * 4 ^ i)).sum

/-- Index `i` of a pair of 4-bit NTC indices made 0xF where it is the field's own. -/
def neighboursClean (own v : Nat) : Nat :=
  let a := v % 16
  let b := v / 16 % 16
  (if a = own then 15 else a) + 16 * (if b = own then 15 else b)

/-- A value after its own table's check, and the reason of R311 where it was changed. -/
def firstPass (r : FieldRow) (i : Nat) (v : Word) : Word × Nat :=
  let n := v.toNat
  let dflt := FieldMap.FieldRow.default r i
  let clamped (w : Word) : Word × Nat := if w = v then (v, 0) else (w, 1)
  let valid (b : Bool) : Word × Nat := if b then (v, 0) else (dflt, 2)
  match r.clamp with
  | .none => (v, 0)
  | .range lo hi => clamped (wordOfInt (clampI lo hi (if lo < 0 then v.toInt else n)))
  | .upto k more => valid (decide (n < k) || more.contains n)
  | .mask m => clamped (word (n &&& m))
  | .ftarget => clamped (word (if n = 0 then 0 else clampN 5000 200000 n))
  | .heddle => clamped (word (heddleClean n))
  | .selvStep => clamped (word (n % 16 + 2 ^ 16 * min 400 (n / 2 ^ 16 % 2 ^ 9)))
  | .frtPoint => clamped (word (n / 2 ^ 16 * 2 ^ 16 + min 2000 (n % 2 ^ 16)))
  | .backup => valid (n == 15 || decide (n < 4 ∧ n ≠ i))
  | .recSource => valid (n == 0xFFFF || recSourceOk n)
  | .ringBase =>
    let w := n / 32 * 32
    if w = 0 ∨ ringRegion w = true then clamped (word w) else (dflt, 2)
  | .neighbours => clamped (word (neighboursClean i (n % 256)))

/-- A requested value after the first pass, by identifier. -/
def pass1 (q : Nat → Word) (id : Nat) : Word × Nat :=
  match FieldMap.find? id with
  | some (r, i) => firstPass r i (q id)
  | none => (q id, 5)

/-! ### Second pass -/

/-- A requested value after the first pass, as a number. -/
def p1 (q : Nat → Word) (id : Nat) : Nat := (pass1 q id).1.toNat

/-- Source `s` of engine `e` under R265: base 3 takes lanes only, and lanes are taken in base 3 only. -/
def recSource2 (q : Nat → Word) (e s : Nat) : Nat :=
  let v := p1 q (0x0A10 + 0x30 * e + s)
  let lane := decide (0x300 ≤ v ∧ v < 0x30C)
  if v = 0xFFFF then v
  else if decide (p1 q (0x0A00 + 0x30 * e) = 3) = lane then v else 0xFFFF

/-- The number of sources of engine `e`: those before the first 0xFFFF. -/
def recSources2 (q : Nat → Word) (e : Nat) : Nat :=
  ((List.range 32).map (recSource2 q e)).takeWhile (· ≠ 0xFFFF) |>.length

/-- The upper band limit of a harness: not below the lower. -/
def bandMax2 (q : Nat → Word) (h : Nat) : Nat :=
  max (p1 q (0x048E + 0x20 * h)) (p1 q (0x048F + 0x20 * h))

/-- The quota of every bobbin, in KiB, totals more than 64. -/
def quotasOver (q : Nat → Word) : Bool :=
  decide (64 < ((List.range 16).map (fun b => p1 q (0x0AC0 + b))).sum)

/-- A number after the rules that name another field, for an identifier that has one. -/
def pass2N (q : Nat → Word) (id : Nat) : Nat :=
  let v := p1 q id
  if 0x0430 ≤ id ∧ id < 0x0448 then
    if (v = 2 ∨ v = 4) ∧ p1 q 0x0478 = 0 ∨ (v = 1 ∨ v = 3) ∧ p1 q 0x0202 = 0 then 0 else v
  else if 0x0448 ≤ id ∧ id < 0x0460 then
    let h := p1 q (0x0110 + (id - 0x0448))
    if h < 4 then clampN (p1 q (0x048E + 0x20 * h)) (bandMax2 q h) v else v
  else if 0x0480 ≤ id ∧ id < 0x0500 ∧ id % 0x20 = 2 then min v (p1 q (id - 1) - 1)
  else if 0x0480 ≤ id ∧ id < 0x0500 ∧ id % 0x20 = 15 then bandMax2 q ((id - 0x0480) / 0x20)
  else if 0x0A00 ≤ id ∧ id < 0x0AC0 then
    let e := (id - 0x0A00) / 0x30
    let k := (id - 0x0A00) % 0x30
    if k = 4 then min v (recSources2 q e - 1)
    else if k = 8 then min v (8192 / max 1 (recSources2 q e))
    else if 16 ≤ k then recSource2 q e (k - 16)
    else v
  else if 0x0AC0 ≤ id ∧ id < 0x0AD0 then
    if quotasOver q then (FieldMap.defaultOf id).toNat else v
  else if id = 0x0B06 ∨ id = 0x0B08 then min v (p1 q (id - 1) - 80)
  else if 0x0B40 ≤ id ∧ id < 0x0C00 ∧ (id - 0x0B40) % 0x30 = 37 then min v (p1 q (id - 1) - 80)
  else if id = 0x0C24 ∨ id = 0x0C25 then if p1 q 0x0C21 = 0 then v % 2048 else v
  else if id = 0x0C2C ∨ id = 0x0C2D then if p1 q 0x0C29 = 0 then v % 2048 else v
  else v

/-- A requested value after both passes, and the reason of R311 where it was changed. -/
def pass2 (q : Nat → Word) (id : Nat) : Word × Nat :=
  let (v, why) := pass1 q id
  let w := word (pass2N q id)
  if w = v then (v, why) else (w, 8)

end Sys2Proof.Machine
end

