-- ==== Sys2Proof/Machine/Meter.lean ====
section
/-! DEFINITION. The ledger: metering points, energy registers, sessions, records, logbook and mailbox
(R213 to R240). -/

namespace Sys2Proof.Machine

open Sys2Proof

/-! ### Conditions that the ledger reads -/

/-- The MDLL coasts: what `CLKUNV` records (R19). -/
def coasting (d : Device) : Bool := rdB d Addr.CLK_STAT 3

/-- The timebase is unsynchronised (R365). -/
def timeUns (d : Device) : Bool := rdB d Addr.TIME_STAT 3

/-- The metering points' indices. -/
def mpAll : List (Fin 4) := List.finRange 4

/-- A change of one metering point. -/
def updMp (d : Device) (m : Fin 4) (f : MeterPoint → MeterPoint) : Device :=
  { d with meter := { d.meter with points := upd d.meter.points m f } }

/-- A metrology field in force. -/
def mtrN (d : Device) (id : Nat) : Nat := fieldN d id

/-- Field `k` of metering point `m` under an overlay of changes not yet in force. -/
def mpF (d : Device) (past : List (Nat × Word)) (m k : Nat) : Nat :=
  let id := 0x0800 + 0x20 * m + k
  match past.reverse.find? (fun p => p.1 == id) with
  | some p => p.2.toNat
  | none => fieldN d id

/-- The number of elements of a metering point: one for DC, three for AC (R217). -/
def mpElems (d : Device) (past : List (Nat × Word)) (m : Nat) : Nat := if mpF d past m 1 = 1 then 3 else 1

/-- The voltage channels, the current channels and the reference of a metering point. -/
def mpV (d : Device) (past : List (Nat × Word)) (m : Nat) : List Nat :=
  (List.range (mpElems d past m)).map (fun k => mpF d past m (2 + k))

/-- The current channels of a metering point. -/
def mpI (d : Device) (past : List (Nat × Word)) (m : Nat) : List Nat :=
  (List.range (mpElems d past m)).map (fun k => mpF d past m (5 + k))

/-- The reference channel of a metering point, where it names one. -/
def mpRef (d : Device) (past : List (Nat × Word)) (m : Nat) : List Nat :=
  if mpF d past m 8 < 32 then [mpF d past m 8] else []

/-- Every channel of a metering point. -/
def mpChans (d : Device) (past : List (Nat × Word)) (m : Nat) : List Nat :=
  mpV d past m ++ mpI d past m ++ mpRef d past m

/-- The conditions of R219 that a point meets by itself. -/
def mpSound (d : Device) (past : List (Nat × Word)) (m : Nat) : Bool :=
  let v := mpV d past m
  let i := mpI d past m
  mpF d past m 0 == 1 && (v ++ i).all (fun c => decide (c < 32))
    && i.all (fun c => !(v ++ mpRef d past m).contains c) && (v.zip i).Nodup

/-- Whether two points share a channel. -/
def mpShare (d : Device) (past : List (Nat × Word)) (m n : Nat) : Bool :=
  (mpChans d past m).any (fun c => (mpChans d past n).contains c)

/-- The points enabled in force (R219): those enabled now that stay sound keep their channels; the others
follow in ascending order where no channel is taken. -/
def mpEnabled (d : Device) (past : List (Nat × Word)) (now : Nat) : List Nat :=
  let order := (List.range 4).filter (fun m => now.testBit m) ++ (List.range 4).filter (fun m => !now.testBit m)
  order.foldl (fun on m => if mpSound d past m && on.all (fun n => !mpShare d past m n) then on ++ [m] else on) []

/-- Whether a metering point is enabled. -/
def mpOn (d : Device) (m : Nat) : Bool := d.meter.en.testBit m

/-- The channels of the enabled metering points, as a mask. -/
def mpMask (d : Device) : Nat :=
  ((List.range 4).filter (mpOn d)).foldl (fun acc m =>
    (mpChans d [] m).foldl (fun a c => if c < 32 then a ||| 2 ^ c else a) acc) 0

/-- The enabled metering points that use a channel. -/
def mpOfChan (d : Device) (c : Nat) : List (Fin 4) :=
  mpAll.filter (fun m => mpOn d m.1 && (mpChans d [] m.1).contains c)

/-- `METER` of every channel follows the mask (R219). -/
def mpShowMeter (d : Device) : Device :=
  let mask := mpMask d
  each (List.range 32) (fun d c => wrB d (Addr.MOD_CAL_INFO c) 23 (mask.testBit c)) d

/-- The enabled points settled anew after a change of fields. -/
def mpRefresh (d : Device) : Device :=
  let on := mpEnabled d [] d.meter.en
  let mask := on.foldl (fun a m => a ||| 2 ^ m) 0
  let started := mask &&& (15 ^^^ d.meter.en)
  let d := { d with meter := { d.meter with en := mask } }
  let d := each mpAll (fun d m =>
    if started.testBit m.1 then
      updMp d m (fun p => { p with
        pAcc := 0, qAcc := 0, words := 0, sumV := 0, sumI := 0, sqV := 0, sqI := 0, peak := 0, hist := [], count := 0, lastV := none, cross := [], since := none, missing := true })
    else d) d
  mpShowMeter d

/-- Whether a session is open on a metering point. -/
def mpSession (d : Device) (m : Fin 4) : Bool := ((d.meter.points[m.1]).session).isSome

/-- Whether a channel of a point is uncalibrated (R68). -/
def mpUncal (d : Device) (m : Nat) : Bool :=
  (mpChans d [] m).any (fun c => decide (c < 32) && rdB d (Addr.MOD_CAL_INFO c) 22)

/-- Whether a channel of a point is under calibration. -/
def mpCal (d : Device) (m : Nat) : Bool := (mpChans d [] m).any (fun c => d.meter.calMask.testBit c)

/-! ### The request feed (R213, R214) -/

/-- The next waiting frame placed in `TIME_LREQ` and marked to go, where none is pending and the ledger has reported ready. -/
def lreqPlace (d : Device) (t : Nat) : Device :=
  match d.meter.queue with
  | f :: rest =>
    if rdB d Addr.TIME_LREQ_STAT 0 || !d.meter.ready then d
    else
      let d := { d with meter := { d.meter with queue := rest, goAt := t } }
      let d := each (List.range 12) (fun d n => wrN d (Addr.TIME_LREQ n) (sliceLE f (4 * n) 4)) d
      wrB d Addr.TIME_LREQ_STAT 0 true
  | [] => d

/-- A frame of the steward: its sequence number, type, metering point and parameters. -/
def lreqSend (d : Device) (type mp : Nat) (params : List Byte) (t : Nat) : Device :=
  let f := bytesLE 2 d.meter.seqNo ++ [BitVec.ofNat 8 type, BitVec.ofNat 8 mp] ++ (params ++ zeros 44).take 44
  lreqPlace { d with meter := { d.meter with queue := d.meter.queue ++ [f], seqNo := (d.meter.seqNo + 1) % 65536 } } t

/-- Writing `TIME_LREQ_GO`: the frame goes out with the next boundary's time word. -/
def lreqGo (t : Nat) (d : Device) : Device :=
  wrB { d with meter := { d.meter with goAt := if rdB d Addr.TIME_LREQ_STAT 0 then d.meter.goAt else t } }
    Addr.TIME_LREQ_STAT 0 true

/-! ### The logbook (R233, R234) -/

/-- The logbook has room. -/
def logRoom (d : Device) : Bool := decide (d.meter.logUsed < 8192)

/-- A value of a logbook entry in 16 bytes. -/
def pad16 (bs : List Byte) : List Byte := (bs ++ zeros 16).take 16

/-- The next logbook entry as a target, and the unit with it counted. -/
def logEntry (d : Device) (type mp ident : Nat) (old new : List Byte) (origin : Nat) : (Nat × List Byte) × Device :=
  let n := d.meter.logUsed + 1
  let body := bytesLE 4 n ++ [BitVec.ofNat 8 type, BitVec.ofNat 8 mp] ++ bytesLE 2 ident
    ++ bytesLE 8 (ialos d) ++ pad16 old ++ pad16 new
    ++ [BitVec.ofNat 8 origin, BitVec.ofNat 8 (coasting d).toNat] ++ zeros 10
  ((0x60180000 + 64 * (n - 1), body ++ bytesLE 4 (crc32c body)),
   { d with meter := { d.meter with logUsed := n } })

/-! ### Energy and configuration regions (R223, R322) -/

/-- A metering point in the energy region: registers, remainders, the open session and saturation. DESIGN
CHOICE: the spec gives the region no layout. -/
def mpBytes (p : MeterPoint) : List Byte :=
  let s := p.session.getD { start := 0, slot := 0, sid := zeros 24 }
  p.energy.toList.flatMap (bytesLE 8) ++ p.rem.toList.flatMap (bytesLE 4)
    ++ bytesLE 8 s.start ++ bytesLE 4 s.slot ++ bytesLE 2 p.flags ++ bytesLE 2 p.sat.toNat
    ++ (s.sid ++ zeros 24).take 24 ++ zeros 16

/-- The energy region as a target. -/
def energyTarget (d : Device) : Nat × List Byte :=
  (0x60240000, d.meter.points.toList.flatMap mpBytes ++ bytesLE 8 (ialos d) ++ bytesLE 8 d.meter.recSeq)

/-- The identifiers of the metrology fields in ascending order. -/
def mtrIds : List Nat := sortOn id (FieldMap.idsOf FieldMap.mtrRows)

/-- The metrology configuration region under an overlay, as a target. DESIGN CHOICE: the spec gives it no
layout. -/
def mtrConfigTarget (d : Device) (past : List (Nat × Word)) : Nat × List Byte :=
  let value (id : Nat) : Word := match past.reverse.find? (fun p => p.1 == id) with
    | some p => p.2
    | none => fieldOf d id
  let body := bytesLE 4 mtrIds.length ++ mtrIds.flatMap (fun id => fieldRecord id (value id))
  (0x60244000, body ++ bytesLE 4 (crc32c body))

/-- Every register and remainder written in one journalled transaction (R223). -/
def energySave (d : Device) : Device :=
  let d := mramPut d 1 .energy [energyTarget d]
  { d with meter := { d.meter with saveAt := ialos d } }

/-- The periodic save, where `MTR_SAVE_PERIOD` has passed. -/
def energySaveTick (d : Device) : Device :=
  if d.meter.ready && decide (d.meter.saveAt + 1000000000 * mtrN d 0x0880 ≤ ialos d) then energySave d else d

/-! ### Records (R227 to R230) -/

/-- The flags that hold at a boundary besides those of the words (R229). -/
def standingFlags (d : Device) (m : Fin 4) : Nat :=
  (if Config.orderE then 1 else 0) + (coasting d).toNat * 2 + (timeUns d).toNat * 4
    + ((d.meter.points[m.1]).missing).toNat * 8
    + (sealOpen d 0 || d.meter.sealFirst.testBit m.1).toNat * 256

/-- The text of a string in bytes. -/
def ascii (s : String) : List Byte := s.toList.map (fun c => BitVec.ofNat 8 c.toNat)

/-- A number in decimal digits. -/
def decimal (n : Nat) : List Byte := (Nat.toDigits 10 n).map (fun c => BitVec.ofNat 8 c.toNat)

/-- Bytes in lower-case hexadecimal. -/
def hexText (bs : List Byte) : List Byte :=
  let digit (n : Nat) : Byte := BitVec.ofNat 8 (if n < 10 then 48 + n else 87 + n)
  bs.flatMap (fun b => [digit (b.toNat / 16), digit (b.toNat % 16)])

/-- A byte string in quotation marks. -/
def quoted (bs : List Byte) : List Byte := [34] ++ bs ++ [34]

/-- The members of a JSON object. -/
def jsonObject (ms : List (String × List Byte)) : List Byte :=
  let ms := ms.map (fun m => quoted (ascii m.1) ++ [58] ++ m.2)
  [0x7B] ++ ([44] : List Byte).intercalate ms ++ [0x7D]

/-- An integer of a DER signature. -/
def derInt (bs : List Byte) : List Byte :=
  let b := bs.dropWhile (· == 0)
  let b := match b with
    | [] => [0]
    | x :: _ => if x.toNat ≥ 128 then 0 :: b else b
  [2, BitVec.ofNat 8 b.length] ++ b

/-- A signature r, s in DER. -/
def derSig (sig : List Byte) : List Byte :=
  let body := derInt (sig.take 32) ++ derInt ((sig.drop 32).take 32)
  [0x30, BitVec.ofNat 8 body.length] ++ body

/-- Millijoules as kWh with three decimals, truncated. -/
def kwhText (mj : Nat) : List Byte :=
  let w := mj / 3600000
  let frac := w % 1000
  decimal (w / 1000) ++ [46] ++ decimal (frac / 100) ++ decimal (frac / 10 % 10) ++ decimal (frac % 10)

/-- The serial in eight bytes (R228). -/
def serialBytes : List Byte := bytesLE 4 Config.serialLo.toNat ++ bytesLE 4 Config.serialHi.toNat

/-- The OCMF text of a record (R230). -/
def ocmf (d : Device) (stop : Bool) (n flags time : Nat) (sid : List Byte) (ac : Bool)
    (imp exp : Nat) : List Byte :=
  let bad := decide (flags / 2 % 2048 ≠ 0)
  let tm := quoted (Config.ocmfTime time (fieldI d 0x0882) ++ ascii (if flags / 2 % 4 ≠ 0 then " I" else " S"))
  let ef := if flags / 8 % 4 ≠ 0 ∨ flags.testBit 9 then "E" else ""
  let reading (code : String) (v : Nat) : List Byte := jsonObject [("TM", tm),
    ("TX", quoted (ascii (if stop then "E" else "B"))), ("RV", kwhText v),
    ("RI", quoted (ascii code)), ("RU", quoted (ascii "kWh")),
    ("RT", quoted (ascii (if ac then "AC" else "DC"))), ("EF", quoted (ascii ef)),
    ("ST", quoted (ascii (if bad then "E" else "G")))]
  let serial := quoted (hexText serialBytes)
  let version := quoted Config.ledgerVersionText
  let payload := jsonObject [("FV", quoted (ascii "1.0")), ("GI", quoted (ascii "JONTIERI WIRUM W8-48")),
    ("GS", serial), ("GV", version), ("PG", quoted (ascii "T" ++ decimal n)), ("MV", quoted (ascii "JONTIERI")),
    ("MM", quoted (ascii "WIRUM W8-48")), ("MS", serial), ("MF", version), ("IS", ascii "true"),
    ("IT", quoted (ascii "UNDEFINED")), ("ID", quoted ((sid.reverse.dropWhile (· == 0)).reverse)),
    ("RD", ascii "[" ++ reading "1-b:1.8.0" imp ++ [44] ++ reading "2-b:2.8.0" exp ++ ascii "]")]
  let sig := Config.ledgerSign d.meter.keyGen (Config.sha256 payload)
  let sig := jsonObject [("SA", quoted (ascii "ECDSA-secp256r1-SHA256")), ("SE", quoted (ascii "hex")),
    ("SM", quoted (ascii "application/x-der")), ("SD", quoted (hexText (derSig sig)))]
  ascii "OCMF|" ++ payload ++ ascii "|" ++ sig

/-- A record of a metering point in its slot, as a target (R228, R230). -/
def recordTarget (d : Device) (m : Fin 4) (stop : Bool) (slot n flags time start : Nat) (sid : List Byte)
    (energy : Vector Nat 6) : Nat × List Byte :=
  let ac := mpF d [] m.1 1 == 1
  let body := [0x57, 0x52, 1, if stop then 2 else 1] ++ bytesLE 8 n
    ++ [BitVec.ofNat 8 m.1, BitVec.ofNat 8 ac.toNat] ++ bytesLE 2 flags ++ bytesLE 8 time
    ++ (sid ++ zeros 24).take 24 ++ energy.toList.flatMap (bytesLE 8) ++ serialBytes
    ++ [if Config.orderE then 2 else 1] ++ bytesLE 3 Config.ledgerVersion.toNat
    ++ bytesLE 2 d.meter.logUsed ++ zeros 2 ++ bytesLE 8 start ++ zeros 8
  let sig := (Config.ledgerSign d.meter.keyGen (Config.sha256 body) ++ zeros 64).take 64
  let text := if mtrN d 0x0881 = 1 then
      let o := ocmf d stop n flags time sid ac energy[0] energy[1]
      bytesLE 2 o.length ++ o
    else [0, 0]
  (0x60100000 + 1024 * slot, body ++ sig ++ text)

/-- The free slots of the record region, lowest first. -/
def freeSlots (d : Device) : List Nat :=
  (List.range 512).filter (fun i => d.meter.slots.all (fun s => s.1 != i))

/-- A session's stop record (R222, R224, R226): the readings as they stand, in one transaction with the
energy registers; the session ends. -/
def closeSession (d : Device) (m : Fin 4) (extra time : Nat) : Device :=
  let p := d.meter.points[m.1]
  match p.session with
  | none => d
  | some s =>
    let flags := p.flags ||| p.msFlags ||| standingFlags d m ||| extra
    let rec' := recordTarget d m true s.slot (s.start + 1) flags time s.start s.sid p.energy
    let d := updMp d m (fun p => { p with session := none, flags := 0 })
    let d := { d with meter := { d.meter with
      ackRec := s.start + 1, sealFirst := d.meter.sealFirst &&& (15 ^^^ 2 ^ m.1),
      slots := d.meter.slots.map (fun x => if x.1 = s.slot then (x.1, x.2.1, true) else x),
      saveAt := ialos d } }
    mramPut d 1 (.record s.slot) [rec', energyTarget d]

/-! ### Request frames (R214, R218, R226, R227) -/

/-- `OPEN` (R226): refused in the order of R214, else a session with its start record. -/
def lreqOpen (m : Nat) (sid : List Byte) (time : Nat) (d : Device) : Nat × Device :=
  match fin? 4 m with
  | none => (1, d)
  | some m =>
    let p := d.meter.points[m.1]
    let free := freeSlots d
    if d.meter.ready = false ∨ mpOn d m.1 = false then (2, d)
    else if p.session.isSome then (5, d)
    else if p.sat then (6, d)
    else if mpUncal d m.1 then (7, d)
    else if mpCal d m.1 then (8, d)
    else match free with
      | a :: b :: _ =>
        if 2 ^ 64 - 2 < d.meter.recSeq + 2 then (12, d)
        else
          let n := d.meter.recSeq + 1
          let flags := p.msFlags ||| standingFlags d m
          let rec' := recordTarget d m false a n flags time 0 sid p.energy
          let d := updMp d m (fun p => { p with session := some { start := n, slot := b, sid := sid }, flags := flags })
          let d := { d with meter := { d.meter with
            recSeq := n + 1, ackRec := n, sealFirst := d.meter.sealFirst &&& (15 ^^^ 2 ^ m.1),
            slots := d.meter.slots ++ [(a, n, true), (b, n + 1, false)], saveAt := ialos d } }
          (0, mramPut d 1 (.record a) [rec', energyTarget d])
      | _ => (9, d)

/-- `CLOSE` (R226). -/
def lreqClose (m time : Nat) (d : Device) : Nat × Device :=
  match fin? 4 m with
  | none => (1, d)
  | some m => if mpSession d m then (0, closeSession d m 0 time) else (5, d)

/-- `ACK_RECORDS` (R227): frees every written slot up to a number. -/
def lreqAck (upto : Nat) (d : Device) : Nat × Device :=
  (0, { d with meter := { d.meter with
    slots := d.meter.slots.filter (fun s => !(s.2.2 && decide (s.2.1 ≤ upto))) } })

/-- `SET_FIELD` (R218): refused under the seal, a full logbook or an open session; else clamped, logged and
in force from the next boundary. -/
def lreqSetField (id : Nat) (v : Word) (d : Device) : Nat × Device :=
  match FieldMap.find? id with
  | none => (1, d)
  | some (r, i) =>
    let m := (id - 0x0800) / 0x20
    let global := decide (4 ≤ m)
    let busy := mpAll.any (fun n => mpSession d n && (global || n.1 == m))
    if id < 0x0800 ∨ 0x0900 ≤ id then (1, d)
    else if sealOpen d 0 = false then (3, d)
    else if logRoom d = false then (4, d)
    else if busy then (11, d)
    else
      let (w, why) := firstPass r i v
      let old := fieldOf d id
      let past := d.meter.sets ++ [(id, w)]
      let (entry, d) := logEntry d 1 (if global then 0xFF else m) id (bytesLE 4 old.toNat) (bytesLE 4 w.toNat) 0
      let d := mramPut { d with meter := { d.meter with sets := past } } 1 .ledgerConfig
        [mtrConfigTarget d past, entry]
      let off := !global && mpF d past m 0 == 1 && !(mpEnabled d past d.meter.en).contains m
      (if why = 0 ∧ off = false then 0 else 10, d)

/-- `CLEAR_COUNTERS` (R214). -/
def lreqClear (mask : Nat) (d : Device) : Nat × Device :=
  let clr (b : Nat) (x : Nat) : Nat := if mask.testBit b then 0 else x
  (0, { d with meter := { d.meter with
    refused := clr 0 d.meter.refused, intrs := clr 1 d.meter.intrs, openings := clr 2 d.meter.openings,
    ovf := d.meter.ovf &&& (7 ^^^ (mask % 8)) } })

/-- `CAL_BEGIN` and `CAL_END` (R214). -/
def lreqCal (begin' : Bool) (c : Nat) (d : Device) : Nat × Device :=
  if 32 ≤ c then (1, d)
  else
    let m := d.meter.calMask
    (0, { d with meter := { d.meter with
      calMask := if begin' then m ||| 2 ^ c else m &&& ((2 ^ 32 - 1) ^^^ 2 ^ c) } })

/-- A sticky counter of the ledger advanced by one, and the overflow bits. -/
def bumpMeter (x bit' ovf : Nat) : Nat × Nat :=
  if x + 1 < 0xFFFFFFFF then (x + 1, ovf) else (0xFFFFFFFF, ovf ||| 2 ^ bit')

/-- The answer to a frame placed for the next refresh; a refusal is counted (R214). -/
def lreqAnswer (seq : Nat) (r : Nat × Device) : Device :=
  let d := r.2
  let d := { d with meter := { d.meter with ack := seq % 65536 + r.1 * 65536 } }
  if r.1 = 0 ∨ r.1 = 10 then d
  else
    let (x, o) := bumpMeter d.meter.refused 0 d.meter.ovf
    { d with meter := { d.meter with refused := x, ovf := o } }

/-- The ledger acts on a frame at the boundary of Ialos time `time`. -/
def lreqAct (d : Device) (f : List Byte) (time : Nat) : Device :=
  let seq := sliceLE f 0 2
  let m := sliceLE f 3 1
  let r := match sliceLE f 2 1 with
    | 1 => lreqOpen m ((f.drop 4).take 24) time d
    | 2 => lreqClose m time d
    | 3 => lreqAck (sliceLE f 4 8) d
    | 4 => lreqSetField (sliceLE f 4 2) (word (sliceLE f 8 4)) d
    | 5 => lreqClear (sliceLE f 4 4) d
    | 6 => lreqCal true (sliceLE f 4 1) d
    | 7 => lreqCal false (sliceLE f 4 1) d
    | _ => (1, d)
  lreqAnswer seq r

/-! ### Accumulation (R217, R220, R221) -/

/-- The first precision word with its output number of a channel of an enabled point completes a set:
whether every channel's last word has that number. -/
def setComplete (d : Device) (m k : Nat) : Bool :=
  (mpChans d [] m).all (fun c => match fin? 32 c with
    | some c => (d.chans[c.1]).precIndex == some k
    | none => false)

/-- The precision word of a channel. -/
def precOf (d : Device) (c : Nat) : Word := rd d (Addr.DEC_PREC c)

/-- The voltage of each element in `DATA`, against the reference. -/
def mpVolts (d : Device) (m : Nat) : List Int :=
  let ref := match mpRef d [] m with
    | r :: _ => dataOf (precOf d r)
    | [] => 0
  (mpV d [] m).map (fun c => dataOf (precOf d c) - ref)

/-- The current of each element in `DATA`, negated where `MTR_DIR` is 1. -/
def mpAmps (d : Device) (m : Nat) : List Int :=
  (mpI d [] m).map (fun c => if mpF d [] m 11 = 1 then -dataOf (precOf d c) else dataOf (precOf d c))

/-- The mean period of the last eight crossings, in words with 16 fraction bits. -/
def mpPeriod (p : MeterPoint) : Option Nat :=
  match p.cross, p.cross[8]? with
  | a :: _, some b => some ((a - b) / 8)
  | _, _ => none

/-- Whether a period lies within 1/65 to 1/45 s. -/
def periodGood (t : Nat) : Bool := decide (78125000 * 64 ≤ t * 65 ∧ t * 45 ≤ 78125000 * 64)

/-- Element `k`'s voltage a quarter period ago, times 2^16. -/
def voltsAgo (p : MeterPoint) (lag k : Nat) : Int :=
  let at' (i : Nat) : Int := (((p.hist[i]?).getD [])[k]?).getD 0
  let i := lag / 65536
  let f := lag % 65536
  at' i * (65536 - f : Nat) + at' (i + 1) * f

/-- A set of words of a metering point taken (R220, R221). -/
def mpTake (d : Device) (m : Fin 4) (t : Nat) : Device :=
  let ws := (mpChans d [] m.1).map (precOf d)
  let any (i : Nat) : Bool := ws.any (fun w => bit w i)
  if any 31 then
    updMp d m (fun p => { p with hist := ((mpV d [] m.1).map (fun _ => (0 : Int)) :: p.hist).take 512,
                                 count := p.count + 1, lastV := none })
  else
    let cal := mpCal d m.1
    let uns := any 29
    let vs := mpVolts d m.1
    let is := mpAmps d m.1
    let v1 := vs.headD 0
    let i1 := is.headD 0
    let ac := decide (mpF d [] m.1 1 = 1)
    updMp d m (fun p =>
      let cross := match p.lastV with
        | some u => if u < 0 ∧ 0 ≤ v1 then
            ((p.count - 1) * 65536 + (roundDiv (-u * 65536) (max 1 (v1 - u).toNat)).toNat) :: p.cross
          else p.cross
        | none => p.cross
      let p := { p with since := some t, missing := false, count := p.count + 1, lastV := some v1,
                        cross := cross.take 9, hist := (vs :: p.hist).take 512,
                        peak := max p.peak v1.natAbs }
      let flags := p.msFlags ||| (if cal then 16 else 0) ||| (if uns then 64 else 0)
        ||| (if any 30 || any 28 then 32 else 0)
      if cal || uns then { p with msFlags := flags }
      else
        let q := match mpPeriod p with
          | some t => if ac then ((vs.zipIdx.zip is).map (fun x => voltsAgo p (t / 4) x.1.2 * x.2)).sum else 0
          | none => 0
        { p with msFlags := flags, words := p.words + 1, pAcc := p.pAcc + ((vs.zip is).map (fun x => x.1 * x.2)).sum,
                 qAcc := p.qAcc + q, sumV := p.sumV + v1, sumI := p.sumI + i1,
                 sqV := p.sqV + v1.natAbs ^ 2, sqI := p.sqI + i1.natAbs ^ 2 })

/-- A precision word of a channel, with output number `k`, reaches the ledger. -/
def ledgerWord (d : Device) (c : Fin 32) (k t : Nat) : Device :=
  let d := { d with chans := upd d.chans c (fun h => { h with precIndex := some k }) }
  if d.meter.ready then
    each (mpOfChan d c.1) (fun d m => if setComplete d m.1 k then mpTake d m t else d) d
  else d

/-- No complete set of valid words for two output periods (R221): accumulation stops and `INTR` is
flagged, counted once for each onset. -/
def ledgerInterruption (m : Fin 4) (t : Nat) (d : Device) : Device :=
  let p := d.meter.points[m.1]
  let gone : Bool := match p.since with
    | some s => decide (s + 2 * 1024 * ckm ≤ t)
    | none => true
  if d.meter.ready && mpOn d m.1 && gone && !p.missing then
    let (x, o) := bumpMeter d.meter.intrs 1 d.meter.ovf
    updMp { d with meter := { d.meter with intrs := x, ovf := o } } m
      (fun p => { p with missing := true, msFlags := p.msFlags ||| 8 })
  else d

/-! ### The millisecond boundary (R220, R222, R225) -/

/-- An amount in 2^-32 mJ added to a register; it saturates under R10. -/
def addEnergy (p : MeterPoint) (r : Fin 6) (x : Nat) : MeterPoint :=
  let s := p.rem[r.1] + x
  let e := p.energy[r.1] + s / 2 ^ 32
  if e < 2 ^ 64 - 1 then { p with energy := upd p.energy r (fun _ => e), rem := upd p.rem r (fun _ => s % 2 ^ 32) }
  else { p with energy := upd p.energy r (fun _ => 2 ^ 64 - 1), rem := upd p.rem r (fun _ => 0), sat := true }

/-- The millisecond's energy of a metering point assigned (R220). -/
def mpAssign (d : Device) (m : Fin 4) : Device :=
  if mpOn d m.1 then
    let vfs := mpF d [] m.1 9
    let ifs := mpF d [] m.1 10
    let start := mpF d [] m.1 12
    let n := mpElems d [] m.1
    let ac := decide (n = 3)
    updMp d m (fun p =>
      let qOk := ac && (match mpPeriod p with | some t => periodGood t | none => false)
        && decide (4194304 ≤ 20 * p.peak)
      let flags := p.msFlags ||| (if ac && !qOk then 128 else 0) ||| (if p.missing then 8 else 0)
      let p := { p with msFlags := flags,
                        freq := match mpPeriod p with
                          | some t => if ac && periodGood t then t else 0
                          | none => 0 }
      if p.pAcc.natAbs * 10000 < start * 2 ^ 32 * 312500 * n then p
      else
        let pe := (roundDiv (p.pAcc.natAbs * vfs * ifs) 312500).toNat
        let qe := (roundDiv (p.qAcc.natAbs * vfs * ifs) (312500 * 65536)).toNat
        let imp := decide (0 ≤ p.pAcc)
        let lag := decide (0 ≤ p.qAcc)
        let p := addEnergy p (if imp then 0 else 1) pe
        if qOk then
          addEnergy p (if imp then (if lag then 2 else 5) else (if lag then 3 else 4)) qe
        else p)
  else d

/-- The mailbox's words of a metering point (R236). -/
def mpShow (d : Device) (m : Fin 4) : Device :=
  let p := d.meter.points[m.1]
  let base := Addr.MP_STAT m.1
  let on := mpOn d m.1
  let vfs := mpF d [] m.1 9
  let ifs := mpF d [] m.1 10
  let ac := mpF d [] m.1 1 == 1
  let acc := on && !p.missing && !mpCal d m.1
  let stat := (if p.session.isSome then p.flags else 0) * 65536 + acc.toNat * 32 + (mpUncal d m.1).toNat * 16
    + p.sat.toNat * 8 + p.session.isSome.toNat * 4 + ac.toNat * 2 + on.toNat
  let d := wrN (wrN d base stat) (base + 4) (match p.session with | some s => s.start % 2 ^ 32 | none => 0)
  let d := each (List.finRange 6) (fun d r => wr64 d (base + 8 + 8 * r.1) p.energy[r.1]) d
  let words := max 1 p.words
  let d := wr d (base + 0x38) (F32.ofRatio (p.pAcc * vfs * ifs) (10000000 * 2 ^ 27))
  let d := wr d (base + 0x3C) (F32.ofRatio (p.qAcc * vfs * ifs) (10000000 * 2 ^ 43))
  let d := if ac then
      wr (wr d (base + 0x40) (F32.ofSqrtRatio (p.sqV * vfs ^ 2) (words * 2 ^ 44)))
        (base + 0x44) (F32.ofSqrtRatio (p.sqI * ifs ^ 2) (words * 2 ^ 44))
    else wr (wr d (base + 0x40) (F32.ofRatio (p.sumV * vfs) (words * 2 ^ 22)))
        (base + 0x44) (F32.ofRatio (p.sumI * ifs) (words * 2 ^ 22))
  let d := wr d (base + 0x48) (if p.freq = 0 then 0 else F32.ofRatio (78125000 * 64) p.freq)
  let sid := match p.session with | some s => (s.sid ++ zeros 24).take 24 | none => zeros 24
  each (List.range 6) (fun d i => wrN d (base + 0x50 + 4 * i) (sliceLE sid (4 * i) 4)) d

/-- The mailbox refreshed at the boundary of Ialos time `time` (R31, R225): the generation passes through an
odd value to the next even one. -/
def mailbox (d : Device) (time : Nat) : Device :=
  let d := wrN d Addr.MBX_GEN (rdN d Addr.MBX_GEN + 2)
  let m := d.meter
  let free := 512 - m.slots.length
  let stat := m.romFw.toNat * 128 + (decide (free < 2)).toNat * 64 + (timeUns d).toNat * 32
    + (coasting d).toNat * 16 + Config.orderE.toNat * 8 + (decide (8000 ≤ m.logUsed)).toNat * 4
    + (decide (8192 ≤ m.logUsed)).toNat * 2 + (sealOpen d 0).toNat
  let d := wr64 (wrN d Addr.MBX_STAT stat) Addr.MBX_TIME_LO time
  let d := wrN (wrN d Addr.MBX_REQ_ACK m.ack) Addr.MBX_LOG_USED m.logUsed
  let d := wrN (wr64 d Addr.MBX_REC_SEQ_LO m.recSeq) Addr.MBX_REC_FREE free
  let d := wrN (wrN d Addr.MBX_CH_MASK (mpMask d)) Addr.MBX_REFUSED_CNT m.refused
  let d := wrN (wrN (wrN d Addr.MBX_INTR_CNT m.intrs) Addr.MBX_SEAL0_CNT m.openings) Addr.MBX_STAT2 m.ovf
  let d := wr d Addr.MBX_FW_VER Config.ledgerVersion
  let hash := Config.ledgerFwHash m.romFw
  let key := Config.ledgerPublicKey m.keyGen
  let d := each (List.range 8) (fun d i => wrN d (Addr.MBX_FW_HASH i) (sliceLE hash (4 * i) 4)) d
  let d := each (List.range 16) (fun d i => wrN d (Addr.MBX_PUBKEY i) (sliceLE key (4 * i) 4)) d
  each mpAll mpShow d

/-- The accumulators of a point cleared for the next millisecond. -/
def mpClear (p : MeterPoint) : MeterPoint :=
  { p with pAcc := 0, qAcc := 0, words := 0, sumV := 0, sumI := 0, sqV := 0, sqI := 0, peak := 0, msFlags := 0 }

/-- The ledger at a millisecond boundary of Ialos time `time` (R220 to R226, R235): energy assigned,
saturated points closed, the request frame acted on, the mailbox refreshed, accepted changes of fields put
in force for the next millisecond. -/
def ledgerBoundary (d : Device) (frame : Option (List Byte)) (time : Nat) : Device :=
  let was := mpAll.filter (fun m => (d.meter.points[m.1]).sat)
  let d := each mpAll mpAssign d
  let d := if sealOpen d 0 && !d.meter.sealWas then
      let (x, o) := bumpMeter d.meter.openings 2 d.meter.ovf
      { d with meter := { d.meter with openings := x, ovf := o } }
    else d
  let d := { d with meter := { d.meter with sealWas := sealOpen d 0 } }
  let d := each mpAll (fun d m =>
    if ((d.meter.points[m.1]).session).isSome then
      updMp d m (fun p => { p with flags := p.flags ||| p.msFlags ||| standingFlags d m })
    else d) d
  let d := each mpAll (fun d m =>
    if (d.meter.points[m.1]).sat && !was.contains m then
      raise (closeSession d m 0xC00 time) .meterSaturated m.1
    else d) d
  let d := match frame with
    | some f => lreqAct d f time
    | none => d
  let d := mailbox d time
  let d := each mpAll (fun d m => updMp d m mpClear) d
  if d.meter.sets.isEmpty then d
  else
    let d := each d.meter.sets (fun d p => setFieldOf d p.1 p.2) d
    mpRefresh { d with meter := { d.meter with sets := [] } }

/-- A frame that reaches the ledger before it has reported ready: an `OPEN` is refused (R240). -/
def ledgerEarly (frame : List Byte) (d : Device) : Device :=
  if sliceLE frame 2 1 = 1 then lreqAnswer (sliceLE frame 0 2) (2, d) else d

/-- An Ialos millisecond boundary (R213, R370): the time word goes out with the frame that is marked, and the
ledger acts. -/
def msBoundary (t : Nat) (d : Device) : Device :=
  let now := ialosAt50 d t
  let n := now / 1000000
  if n ≠ d.meter.lastMs ∧ d.meter.lastMsAt + us 500 ≤ t then
    let d := { d with meter := { d.meter with lastMs := n, lastMsAt := t } }
    let leaves := rdB d Addr.TIME_LREQ_STAT 0 && decide (d.meter.goAt + us 2 ≤ t)
    let frame := (List.range 12).flatMap (fun i => bytesLE 4 (rdN d (Addr.TIME_LREQ i)))
    let d := if leaves then wrB d Addr.TIME_LREQ_STAT 0 false else d
    let d := if d.meter.ready && domOn d 4 then
        let d := ledgerBoundary d (if leaves then some frame else none) (n * 1000000)
        if leaves && decide (d.meter.ack / 65536 = 3) && decide (sliceLE frame 2 1 = 4) then sealRefused d 0 else d
      else if domOn d 4 && leaves then ledgerEarly frame d
      else d
    lreqPlace d t
  else d
where
  /-- The Ialos time in ns of the tick in which an instant lies. -/
  ialosAt50 (d : Device) (t : Nat) : Nat := d.time.tickRead t

/-- A request frame of R213 as the ledger acts on it at the millisecond boundary at or before `t` (R214): the sequence number,
the type, the metering point and the parameters, padded to 48 bytes. A refused `SET_FIELD` counts at seal 0 (R35). -/
def ledgerFrame (seq type mp : Nat) (params : List Byte) (t : Nat) (d : Device) : Device :=
  let frame := bytesLE 2 seq ++ bytesLE 1 type ++ bytesLE 1 mp ++ (params ++ List.replicate 44 0).take 44
  if d.meter.ready then
    let d := lreqAct d frame (d.time.tickRead t / 1000000 * 1000000)
    if decide (type = 4) && decide (d.meter.ack / 65536 = 3) then sealRefused d 0 else d
  else ledgerEarly frame d

/-! ### The ledger's start (R216, R224, R231, R240) -/

/-- A metering point as the energy region holds it. -/
def mpLoad (d : Device) (m : Fin 4) : Device :=
  let base := 0x60240000 + 128 * m.1
  let start := memNat d (base + 72) 8
  updMp d m (fun p =>
    let p := mpClear p
    { p with
      energy := Vector.ofFn (fun r : Fin 6 => memNat d (base + 8 * r.1) 8)
      rem := Vector.ofFn (fun r : Fin 6 => memNat d (base + 48 + 4 * r.1) 4)
      session := if start = 0 then none
        else some { start := start, slot := memNat d (base + 80) 4, sid := memBytes d (base + 88) 24 }
      flags := memNat d (base + 84) 2
      sat := decide (memNat d (base + 86) 2 ≠ 0)
      hist := [], count := 0, lastV := none, cross := [], since := none, missing := true, freq := 0 })

/-- The number of logbook entries in use: the entries that carry their own number. -/
def logScan (d : Device) : Nat → Nat → Nat
  | 0, n => n
  | fuel + 1, n => if memNat d (0x60180000 + 64 * n) 4 = n + 1 then logScan d fuel (n + 1) else n

/-- A key pair generated, with its logbook entry (R231). -/
def keyGenerate (d : Device) : Device :=
  let old := Config.sha256 (Config.ledgerPublicKey d.meter.keyGen)
  let g := d.meter.keyGen + 1
  let new := Config.sha256 (Config.ledgerPublicKey g)
  let (entry, d) := logEntry d 4 0xFF 0 (if g = 1 then [] else old) new 0
  mramPut { d with meter := { d.meter with keyGen := g, recSeq := 0 } } 3 .logbook [entry]

/-- The firmware verified (R216): a new image of a JW8-48-E runs from this start with a new key pair; an
image that fails leaves the ROM firmware running and is entered in the logbook. -/
def ledgerFirmware (d : Device) : Device :=
  if Config.orderE = false then { d with meter := { d.meter with romFw := true } }
  else
    let d := if d.meter.keyGen = 0 then keyGenerate d else d
    match d.meter.image with
    | 0 => { d with meter := { d.meter with romFw := true } }
    | n =>
      if Config.ledgerImageGood (memBytes d 0x60200000 (min 0x40000 (memNat d 0x60200008 4))) then
        let d := { d with meter := { d.meter with romFw := false, image := 2 } }
        if n = 1 then keyGenerate d else d
      else
        let (entry, d) := logEntry d 5 0xFF 0 [] [] 0
        mramPut { d with meter := { d.meter with romFw := true } } 3 .logbook [entry]

/-- The metrology configuration loaded where its region holds one. -/
def mtrLoad (d : Device) : Device :=
  let n := memNat d 0x60244000 4
  let body := memBytes d 0x60244000 (4 + 8 * mtrIds.length)
  if n = mtrIds.length ∧ memNat d (0x60244004 + 8 * mtrIds.length) 4 = crc32c body then
    each mtrIds.zipIdx (fun d p => setFieldOf d p.1 (word (memNat d (0x60244004 + 8 * p.2 + 4) 4))) d
  else d

/-- The ledger boot (R240): firmware, configuration and registers, the sessions left open closed with the
persisted readings and the time of the last write, and the first refresh. -/
def ledgerReady (t : Nat) (d : Device) : Device :=
  if d.meter.ready = false ∧ domOn d 4 = true then
    let d := { d with meter := { d.meter with logUsed := logScan d 8192 0, sets := [], calMask := 0, en := 0 } }
    let d := ledgerFirmware d
    let d := each mpAll mpLoad (mtrLoad d)
    let time := memNat d (0x60240000 + 512) 8
    let seq := memNat d (0x60240000 + 520) 8
    let d := { d with meter := { d.meter with recSeq := max d.meter.recSeq seq, sealWas := sealOpen d 0 } }
    let d := mpRefresh d
    let d := each mpAll (fun d m => closeSession d m 0xA00 time) d
    let d := mailbox { d with meter := { d.meter with ready := true, saveAt := ialos d } } (ialos d)
    { d with meter := { d.meter with lastMsAt := t } }
  else d

/-- PD4 switched off: the ledger holds nothing but its MRAM regions. -/
def ledgerOff (d : Device) : Device := { d with meter := { d.meter with ready := false, en := 0 } }

/-- PD4's rail out of limits (R405): every open session carries `INTR`. -/
def ledgerSupply (d : Device) : Device :=
  each mpAll (fun d m => if mpSession d m then updMp d m (fun p => { p with flags := p.flags ||| 8 }) else d) d

end Sys2Proof.Machine
end

