-- ==== Sys2Proof/Machine/Cal.lean ====
section
/-! DEFINITION. The calibration engine, its entries and the calibration region (R61 to R69, R325). -/

namespace Sys2Proof.Machine

open Sys2Proof

/-! ### Use of a channel (R51, R65) -/

/-- Whether a shed unit or hard-limit comparator of an enabled harness uses a channel: as the channel of a
master, or `M31` as the set-point `SETA`. -/
def chanUsed (d : Device) (c : Nat) : Bool :=
  (List.range 4).any (fun h => harnessEnabled d h &&
    ((wordChannels d h).contains c ||
      (c == 31 && rdB d Addr.MOD_EXT_CFG 0 &&
        (mastersOf d h).any (fun n => let s := rdF d (Addr.SHED_CFG n.1) 16 3; s == 1 || s == 3))))

/-- Whether a channel is assigned to a metering point: `METER`. -/
def chanMetered (d : Device) (c : Nat) : Bool := rdB d (Addr.MOD_CAL_INFO c) 23

/-- Whether a session is open on a metering point that uses a channel. -/
def chanSession (d : Device) (c : Nat) : Bool := (mpOfChan d c).any (mpSession d)

/-! ### The engine's state -/

/-- `CAL_STAT.STATE`. -/
def calState (d : Device) : Nat := rdF d Addr.CAL_STAT 0 4

/-- `CAL_STAT` with a state and a result. -/
def calSet (d : Device) (state result : Nat) : Device :=
  wrF (wrF d Addr.CAL_STAT 0 4 state) Addr.CAL_STAT 8 8 result

/-- A command refused: the result alone is shown (R63). -/
def calRefuse (d : Device) (result : Nat) : Device := wrF d Addr.CAL_STAT 8 8 result

/-- The selected entry: 0 to 31, or 64 to 127. -/
def calEntry (d : Device) : Nat := rdF d Addr.CAL_STAT 16 7

/-- The metering channel the engine works on, if its entry is one. -/
def calMeter (d : Device) : Bool := decide (calEntry d < 32) && chanMetered d (calEntry d)

/-- The engine returns to IDLE with a result; `CAL_END` follows for a modulator channel (R63, R214). -/
def calIdle (d : Device) (result t : Nat) : Device :=
  let e := calEntry d
  let d := calSet { d with cal := { d.cal with settleTill := none, wants := false, written := false } } 0 result
  if e < 32 then lreqSend d 7 0xFF [BitVec.ofNat 8 e] t else d

/-- The number of readings of an averaging (R63). -/
def calReadings (d : Device) : Nat :=
  2 ^ (fieldN d 0x02B0 - (if 64 ≤ calEntry d then 8 else 0))

/-- Whether the engine averages. -/
def calAveraging (d : Device) : Bool :=
  (calState d == 2 || calState d == 4) && d.cal.settleTill.isNone

/-! ### Commands (R63, R65, R66) -/

/-- The checks of R66 on a metering channel: the seal and the logbook; the result, 0 where both pass. -/
def calSealCheck (d : Device) (c : Nat) : Nat :=
  if c < 32 ∧ chanMetered d c = true then
    if sealOpen d 0 = false then 3 else if logRoom d = false then 4 else 0
  else 0

/-- A refusal with a result of R66; result 0x3 counts in `SYS_SEAL_REF_CNT0` (R35). -/
def calSealRefuse (d : Device) (result : Nat) : Device :=
  calRefuse (if result = 3 then sealRefused d 0 else d) result

/-- `START` of an entry. -/
def calStart (chan t : Nat) (d : Device) : Device :=
  let d := { d with cal := { d.cal with cmdAt := t } }
  if calState d ≠ 0 then calRefuse d 1
  else if 32 ≤ chan ∧ chan < 64 ∨ 80 ≤ chan then calRefuse d 9
  else if chan < 32 ∧ chanUsed d chan = true then calRefuse d 2
  else if chan < 32 ∧ chanSession d chan = true then calRefuse d 13
  else
    match calSealCheck d chan with
    | 0 =>
      let d := calSet (wrF d Addr.CAL_STAT 16 7 chan) 1 0
      if chan < 32 then lreqSend d 6 0xFF [BitVec.ofNat 8 chan] t else d
    | r => calSealRefuse d r

/-- `ZERO`, or `FULL` from ZERO_DONE: the settling begins. -/
def calMeasure (d : Device) (state t : Nat) : Device :=
  calSet { d with cal := { d.cal with settleTill := some (t + ms (fieldN d 0x02B1)), count := 0, sum := 0 } } state 0

/-- `ZERO`. -/
def calZero (t : Nat) (d : Device) : Device :=
  let d := { d with cal := { d.cal with cmdAt := t } }
  if calState d = 1 then calMeasure d 2 t else calRefuse d 12

/-- `FULL`: refused where `CAL_REF` is below a quarter of full scale (R64). -/
def calFull (t : Nat) (d : Device) : Device :=
  let d := { d with cal := { d.cal with cmdAt := t } }
  if calState d ≠ 3 then calRefuse d 12
  else if (rdI d Addr.CAL_REF).natAbs < 2 ^ 28 then calSet d 1 8
  else calMeasure d 4 t

/-- The address of an entry in the calibration region (R325). -/
def calAddr (entry : Nat) : Nat := 0x60030010 + 24 * (if entry < 32 then entry else entry - 32)

/-- The active offset register of an entry. -/
def calOffReg (entry : Nat) : Nat :=
  if entry < 32 then Addr.MOD_CAL_OFF entry else Addr.HK_CAL_OFF (entry - 64)

/-- The active gain register of an entry. -/
def calGainReg (entry : Nat) : Nat := calOffReg entry + 4

/-- The information register of an entry. -/
def calInfoReg (entry : Nat) : Nat :=
  if entry < 32 then Addr.MOD_CAL_INFO entry else Addr.HK_CAL_INFO (entry - 64)

/-- The temperature stored with an entry: the island's barrier diode, or `D7` (R62). -/
def calTemp (d : Device) (entry : Nat) : Nat :=
  rdF d (Addr.TH_DIO (if entry < 12 then 0 else if entry < 32 then 1 else 7)) 0 16

/-- The 24 bytes of a new entry (R62). -/
def calBytes (d : Device) (entry : Nat) (off gain : Word) (origin : Nat) : List Byte :=
  let flags := (decide (entry < 32) && chanMetered d entry).toNat + 2 * (coasting d).toNat
  let body := bytesLE 4 off.toNat ++ bytesLE 4 gain.toNat ++ [BitVec.ofNat 8 origin, BitVec.ofNat 8 flags]
    ++ bytesLE 2 (calTemp d entry) ++ bytesLE 8 (ialos d)
  body ++ bytesLE 4 (crc32c body)

/-- The header's CRC-32C with a new entry in place (R69, R325). -/
def calHeaderCrc (d : Device) (addr : Nat) (bytes : List Byte) : Nat :=
  let old := memBytes d 0x60030010 2304
  let i := addr - 0x60030010
  crc32c (old.take i ++ bytes ++ old.drop (i + bytes.length))

/-- The commit of `CAL_NEW_OFF` and `CAL_NEW_GAIN` (R66, R67): one journalled transaction with the entry, the
header CRC and, for a metering channel, the logbook entry. -/
def calCommitWith (d : Device) (origin : Nat) : Device :=
  let e := calEntry d
  match calSealCheck d e with
  | 0 =>
    let off := rd d Addr.CAL_NEW_OFF
    let gain := rd d Addr.CAL_NEW_GAIN
    let bytes := calBytes d e off gain origin
    let targets := [(calAddr e, bytes), (0x6003000C, bytesLE 4 (calHeaderCrc d (calAddr e) bytes))]
    let (log, d) :=
      if calMeter d then
        let pair (o g : Word) : List Byte := bytesLE 4 o.toNat ++ bytesLE 4 g.toNat
        let (entry, d) := logEntry d 2 0xFF e (pair (rd d (calOffReg e)) (rd d (calGainReg e))) (pair off gain) origin
        ([entry], d)
      else ([], d)
    let d := { d with cal := { d.cal with origin := origin, written := false } }
    mramPut (calSet d 6 0) 3 .calCommit (targets ++ log)
  | r => calSealRefuse d r

/-- `COMMIT`. -/
def calCommit (t : Nat) (d : Device) : Device :=
  let d := { d with cal := { d.cal with cmdAt := t } }
  if calState d = 5 then calCommitWith d 2 else calRefuse d 12

/-- `ABORT`: result 0xE where it ends a measurement (R63). -/
def calAbort (t : Nat) (d : Device) : Device :=
  let d := { d with cal := { d.cal with cmdAt := t } }
  match calState d with
  | 6 => calRefuse d 12
  | 0 => calSet d 0 0
  | s => calIdle d (if s = 2 ∨ s = 4 then 14 else 0) t

/-- Whether a gain lies in 0.8 to 1.25. -/
def gainOk (g : Nat) : Bool := decide (4 * 2 ^ 30 ≤ 5 * g ∧ 4 * g ≤ 5 * 2 ^ 30)

/-- Whether an offset lies within 0.05 of full scale. -/
def offsetOk (o : Int) : Bool := decide (20 * o.natAbs ≤ 2 ^ 30)

/-- `RESTORE` (R63). -/
def calRestore (t : Nat) (d : Device) : Device :=
  let d := { d with cal := { d.cal with cmdAt := t } }
  let off := rd d Addr.CAL_RST_OFF
  let gain := rd d Addr.CAL_RST_GAIN
  if calState d ≠ 1 then calRefuse d 12
  else if offsetOk off.toInt = false then calRefuse d 6
  else if gainOk gain.toNat = false then calRefuse d 7
  else
    match calSealCheck d (calEntry d) with
    | 0 => calCommitWith (wr (wr d Addr.CAL_NEW_OFF off) Addr.CAL_NEW_GAIN gain) 3
    | r => calSealRefuse d r

/-! ### Averaging (R63, R64) -/

/-- After `CAL_SETTLE` the averaging begins; for a converter input a reading is wanted. -/
def calSettled (t : Nat) (d : Device) : Device :=
  match d.cal.settleTill with
  | some s =>
    if s ≤ t then
      { d with cal := { d.cal with settleTill := none, count := 0, sum := 0, wants := decide (64 ≤ calEntry d) } }
    else d
  | none => d

/-- A reading with the invalid or overload flag ends the averaging with result 0xB (R64). -/
def calFlagged (d : Device) : Device :=
  if calAveraging d then calSet { d with cal := { d.cal with wants := false } } 1 11 else d

/-- A reading of an entry, in units of 2^-30 of full scale; an unsettled one is skipped. -/
def calTake (d : Device) (entry : Nat) (raw : Int) (bad uns : Bool) : Device :=
  if calAveraging d && calEntry d == entry && decide (d.cal.count < calReadings d) then
    if bad then calFlagged d
    else if uns then d
    else
      let c := d.cal
      let n := c.count + 1
      { d with cal := { c with
          count := n, sum := c.sum + raw,
          least := if c.count = 0 then raw else min c.least raw,
          most := if c.count = 0 then raw else max c.most raw,
          wants := c.wants && decide (n < calReadings d) } }
  else d

/-- The averaging of the required readings is complete: the mean is shown and, after `FULL`, the new entry
formed and checked (R64). -/
def calDone (d : Device) : Device :=
  let n := calReadings d
  if calAveraging d && d.cal.count == n then
    let mean := roundDiv d.cal.sum n
    let spread := (d.cal.most - d.cal.least).toNat
    let ppm := (roundDiv (spread * 1000000 : Nat) (2 ^ 30)).toNat
    let past (s : Nat) : Bool := decide (fieldN d 0x02B2 * 2 ^ 30 < s * 1000000)
    let d := wrN d Addr.CAL_SPREAD ppm
    if calState d = 2 then
      calSet (wrI { d with cal := { d.cal with zeroSpread := spread } } Addr.CAL_ZERO_MEAS mean) 3 0
    else
      let d := wrI d Addr.CAL_FULL_MEAS mean
      let m0 := rdI d Addr.CAL_ZERO_MEAS
      let den := mean - m0
      let num := rdI d Addr.CAL_REF * 2 ^ 30
      let gain : Int := if den = 0 then 0 else if 0 < den then roundDiv num den.toNat else roundDiv (-num) (-den).toNat
      if past spread || past d.cal.zeroSpread then calSet d 1 5
      else if offsetOk m0 = false then calSet d 1 6
      else if gain < 0 ∨ gainOk gain.toNat = false then calSet d 1 7
      else calSet (wrN (wrI d Addr.CAL_NEW_OFF (-m0)) Addr.CAL_NEW_GAIN gain.toNat) 5 0
  else d

/-- No command for `CAL_TIMEOUT` (R63). -/
def calTimeout (t : Nat) (d : Device) : Device :=
  if calState d ≠ 0 ∧ calState d ≠ 6 ∧ d.cal.cmdAt + sec (fieldN d 0x02B3) ≤ t then calIdle d 10 t else d

/-! ### Entries pass into use (R67, R68) -/

/-- An entry's values in use from now on. -/
def calUse (d : Device) (p : CalPass) : Device :=
  let meter := decide (p.entry < 32) && chanMetered d p.entry
  wrB (wr (wr (wr d (calOffReg p.entry) p.offset) (calGainReg p.entry) p.gain) (calInfoReg p.entry) p.info)
    (calInfoReg p.entry) 23 meter

/-- The entries that wait pass into use at a T0 boundary. -/
def calBoundaryT0 (d : Device) : Device := { each d.calPass calUse d with calPass := [] }

/-- The journalled write is complete (R67): the engine returns to IDLE, and the new values pass into use at
the next T0 boundary, or at once where the loom is not running. -/
def calCommitDone (t : Nat) (d : Device) : Device :=
  if calState d = 6 ∧ d.cal.written = true then
    let e := calEntry d
    let info := word (d.cal.origin * 2 ^ 24 + memNat d (calAddr e + 9) 1 / 2 * 2 ^ 21 + memNat d (calAddr e + 10) 2)
    let p : CalPass := { entry := e, offset := rd d Addr.CAL_NEW_OFF, gain := rd d Addr.CAL_NEW_GAIN, info := info }
    let d := { d with calPass := d.calPass ++ [p] }
    let d := if loomMode d = .run then d else calBoundaryT0 d
    let d := if calMeter d then d else raise d .calCommitted e
    calIdle d 0 t
  else d

/-- One entry loaded at start (R68): its stored values where its CRC is good, else neutral with an event. -/
def calLoadEntry (d : Device) (i : Nat) : Device :=
  let e := if i < 32 then i else i + 32
  let b := memBytes d (calAddr e) 24
  if sliceLE b 20 4 = crc32c (b.take 20) then
    calUse d { entry := e, offset := word (sliceLE b 0 4), gain := word (sliceLE b 4 4),
               info := word (sliceLE b 8 1 * 2 ^ 24 + sliceLE b 9 1 / 2 % 2 * 2 ^ 21 + sliceLE b 10 2) }
  else
    raise (calUse d { entry := e, offset := 0, gain := 0x40000000, info := 0xFF400000 }) .calUncal e

/-- The header of the calibration image (R69) over the entries as they stand. -/
def calHeader (d : Device) : List Byte :=
  [0x57, 0x43, 1, 0x60] ++ serialBytes ++ bytesLE 4 (crc32c (memBytes d 0x60030010 2304))

/-- The calibration region loaded and checked (R68, R71, R325). -/
def calLoad (d : Device) : Device :=
  let h := calHeader d
  let d := if memBytes d 0x60030000 16 = h then d
    else raise (mramPut d 4 .plain [(0x60030000, h)]) .calHeader 0
  let d := each (List.range 96) calLoadEntry d
  { d with hk := { d.hk with calLoaded := true } }

/-- The calibration image as it is exported (R69). -/
def calImage (d : Device) : List Byte := memBytes d 0x60030000 2320

end Sys2Proof.Machine
end

