-- ==== Sys2Proof/Machine/Thermal.lean ====
section
/-! DEFINITION. The thermal model, the NTC cross-check, drift compensation, shutdown and restart (R288 to
R306, R419). -/

namespace Sys2Proof.Machine

open Sys2Proof

/-! ### Temperatures (R288, R293) -/

/-- The temperature of an NTC in 1/16 °C for a calibrated code (R288); none where the formula gives no value
that the register can hold. -/
def ntcTemp (d : Device) (code : Nat) : Option Int :=
  let r25 := rdF d Addr.TH_R25 0 17
  let beta := rdF d Addr.TH_BETA 0 13
  if code = 0 ∨ 2 ^ 20 ≤ code then none
  else
    let l := lnFix (10000 * code) ((2 ^ 20 - code) * max 1 r25)
    let den := 100 * (beta : Int) * 2 ^ 60 + 29815 * l
    if den ≤ 0 then none
    else
      let t := roundDiv (160 * 29815 * beta * 2 ^ 60 - 43704 * den) (10 * den.toNat)
      if -32768 ≤ t ∧ t ≤ 32767 then some t else none

/-- A signed temperature field. -/
def temp16 (n : Nat) : Int := signed 16 n

/-- A temperature in a 16-bit field. -/
def tempWord (t : Int) : Nat := (Int.emod t 65536).toNat

/-- The measured temperature of an NTC. -/
def ntcMeasured (d : Device) (k : Nat) : Int := temp16 (rdF d (Addr.TH_NTC k) 16 16)

/-- The temperature in use of an NTC. -/
def ntcUsed (d : Device) (k : Nat) : Int := temp16 (rdF d (Addr.TH_NTC k) 0 16)

/-- The model's estimate of an NTC. -/
def ntcModel (d : Device) (k : Nat) : Int := temp16 (rdF d (Addr.TH_NTCM k) 0 16)

/-- Whether an NTC is declared broken. -/
def ntcBroken (d : Device) (k : Nat) : Bool := rdB d Addr.TH_NTC_BRK k

/-- The reading of a diode. -/
def diodeT (d : Device) (i : Nat) : Int := temp16 (rdF d (Addr.TH_DIO i) 0 16)

/-- The coolant NTC, 255 for none. -/
def coolNtc (d : Device) : Nat := rdF d Addr.TH_CFG 8 8

/-- The NTC of a leg, 255 for none. -/
def legNtc (d : Device) (n : Nat) : Nat := rdF d (Addr.TH_LEG n) 0 8

/-- The coolant temperature (R291). -/
def coolT (d : Device) : Int :=
  if coolNtc d < 16 ∧ ntcBroken d (coolNtc d) = false then ntcUsed d (coolNtc d) else diodeT d 7

/-- The neighbours named in `TH_NBR_k` that are not broken. -/
def ntcNeighbours (d : Device) (k : Nat) : List Nat :=
  [rdF d (Addr.TH_NBR k) 0 4, rdF d (Addr.TH_NBR k) 4 4].filter (fun j => decide (j < 15 ∧ j ≠ k) && !ntcBroken d j)

/-- The mean of a list of temperatures; none for an empty list. -/
def meanT (l : List Int) : Option Int := if l.isEmpty then none else some (roundDiv l.sum l.length)

/-- The temperature in use of every NTC settled: measured, or the substitute of R293 for a broken one. -/
def ntcSettle (d : Device) : Device :=
  each (List.range 16) (fun d k =>
    let nb := ntcNeighbours d k
    let sub := match meanT (nb.map (ntcMeasured d)), meanT (nb.map (ntcModel d)) with
      | some n, some m => n + (ntcModel d k - m)
      | _, _ => ntcModel d k
    let d := wrB d Addr.TH_NTC_BRK (16 + k) (ntcBroken d k && nb.isEmpty)
    wrF d (Addr.TH_NTC k) 0 16 (tempWord (if ntcBroken d k then sub else ntcMeasured d k))) d

/-- Whether an NTC is assigned: named by a leg, as the coolant's or as a neighbour (DEDUCED). -/
def ntcAssigned (d : Device) (k : Nat) : Bool :=
  (List.range 24).any (fun n => legNtc d n == k) || coolNtc d == k
    || (List.range 16).any (fun j => rdF d (Addr.TH_NBR j) 0 4 == k || rdF d (Addr.TH_NBR j) 4 4 == k) && k != 15

/-- Whether a converter input is in use by the thermal block (R294). -/
def thInput (d : Device) (i : Nat) : Bool := if i < 16 then ntcAssigned d i else decide (16 ≤ i ∧ i < 24)

/-- `STALE_IN` follows the inputs in use. -/
def showStale (d : Device) : Device :=
  wrB d Addr.TH_STAT 5 ((List.range 24).any (fun i => thInput d i && rdB d (Addr.HK_RESULT i) 30))

/-- A calibrated code of an NTC or diode input converted at once (R288). -/
def thConvert (d : Device) (i code : Nat) : Device :=
  if i < 16 then
    let (t, d) := match ntcTemp d code with
      | some t => (t, d)
      | none =>
        let (x, d) := fresh d
        (temp16 x.toNat, d)
    ntcSettle (wrF d (Addr.TH_NTC i) 16 16 (tempWord t))
  else if i < 24 then wrF d (Addr.TH_DIO (i - 16)) 0 16 (tempWord (Config.diodeTemp (i - 16) code))
  else d

/-! ### Conduction (R289) -/

/-- The points of a harness's conduction table, as currents and voltages, up to its end. -/
def condTable (d : Device) (h : Nat) : List (Nat × Nat) :=
  let pt (p : Nat) : Nat × Nat := (rdF d (Addr.TH_VT h p) 0 16, rdF d (Addr.TH_VT h p) 16 16)
  let rec go : Nat → Nat → List (Nat × Nat)
    | 0, _ => []
    | fuel + 1, p => if (pt (p - 1)).1 < (pt p).1 then pt p :: go fuel (p + 1) else []
  pt 0 :: go 7 1

/-- v(|i|) in mV as a ratio, for a current in A / 2^22. -/
def condVolts (table : List (Nat × Nat)) (i : Nat) : Int × Nat :=
  match table with
  | [] => (0, 1)
  | [(_, v)] => (v, 1)
  | (a, va) :: (b, vb) :: rest =>
    if i ≤ a * 2 ^ 22 then (va, 1)
    else if i ≤ b * 2 ^ 22 ∨ rest.isEmpty = true then
      let w : Nat := b - a
      ((va : Int) * w * 2 ^ 22 + ((vb : Int) - va) * ((i : Int) - a * 2 ^ 22), w * 2 ^ 22)
    else condVolts ((b, vb) :: rest) i

/-- A medium word of a channel at which a gate of a leg is ON adds its conduction energy. -/
def conduction (d : Device) (c : Nat) : Device :=
  if lossesRun d then
    each (legsOnChannel d c) (fun d n =>
      match legHarness d n.1, legCurrent d n.1 true with
      | some h, some i =>
        if (gatesOf n).any (fun g => cstate d g.1 == .on) then
          let (num, den) := condVolts (condTable d h) i
          let e := roundDiv (num * i * 409600) (max 1 den * 2 ^ 22)
          { d with therm := { d.therm with legs := upd d.therm.legs n (fun l => { l with energy := l.energy + e }) } }
        else d
      | _, _ => d) d
  else d

/-! ### The tick (R290, R291, R297, R298) -/

/-- A stage after a millisecond: its state times a, and the energy in fJ times a resistance in µK/W times
1 − a, for a = e^(−num/den); in nK. -/
def stageStep (x : Int) (energy : Int) (r num den : Nat) : Int :=
  let a : Nat := expNegFix num den
  roundDiv (x * a * 1000000000 + energy * r * (2 ^ 60 - a : Nat)) (1000000000 * 2 ^ 60)

/-- 1/16 °C in nK. -/
def sixteenth : Int := 62500000

/-- A leg's stages over the millisecond that ends. -/
def legStep (d : Device) (n : Fin 24) : Device :=
  match legHarness d n.1 with
  | some h =>
    let e := (d.therm.legs[n.1]).energy
    let d := wr d (Addr.TH_PLOSS n.1) (F32.ofRatio e 1000000000000)
    if rdF d Addr.RED_STAT 0 3 = 3 then d
    else
      { d with therm := { d.therm with legs := upd d.therm.legs n (fun l =>
        { energy := 0
          stages := Vector.ofFn (fun k : Fin 4 => stageStep l.stages[k.1] e (rdN d (Addr.TH_FR h k.1)) 1000
            (rdN d (Addr.TH_FT h k.1)))
          hs := stageStep l.hs e (rdN d (Addr.TH_HSR h)) 1 (1000 * max 1 (rdN d (Addr.TH_HST h))) }) } }
  | none => { d with therm := { d.therm with legs := upd d.therm.legs n (fun l => { l with energy := 0 }) } }

/-- The estimates of the NTCs from the coolant and the heatsink stages (R291). -/
def modelNtcs (d : Device) : Device :=
  each (List.range 16) (fun d k =>
    let hs := ((List.finRange 24).map (fun n =>
      if legNtc d n.1 = k then (d.therm.legs[n.1]).hs else 0)).sum
    wrN d (Addr.TH_NTCM k) (tempWord (roundDiv (coolT d * sixteenth + hs) 62500000))) d

/-- T_j of a leg in nK (R290). -/
def junction (d : Device) (n : Fin 24) : Int :=
  let ref := if legNtc d n.1 < 16 then ntcUsed d (legNtc d n.1) else coolT d
  ref * sixteenth + (d.therm.legs[n.1]).stages.toList.sum

/-- The warning of a leg set or cleared; an onset raises the pre-warning (R297). -/
def legWarn (d : Device) (n : Fin 24) : Device :=
  match legHarness d n.1 with
  | some h =>
    let lim : Nat := rdF d (Addr.TH_TJLIM h) 0 16
    let tj := junction d n
    if rdB d Addr.TH_WARN n.1 then
      if tj ≤ ((lim : Int) - 32) * sixteenth then wrB d Addr.TH_WARN n.1 false else d
    else if (lim : Int) * sixteenth < tj then
      hkTrigger (raise (wrB d Addr.TH_WARN n.1 true) .thermalWarning n.1) 1
    else d
  | none => d

/-- One trigger of a shutdown: its scope (bits 3:0 harnesses, bit 4 module), its kind, its index, the
temperature and the threshold. -/
structure ThTrigger where
  scope : Nat
  kind  : Nat
  index : Nat
  temp  : Int
  lim   : Nat

/-- The triggers that a comparison finds, in the order of R298. -/
def thTriggers (d : Device) : List ThTrigger :=
  let legs := (List.finRange 24).filterMap (fun n =>
    match legHarness d n.1 with
    | some h =>
      let lim : Nat := rdF d (Addr.TH_TJLIM h) 16 16
      let tj := junction d n
      if (lim : Int) * sixteenth < tj then some ⟨2 ^ h, 1, n.1, roundDiv tj 62500000, lim⟩ else none
    | none => none)
  let ntcs := (List.range 16).filterMap (fun k =>
    let lim : Nat := rdF d Addr.TH_NTCLIM 0 16
    let scope : Nat := (List.range 24).foldl (fun m n =>
      match legHarness d n with
      | some h => if legNtc d n = k then m ||| 2 ^ h else m
      | none => m) 0
    if scope ≠ 0 ∧ (lim : Int) < ntcUsed d k then some ⟨scope, 2, k, ntcUsed d k, lim⟩ else none)
  let diodes := (List.range 8).filterMap (fun i =>
    let lim : Nat := rdF d Addr.TH_DIOLIM 0 16
    if (lim : Int) < diodeT d i then some ⟨31, 3, i, diodeT d i, lim⟩ else none)
  legs ++ ntcs ++ diodes

/-- A record with its CRC-32C. -/
def sealRecord (body : List Byte) : List Byte := body ++ bytesLE 4 (crc32c body)

/-- The thermal record of a shutdown (R300). -/
def thRecord (d : Device) (scope : Nat) (g : ThTrigger) : List Byte :=
  sealRecord ([0x57, 0x54, 1, 1] ++ zeros 4 ++ bytesLE 8 (ialos d)
    ++ [BitVec.ofNat 8 scope, BitVec.ofNat 8 g.kind, BitVec.ofNat 8 g.index, BitVec.ofNat 8 (coasting d).toNat]
    ++ bytesLE 2 (tempWord g.temp) ++ bytesLE 2 g.lim
    ++ (List.range 24).flatMap (fun n => bytesLE 2 (rdF d (Addr.TH_TJ n) 0 16))
    ++ (List.range 16).flatMap (fun k => bytesLE 2 (rdF d (Addr.TH_NTC k) 0 16))
    ++ zeros 8 ++ bytesLE 2 (rdF d Addr.TH_NTC_BRK 0 16) ++ zeros 10)

/-- A record waits for the write in progress. -/
def thPend (d : Device) (rec' : List Byte) : Device :=
  wrB { d with therm := { d.therm with record := some rec' } } Addr.TH_STAT 6 true

/-- The comparison of R298: triggers that reach something new form one shutdown. -/
def thCompare (d : Device) (t : Nat) : Device :=
  let now := rdF d Addr.TH_STAT 0 5
  match (thTriggers d).filter (fun g => g.scope ||| now != now) with
  | [] => d
  | g :: gs =>
    let scope := (g :: gs).foldl (fun m x => m ||| x.scope) now
    let d := raise (count (wrF d Addr.TH_STAT 0 5 scope) Addr.TH_SD_CNT) .thermalShutdown scope
    let d := { d with therm := { d.therm with
      moduleOff := d.therm.moduleOff || (scope.testBit 4 && !now.testBit 4) } }
    let d := thPend d (thRecord d scope g)
    each (List.finRange 4) (fun d h =>
      if scope.testBit h.1 && !now.testBit h.1 then selvedge d h t 12 else d) d

/-- The correction of the root in force (R419): c = `TH_XTAL_CORR` + the trim, limited to ±100 ppm. -/
def showCorr (d : Device) : Device :=
  wrI d Addr.CLK_CORR (clampI (-100000) 100000 (rdI d Addr.TH_XTAL_CORR + d.clock.trimUsed))

/-- `x` moved towards `target` by at most `step`. -/
def slewTo (x target step : Int) : Int := x + clampI (-step) step (target - x)

/-- The millisecond tick (R290): losses and stages of every leg, the estimates, warnings and the comparison.
The crystal trim moves with the same tick (R419; DEDUCED: the table of commands has no tick of its own for it). -/
def thTick (t : Nat) (d : Device) : Device :=
  let d := showCorr { d with clock := { d.clock with trimUsed := slewTo d.clock.trimUsed (rdI d Addr.CLK_TRIM) 20 } }
  if rdB d Addr.TH_CFG 0 then
    let d := each (List.finRange 24) legStep d
    let d := ntcSettle (modelNtcs d)
    let d := each (List.finRange 24) (fun d n =>
      wrN d (Addr.TH_TJ n.1) (tempWord (roundDiv (junction d n) 62500000))) d
    thCompare (each (List.finRange 24) legWarn d) t
  else d

/-! ### The record and the restart (R299 to R302) -/

/-- The waiting record handed to the controller once the write in progress has finished. -/
def thRecordWrite (d : Device) : Device :=
  match d.therm.record with
  | some r =>
    if d.mram.any (·.running) then d
    else thermalPut { d with therm := { d.therm with record := none } } r
  | none => d

/-- The first condition of a restart that fails for a harness: 1 a junction, 2 an NTC above its restart
threshold, 3 an NTC stale, 4 a diode; 0 where all hold (R302). -/
def restartFails (d : Device) (h : Nat) : Nat :=
  let legs := legsOf d h
  let ntcs := (legs.map (fun n => legNtc d n.1)).filter (· < 16)
  if legs.any (fun n => !decide (junction d n < (rdF d (Addr.TH_TJRST h) 0 16 : Nat) * sixteenth)) then 1
  else if ntcs.any (fun k => !decide (ntcUsed d k < (rdF d Addr.TH_NTCLIM 16 16 : Nat))) then 2
  else if ntcs.any (fun k => rdB d (Addr.HK_RESULT k) 30) then 3
  else if rdB d Addr.TH_STAT 4 &&
      (List.range 8).any (fun i => !decide (diodeT d i < (rdF d Addr.TH_DIOLIM 16 16 : Nat))) then 4
  else 0

/-- The last thermal record: the one that waits, else the home slot. -/
def thLast (d : Device) : List Byte := d.therm.record.getD (memBytes d 0x60031000 128)

/-- A record rewritten with state 2 and the time of the restart. -/
def thRestarted (d : Device) : List Byte :=
  let r := thLast d
  sealRecord (r.take 3 ++ [2] ++ (r.drop 4).take 100 ++ bytesLE 8 (ialos d) ++ (r.drop 112).take 12)

/-- The converter's recovery of R57: abort-and-restart until the first complete round. -/
def hkRecover (d : Device) : Device :=
  wrB { d with hk := { d.hk with recovering := true } } Addr.HK_CFG 1 true

/-- Writing `TH_RESTART` (R302): cause 0x0C released for every named harness in shutdown whose conditions
hold; the record rewritten once every harness of the scope has restarted. -/
def thRestart (mask t : Nat) (d : Device) : Device :=
  let d := { d with therm := { d.therm with refused := 0 } }
  let d := each (List.finRange 4) (fun d h =>
    if mask.testBit h.1 && rdB d Addr.TH_STAT h.1 then
      match restartFails d h.1 with
      | 0 => tryRelease (dropCause (wrB d Addr.TH_STAT h.1 false) h.1 12) h t
      | r => if d.therm.refused = 0 then { d with therm := { d.therm with refused := r } } else d
    else d) d
  if (rdF d Addr.TH_STAT 0 4 = 0 ∧ (sliceLE (thLast d) 3 1 = 1)) ∧ mask % 16 ≠ 0 then
    hkRecover (thPend (wrB d Addr.TH_STAT 4 false) (thRestarted d))
  else d

/-- The home record read at start (R301): with state 1, every harness in its scope starts at the selvedge
with cause 0x0C. -/
def thStart (d : Device) (t : Nat) : Device :=
  let r := memBytes d 0x60031000 128
  if sliceLE r 0 2 = 0x5457 ∧ sliceLE r 124 4 = crc32c (r.take 124) ∧ sliceLE r 3 1 = 1 then
    let scope := sliceLE r 16 1 % 32
    let d := wrF d Addr.TH_STAT 0 5 scope
    each (List.finRange 4) (fun d h => if scope.testBit h.1 then selvedge d h t 12 else d) d
  else d

/-! ### The end of a round (R292 to R296) -/

/-- Whether an NTC is under calibration (R65). -/
def ntcCal (d : Device) (k : Nat) : Bool := calState d != 0 && calEntry d == 64 + k

/-- One NTC checked against its neighbours and the model (R292, R293), the others as `old` shows them. -/
def ntcCheck (old d : Device) (k : Fin 16) : Device :=
  if ntcAssigned old k.1 = false then d
  else
    let thr := rdF old Addr.TH_XCHK 0 16
    let tk := ntcMeasured old k.1
    let n := meanT ((ntcNeighbours old k.1).map (ntcMeasured old))
    let cool := coolNtc old == k.1
    let far (x : Int) (lim : Nat) : Bool := decide (lim < 2 * (tk - x).natAbs)
    let flags := rdB old (Addr.HK_RESULT k.1) 28 || rdB old (Addr.HK_RESULT k.1) 30
    let out := match n with
      | some x => far x (2 * thr) && (cool || far (ntcModel old k.1) (2 * thr))
      | none => false
    let near := (match n with | some x => !far x thr | none => true) && (cool || !far (ntcModel old k.1) thr)
    let c := old.therm.checks[k.1]
    let bad : Nat := if out then c.bad + 1 else 0
    let good : Nat := if !flags && near then c.good + 1 else 0
    let set (d : Device) (bad good : Nat) : Device :=
      { d with therm := { d.therm with checks := upd d.therm.checks k (fun _ => ⟨bad, good⟩) } }
    if ntcBroken old k.1 then
      if 16 ≤ good ∧ ntcCal old k.1 = false then
        raise (wrB (set d 0 0) Addr.TH_NTC_BRK k.1 false) .ntcRecovered k.1
      else set d 0 good
    else if flags || ntcCal old k.1 || decide (2 ≤ bad) then
      raise (count (wrB (set d 0 0) Addr.TH_NTC_BRK k.1 true) Addr.TH_BROKEN_CNT) .ntcBroken k.1
    else set d bad 0

/-- The correction of the root moved by one round (R295, R419). -/
def xtalRound (d : Device) : Device :=
  let now := rdI d Addr.TH_XTAL_CORR
  let comp := rdB d Addr.TH_CFG 1
  if comp && rdB d (Addr.HK_RESULT 21) 30 then d
  else showCorr (wrI d Addr.TH_XTAL_CORR (slewTo now (if comp then Config.crystalPpb (diodeT d 5) else 0) 20))

/-- The reference corrections that wait pass into use at a T0 boundary (R296). -/
def refBoundaryT0 (d : Device) : Device :=
  let d := { d with chans := d.chans.map (fun h => { h with refComp := h.refNext }) }
  wrI (wrI d Addr.TH_REFC_V (d.chans[0]).refComp) Addr.TH_REFC_I (d.chans[12]).refComp

/-- The reference corrections of every channel moved by one round (R296). -/
def refRound (d : Device) : Device :=
  let d := { d with chans := Vector.ofFn (fun c : Fin 32 =>
    let h := d.chans[c.1]
    let cur := currentIsland c.1
    let dt := diodeT d (if cur then 1 else 0) - temp16 (rdF d (Addr.MOD_CAL_INFO c.1) 0 16)
    let target := if rdB d Addr.TH_CFG 2 then Config.refDrift cur dt else 0
    { h with refNext := slewTo h.refComp target 5000 }) }
  if loomMode d = .run then d else refBoundaryT0 d

/-- The end of a round: the NTCs cross-checked, the drift corrections moved once the saddle has loaded (R306), and the
recovery of R57 over. -/
def hkRoundEnd (d : Device) : Device :=
  if d.therm.roundEnd then
    let d := { d with therm := { d.therm with roundEnd := false } }
    let old := d
    let d := ntcSettle (each (List.finRange 16) (ntcCheck old) d)
    let d := if d.cfg.loaded then refRound (xtalRound d) else d
    if d.hk.recovering && unitReady d then
      wrB { d with hk := { d.hk with recovering := false } } Addr.HK_CFG 1 false
    else d
  else d

/-- After a transfer that found `old` in force: a change of `TH_NTC_Lnn` or `TH_NBR_k` restarts the cross-check
of the NTCs concerned (R305). -/
def thTransfer (old d : Device) : Device :=
  let touched (k : Nat) : Bool := rd old (Addr.TH_NBR k) != rd d (Addr.TH_NBR k)
    || (List.range 24).any (fun n => legNtc old n != legNtc d n && (legNtc old n == k || legNtc d n == k))
  each (List.finRange 16) (fun d k =>
    if touched k.1 then { d with therm := { d.therm with checks := upd d.therm.checks k (fun _ => ⟨0, 0⟩) } } else d) d

end Sys2Proof.Machine
end

