-- ==== Sys2Proof/Machine/Clock.lean ====
section
/-! DEFINITION. The root, the MDLL and the clock domains: lock, loss, relock and the filter (R418 to R431). -/

namespace Sys2Proof.Machine

open Sys2Proof

/-- Whether a `LOCKF` sample lies inside `CLK_LOCKF_LO` to `CLK_LOCKF_HI` (R423). -/
def lockfInside (d : Device) (mv : Nat) : Bool :=
  decide (rdF d Addr.CLK_LOCKF 0 16 ≤ mv) && decide (mv ≤ rdF d Addr.CLK_LOCKF 16 16)

/-- A `LOCKF` sample in mV, shown (R422). -/
def showLockf (d : Device) (mv : Nat) : Device := wrF d Addr.CLK_LOCKF_MV 0 12 mv

/-- The first CKF edge after an instant (R425). -/
def nextCkf (d : Device) (t : Nat) : Nat :=
  let t0 := d.clock.firstLock.getD 0
  t0 + ((t - t0) / ckf + 1) * ckf

/-- The MDLL declares lock at `t` with `LOCKF` at `mv` (R423): the first lock starts the counters of R73 and
R122; a relock sets `HOLD` (R427). The control value is a free value. -/
def lockDeclared (mv t : Nat) (d : Device) : Device :=
  let d := showLockf d mv
  if domOn d 5 ∧ rdB d Addr.CLK_STAT 0 = false ∧ d.clock.acquiring = true ∧ lockfInside d mv = true then
    let (v, d) := fresh d
    let d := wrF (wrB (wrB d Addr.CLK_STAT 0 true) Addr.CLK_STAT 1 true) Addr.CLK_CTRL_VAL 0 16 v.toNat
    let d := { d with clock := { d.clock with acquiring := false, firstLock := some (d.clock.firstLock.getD t) } }
    if coasting d then wrB { d with clock := { d.clock with holdFrom := some t } } Addr.CLK_STAT 2 true else d
  else d

/-- A loss takes effect on the next CKF edge (R425): CKE and CKL gated, every harness at the selvedge with cause
0x0D, the counters and the time of the loss, the frame on the link cut off, self-diagnosis fault 0x02 (R426). The link of a
standby stops, and the pair is not synchronised (R398). -/
def clockLoss (ref : Bool) (t : Nat) (d : Device) : Device :=
  let e := nextCkf d t
  let was := coasting d
  let d := wrB (wrB d Addr.CLK_STAT 0 false) Addr.CLK_STAT 2 false
  let d := wrB (wrB (wrB d Addr.CLK_STAT 3 true) Addr.CLK_STAT 4 true) Addr.CLK_STAT 5 true
  let d := count d Addr.CLK_LOL_CNT
  let d := if ref then wrB (count d Addr.CLK_LOR_CNT) Addr.CLK_STAT 7 true else d
  let d := if redState d = 3 then wrB d Addr.RED_STAT 5 false else d
  let d := wr64 d Addr.CLK_LOSS_TIME_LO (d.time.read e)
  let d := { d with clock := { d.clock with holdFrom := none, lossAt := if was then d.clock.lossAt else some e } }
  if was then d else selfDiag (cutFrame (selvedgeAll d e 0x0D) e) 2 e

/-- A loss of lock at `t` (R424): by the digital detector, or by `LOCKF` above its limit for `held` µs. -/
def lossOfLock (digital : Bool) (mv held t : Nat) (d : Device) : Device :=
  let d := if digital then d else showLockf d mv
  if rdB d Addr.CLK_STAT 0 ∧ (digital = true ∨
      (rdF d Addr.CLK_LOCKF 16 16 < mv ∧ rdF d Addr.CLK_LOCKF_T 0 14 ≤ held)) then
    clockLoss false t { d with clock := { d.clock with acquiring := rdB d Addr.CLK_STAT 1 } }
  else d

/-- A loss of reference at `t` (R424), which is always also a loss of lock. -/
def lossOfReference (t : Nat) (d : Device) : Device :=
  if domOn d 5 ∧ rdB d Addr.CLK_STAT 1 then
    let d := wrB { d with clock := { d.clock with acquiring := false } } Addr.CLK_STAT 1 false
    if d.clock.firstLock.isSome then clockLoss true t d else d
  else d

/-- `LOCKF` below its low limit while lock is declared (R424). -/
def lockfFault (mv : Nat) (d : Device) : Device :=
  let d := showLockf d mv
  if rdB d Addr.CLK_STAT 0 ∧ mv < rdF d Addr.CLK_LOCKF 0 16 ∧ rdB d Addr.CLK_STAT 6 = false then
    raise (count (wrB d Addr.CLK_STAT 6 true) Addr.CLK_FILT_CNT) .clockFilter mv
  else d

/-- `LOCKF` back inside its window: `FILT_FLT` clears (R430). -/
def lockfClear (mv : Nat) (d : Device) : Device :=
  let d := showLockf d mv
  if rdB d Addr.CLK_STAT 6 ∧ lockfInside d mv = true then wrB d Addr.CLK_STAT 6 false else d

/-- The reference monitor has seen a good root for 1 ms (R427): CKA returns to the root and the MDLL starts to
acquire. -/
def referenceRecovered (d : Device) : Device :=
  if domOn d 5 ∧ rdB d Addr.CLK_STAT 0 = false then
    let d := wrB (wrB d Addr.CLK_STAT 1 true) Addr.CLK_STAT 7 false
    { d with clock := { d.clock with acquiring := true } }
  else d

/-- Lock has held for `CLK_RELOCK_HOLD` (R427): CKE and CKL ungated, cause 0x0D released, the coast ended, the
housekeeping converter in recovery. -/
def relockExpiry (t : Nat) (d : Device) : Device :=
  match d.clock.holdFrom with
  | some h =>
    if rdB d Addr.CLK_STAT 2 ∧ h + ms (rdF d Addr.CLK_CFG 0 10) ≤ t then
      let took := min ((t - d.clock.lossAt.getD t) / us 1) 0xFFFFFFFF
      let d := wrN (wrF d Addr.CLK_STAT 2 4 0) Addr.CLK_COAST_LAST took
      let d := { d with clock := { d.clock with holdFrom := none, lossAt := none } }
      hkRecover (each (List.finRange 4) (fun d h => ownerRelease d h t 0x0D) d)
    else d
  | none => d

/-- The root starts with PD5 (R410, R428): the array is loaded with `CLK_XTAL_TRIM` alone and the counters of R73
and R122 start afresh at the first lock. -/
def rootStart (d : Device) : Device :=
  let trim := clampI (-100000) 100000 (rdI d Addr.CLK_TRIM)
  let d := wrI (wrN d Addr.CLK_STAT 0) Addr.CLK_CORR trim
  { d with clock := ⟨none, none, none, true, rdI d Addr.CLK_TRIM⟩ }

end Sys2Proof.Machine
end

