-- ==== Sys2Proof/Machine/Gfk.lean ====
section
/-! DEFINITION. The grid-forming kernel (R154 to R184): `gfk_init`, and one call of `gfk_step` over the context,
the input block and the output block in memory. The kernel's own variables lie in the state part of the
context, eight bytes each from offset 0x1C0 (DESIGN CHOICE: R156 gives no layout). Quantities are in binary32, each
operation rounded in the order written here (UNVERIFIED: the spec gives no order). -/

namespace Sys2Proof.Machine

open Sys2Proof

/-! ### The kernel's variables -/

/-- The kernel's own variables, by their place in the state part. -/
inductive GfkVar where
  | state | selv | close | open_ | reconClose | reason | theta | omega | omegaF | qF | e | ramp
  | trimP | trimQ | trimV | trimF | lastP | lastQ | lastV | lastF
  | hold | deltaHold | holdCalls | holdMax | thetaV | seenV
  | gMag | gFreq | gAngle | rMag | rFreq | rAngle
  | prevKf | measOnce | deadNs | liveNs | stateNs | syncNs | reconNs
  | frt | frtNs | frtIn | recon | wOfs | vOfs | iLimit | fLimit | vdcLimit | trimLimit | syncWin
  | harness | fNom | sRated | vRated | vcCh | iCh | vgCh | vrCh | vdcP | vdcN | vFs | iFs | iPol | prevKr
deriving DecidableEq, Repr

/-- The variables in the order of their places. -/
def GfkVar.all : List GfkVar :=
  [.state, .selv, .close, .open_, .reconClose, .reason, .theta, .omega, .omegaF, .qF, .e, .ramp,
   .trimP, .trimQ, .trimV, .trimF, .lastP, .lastQ, .lastV, .lastF,
   .hold, .deltaHold, .holdCalls, .holdMax, .thetaV, .seenV,
   .gMag, .gFreq, .gAngle, .rMag, .rFreq, .rAngle,
   .prevKf, .measOnce, .deadNs, .liveNs, .stateNs, .syncNs, .reconNs,
   .frt, .frtNs, .frtIn, .recon, .wOfs, .vOfs, .iLimit, .fLimit, .vdcLimit, .trimLimit, .syncWin,
   .harness, .fNom, .sRated, .vRated, .vcCh, .iCh, .vgCh, .vrCh, .vdcP, .vdcN, .vFs, .iFs, .iPol,
   .prevKr]

/-- The address of a variable in the context at `ctx`. -/
def GfkVar.addr (ctx : Nat) (v : GfkVar) : Nat := ctx + 0x1C0 + 8 * GfkVar.all.idxOf v

/-- A variable as a word. -/
def kv (d : Device) (ctx : Nat) (v : GfkVar) : Word := word (memNat d (v.addr ctx) 8)

/-- A variable as a number. -/
def kn (d : Device) (ctx : Nat) (v : GfkVar) : Nat := memNat d (v.addr ctx) 8

/-- A variable as a flag. -/
def kb (d : Device) (ctx : Nat) (v : GfkVar) : Bool := kn d ctx v != 0

/-- A variable written. -/
def kset (d : Device) (ctx : Nat) (v : GfkVar) (w : Word) : Device := putNat d (v.addr ctx) 8 w.toNat

/-- A variable written with a number. -/
def ksetN (d : Device) (ctx : Nat) (v : GfkVar) (n : Nat) : Device := putNat d (v.addr ctx) 8 n

/-- A flag written. -/
def ksetB (d : Device) (ctx : Nat) (v : GfkVar) (b : Bool) : Device := ksetN d ctx v b.toNat

/-! ### Parameters (R156, R162, R183) -/

/-- A parameter of the block as a signed number. -/
def kpar (d : Device) (ctx id : Nat) : Int := (word (memNat d (ctx + 4 * (id - 0x600)) 4)).toInt

/-- A parameter as a natural number. -/
def kparN (d : Device) (ctx id : Nat) : Nat := (kpar d ctx id).toNat

/-- A parameter divided by its unit, in binary32. -/
def kparF (d : Device) (ctx id unit : Nat) : Word := F32.ofRatio (kpar d ctx id) unit

/-- The parameters marked R184, which a call of `gfk_init` takes over (R184). -/
def gfkInitParams : List (GfkVar × Nat) :=
  [(.harness, 0x600), (.fNom, 0x601), (.sRated, 0x602), (.vRated, 0x603), (.vcCh, 0x604), (.iCh, 0x605),
   (.vgCh, 0x606), (.vrCh, 0x607), (.vdcP, 0x608), (.vdcN, 0x609), (.vFs, 0x60A), (.iFs, 0x60B), (.iPol, 0x60C)]

/-- The nominal frequency in Hz. -/
def gfkFnom (d : Device) (ctx : Nat) : Nat := if kn d ctx .fNom = 1 then 60 else 50

/-- π as a ratio. -/
def piNum : Nat := 3141592653589793238462643383279

/-- The denominator of that ratio. -/
def piDen : Nat := 10 ^ 30

/-- π in binary32. -/
def pi32 : Word := F32.ofRatio piNum piDen

/-- 2π in binary32. -/
def twoPi32 : Word := F32.ofRatio (2 * piNum : Nat) piDen

/-- An angle wrapped to −π … π. -/
def wrapPi (x : Word) : Word :=
  let once (x : Word) : Word :=
    if F32.lt pi32 x then F32.sub x twoPi32
    else if F32.lt x (F32.neg pi32) then F32.add x twoPi32 else x
  once (once (once x))

/-- The phase-peak voltage base V_b in volts (R162). -/
def gfkVb (d : Device) (ctx : Nat) : Word :=
  let v := kn d ctx .vRated
  F32.ofSqrtRatio (2 * v * v) 3

/-- The phase-peak current base I_b in amperes (R162). -/
def gfkIb (d : Device) (ctx : Nat) : Word :=
  let s := 1000 * kn d ctx .sRated
  let v := kn d ctx .vRated
  F32.ofSqrtRatio (2 * s * s) (3 * v * v)

/-- `DATA` units as a pu value over a base, with the full scale in volts or amperes (R162). -/
def gfkPu (data : Int) (fs : Nat) (base : Word) : Word := F32.div (F32.ofRatio (data * fs) 4194304) base

/-! ### One call's inputs (R158) and the values the law passes on -/

/-- The step Δt in ns. -/
def gfkT0 (d : Device) (inp : Nat) : Nat := memNat d inp 4

/-- Δt in seconds. -/
def gfkDt (d : Device) (inp : Nat) : Word := F32.ofRatio (gfkT0 d inp) 1000000000

/-- A word of the input block. -/
def kin (d : Device) (inp off : Nat) : Word := word (memNat d (inp + off) 4)

/-- Three path words from an offset of the input block in pu of V_b. -/
def kinV (d : Device) (ctx inp off : Nat) : Word × Word × Word :=
  let f (k : Nat) : Word := gfkPu (dataOf (kin d inp (off + 4 * k))) (kn d ctx .vFs) (gfkVb d ctx)
  (f 0, f 1, f 2)

/-- The measured voltage v_d+, v_q+, v_d−, v_q− in pu. -/
def kinVdq (d : Device) (ctx inp k : Nat) : Word :=
  gfkPu (kin d inp (0x10 + 4 * k)).toInt (kn d ctx .vFs) (gfkVb d ctx)

/-- |v+| in pu. -/
def gfkVmag (d : Device) (ctx inp : Nat) : Word :=
  let vd := kinVdq d ctx inp 0
  let vq := kinVdq d ctx inp 1
  F32.sqrt (F32.add (F32.mul vd vd) (F32.mul vq vq))

/-- Whether three path words from an offset are neither invalid nor unsettled. -/
def kinClean (d : Device) (inp off : Nat) : Bool :=
  (List.range 3).all (fun k => !bit (kin d inp (off + 4 * k)) 31 && !bit (kin d inp (off + 4 * k)) 29)

/-- The own contactor's confirmation. -/
def kfOwn (d : Device) (inp : Nat) : Bool := bit (kin d inp 8) 0

/-- Whether a voltage estimate is live (R173): the magnitude at least `GF_LIVE_V` and the frequency within ±2 %,
over words that are neither invalid nor unsettled. -/
def gfkLive (d : Device) (ctx inp off : Nat) (mag freq : GfkVar) : Bool :=
  kinClean d inp off && F32.le (kparF d ctx 0x63E 1000) (kv d ctx mag)
    && F32.le (F32.ofRatio 98 100) (kv d ctx freq) && F32.le (kv d ctx freq) (F32.ofRatio 102 100)

/-- Whether the bus is live (R173). -/
def busLive (d : Device) (ctx inp : Nat) : Bool := gfkLive d ctx inp 0x30 .gMag .gFreq

/-- Whether the bus is dead (R173). -/
def busDead (d : Device) (ctx inp : Nat) : Bool :=
  kinClean d inp 0x30 && F32.lt (kv d ctx .gMag) (kparF d ctx 0x63C 1000)

/-! ### Set-points (R179) -/

/-- A value moved towards a target by at most a step. -/
def slew32 (x target step : Word) : Word :=
  if F32.lt (F32.add x step) target then F32.add x step
  else if F32.lt target (F32.sub x step) then F32.sub x step
  else target

/-- The trim rate times Δt, in pu. -/
def trimStep (d : Device) (ctx inp : Nat) : Word := F32.mul (kparF d ctx 0x624 1000) (gfkDt d inp)

/-- `GF_MP` in pu. -/
def gfkMp (d : Device) (ctx : Nat) : Word := kparF d ctx 0x613 10000

/-- One trim: its last finite value, limited to ±`GF_TRIM_LIM` and slewed (R179). -/
def trimOne (ctx inp off : Nat) (last now : GfkVar) (step : Word) (d : Device) : Device :=
  let x := kin d inp off
  let d := if F32.finite x then kset d ctx last x else d
  let x := kv d ctx last
  let lim := kparF d ctx 0x625 1000
  let y := F32.clamp (F32.neg lim) lim x
  let d := if F32.lt lim (F32.abs x) then ksetB d ctx .trimLimit true else d
  kset d ctx now (slew32 (kv d ctx now) y step)

/-- The four trims of a call. -/
def trims (ctx inp : Nat) (d : Device) : Device :=
  let d := ksetB d ctx .trimLimit false
  let s := trimStep d ctx inp
  let sf := F32.mul (F32.mul s (gfkMp d ctx)) (F32.ofInt (gfkFnom d ctx))
  let d := trimOne ctx inp 0x50 .lastP .trimP s d
  let d := trimOne ctx inp 0x54 .lastQ .trimQ s d
  let d := trimOne ctx inp 0x58 .lastV .trimV s d
  trimOne ctx inp 0x5C .lastF .trimF sf d

/-- ω_set without the offsets of synchronisation and reconnection, in pu (R163). -/
def wSet (d : Device) (ctx : Nat) : Word :=
  let f := F32.add (F32.ofRatio (1000 * gfkFnom d ctx + kpar d ctx 0x623) 1000) (kv d ctx .trimF)
  F32.div f (F32.ofInt (gfkFnom d ctx))

/-- The droop value v_set + n_q (q_set − q_f) (R164). -/
def eDroop (d : Device) (ctx : Nat) : Word :=
  let q := F32.add (kparF d ctx 0x621 1000) (kv d ctx .trimQ)
  let v := F32.add (kparF d ctx 0x622 1000) (kv d ctx .trimV)
  F32.add v (F32.mul (kparF d ctx 0x614 10000) (F32.sub q (kv d ctx .qF)))

/-! ### States (R172) -/

/-- The state's code. -/
def kstate (d : Device) (ctx : Nat) : Nat := kn d ctx .state

/-- `REASON` set. -/
def kreason (ctx r : Nat) (d : Device) : Device := ksetN d ctx .reason r

/-- A state entered, its timers from zero. Leaving FORM ends a disturbance, the hold and reconnection (R178,
R181). -/
def kgo (ctx s : Nat) (d : Device) : Device :=
  let d := if kstate d ctx = 6 ∧ s ≠ 6 then
      ksetB (kset (ksetB (ksetB (ksetB (ksetB d ctx .frt false) ctx .recon false) ctx .reconClose false)
        ctx .hold false) ctx .wOfs 0) ctx .holdMax false
    else d
  ksetN (ksetN (ksetN (ksetN (ksetN d ctx .state s) ctx .stateNs 0) ctx .deadNs 0) ctx .liveNs 0) ctx .syncNs 0

/-- OFF entered with a reason, `CLOSE` cleared (R172). -/
def kOff (ctx r : Nat) (d : Device) : Device := kreason ctx r (ksetB (kgo ctx 0 d) ctx .close false)

/-- TRIPPED entered with a reason: `SELV` set until `RESET` (R172). -/
def kTrip (ctx r : Nat) (d : Device) : Device :=
  kreason ctx r (ksetB (ksetB (kgo ctx 7 d) ctx .close false) ctx .selv true)

/-- WAIT entered. -/
def kWait (ctx : Nat) (d : Device) : Device := ksetB (kgo ctx 1 d) ctx .close false

/-- θ and ω taken from the estimator. -/
def kFromBus (ctx : Nat) (d : Device) : Device :=
  kset (kset (kset d ctx .theta (kv d ctx .gAngle)) ctx .omega (kv d ctx .gFreq)) ctx .omegaF (kv d ctx .gFreq)

/-- SYNC entered, with θ and ω from the estimator and E from zero. -/
def kSync (ctx : Nat) (d : Device) : Device :=
  kset (kset (kFromBus ctx (ksetB (kgo ctx 4 d) ctx .close false)) ctx .e 0) ctx .ramp 0

/-- RAMP entered: E from zero, ω at ω_set. -/
def kRamp (ctx : Nat) (d : Device) : Device :=
  let w := wSet d ctx
  kset (kset (kset (kset (kset (kgo ctx 3 d) ctx .e 0) ctx .ramp 0) ctx .omega w) ctx .omegaF w) ctx .wOfs 0

/-- FORM entered: ω_f at ω, and the offsets from which ω_set and v_set return at the trim rate (R177). -/
def kForm (ctx : Nat) (d : Device) : Device :=
  let d := kgo ctx 6 d
  let d := kset d ctx .omegaF (kv d ctx .omega)
  let d := kset d ctx .wOfs (F32.sub (kv d ctx .omega) (wSet d ctx))
  kset d ctx .vOfs (F32.sub (kv d ctx .e) (eDroop d ctx))

/-! ### The estimator (R177) -/

/-- One step of both loops. -/
def estimate (ctx inp : Nat) (d : Device) : Device :=
  let bw := kparN d ctx 0x66B
  let t := gfkT0 d inp
  let g := Config.gfkEstimate bw t (kv d ctx .gMag, kv d ctx .gFreq, kv d ctx .gAngle) (kinV d ctx inp 0x30)
  let r := Config.gfkEstimate bw t (kv d ctx .rMag, kv d ctx .rFreq, kv d ctx .rAngle) (kinV d ctx inp 0x3C)
  let d := kset (kset (kset d ctx .gMag g.1) ctx .gFreq g.2.1) ctx .gAngle g.2.2
  kset (kset (kset d ctx .rMag r.1) ctx .rFreq r.2.1) ctx .rAngle r.2.2

/-- The correction c in Hz and Δθ against an estimated angle (R177). -/
def syncPull (d : Device) (ctx : Nat) (angle : GfkVar) : Word × Word :=
  let dth := wrapPi (F32.sub (kv d ctx .theta) (kv d ctx angle))
  let lim := kparF d ctx 0x666 1000
  (F32.clamp (F32.neg lim) lim (F32.mul (kparF d ctx 0x665 1000) dth), dth)

/-- Whether the window of R177 is open against an estimate. -/
def windowOpen (d : Device) (ctx : Nat) (mag freq angle : GfkVar) : Bool :=
  let df := F32.mul (F32.sub (kv d ctx .omega) (kv d ctx freq)) (F32.ofInt (gfkFnom d ctx))
  let dth := (syncPull d ctx angle).2
  let pred := F32.add dth (F32.mul (F32.mul twoPi32 df) (kparF d ctx 0x664 1000))
  F32.lt (F32.abs (F32.sub (kv d ctx .e) (kv d ctx mag))) (kparF d ctx 0x660 1000)
    && F32.lt (F32.abs df) (kparF d ctx 0x661 1000)
    && F32.lt (F32.abs pred) (F32.ofRatio (kpar d ctx 0x662 * piNum) (180 * piDen))

/-! ### Ride-through (R169 to R171) -/

/-- The points of a curve, up to its end (R170). -/
def frtPoints (d : Device) (ctx base : Nat) : List (Nat × Nat) :=
  let p (k : Nat) : Nat × Nat :=
    let w := memNat d (ctx + 4 * (base - 0x600 + k)) 4
    (w / 65536 % 65536, w % 65536)
  p 0 :: (((List.range 15).map (fun k => (p k, p (k + 1)))).takeWhile (fun q => decide (q.1.1 < q.2.1))).map (·.2)

/-- The voltage of a curve at an elapsed time in ns, as a numerator over 1000 · 10^6 · (t1 − t0). -/
def frtCurve (pts : List (Nat × Nat)) (t : Nat) : Word :=
  match pts with
  | [] => 0
  | [(_, v)] => F32.ofRatio v 1000
  | (t0, v0) :: (t1, v1) :: rest =>
    if t < 1000000 * t0 then F32.ofRatio v0 1000
    else if t < 1000000 * t1 then
      let den := 1000000 * (t1 - t0)
      let num : Int := (v0 : Int) * den + ((v1 : Int) - v0) * ((t : Int) - 1000000 * t0)
      F32.ofRatio num (1000 * den)
    else frtCurve ((t1, v1) :: rest) t

/-- The disturbance as a call finds it in FORM (R169): begun, continued or ended. -/
def frtTrack (ctx inp : Nat) (d : Device) : Device :=
  let v := gfkVmag d ctx inp
  let inside := F32.le (kparF d ctx 0x630 1000) v && F32.le v (kparF d ctx 0x631 1000)
  let dt := gfkT0 d inp
  if kb d ctx .frt then
    let d := ksetN d ctx .frtNs (kn d ctx .frtNs + dt)
    if inside then
      let n := kn d ctx .frtIn + dt
      if 1000000 * kparN d ctx 0x632 ≤ n then ksetB d ctx .frt false else ksetN d ctx .frtIn n
    else ksetN d ctx .frtIn 0
  else if inside then d
  else ksetN (ksetN (ksetB d ctx .frt true) ctx .frtNs 0) ctx .frtIn 0

/-- The reason with which a curve trips during a disturbance, 0 for none (R170). -/
def frtTrip (d : Device) (ctx inp : Nat) : Nat :=
  let v := gfkVmag d ctx inp
  if kb d ctx .frt = false then 0
  else if F32.lt v (frtCurve (frtPoints d ctx 0x640) (kn d ctx .frtNs)) then 1
  else if F32.lt (frtCurve (frtPoints d ctx 0x650) (kn d ctx .frtNs)) v then 2
  else 0

/-! ### Transitions of one call (R172 to R174, R178, R181) -/

/-- The measurement fault: `MEAS` after one call with an invalid word, a trip after two. -/
def measCheck (ctx inp : Nat) (d : Device) : Device :=
  let bad := bit (kin d inp 0x20) 1
    || (List.range 3).any (fun k => bit (kin d inp (0x24 + 4 * k)) 31)
    || (List.range 2).any (fun k => bit (kin d inp (0x48 + 4 * k)) 31)
  let twice := bad && kb d ctx .measOnce
  let d := ksetB d ctx .measOnce bad
  if twice ∧ kstate d ctx ≠ 7 then kTrip ctx 3 d else d

/-- A command code acted on (R174, R178). -/
def kcommand (ctx inp : Nat) (cmd : Nat) (d : Device) : Device :=
  let s := kstate d ctx
  match cmd with
  | 1 =>
    if s ≠ 0 then d
    else if kn d ctx .harness = 15 then kreason ctx 11 d
    else if kfOwn d inp = false then ksetB (kWait ctx d) ctx .open_ false
    else if busLive d ctx inp then
      kForm ctx (kset (kFromBus ctx (ksetB d ctx .open_ false)) ctx .e (kv d ctx .gMag))
    else if busDead d ctx inp ∧ kparN d ctx 0x638 = 1 then kRamp ctx (ksetB d ctx .open_ false)
    else d
  | 2 => if s = 0 ∨ s = 7 then d else ksetB (kOff ctx 10 d) ctx .open_ true
  | 3 => if s = 7 then ksetB (kgo ctx 0 d) ctx .selv false else d
  | 4 =>
    if s = 6 ∧ kn d ctx .vrCh ≠ 255 then ksetN (ksetB d ctx .recon true) ctx .reconNs 0 else kreason ctx 13 d
  | 5 => ksetB (ksetB d ctx .recon false) ctx .reconClose false
  | _ => d

/-- A timer advanced by the step while its condition holds, from zero otherwise. -/
def krun (ctx : Nat) (v : GfkVar) (on : Bool) (dt : Nat) (d : Device) : Device :=
  ksetN d ctx v (if on then kn d ctx v + dt else 0)

/-- A ms parameter in ns. -/
def kms (d : Device) (ctx id : Nat) : Nat := 1000000 * kparN d ctx id

/-- The transitions by state, confirmation, bus and time (R172). -/
def kmove (ctx inp : Nat) (d : Device) : Device :=
  let dt := gfkT0 d inp
  let kf := kfOwn d inp
  let rose := kf && !kb d ctx .prevKf
  match kstate d ctx with
  | 1 =>
    let d := krun ctx .deadNs (busDead d ctx inp) dt d
    let d := krun ctx .liveNs (busLive d ctx inp) dt d
    let wait := 1000000 * (kparN d ctx 0x63D + kparN d ctx 0x639 * kparN d ctx 0x63A)
    if rose then kTrip ctx 12 d
    else if busDead d ctx inp ∧ kparN d ctx 0x638 = 1 ∧ wait ≤ kn d ctx .deadNs then
      ksetB (kgo ctx 2 d) ctx .close true
    else if busLive d ctx inp ∧ kms d ctx 0x63F ≤ kn d ctx .liveNs then kSync ctx d
    else d
  | 2 =>
    let d := krun ctx .stateNs true dt d
    if kf then (if busDead d ctx inp then kRamp ctx d else kTrip ctx 5 d)
    else if busDead d ctx inp = false then kWait ctx d
    else if kms d ctx 0x668 ≤ kn d ctx .stateNs then kOff ctx 8 d
    else d
  | 3 => if kf then d else kOff ctx 6 d
  | 4 =>
    let d := krun ctx .stateNs true dt d
    let win := windowOpen d ctx .gMag .gFreq .gAngle
    let d := krun ctx .syncNs win dt (ksetB d ctx .syncWin win)
    if rose then kTrip ctx 12 d
    else if busLive d ctx inp = false then kWait ctx d
    else if win ∧ kms d ctx 0x663 ≤ kn d ctx .syncNs then ksetB (kgo ctx 5 d) ctx .close true
    else if 1000 * kms d ctx 0x667 ≤ kn d ctx .stateNs then kOff ctx 9 d
    else d
  | 5 =>
    let d := krun ctx .stateNs true dt d
    let d := ksetB d ctx .syncWin (windowOpen d ctx .gMag .gFreq .gAngle)
    if kf then kForm ctx d
    else if kms d ctx 0x668 ≤ kn d ctx .stateNs then kOff ctx 8 d
    else d
  | 6 =>
    if kf then d
    else if kparN d ctx 0x66A = 1 then kSync ctx d
    else kOff ctx 6 d
  | _ => d

/-- Step 1 of R178 is active: the utility voltage has been live for `GF_RECON_DELAY`. -/
def reconActive (d : Device) (ctx inp : Nat) : Bool :=
  kstate d ctx == 6 && kb d ctx .recon && gfkLive d ctx inp 0x3C .rMag .rFreq
    && decide (1000 * kms d ctx 0x669 ≤ kn d ctx .reconNs)

/-- Reconnection in FORM (R178): ended by a rise of `kf` bit 1. -/
def kreconnect (ctx inp : Nat) (d : Device) : Device :=
  if kstate d ctx ≠ 6 ∨ kb d ctx .recon = false then d
  else if bit (kin d inp 8) 1 && !kb d ctx .prevKr then ksetB (ksetB d ctx .recon false) ctx .reconClose false
  else
    let live := gfkLive d ctx inp 0x3C .rMag .rFreq
    let d := krun ctx .reconNs live (gfkT0 d inp) d
    if reconActive d ctx inp then
      let c := (syncPull d ctx .rAngle).1
      let d := kset d ctx .wOfs (F32.neg (F32.div c (F32.ofInt (gfkFnom d ctx))))
      let win := windowOpen d ctx .rMag .rFreq .rAngle
      let d := krun ctx .syncNs win (gfkT0 d inp) (ksetB d ctx .syncWin win)
      if win ∧ kms d ctx 0x663 ≤ kn d ctx .syncNs then ksetB d ctx .reconClose true else d
    else ksetN d ctx .syncNs 0

/-! ### The control law (R163 to R168, R171, R175, R177) -/

/-- Phase quantities to the stationary frame, amplitude invariant (R120). -/
def clarke (x : Word × Word × Word) : Word × Word :=
  let (a, b, c) := x
  (F32.div (F32.sub (F32.sub (F32.mul (F32.ofInt 2) a) b) c) (F32.ofInt 3),
   F32.mul (F32.sub b c) (F32.ofSqrtRatio 1 3))

/-- The currents i_d, i_q of the input block at the latch angle, in pu. -/
def gfkIdq (d : Device) (ctx inp : Nat) : Word × Word :=
  let f (k : Nat) : Word :=
    let z := dataOf (kin d inp (0x24 + 4 * k))
    gfkPu (if kn d ctx .iPol = 1 then -z else z) (kn d ctx .iFs) (gfkIb d ctx)
  let (al, be) := clarke (f 0, f 1, f 2)
  let c := Config.f32Cos (kv d ctx .theta)
  let s := Config.f32Sin (kv d ctx .theta)
  (F32.add (F32.mul al c) (F32.mul be s), F32.sub (F32.mul be c) (F32.mul al s))

/-- p and q in pu (R162). -/
def gfkPq (d : Device) (ctx inp : Nat) : Word × Word :=
  let vd := kinVdq d ctx inp 0
  let vq := kinVdq d ctx inp 1
  let (id, iq) := gfkIdq d ctx inp
  (F32.add (F32.mul vd id) (F32.mul vq iq), F32.sub (F32.mul vq id) (F32.mul vd iq))

/-- The ceiling E_max (R164). -/
def gfkEmax (d : Device) (ctx inp : Nat) : Word :=
  let z := dataOf (kin d inp 0x48) - dataOf (kin d inp 0x4C)
  let vdc := F32.ofRatio (z * kn d ctx .vFs) 4194304
  let v := kn d ctx .vRated
  F32.div (F32.mul (kparF d ctx 0x619 1000) vdc) (F32.ofSqrtRatio (2 * v * v) 1)

/-- E by its state (R164, R175, R177), limited by E_max. -/
def eLaw (ctx inp : Nat) (d : Device) : Device :=
  let r := kv d ctx .ramp
  let step := F32.div (gfkDt d inp) (kparF d ctx 0x63B 1000)
  let one := F32.ofInt 1
  let s := kstate d ctx
  let d := if s = 3 ∨ s = 4 ∨ s = 5 then kset d ctx .ramp (F32.min one (F32.add r step)) else d
  let d := kset d ctx .vOfs (if s = 6 then slew32 (kv d ctx .vOfs) 0 (trimStep d ctx inp) else 0)
  let r := kv d ctx .ramp
  let e := match s with
    | 3 => F32.mul r (eDroop d ctx)
    | 4 | 5 => F32.mul r (kv d ctx .gMag)
    | _ => F32.add (eDroop d ctx) (kv d ctx .vOfs)
  let lim := kn d ctx .vdcP != 255
  let top := gfkEmax d ctx inp
  let d := ksetB d ctx .vdcLimit (lim && F32.lt top e)
  kset d ctx .e (F32.max 0 (if lim then F32.min top e else e))

/-- The references i_d, i_q, i_d−, i_q− before the limit (R165, R171). -/
def gfkRefs (d : Device) (ctx inp : Nat) : Word × Word × Word × Word :=
  let rv := kparF d ctx 0x616 10000
  let xv := kparF d ctx 0x617 10000
  let dv := F32.sub (kv d ctx .e) (kinVdq d ctx inp 0)
  let vq := kinVdq d ctx inp 1
  let z2 := F32.add (F32.mul rv rv) (F32.mul xv xv)
  let id := F32.div (F32.sub (F32.mul rv dv) (F32.mul xv vq)) z2
  let iq := F32.div (F32.sub (F32.neg (F32.mul xv dv)) (F32.mul rv vq)) z2
  let v := gfkVmag d ctx inp
  let kq := kparF d ctx 0x633 100
  let uv := kparF d ctx 0x630 1000
  let ov := kparF d ctx 0x631 1000
  let add := if kb d ctx .frt = false then 0
    else if F32.lt v uv then F32.neg (F32.mul kq (F32.sub uv v))
    else if F32.lt ov v then F32.mul kq (F32.sub v ov) else 0
  let y := kparF d ctx 0x618 100
  (id, F32.add iq add, F32.neg (F32.mul y (kinVdq d ctx inp 2)), F32.neg (F32.mul y (kinVdq d ctx inp 3)))

/-- The length of a vector. -/
def hyp32 (x y : Word) : Word := F32.sqrt (F32.add (F32.mul x x) (F32.mul y y))

/-- The references within I_lim (R167). -/
def gfkLimit (d : Device) (ctx : Nat) (i : Word × Word × Word × Word) : Word × Word × Word × Word :=
  let (id, iq, nd, nq) := i
  let lim := kparF d ctx 0x628 1000
  let sum := F32.add (hyp32 id iq) (hyp32 nd nq)
  if F32.lt lim sum = false then i
  else if kparN d ctx 0x629 = 0 then
    let k := F32.div lim sum
    (F32.mul k id, F32.mul k iq, F32.mul k nd, F32.mul k nq)
  else
    let iq' := F32.clamp (F32.neg lim) lim iq
    let top := F32.sqrt (F32.max 0 (F32.sub (F32.mul lim lim) (F32.mul iq' iq')))
    let id' := F32.clamp (F32.neg top) top id
    let left := F32.max 0 (F32.sub lim (hyp32 id' iq'))
    let n := hyp32 nd nq
    if F32.lt left n then
      let k := F32.div left n
      (id', iq', F32.mul k nd, F32.mul k nq)
    else (id', iq', nd, nq)

/-- The angle hold of R168 against the sum of the unclipped references, in RAMP and FORM. -/
def kholdTrack (ctx inp : Nat) (sum : Word) (d : Device) : Device :=
  let lim := kparF d ctx 0x628 1000
  let past := F32.lt lim sum
  let s := kstate d ctx
  let ang := Config.f32Atan2 (kinVdq d ctx inp 1) (kinVdq d ctx inp 0)
  let top := F32.ofRatio (kpar d ctx 0x62B * piNum) (180 * piDen)
  let d := ksetB d ctx .iLimit (past || kb d ctx .hold)
  if s ≠ 3 ∧ s ≠ 6 then ksetB (ksetB d ctx .hold false) ctx .holdMax false
  else if kb d ctx .hold then
    let below := F32.lt sum (F32.mul lim (kparF d ctx 0x62A 100))
    let n := if below then kn d ctx .holdCalls + 1 else 0
    if 1000000000 ≤ n * gfkT0 d inp * gfkFnom d ctx then
      ksetB (ksetB (ksetB (kset d ctx .omegaF (kv d ctx .omega)) ctx .hold false) ctx .holdMax false)
        ctx .iLimit false
    else ksetN d ctx .holdCalls n
  else if past then
    let dl := F32.neg ang
    let d := ksetB d ctx .holdMax (F32.lt top (F32.abs dl))
    ksetN (ksetB (kset d ctx .deltaHold (F32.clamp (F32.neg top) top dl)) ctx .hold true) ctx .holdCalls 0
  else d

/-- The terminal voltage's angle and frequency, from its rotation since the last call (R168). -/
def terminal (ctx inp : Nat) (d : Device) : Word × Word × Device :=
  let th := wrapPi (F32.add (kv d ctx .theta) (Config.f32Atan2 (kinVdq d ctx inp 1) (kinVdq d ctx inp 0)))
  let wb := F32.ofRatio (2 * piNum * gfkFnom d ctx : Nat) piDen
  let turn := wrapPi (F32.sub th (kv d ctx .thetaV))
  let nom := F32.mul wb (gfkDt d inp)
  let wv := if kb d ctx .seenV then F32.div turn nom else kv d ctx .omega
  (th, wv, ksetB (kset d ctx .thetaV th) ctx .seenV true)

/-- ω, ω_f and q_f advanced by one Euler step, by state (R163, R164, R168, R177). -/
def swing (ctx inp : Nat) (wv : Word) (d : Device) : Device :=
  let dt := gfkDt d inp
  let (p, q) := gfkPq d ctx inp
  let w := kv d ctx .omega
  let wf := kv d ctx .omegaF
  let td := kparF d ctx 0x612 1000
  let tq := kparF d ctx 0x615 1000
  let qf := kv d ctx .qF
  let s := kstate d ctx
  let d := if s = 3 ∨ s = 6 ∧ kb d ctx .frt = false then
      kset d ctx .qF (F32.add qf (F32.mul dt (F32.div (F32.sub q qf) tq))) else d
  let d := if s = 6 ∧ reconActive d ctx inp = false then
      kset d ctx .wOfs (slew32 (kv d ctx .wOfs) 0 (F32.mul (trimStep d ctx inp) (gfkMp d ctx))) else d
  if s = 4 ∨ s = 5 then
    let c := (syncPull d ctx .gAngle).1
    let fn := F32.ofInt (gfkFnom d ctx)
    let w' := F32.sub (kv d ctx .gFreq) (F32.div c fn)
    ksetB (kset (kset d ctx .omega w') ctx .omegaF w') ctx .fLimit false
  else if s = 3 ∨ s = 6 then
    if kb d ctx .hold then ksetB (kset d ctx .omega wv) ctx .fLimit false
    else
      let wset := F32.add (wSet d ctx) (if s = 6 then kv d ctx .wOfs else 0)
      let pset := F32.add (kparF d ctx 0x620 1000) (kv d ctx .trimP)
      let pref := F32.add pset (F32.div (F32.sub wset w) (gfkMp d ctx))
      let damp := F32.mul (kparF d ctx 0x611 10) (F32.sub w wf)
      let h2 := F32.mul (F32.ofInt 2) (kparF d ctx 0x610 100)
      let w' := F32.add w (F32.mul dt (F32.div (F32.sub (F32.sub pref p) damp) h2))
      let lo := F32.ofRatio 9 10
      let hi := F32.ofRatio 11 10
      let lim := F32.lt w' lo || F32.lt hi w'
      let d := ksetB (kset d ctx .omega (F32.clamp lo hi w')) ctx .fLimit lim
      kset d ctx .omegaF (F32.add wf (F32.mul dt (F32.div (F32.sub w wf) td)))
  else ksetB d ctx .fLimit false

/-- The phase references in `DATA` units from the dq references at an angle (R166). -/
def gfkAbc (d : Device) (ctx : Nat) (i : Word × Word × Word × Word) (th : Word) : List Int :=
  let (id, iq, nd, nq) := i
  let c := Config.f32Cos th
  let s := Config.f32Sin th
  let al := F32.add (F32.sub (F32.mul id c) (F32.mul iq s)) (F32.add (F32.mul nd c) (F32.mul nq s))
  let be := F32.add (F32.add (F32.mul id s) (F32.mul iq c)) (F32.sub (F32.mul nq c) (F32.mul nd s))
  let half := F32.mul (F32.ofRatio 1 2) al
  let r3 := F32.mul (F32.ofSqrtRatio 3 4) be
  let k := F32.div (F32.mul (gfkIb d ctx) (F32.ofInt 4194304)) (F32.ofInt (kn d ctx .iFs))
  [al, F32.sub r3 half, F32.neg (F32.add half r3)].map (fun x => F32.toFixed (F32.mul x k) 0)

/-- An angle in rad as a fraction of a turn. -/
def turnOf (th : Word) : Nat := (Int.emod (F32.toFixed (F32.div th twoPi32) 32) (2 ^ 32)).toNat

/-! ### Outputs (R159) -/

/-- `RUN` by state. -/
def kRunning (s : Nat) : Bool := s == 3 || s == 4 || s == 5 || s == 6

/-- The requests. -/
def gfkReq (d : Device) (ctx : Nat) : Nat :=
  (kRunning (kstate d ctx)).toNat + 2 * (kb d ctx .selv).toNat + 4 * (kb d ctx .close).toNat
    + 8 * (kb d ctx .open_).toNat + 16 * (kb d ctx .reconClose).toNat

/-- The status word. -/
def gfkStatus (d : Device) (ctx : Nat) : Nat :=
  kstate d ctx + 16 * (kb d ctx .fLimit).toNat
    + 2 ^ 8 * (kb d ctx .iLimit).toNat + 2 ^ 9 * (kb d ctx .holdMax).toNat + 2 ^ 10 * (kb d ctx .frt).toNat
    + 2 ^ 11 * (kb d ctx .vdcLimit).toNat + 2 ^ 12 * (kb d ctx .measOnce).toNat
    + 2 ^ 13 * (kb d ctx .trimLimit).toNat + 2 ^ 14 * (kb d ctx .syncWin).toNat
    + 2 ^ 15 * (kb d ctx .recon).toNat + 2 ^ 16 * kn d ctx .reason

/-- The output block written, with the references, the angle the cycle begins at, the power and the terminal
voltage. The call returns the status word in `busData`. -/
def gfkOut (ctx inp out : Nat) (iref : List Int) (th : Word) (d : Device) : Device :=
  let fn := F32.ofInt (gfkFnom d ctx)
  let freq := (F32.toFixed (F32.mul (kv d ctx .omega) fn) 16).toNat
  let idle := kstate d ctx = 0 ∨ kstate d ctx = 7
  let iref := if idle then [0, 0, 0] else iref
  let (p, q) := gfkPq d ctx inp
  let delta := F32.neg (Config.f32Atan2 (kinVdq d ctx inp 1) (kinVdq d ctx inp 0))
  let bytes :=
    iref.flatMap (fun z => bytesLE 4 (wordOfInt z).toNat)
    ++ bytesLE 4 freq ++ bytesLE 4 (turnOf th) ++ bytesLE 4 freq ++ bytesLE 4 (turnOf th)
    ++ bytesLE 4 (gfkReq d ctx) ++ bytesLE 4 (gfkStatus d ctx)
    ++ [p, q, gfkVmag d ctx inp, F32.mul (kv d ctx .omega) fn, kv d ctx .e, delta].flatMap
        (fun w => bytesLE 4 w.toNat)
  { putBytes d out bytes with busData := word (gfkStatus d ctx) |>.setWidth 64 }

/-- The law of one call in the state that its transitions left, and the outputs. A value that is not finite
trips the kernel (R172). -/
def gfkLaw (ctx inp out : Nat) (d : Device) : Device :=
  let d := ksetB d ctx .syncWin (kb d ctx .syncWin && (kstate d ctx = 4 || kstate d ctx = 5 || kb d ctx .recon))
  let d := eLaw ctx inp d
  let refs := gfkRefs d ctx inp
  let sum := F32.add (hyp32 refs.1 refs.2.1) (hyp32 refs.2.2.1 refs.2.2.2)
  let d := kholdTrack ctx inp sum d
  let (thv, wv, d) := terminal ctx inp d
  let held := kb d ctx .hold
  let th := if held then wrapPi (F32.add thv (kv d ctx .deltaHold)) else kv d ctx .theta
  let w := if held then wv else kv d ctx .omega
  let d := swing ctx inp wv d
  let wb := F32.ofRatio (2 * piNum * gfkFnom d ctx : Nat) piDen
  let adv := F32.mul (F32.mul (gfkDt d inp) wb) w
  let next := wrapPi (F32.add th adv)
  let mid := wrapPi (F32.add th (F32.mul (F32.ofRatio 3 2) adv))
  let i := gfkLimit d ctx refs
  let (p, q) := gfkPq d ctx inp
  let d := kset d ctx .theta next
  let d := if kstate d ctx = 3 ∧ F32.le (F32.ofInt 1) (kv d ctx .ramp) ∧ kb d ctx .vdcLimit = false
    then kset (kset (kForm ctx d) ctx .wOfs 0) ctx .vOfs 0 else d
  let values := [kv d ctx .e, sum, thv, wv, kv d ctx .omega, kv d ctx .omegaF, kv d ctx .qF, next, mid, i.1, i.2.1,
    i.2.2.1, i.2.2.2, p, q, kv d ctx .gMag, kv d ctx .gFreq, kv d ctx .gAngle]
  let d := if values.all F32.finite ∨ kstate d ctx = 7 then d else kTrip ctx 4 d
  gfkOut ctx inp out (gfkAbc d ctx i mid) next d

/-- One call of `gfk_step` (R163 to R181) with a command code. A trip comes before `STOP` (R181), `STOP` before the
other transitions. -/
def gfkCall (ctx inp out cmd : Nat) (d : Device) : Device :=
  let d := trims ctx inp (estimate ctx inp d)
  let d := measCheck ctx inp d
  let d := if kstate d ctx = 6 then frtTrack ctx inp d else d
  let r := if kstate d ctx = 6 then frtTrip d ctx inp else 0
  let d := if r ≠ 0 then kTrip ctx r d else d
  let d := kcommand ctx inp cmd d
  let s := kstate d ctx
  let h := field (kin d inp 0xC) 0 3
  let d := if s ≠ 0 ∧ s ≠ 7 ∧ (h = 2 ∨ h = 4) then kOff ctx 7 d else kmove ctx inp d
  let d := kreconnect ctx inp d
  let d := ksetB (ksetB d ctx .prevKf (kfOwn d inp)) ctx .prevKr (bit (kin d inp 8) 1)
  gfkLaw ctx inp out d

/-- The command of a call: that of its input block; where that is 0, the one the steward has placed for this T0
instance of the core that holds the kernel context (R348). DESIGN CHOICE: the spec gives that word no place in a
snapshot. -/
def gfkCmd (ctx inp : Nat) (d : Device) : Nat :=
  match memNat d (inp + 4) 4, d.loom.kernelNow with
  | 0, some k => if (d.loom.image.map (·.kctx)).getD 0 = ctx then k else 0
  | c, _ => c

/-- `gfk_step`: the call with the command of its input block. -/
def gfkStep (ctx inp out : Nat) (d : Device) : Device := gfkCall ctx inp out (gfkCmd ctx inp d) d

/-- `gfk_step` where its input block carries a command code. -/
def gfkCommand (code ctx inp out : Nat) (d : Device) : Device := gfkStep ctx inp out (putNat d (inp + 4) 4 code)

/-- `gfk_step` in a state, at the call at which a timer reaches its limit; otherwise that call does not come. -/
def gfkTimer (ctx inp out : Nat) (want : Device → Bool) (v : GfkVar) (lim : Device → Nat) (d : Device) : Device :=
  if want d then gfkStep ctx inp out (ksetN d ctx v (lim d)) else d

/-- `gfk_init` (R154, R155, R184): the state OFF, no request, the parameters marked R184 taken over; the result
is returned in `busData`. -/
def gfkInit (ctx : Nat) (d : Device) : Device :=
  let d := each GfkVar.all (fun d v => ksetN d ctx v 0) d
  let d := each gfkInitParams (fun d p => ksetN d ctx p.1 (kparN d ctx p.2)) d
  let d := kset (kset d ctx .omega (F32.ofInt 1)) ctx .omegaF (F32.ofInt 1)
  let ch (v : GfkVar) (n : Nat) : List Nat :=
    let c := kn d ctx v
    if c = 255 then [] else (List.range n).map (c + ·)
  let used := ch .vcCh 3 ++ ch .iCh 3 ++ ch .vgCh 3 ++ ch .vrCh 3 ++ ch .vdcP 1 ++ ch .vdcN 1
  let missing := kn d ctx .vcCh == 255 || kn d ctx .iCh == 255 || kn d ctx .vgCh == 255
    || (kn d ctx .vdcP != 255 && kn d ctx .vdcN == 255)
  let code := if kn d ctx .harness = 15 then 1 else if missing then 2
    else if used.eraseDups.length < used.length then 3 else 0
  { d with busData := BitVec.ofNat 64 code }

/-! ### The commands -/

/-- `DEAD_BUS_TIMER_EXPIRY` (R172, R176). -/
def gfkDeadExpiry (ctx inp out : Nat) (d : Device) : Device :=
  gfkTimer ctx inp out (fun d => kstate d ctx == 1) .deadNs
    (fun d => 1000000 * (kparN d ctx 0x63D + kparN d ctx 0x639 * kparN d ctx 0x63A)) d

/-- `LIVE_BUS_TIMER_EXPIRY` (R172). -/
def gfkLiveExpiry (ctx inp out : Nat) (d : Device) : Device :=
  gfkTimer ctx inp out (fun d => kstate d ctx == 1) .liveNs (fun d => kms d ctx 0x63F) d

/-- `SYNC_HOLD_EXPIRY` (R177, R178). -/
def gfkSyncExpiry (ctx inp out : Nat) (d : Device) : Device :=
  gfkTimer ctx inp out (fun d => kstate d ctx == 4 || (kstate d ctx == 6 && kb d ctx .recon)) .syncNs
    (fun d => kms d ctx 0x663) d

/-- `CLOSE_TIMEOUT` (R172). -/
def gfkCloseExpiry (ctx inp out : Nat) (d : Device) : Device :=
  gfkTimer ctx inp out (fun d => kstate d ctx == 2 || kstate d ctx == 5) .stateNs (fun d => kms d ctx 0x668) d

/-- `SYNC_TIMEOUT` (R172). -/
def gfkSyncTimeout (ctx inp out : Nat) (d : Device) : Device :=
  gfkTimer ctx inp out (fun d => kstate d ctx == 4) .stateNs (fun d => 1000 * kms d ctx 0x667) d

/-- `RAMP_COMPLETE` (R175): the call at which r reaches 1. -/
def gfkRampEnd (ctx inp out : Nat) (d : Device) : Device :=
  gfkTimer ctx inp out (fun d => kstate d ctx == 3) .ramp (fun _ => (F32.ofInt 1).toNat) d

/-- `FRT_RECOVER_EXPIRY` (R169). -/
def gfkFrtExpiry (ctx inp out : Nat) (d : Device) : Device :=
  gfkTimer ctx inp out (fun d => kb d ctx .frt) .frtIn (fun d => kms d ctx 0x632) d

/-- `CURRENT_LIMIT_HOLD_EXIT` (R168). -/
def gfkHoldExit (ctx inp out : Nat) (d : Device) : Device :=
  gfkTimer ctx inp out (fun d => kb d ctx .hold) .holdCalls (fun d => 1000000000 / (gfkT0 d inp * gfkFnom d ctx) + 1) d

/-- `RECON_DELAY_EXPIRY` (R178). -/
def gfkReconExpiry (ctx inp out : Nat) (d : Device) : Device :=
  gfkTimer ctx inp out (fun d => kb d ctx .recon) .reconNs (fun d => 1000 * kms d ctx 0x669) d

end Sys2Proof.Machine
end

