-- ==== Sys2Proof/Machine/Resampler.lean ====
section
/-! DEFINITION. The resampler: timebase, lock, lanes, cycle boundaries and coefficient banks (R82 to
R94). -/

namespace Sys2Proof.Machine

open Sys2Proof

/-! ### Terminal instants (R83, R462) -/

/-- The typical front end of a channel in 50 ps units (R462). -/
def frontEnd (d : Device) (c : Nat) : Nat :=
  if c < 12 then 2584
  else if external d c then 872 + 32 * rdF d Addr.MOD_EXT_CFG 4 3
  else 1984

/-- The Ialos time in ns of an instant, which may lie before the counter's last setting. -/
def ialosAt (d : Device) (t : Int) : Nat :=
  (d.time.ns + floorDiv (64 * d.time.frac + (t - d.time.at50) * d.time.inc) (2 ^ 39)).toNat

/-- The channel whose front end the timebase allows for: that of the measuring lane (DEDUCED: twelve lanes
share one timebase and the spec says 'the lane's channel'). -/
def rsmChan (d : Device) : Nat := rdF d (Addr.RSM_LANE (rdF d Addr.RSM_CFG 4 4)) 0 8

/-- The terminal instant that an output at a position describes (R83): after the group delay of 15.5 input
periods, the precision path, its calibration stage and the front end. -/
def rsmTerminal (d : Device) (pos : Nat) : Int :=
  (((d.clock.firstLock).getD 0 : Nat) : Int) + (pos / 2 ^ 14 : Nat) - (4063232 + 556416 + 512 + frontEnd d (rsmChan d) : Nat)

/-! ### Source, frequency and angle (R84, R85) -/

/-- The lock source; 0b11 acts as 1. -/
def rsmSource (d : Device) : Nat :=
  let s := rdF d Addr.RSM_CFG 1 2
  if s = 3 then 1 else s

/-- The source frequency, Q16.16 Hz. -/
def rsmSourceFreq (d : Device) : Nat :=
  match rsmSource d with
  | 0 => rdN d Addr.RSM_FNOM
  | 1 => rdN d Addr.RSM_KFREQ
  | _ => if d.rsm.measFreq = 0 then rdN d Addr.RSM_FNOM else d.rsm.measFreq

/-- A frequency limited to 45 to 65 Hz. -/
def rsmLimit (f : Nat) : Nat := clampN (45 * 65536) (65 * 65536) f

/-- The target's angle at a position, as a fraction of a turn over 2^32; zero where the source gives no
target. -/
def rsmAngle (d : Device) (pos : Nat) : Nat :=
  match rsmSource d with
  | 0 => 0
  | 1 =>
    match d.rsm.kfreqAt with
    | some tc =>
      (Int.emod (rdN d Addr.RSM_KANGLE
        + floorDiv ((rsmTerminal d pos - tc) * (rdN d Addr.RSM_KFREQ : Int) * 65536) 20000000000) (2 ^ 32)).toNat
    | none => 0
  | _ =>
    match d.rsm.crossings with
    | x :: _ =>
      (Int.emod (floorDiv (((pos : Int) - x - 15 * 2 ^ 32 - 2 ^ 31) * (rsmSourceFreq d : Int)) (64 * 78125000))
        (2 ^ 32)).toNat
    | [] => 0

/-- ρ for a frequency and a phase correction, in Q4.32, to the nearest unit. -/
def rsmRatio (f : Nat) (c : Int) : Nat :=
  (roundDiv (78125000 * 2 ^ 29 * (65536 - c)) (65536 * max 1 f)).toNat

/-- Whether every output carries `FREF`: the source held or out of range. -/
def rsmFref (d : Device) : Bool :=
  rsmSource d != 0 && (rdB d Addr.RSM_STAT 2 || rdB d Addr.RSM_STAT 1)

/-- `LOCK`: always with source 0; else after four boundaries without a step while `FREF` is clear. -/
def rsmShowLock (d : Device) : Device :=
  wrB d Addr.RSM_STAT 0 (rsmSource d == 0 || (decide (4 ≤ d.rsm.goodCycles) && !rsmFref d))

/-! ### Lanes (R82, R86) -/

/-- The outputs of every lane are unsettled while their window reaches a word taken so far (R86). -/
def rsmUnsettle (d : Device) : Device :=
  { d with rsm := { d.rsm with lanes := d.rsm.lanes.map (fun l => { l with since := d.rsm.newest + 1 }) } }

/-- Coefficient `k` of branch `b` of a bank, Q1.15 (R87). -/
def rsmCoef (d : Device) (bankB : Bool) (b k : Nat) : Int :=
  let i := 32 * b + k
  let a := if bankB then Addr.RSM_COEF_B (i / 2) else Addr.RSM_COEF_A (i / 2)
  signed 16 (rdF d a (16 * (i % 2)) 16)

/-- One branch of a bank applied to the window that ends at word `n`, in units of 2^-15. -/
def rsmBranch (d : Device) (l : Lane) (bankB : Bool) (n b : Nat) : Int :=
  ((List.range 32).map (fun k =>
    match Sparse.find (n - k) l.words with
    | some w => if k ≤ n then rsmCoef d bankB b k * dataOf w else 0
    | none => 0)).sum

/-- A bank applied at a position, in units of 2^-40 of `DATA`: the branch of the top 7 fraction bits and the
next, weighted by the lower 25. -/
def rsmBank (d : Device) (l : Lane) (bankB : Bool) (pos : Nat) : Int :=
  let n := pos / 2 ^ 32
  let b := pos / 2 ^ 25 % 128
  let w := pos % 2 ^ 25
  let next := if b = 127 then rsmBranch d l bankB (n + 1) 0 else rsmBranch d l bankB n (b + 1)
  rsmBranch d l bankB n b * (2 ^ 25 - w : Nat) + (if w = 0 then 0 else next * w)

/-- The newest word that an output at a position needs: where the interpolation moves the window on, the
word after ⌊t⌋ (DEDUCED from R82). -/
def rsmNeeds (pos : Nat) : Nat :=
  pos / 2 ^ 32 + (if pos / 2 ^ 25 % 128 = 127 ∧ pos % 2 ^ 25 ≠ 0 then 1 else 0)

/-- The output word of a lane at the present position and the unit (R75, R82, R86, R87). -/
def rsmLaneOut (d : Device) (l : Fin 12) (soc : Bool) : Device :=
  if rdF d (Addr.RSM_LANE l.1) 0 8 = 0xFF then d
  else
    let r := d.rsm
    let lane := r.lanes[l.1]
    let n := r.pos / 2 ^ 32
    let window := lane.words.filter (fun p => decide (p.1 ≤ n ∧ n ≤ p.1 + 31))
    let any (i : Nat) : Bool := window.any (fun p => bit p.2 i)
    let active := rdB d Addr.RSM_COEF_CTRL 1
    let old := rsmBank d lane active r.pos
    let y :=
      if rdB d Addr.RSM_COEF_CTRL 2 then
        let k := r.fadeLen - r.fadeLeft + 1
        roundDiv (old * (r.fadeLen - k : Nat) + rsmBank d lane (!active) r.pos * k) (2 ^ 40 * max 1 r.fadeLen)
      else roundDiv old (2 ^ 40)
    let inv := any 31
    let v := if inv then 0 else clampI (-dataMax) dataMax y
    let clipped := decide (v ≠ y) && !inv
    let d := match clipped, fin? 32 (rdF d (Addr.RSM_LANE l.1) 0 8) with
      | true, some c => count (wrB d Addr.DEC_CLIP c.1 true) Addr.DEC_CLIP_CNT
      | _, _ => d
    let uns := any 29 || decide (n < lane.since + 31)
    wr d (Addr.RSM_WIN l.1 (rdN d Addr.RSM_OUT_CNT % 256))
      (formatWord inv (any 30) uns (clipped || any 28) ((rsmFref d).toNat * 8 + soc.toNat) v)

/-- An output of every lane at the present position; the position moves on by ρ (R82, R91). -/
def rsmEmit (d : Device) (soc : Bool) : Device :=
  let d := each (List.finRange 12) (fun d l => rsmLaneOut d l soc) d
  let d := countWrap d Addr.RSM_OUT_CNT Addr.RSM_OUT_WRAP
  { d with rsm := { d.rsm with
      pos := d.rsm.pos + d.rsm.ratio, index := (d.rsm.index + 1) % 512,
      fadeLeft := d.rsm.fadeLeft - 1 } }

/-! ### Cycle boundaries (R83, R85) -/

/-- The timebase put in force at a boundary: the frequency, ρ, and the two registers that show them. -/
def rsmSetFreq (d : Device) (f : Nat) (c : Int) : Device :=
  let ratio := rsmRatio f c
  wr64 (wrN { d with rsm := { d.rsm with ratio := ratio } } Addr.RSM_FREQ f) Addr.RSM_RATIO_LO ratio

/-- A cycle starts at the present output. -/
def rsmStart (d : Device) : Device :=
  let d := countWrap d Addr.RSM_CYC_CNT Addr.RSM_CYC_WRAP
  let d := wr64 d Addr.RSM_SOC_TIME_LO (ialosAt d (rsmTerminal d d.rsm.pos))
  rsmShowLock { d with rsm := { d.rsm with goodCycles := d.rsm.goodCycles + 1 } }

/-- The cycle is cut short by a step: this output is its last, and outputs pause (R85). -/
def rsmStep (d : Device) (t : Nat) : Device :=
  let d := rsmEmit d false
  let d := { d with rsm := { d.rsm with index := 0, goodCycles := 0, paused := true, srcChange := false } }
  let d := rsmUnsettle (wrB (wrB d Addr.RSM_STAT 3 true) Addr.RSM_STAT 0 (rsmSource d == 0))
  recEvent 4 (count d Addr.RSM_STEP_CNT) 0x31 t

/-- The output with index 0: the boundary is evaluated, and it starts a cycle or ends the present one by a
step. -/
def rsmBoundary (d : Device) (t : Nat) : Device :=
  let src := rsmSource d
  let f := rsmSourceFreq d
  let held := rdB d Addr.RSM_STAT 2 && src != 0
  if d.rsm.srcChange then rsmStep d t
  else if src = 0 then rsmEmit (rsmStart (rsmSetFreq d (rsmLimit f) 0)) true
  else if held then
    let d := if d.rsm.ratio = 0 then rsmSetFreq d (rsmLimit f) 0
      else rsmSetFreq d (rdN d Addr.RSM_FREQ) 0
    rsmEmit (rsmStart d) true
  else
    let e := signed 16 ((rsmAngle d d.rsm.pos + 32768) / 65536)
    let lim := rdF d Addr.RSM_LIM 0 16
    let slew : Nat := rdF d Addr.RSM_LIM 16 16
    if lim < e.natAbs then rsmStep d t
    else
      let d := wrB d Addr.RSM_STAT 1 (decide (rsmLimit f ≠ f))
      rsmEmit (rsmStart (rsmSetFreq d (rsmLimit f) (clampI (-slew) slew e))) true

/-- The resampler computes one output per lane at the next position (R82), where its window is complete
and outputs are not paused. -/
def rsmOutput (t : Nat) (d : Device) : Device :=
  if rdB d Addr.RSM_CFG 0 && !d.rsm.paused && decide (rsmNeeds d.rsm.pos ≤ d.rsm.newest) then
    if d.rsm.index = 0 then rsmBoundary d t else rsmEmit d false
  else d

/-- The first position from the present one at which the target's angle is zero; the present one where the
source gives no target. -/
def rsmNextZero (d : Device) : Nat :=
  let a := rsmAngle d d.rsm.pos
  let f := rsmLimit (rsmSourceFreq d)
  d.rsm.pos + (roundDiv (((2 ^ 32 - a) % 2 ^ 32 : Nat) * (64 * 78125000)) (max 1 f)).toNat

/-- The pause ends at the target's next zero: a new cycle starts there (R85). -/
def rsmPauseEnd (t : Nat) (d : Device) : Device :=
  let z := if rdB d Addr.RSM_STAT 2 then d.rsm.pos else rsmNextZero d
  if rdB d Addr.RSM_CFG 0 && d.rsm.paused && decide (rsmNeeds z ≤ d.rsm.newest) then
    rsmOutput t (wrB { d with rsm := { d.rsm with paused := false, pos := z, index := 0 } } Addr.RSM_STAT 3 false)
  else d

/-! ### The source held (R84) -/

/-- Two periods of the present cycle in 50 ps units. -/
def rsmTwoCycles (d : Device) : Nat :=
  let ratio := if d.rsm.ratio = 0 then rsmRatio (rsmLimit (rdN d Addr.RSM_FNOM)) 0 else d.rsm.ratio
  1024 * ratio / 2 ^ 14

/-- The measuring lane's amplitude is below 5 % of nominal full scale: its largest magnitude over the last
cycle. -/
def rsmWeak (d : Device) : Bool := decide (20 * max d.rsm.peak d.rsm.peakWas < 4194304)

/-- Whether the last word of the measuring lane carries `INV`, or it has taken none. -/
def rsmMeasInvalid (d : Device) : Bool :=
  match fin? 12 (rdF d Addr.RSM_CFG 4 4) with
  | some l => match (d.rsm.lanes[l.1]).words with
    | p :: _ => bit p.2 31
    | [] => true
  | none => true

/-- The lock source is held where its condition holds: `LOCK` clears and outputs carry `FREF`. -/
def rsmHold (t : Nat) (d : Device) : Device :=
  let lost := match rsmSource d with
    | 0 => false
    | 1 => match d.rsm.kfreqAt with
      | some c => decide (c + rsmTwoCycles d ≤ t)
      | none => true
    | _ => rsmMeasInvalid d || rsmWeak d
  if rdB d Addr.RSM_CFG 0 && lost then
    wrB (wrB { d with rsm := { d.rsm with goodCycles := 0 } } Addr.RSM_STAT 2 true) Addr.RSM_STAT 0 false
  else d

/-- A kernel frequency committed at `t` (R84, R89): its use begins at the next boundary, and source 1 is no
longer held. -/
def rsmCommit (d : Device) (t : Nat) : Device :=
  let d := { d with rsm := { d.rsm with kfreqAt := some t } }
  if rsmSource d = 1 then wrB d Addr.RSM_STAT 2 false else d

/-! ### Precision words taken in (R82, R84) -/

/-- The measuring lane's word taken for crossings and amplitude (R84). -/
def rsmMeasure (d : Device) (prev : Option (Nat × Word)) (k : Nat) (w : Word) : Device :=
  let x := dataOf w
  let r := d.rsm
  let cross := match prev with
    | some (j, v) =>
      if j + 1 = k ∧ bit v 31 = false ∧ bit w 31 = false ∧ dataOf v < 0 ∧ 0 ≤ x then
        some (j * 2 ^ 32 + (roundDiv ((-dataOf v) * 2 ^ 32) (max 1 (x - dataOf v).toNat)).toNat)
      else none
    | none => none
  let r := match cross with
    | some z =>
      let cs := (z :: r.crossings).take 17
      let n := rdF d Addr.RSM_CFG 8 4 + 1
      let f := match cs[n]? with
        | some z0 => (roundDiv (n * 78125000 * 64 * 2 ^ 32 : Nat) (max 1 (z - z0))).toNat
        | none => r.measFreq
      { r with crossings := cs, measFreq := f, peakWas := r.peak, peak := x.natAbs }
    | none => { r with peak := max r.peak x.natAbs }
  let d := { d with rsm := r }
  if rsmSource d = 2 ∧ bit w 31 = false ∧ rsmWeak d = false then wrB d Addr.RSM_STAT 2 false else d

/-- A precision word of a channel, with output number `k`, taken by the lanes that name the channel. -/
def rsmTake (d : Device) (c : Fin 32) (k : Nat) (w : Word) : Device :=
  let d := { d with rsm := { d.rsm with newest := max d.rsm.newest k } }
  each (List.finRange 12) (fun d l =>
    if rdB d Addr.RSM_CFG 0 && rdF d (Addr.RSM_LANE l.1) 0 8 == c.1 then
      let lane := d.rsm.lanes[l.1]
      let d := { d with rsm := { d.rsm with
        lanes := upd d.rsm.lanes l (fun a => { a with words := ((k, w) :: a.words).take 48 }) } }
      if rdF d Addr.RSM_CFG 4 4 = l.1 then rsmMeasure d lane.words.head? k w else d
    else d) d

/-! ### Coefficient banks (R87, R88) -/

/-- The bytes of a bank. -/
def rsmBankBytes (d : Device) (bankB : Bool) : List Byte :=
  (List.range 2048).flatMap (fun i =>
    bytesLE 4 (rdN d (if bankB then Addr.RSM_COEF_B i else Addr.RSM_COEF_A i)))

/-- The CRC register of a bank follows its contents. -/
def rsmShowCrc (d : Device) (bankB : Bool) : Device :=
  wrN d (if bankB then Addr.RSM_COEF_CRCB else Addr.RSM_COEF_CRCA) (crc32c (rsmBankBytes d bankB))

/-- A bank may be written while it is not in use and no cross-fade runs. -/
def rsmBankOpen (d : Device) (bankB : Bool) : Bool :=
  !rdB d Addr.RSM_COEF_CTRL 2 && rdB d Addr.RSM_COEF_CTRL 1 != bankB

/-- The cross-fade begins: outputs are unsettled from here (R86, R87). -/
def rsmFade (d : Device) : Device :=
  let n := clampN 16 4096 (rdN d Addr.RSM_XFADE)
  rsmUnsettle (wrB { d with rsm := { d.rsm with switchReq := false, fadeLen := n, fadeLeft := n } }
    Addr.RSM_COEF_CTRL 2 true)

/-- Writing `SWITCH` (R87): refused and counted during a fade or where the new bank's CRC does not match;
else the fade begins with the first output after the next T0 boundary, or at once. -/
def rsmSwitch (d : Device) : Device :=
  let new := !rdB d Addr.RSM_COEF_CTRL 1
  let crc := rd d (if new then Addr.RSM_COEF_CRCB else Addr.RSM_COEF_CRCA)
  if rdB d Addr.RSM_COEF_CTRL 2 || crc != rd d Addr.RSM_COEF_EXP then count d Addr.RSM_XF_REFUSED_CNT
  else if loomMode d = .run then { d with rsm := { d.rsm with switchReq := true } }
  else rsmFade d

/-- What a T0 boundary does to a requested switch. -/
def rsmBoundaryT0 (d : Device) : Device := if d.rsm.switchReq then rsmFade d else d

/-- After `RSM_XFADE` outputs the fade ends and the new bank is in use. -/
def rsmFadeEnd (d : Device) : Device :=
  if rdB d Addr.RSM_COEF_CTRL 2 && d.rsm.fadeLeft == 0 then
    wrB (wrB d Addr.RSM_COEF_CTRL 2 false) Addr.RSM_COEF_CTRL 1 (!rdB d Addr.RSM_COEF_CTRL 1)
  else d

/-! ### Changes of configuration (R86, R89, R94) -/

/-- The resampler starts with no output counted, its lanes cleared; with a source that has a target it seeks
the target's first zero. -/
def rsmEnable (d : Device) : Device :=
  let d := clearCount (wrN d Addr.RSM_OUT_CNT 0) Addr.RSM_OUT_WRAP
  let seek := rsmSource d != 0
  let d := { d with rsm := { d.rsm with
    pos := (d.rsm.newest + 1) * 2 ^ 32, index := 0, goodCycles := 0, paused := seek, srcChange := false,
    crossings := [], peak := 0, peakWas := 0, measFreq := 0, kfreqAt := none,
    lanes := d.rsm.lanes.map (fun _ => { words := [], since := d.rsm.newest + 1 }) } }
  wrN d Addr.RSM_STAT (seek.toNat * 8 + (!seek).toNat)

/-- The lanes and the timebase after a transfer that found `old` in force: enabling, disabling, a lane whose
channel changed, a source change. -/
def rsmTransfer (old d : Device) : Device :=
  let was := rdB old Addr.RSM_CFG 0
  let is := rdB d Addr.RSM_CFG 0
  if is && !was then rsmEnable d
  else if !is && was then wrN { d with rsm := { d.rsm with paused := false } } Addr.RSM_STAT 0
  else
    let d := each (List.finRange 12) (fun d l =>
      if rd old (Addr.RSM_LANE l.1) = rd d (Addr.RSM_LANE l.1) then d
      else { d with rsm := { d.rsm with
        lanes := upd d.rsm.lanes l (fun _ => { words := [], since := d.rsm.newest + 1 }) } }) d
    if rsmSource old = rsmSource d then d else { d with rsm := { d.rsm with srcChange := true } }

end Sys2Proof.Machine
end

