-- ==== Sys2Proof/Machine/Measure.lean ====
section
/-! DEFINITION. The housekeeping converter, its monitors, and what a medium and a precision word of a channel
set off in every block that takes it (R53 to R60, R72, R405). -/

namespace Sys2Proof.Machine

open Sys2Proof

/-! ### Supply and reference monitors (R405) -/

/-- The limits of a supply input in µV; none for the references. -/
def supplyLimits (i : Nat) : Option (Int × Int) :=
  match i with
  | 24 => some (9000000, 16000000)
  | 25 => some (2500000, 3600000)
  | 26 => some (760000, 840000)
  | 27 => some (1710000, 1890000)
  | 28 => some (3135000, 3465000)
  | 29 => some (1045000, 1155000)
  | 30 => some (570000, 630000)
  | 31 => some (855000, 945000)
  | 32 => some (760000, 840000)
  | 33 => some (1140000, 1260000)
  | 34 => some (4750000, 5250000)
  | 35 => some (4750000, 5250000)
  | 36 => some (3135000, 3465000)
  | 37 => some (3135000, 3465000)
  | 38 => some (1710000, 1890000)
  | 39 => some (1710000, 1890000)
  | 42 => some (-50, 50)
  | 43 => some (1249375, 1250625)
  | _ => none

/-- The latest regular code of an input. -/
def hkCode (d : Device) (i : Nat) : Nat := rdF d (Addr.HK_RESULT i) 0 20

/-- Whether a result of a monitored input lies within its limits; the two bandgaps are judged by their
difference against 0.20 %. -/
def monInside (d : Device) (i : Nat) : Bool :=
  let v (j : Nat) : Int := Config.inputMicrovolt j (hkCode d j)
  match supplyLimits i with
  | some (lo, hi) => decide (lo ≤ v i ∧ v i ≤ hi)
  | none => if i = 40 ∨ i = 41 then decide ((v 40 - v 41).natAbs * 500 ≤ (v 40).natAbs) else true

/-- A regular result of a monitored input judged: two consecutive results against the present state declare or
end an excursion. -/
def monitor (d : Device) (i : Nat) : Device :=
  if 24 ≤ i ∧ i < 44 then
    let out := rdB d Addr.PWR_MON_FLT (i - 24)
    let against := out == monInside d i
    let run := if against then (Sparse.find i d.power.monRun).getD 0 + 1 else 0
    let set (d : Device) (n : Nat) : Device :=
      { d with power := { d.power with monRun := Sparse.write 0 d.power.monRun i n } }
    if 2 ≤ run then
      let d := raise (wrB (set d 0) Addr.PWR_MON_FLT (i - 24) (!out)) (if out then .monitorEnd else .monitor) i
      if i = 32 ∧ out = false then ledgerSupply d else d
    else set d run
  else d

/-! ### Conversions (R54 to R59) -/

/-- The regular sequence as configured. -/
def hkSequence (d : Device) : List Nat :=
  (List.range (clampN 1 64 (rdF d Addr.HK_CFG 8 7))).map (fun k =>
    rdF d (Addr.HK_SEQ (k / 4)) (8 * (k % 4)) 6)

/-- The converter's next conversion once it is free: the queued sequence, a reading that the calibration engine
wants, the round in progress, a round that waits, or none (R55, R57, R58, R63). -/
def hkNext (d : Device) : Device :=
  if rdB d Addr.HK_STAT 7 then
    let seq := d.hk.queuedList
    hkStartInjected { wrB d Addr.HK_STAT 7 false with hk := { d.hk with queuedList := [] } } false seq
  else if d.cal.wants then hkStartInjected d true [calEntry d - 64]
  else if d.hk.inRound then
    hkBegin { d with hk := { d.hk with regular := true } } 1 ((d.hk.seq[d.hk.slot]?).getD 0) d.hk.slot
  else if d.hk.roundWaits then
    let seq := hkSequence d
    let d := { d with hk := { d.hk with
      seq := seq, slot := 0, inRound := true, regular := true, roundWaits := false, calRound := d.hk.calLoaded } }
    hkBegin d 1 (seq.headD 0) 0
  else hkShow d 0 0 0x7F

/-- The calibration engine's wish for a reading served at once where the converter allows it. -/
def hkWanted (d : Device) : Device :=
  if d.cal.wants && d.hk.injected.isNone then
    if d.hk.regular then (if rdB d Addr.HK_CFG 1 then hkAbort d true [calEntry d - 64] else d)
    else hkNext d
  else d

/-- A calibrated code (R62): y = (x + offset) × gain, limited to the code's range. -/
def hkCalibrated (d : Device) (i code : Nat) : Nat :=
  let x := (code : Int) * 1024 + rdI d (Addr.HK_CAL_OFF i)
  (clampI 0 0xFFFFF (roundDiv (x * rdN d (Addr.HK_CAL_GAIN i)) (2 ^ 40))).toNat

/-- Whether an NTC code counts as open or short (R59). -/
def hkBroken (d : Device) (i code : Nat) : Bool :=
  decide (i < 16) && (decide (rdF d Addr.HK_NTC_LIM 16 12 < code / 256) || decide (code / 256 < rdF d Addr.HK_NTC_LIM 0 12))

/-- The result word of a conversion (R60). -/
def hkWord (d : Device) (i code : Nat) : Nat :=
  2 ^ 31 + d.hk.lowPower.toNat * 2 ^ 29 + (hkBroken d i code).toNat * 2 ^ 28
    + rdN d Addr.HK_ROUND_CNT % 256 * 2 ^ 20 + code

/-- A regular round is complete. -/
def hkRoundComplete (d : Device) : Device :=
  let d := countWrap d Addr.HK_ROUND_CNT Addr.HK_ROUND_WRAP
  let good := d.hk.calRound && (List.range 6).all (fun k => !rdB d Addr.PWR_MON_FLT (2 + k))
  { d with hk := { d.hk with inRound := false }, therm := { d.therm with roundEnd := true },
           power := { d.power with monRoundOk := d.power.monRoundOk || good } }

/-- A conversion completes with a raw 20-bit code: its result is stored, converted and monitored, and the next
conversion starts. -/
def hkDone (raw t : Nat) (d : Device) : Device :=
  let raw := raw % 2 ^ 20
  if rdB d Addr.HK_CFG 0 = false then d
  else match d.hk.injected with
    | some j =>
      let i := (d.hk.injList[j]?).getD 0
      let code := hkCalibrated d i raw
      let d := thConvert (wrN d (Addr.HK_INJ_RESULT j) (hkWord d i code)) i code
      let d := if d.hk.calRun then calTake d (64 + i) (raw * 1024 : Nat) false false else d
      match d.hk.injList[j + 1]? with
      | some i' => hkBegin { d with hk := { d.hk with injected := some (j + 1) } } 2 i' 0x7F
      | none => hkNext { d with hk := { d.hk with injected := none, calRun := false } }
    | none =>
      if d.hk.regular then
        let i := (d.hk.seq[d.hk.slot]?).getD 0
        let code := hkCalibrated d i raw
        let d := wrN d (Addr.HK_RESULT i) (hkWord d i code)
        let d := { d with hk := { d.hk with lastDone := Sparse.insert i t d.hk.lastDone, regular := false } }
        let d := monitor (showStale (thConvert d i code)) i
        let d := if i = 44 ∧ rdF d Addr.SHED_GCFG 0 2 = 2 then gainSetp d false (8 * (code : Int) - 4194304) else d
        let d := { d with hk := { d.hk with slot := d.hk.slot + 1 } }
        hkNext (if d.hk.slot < d.hk.seq.length then d else hkRoundComplete d)
      else d

/-- A round tick (R55, R58): a round starts, or waits for the one in progress, which is then late, or for an
injected sequence. -/
def hkRoundTick (d : Device) : Device :=
  if rdB d Addr.HK_CFG 0 = false then d
  else
    let d := if d.hk.inRound then count d Addr.HK_ROUND_LATE_CNT else d
    let d := { d with hk := { d.hk with roundWaits := true } }
    if d.hk.inRound || d.hk.injected.isSome then d else hkNext d

/-- Two round periods in the mode in force (R59). -/
def hkTwoRounds (d : Device) : Nat := if rdB d Addr.HK_CFG 2 then ms 128 else ms 32

/-- An input without a completed conversion for two round periods is marked `STALE` (R59); an input in use is
counted and raised (R294), and input 44 loses the analogue set-point (R100). -/
def hkStale (i t : Nat) (d : Device) : Device :=
  let due := match Sparse.find i d.hk.lastDone with
    | some s => decide (s + hkTwoRounds d ≤ t)
    | none => true
  if i < 64 ∧ due = true ∧ rdB d (Addr.HK_RESULT i) 30 = false then
    let d := wrB d (Addr.HK_RESULT i) 30 true
    let d := if thInput d i then raise (count (wrB d Addr.TH_STAT 5 true) Addr.TH_STALE_CNT) .thermalStale i else d
    if i = 44 ∧ rdF d Addr.SHED_GCFG 0 2 = 2 then loseSetp d false else d
  else d

/-- The converter after a transfer that found `old` in force: disabled it stops, its results no longer valid
once it is enabled again (R60). -/
def hkTransfer (old d : Device) : Device :=
  let was := rdB old Addr.HK_CFG 0
  let is := rdB d Addr.HK_CFG 0
  if was && !is then
    let d := { d with hk := { d.hk with inRound := false, regular := false, injected := none, injList := [],
                                        queuedList := [], roundWaits := false, calRun := false } }
    hkShow (wrB d Addr.HK_STAT 7 false) 0 0 0x7F
  else if is && !was then
    let d := { d with hk := { d.hk with lastDone := [] } }
    let d := each (List.range 64) (fun d i => wrB d (Addr.HK_RESULT i) 31 false) d
    each (List.range 8) (fun d j => wrB d (Addr.HK_INJ_RESULT j) 31 false) d
  else d

/-! ### Words of the slower paths (R72) -/

/-- A medium word of a channel: the decomposers take it, and the thermal model its conduction losses. -/
def mediumWord (c : Fin 32) (t : Nat) (d : Device) : Device := conduction (mediumPath c t d) c.1

/-- A precision word of a channel: the ledger, the resampler's lanes and the calibration engine take it. -/
def precisionWord (c : Fin 32) (t : Nat) (d : Device) : Device :=
  let (w, raw, d) := precisionPath c t d
  let k := pathIndex d precisionPeriod t
  let d := rsmTake (ledgerWord d c k t) c k w
  calTake d c.1 raw (bit w 31 || bit w 30) (bit w 29)

/-- The end of a settling; a converter reading is served where one is wanted. -/
def calSettle (t : Nat) (d : Device) : Device := hkWanted (calSettled t d)

end Sys2Proof.Machine
end

