-- ==== Sys2Proof/Machine/Recorder.lean ====
section
/-! DEFINITION. The bobbins and their descriptors (R274 to R281) and the recorder engines (R263 to R273,
R282). -/

namespace Sys2Proof.Machine

open Sys2Proof

/-! ### Bobbins (R274 to R280) -/

/-- `BOB_STATb.STATE`. -/
def bobState (d : Device) (b : Nat) : Nat := rdF d (Addr.BOB_STAT b) 0 3

/-- `BOB_STATb.STATE`, written. -/
def setBobState (d : Device) (b s : Nat) : Device := wrF d (Addr.BOB_STAT b) 0 3 s

/-- A change of a bobbin's own state. -/
def updBob (d : Device) (b : Fin 16) (f : Bobbin → Bobbin) : Device := { d with bobs := upd d.bobs b f }

/-- Whether the steward sets up the ring of a bobbin (R274). -/
def bobSteward (b : Nat) : Bool := !(decide (2 ≤ b ∧ b ≤ 5) || b == 15)

/-- Whether a bobbin is enabled with both engines. -/
def bobOn (d : Device) (b : Nat) : Bool := rdB d (Addr.BOB_CFG b) 0 && rdB d Addr.DMA_CFG 0

/-- A halt (R280): its state, its address and the cause behind it. -/
def bobHalt (d : Device) (b : Fin 16) (state at' cause : Nat) : Device :=
  let d := wrF (setBobState d b.1 state) (Addr.BOB_STAT b.1) 4 4 cause
  wrN (wrB d Addr.DMA_INFLIGHT b.1 false) (Addr.BOB_HALT b.1) at'

/-- The ring walked from `cur` (R276): a link is followed, a held descriptor is taken in hand, one that
software holds leaves the bobbin waiting. `fuel` bounds the links, of which `BOB_LEN` allows at most 65 535. -/
def bobFetch (fuel : Nat) (d : Device) (b : Fin 16) (cur walk t : Nat) : Device :=
  match fuel with
  | 0 => d
  | fuel + 1 =>
    let d := wrF (wrN d (Addr.BOB_CUR b.1) cur) (Addr.BOB_STAT b.1) 16 16 walk
    let cause := dmaCause d (bobSteward b.1) false cur
    if cur % 32 ≠ 0 then bobHalt d b 3 cur 6
    else if cause ≠ 0 then bobHalt d b 3 cur cause
    else
      let ctrl := word (memNat d cur 4)
      if bit ctrl 30 then
        let next := memNat d (cur + 4) 4
        if next % 32 ≠ 0 then
          bobHalt (wrF (wrN d (Addr.BOB_CUR b.1) next) (Addr.BOB_STAT b.1) 16 16 (walk + 1)) b 3 next 6
        else if rdF d (Addr.BOB_LEN b.1) 0 16 < walk + 1 then
          bobHalt (wrF (wrN d (Addr.BOB_CUR b.1) next) (Addr.BOB_STAT b.1) 16 16 (walk + 1)) b 4 next 0
        else bobFetch fuel d b next (walk + 1) t
      else if bit ctrl 31 then
        let d := wrF d (Addr.BOB_STAT b.1) 16 16 (walk + 1)
        wrB (setBobState (updBob d b (fun p => { p with inHand := some cur })) b.1 1) Addr.DMA_INFLIGHT b.1 true
      else setBobState (updBob d b (fun p => { p with inHand := none, waitFrom := t })) b.1 2

/-- A descriptor's `LEN` and buffer address. -/
def descLen (d : Device) (desc : Nat) : Nat := memNat d desc 3

/-- A descriptor's buffer address. -/
def descAddr (d : Device) (desc : Nat) : Nat := memNat d (desc + 4) 4

/-- The second step of a return (R277) and what follows it: `OWN` cleared, the return counted, the interrupt
raised, and the next descriptor fetched or the bobbin stopped. -/
def bobNext (d : Device) (b : Fin 16) (desc t : Nat) : Device :=
  let ctrl := word (memNat d desc 4)
  let d := dmaPutNat d desc 4 (setBit ctrl 31 false).toNat
  let d := countWrap d (Addr.BOB_DONE_CNT b.1) (Addr.BOB_DONE_WRAP b.1)
  let d := if bit ctrl 29 then wrB d Addr.DMA_IRQ b.1 true else d
  let d := wrB (updBob d b (fun p => { p with inHand := none, retry := none })) Addr.DMA_INFLIGHT b.1 false
  if (d.bobs[b.1]).stopping ∨ bobOn d b.1 = false then
    wrN (setBobState (updBob d b (fun p => { p with stopping := false })) b.1 0) (Addr.BOB_CUR b.1) (desc + 32)
  else bobFetch 65536 d b (desc + 32) 0 t

/-- A descriptor returned with a status and the information word (R275, R277); `BAD` and `LATE` returns are
counted. A failure of the write-back halts the bobbin at the descriptor. -/
def bobReturn (d : Device) (b : Fin 16) (stat info t : Nat) : Device :=
  match (d.bobs[b.1]).inHand with
  | none => d
  | some desc =>
    let w := word stat
    let d := if bit w 30 then count d (Addr.BOB_BAD_CNT b.1) else d
    let d := if bit w 30 && field w 24 4 == 8 then count d (Addr.BOB_LATE_CNT b.1) else d
    let cause := dmaCause d (bobSteward b.1) true desc
    if cause ≠ 0 then bobHalt (updBob d b (fun p => { p with retry := some (stat, info) })) b 5 desc cause
    else bobNext (dmaPutNat (dmaPutNat (dmaPutNat d (desc + 16) 4 stat) (desc + 20) 4 info) (desc + 24) 8 (ialos d)) b desc t

/-- The status word of R275. -/
def retStat (bad untrusted : Bool) (cause count' : Nat) : Nat :=
  2 ^ 31 + bad.toNat * 2 ^ 30 + untrusted.toNat * 2 ^ 29 + cause * 2 ^ 24 + count' % 2 ^ 24

/-! ### What an engine records (R263 to R265) -/

/-- The list of an engine's sources, as far as the first 0xFFFF (R263). -/
def recSources (d : Device) (e : Nat) : List Nat :=
  ((List.range 32).map (fun s => rdF d (Addr.REC_SRC e s) 0 16)).takeWhile (· ≠ 0xFFFF)

/-- A source of a shed unit (R116). -/
def shedSource (d : Device) (u : Fin 24) (k : Nat) : Word :=
  let s := d.shed[u.1]
  match k with
  | 0 => wordOfInt s.refOut
  | 1 => wordOfInt s.injOut
  | 2 => wordOfInt s.measured
  | 3 => wordOfInt (match s.errors with | e :: _ => e.err | [] => 0)
  | 4 => word (rdF d (Addr.SHED_HNOW u.1) 0 22)
  | _ => word (rdF d (Addr.SHED_STAT u.1) 0 3 + 8 * s.lastTap)

/-- The latest word of a source (R264). -/
def recWord (d : Device) (v : Nat) : Word :=
  match v / 0x100 with
  | 0 => rd d (Addr.DEC_FAST v)
  | 1 => rd d (Addr.DEC_MED (v - 0x100))
  | 2 => rd d (Addr.DEC_PREC (v - 0x200))
  | 3 => rd d (Addr.RSM_WIN (v - 0x300) ((rdN d Addr.RSM_OUT_CNT + 255) % 256))
  | 4 => match fin? 24 ((v - 0x400) / 8) with
    | some u => shedSource d u (v % 8)
    | none => 0
  | 6 => if v < 0x620 then rd d (Addr.INT_OUT (v - 0x600))
         else rd d (Addr.DCMP_OUT ((v - 0x640) / 4) (v % 4))
  | 7 => rd d (Addr.HK_RESULT (v - 0x700))
  | 8 => rd d (Addr.GATE_CSTAT (v - 0x800))
  | 9 => rd d (Addr.REC_USER (v - 0x900))
  | _ => 0

/-- The time of a frame in ns (R265). -/
def recTime (d : Device) (e t : Nat) : Nat :=
  if rdF d (Addr.REC_CFG e) 0 3 = 3 then ialosAt d (rsmTerminal d (d.rsm.pos - d.rsm.ratio)) else d.time.read t

/-! ### Edge triggers (R268 to R270) -/

/-- A word of a source as a number to compare, and whether it takes part: R75 words by their `DATA`, binary32
by its value in units of 2^-149, others as signed words. -/
def recValue (src : Nat) (w : Word) : Option Int :=
  if src < 0x400 then (if bit w 31 then none else some (dataOf w))
  else if 0x600 ≤ src ∧ src < 0x620 then
    (if F32.finite w then some (F32.smant w * 2 ^ (F32.expo w + 149).toNat) else none)
  else some w.toInt

/-- The engine's level and hysteresis in the units of its trigger source. -/
def recLevel (d : Device) (e src : Nat) : Int × Int :=
  if 0x600 ≤ src ∧ src < 0x620 then
    ((recValue src (rd d (Addr.REC_LEVEL e))).getD 0, (recValue src (rd d (Addr.REC_HYST e))).getD 0)
  else (rdI d (Addr.REC_LEVEL e), rdN d (Addr.REC_HYST e))

/-- F of an edge trigger between two values (R270). -/
def recFraction (prev : Option Int) (x l : Int) : Nat :=
  match prev with
  | some y =>
    let den := x - y
    if den = 0 then 256
    else clampN 1 256 (if 0 < den then roundDiv (256 * (l - y)) den.toNat
      else roundDiv (256 * (y - l)) (-den).toNat).toNat
  | none => 256

/-- A change of an engine's own state. -/
def updRec (d : Device) (e : Fin 4) (f : RecEngine → RecEngine) : Device := { d with recs := upd d.recs e f }

/-- The edge trigger of an engine on a new frame (R269): it triggers where an earlier frame armed it, else it may
be armed by this one. -/
def recEdge (d : Device) (e : Fin 4) (f : RecFrame) (t : Nat) : Device :=
  if rdF d (Addr.REC_TRG e.1) 0 2 ≠ 1 ∨ recArmed d e.1 = false then d
  else
    let k := rdF d (Addr.REC_TRG e.1) 8 5
    let src := ((recSources d e.1)[k]?).getD 0
    let pol := rdF d (Addr.REC_TRG e.1) 4 2
    let (l, h) := recLevel d e.1 src
    match recValue src ((f.words[k]?).getD 0) with
    | none => d
    | some x =>
      let r := d.recs[e.1]
      let fire := (r.riseArm && decide (l ≤ x)) || (r.fallArm && decide (x ≤ l))
      if fire then
        let prev := match r.last with
          | some p => recValue src ((p.words[k]?).getD 0)
          | none => none
        let frac := recFraction prev x l
        let p := 256 * f.index + frac - 256
        let t0 := match r.last with | some q => q.time | none => f.time
        let d := recPlace d e.1 p (t0 + (frac * recPeriod d e.1 + 2560) / 5120)
        recEvent 4 (hkTrigger (recToPost d e p) 4) (0x10 + e.1) t
      else
        let rise := r.riseArm || (pol != 1 && decide (x ≤ l - h))
        let fall := r.fallArm || (pol != 0 && decide (l + h ≤ x))
        wrB (updRec d e (fun r => { r with riseArm := rise, fallArm := fall })) (Addr.REC_STAT e.1) 4 (rise || fall)

/-! ### Blocks (R271, R272) -/

/-- The bobbin of an engine (R263). -/
def recBob (e : Fin 4) : Fin 16 := ⟨2 + e.1, by omega⟩

/-- The pending gaps that come before a frame. -/
def gapsBefore (r : RecEngine) (f : RecFrame) : List Gap := r.gaps.filter (fun g => g.index < f.index)

/-- Whether a capture has ended, and the index of its last frame. -/
def capEnd (r : RecEngine) (cap : Nat) : Option (Nat × Bool) := (r.ends.find? (fun x => x.1 == cap)).map (·.2)

/-- One frame moved from the history into the block in hand, or the block closed where the frame does not fit
or does not follow. -/
def recMove (d : Device) (e : Fin 4) (len s t : Nat) (f : RecFrame) (rest : List RecFrame) : Device :=
  updRec d e (fun r =>
    match r.block.getLast? with
    | none =>
      let room := (len - 32 - 4 * s) / 16
      let gs := (gapsBefore r f).take room
      { r with block := [f], blockGap := gs, gaps := r.gaps.drop gs.length, history := rest, blockAt := t, closed := false }
    | some q =>
      let used := 32 + 16 * r.blockGap.length + 4 * s * (r.block.length + 1)
      if q.cap = f.cap ∧ f.index = q.index + 1 ∧ used ≤ len then { r with block := r.block ++ [f], history := rest }
      else { r with closed := true })

/-- The block in hand closed where it is full, or where its capture has ended and nothing remains. -/
def recClose (d : Device) (e : Fin 4) (len s : Nat) : Device :=
  updRec d e (fun r =>
    match r.block.getLast? with
    | none => r
    | some q =>
      let used := 32 + 16 * r.blockGap.length + 4 * s * (r.block.length + 1)
      let past := match capEnd r q.cap with
        | some _ => r.history.isEmpty
        | none => false
      { r with closed := r.closed || decide (len < used) || past })

/-- Frames move from the history to the descriptor in hand until it is closed; a descriptor too short for one
frame is returned as `SHORT` (R271). `fuel` bounds the moves. -/
def recPump (fuel : Nat) (d : Device) (e : Fin 4) (t : Nat) : Device :=
  match fuel with
  | 0 => d
  | fuel + 1 =>
    let s := (recSources d e.1).length
    let b := recBob e
    match (d.bobs[b.1]).inHand with
    | none => d
    | some desc =>
      let len := descLen d desc
      let r := d.recs[e.1]
      if r.closed then d
      else match r.history with
        | [] => recClose d e len s
        | f :: rest =>
          if len < 32 + 4 * s then recPump fuel (bobReturn d b (retStat true false 9 0) 0 t) e t
          else recPump fuel (recClose (recMove d e len s t f rest) e len s) e t

/-- The history's level shown, after frames have moved. -/
def recShow (d : Device) (e : Fin 4) : Device :=
  let r := d.recs[e.1]
  wrN d (Addr.REC_HLVL e.1) ((r.history.length + r.ring.length) * (recSources d e.1).length)

/-- Frames moved as far as the bobbin takes them. -/
def recFlow (d : Device) (e : Fin 4) (t : Nat) : Device := recShow (recPump 16384 d e t) e

/-- The bytes of a gap record (R272). -/
def gapBytes (e s : Nat) (g : Gap) : List Byte :=
  [BitVec.ofNat 8 e, BitVec.ofNat 8 g.cause] ++ bytesLE 2 s ++ bytesLE 4 g.frames ++ bytesLE 8 g.time

/-- The bytes of the closed block of an engine: header, gap records and frames (R271). -/
def blockBytes (d : Device) (e : Fin 4) : List Byte :=
  let r := d.recs[e.1]
  let s := (recSources d e.1).length
  match r.block.head?, r.block.getLast? with
  | some f, some q =>
    let fin' := capEnd r f.cap
    let last := match fin' with
      | some (i, _) => decide (i ≤ q.index) || (r.history.all (fun x => x.cap ≠ f.cap))
      | none => false
    let stopped := match fin' with | some (_, st) => st && last | none => false
    let trig := match r.trigs.find? (fun x => x.1 == f.cap) with
      | some (_, p) =>
        let k := (p + 255) / 256
        if f.index ≤ k ∧ k ≤ q.index then some (Int.emod ((p : Int) - 256 * f.index) (2 ^ 32)).toNat else none
      | none => none
    let flags := (decide (r.lastCap ≠ some f.cap)).toNat + 2 * last.toNat + 4 * trig.isSome.toNat
      + 8 * (r.shorts.contains f.cap).toNat + 16 * stopped.toNat + 32 * (!r.blockGap.isEmpty).toNat
    [0x57, 0x42, BitVec.ofNat 8 e.1, BitVec.ofNat 8 flags] ++ bytesLE 2 s ++ bytesLE 2 r.blockGap.length
      ++ bytesLE 4 r.block.length ++ bytesLE 4 (trig.getD 0xFFFFFFFF) ++ bytesLE 8 f.index ++ bytesLE 8 f.time
      ++ r.blockGap.flatMap (gapBytes e.1 s) ++ r.block.flatMap (fun f => f.words.flatMap (fun w => bytesLE 4 w.toNat))
  | _, _ => []

/-- Gap records counted and made pending; a gap of more than 0xFFFF_FFFF frames takes several (R272). -/
def addGap (d : Device) (e : Fin 4) (g : Gap) : Device :=
  let n := (g.frames + 0xFFFFFFFE) / 0xFFFFFFFF
  let recs := (List.range n).map (fun i => { g with frames := min 0xFFFFFFFF (g.frames - i * 0xFFFFFFFF) })
  let d := countBy (countBy d (Addr.REC_GAP_CNT e.1) n) (Addr.REC_MISS_CNT e.1) g.frames
  wrF (updRec d e (fun r => { r with gaps := r.gaps ++ recs })) (Addr.REC_STAT e.1) 8 8 g.cause

/-- The block of an engine is gone: its capture has had its first block. -/
def blockGone (d : Device) (e : Fin 4) : Device :=
  updRec d e (fun r => { r with
    lastCap := match r.block.head? with | some f => some f.cap | none => r.lastCap
    block := [], blockGap := [], closed := false })

/-- The frames of a block returned BAD that do not lie wholly within its count are a gap of cause 3 (R272). -/
def blockLost (d : Device) (e : Fin 4) (count' : Nat) : Device :=
  let r := d.recs[e.1]
  let s := max 1 (recSources d e.1).length
  let kept := (count' - 32 - 16 * r.blockGap.length) / (4 * s)
  match r.block.drop kept with
  | f :: fs => addGap d e { cause := 3, index := f.index, frames := fs.length + 1, time := f.time }
  | [] => d

/-! ### Descriptors complete (R278, R280) -/

/-- How the data of a descriptor moved: without error, stopped by an error at a byte count, or with an error after
the last beat was issued; `backFail` that the return's write-back fails. -/
structure Moved where
  bad      : Option (Nat × Nat)
  late     : Option Nat
  backFail : Option Nat
deriving DecidableEq, Repr

/-- The line that a read bobbin's consumer sends on (R274). -/
def bobPort (b : Nat) : Port :=
  match b with
  | 7 => .eth 0
  | 9 => .eth 1
  | 10 => .filut
  | _ => .spi

/-- Whether a bobbin reads from memory. -/
def bobReads (b : Nat) : Bool := b == 1 || b == 7 || b == 9 || b == 10

/-- The data that a write bobbin moves next: the engine's closed block, or the head of its producer's queue. -/
def bobData (d : Device) (b : Fin 16) : Option (List Byte) :=
  match fin? 4 (b.1 - 2) with
  | some e =>
    if 2 ≤ b.1 ∧ b.1 ≤ 5 then (if (d.recs[e.1]).closed then some (blockBytes d e) else none)
    else (d.bobs[b.1]).queue.head?
  | none => (d.bobs[b.1]).queue.head?

/-- The data moved leaves its producer. -/
def bobTaken (d : Device) (b : Fin 16) (bad : Option Nat) : Device :=
  match fin? 4 (b.1 - 2) with
  | some e =>
    if 2 ≤ b.1 ∧ b.1 ≤ 5 then
      blockGone (match bad with | some c => blockLost d e c | none => d) e
    else updBob d b (fun p => { p with queue := p.queue.drop 1 })
  | none => updBob d b (fun p => { p with queue := p.queue.drop 1 })

/-- After a return an engine's frames flow into the next descriptor. -/
def bobFlow (d : Device) (b : Fin 16) (t : Nat) : Device :=
  match fin? 4 (b.1 - 2) with
  | some e => if 2 ≤ b.1 ∧ b.1 ≤ 5 then recFlow d e t else d
  | none => d

/-- The return of a descriptor whose write-back may fail. -/
def bobFinish (d : Device) (b : Fin 16) (m : Moved) (stat info t : Nat) : Device :=
  match m.backFail, (d.bobs[b.1]).inHand with
  | some c, some desc => bobHalt (updBob d b (fun p => { p with retry := some (stat, info) })) b 5 desc c
  | _, _ => bobFlow (bobReturn d b stat info t) b t

/-- A descriptor's data has moved and it is returned (R277, R278, R280). -/
def descriptorComplete (b : Fin 16) (m : Moved) (t : Nat) (d : Device) : Device :=
  match (d.bobs[b.1]).inHand, (d.bobs[b.1]).retry with
  | some desc, none =>
    let len := descLen d desc
    let addr := descAddr d desc
    let data := if bobReads b.1 then some (memBytes d addr len) else bobData d b
    match data with
    | none => d
    | some bytes =>
      let n := bytes.length
      let bad := match dmaFail d (bobSteward b.1) (!bobReads b.1) addr (max 1 n) with
        | some x => some x
        | none => m.bad
      if len < n then bobFinish d b m (retStat true false 9 0) 0 t
      else match bad, m.late with
        | some (k, c), _ =>
          let k := min k n / 4 * 4
          let d := if bobReads b.1 then d else bobTaken (dmaPut d addr (bytes.take k)) b (some k)
          bobFinish d b m (retStat true false (c % 16) k) (c % 16) t
        | none, some c =>
          let d := if bobReads b.1 then { d with out := d.out ++ [(bobPort b.1, bytes)] }
            else bobTaken (dmaPut d addr bytes) b none
          bobFinish d b m (retStat true true 8 len) (c % 16) t
        | none, none =>
          let d := if bobReads b.1 then { d with out := d.out ++ [(bobPort b.1, bytes)] }
            else bobTaken (dmaPut d addr bytes) b none
          bobFinish d b m (retStat false false 0 n) 0 t
  | _, _ => d

/-- `DOORBELL`: a waiting bobbin fetches its descriptor again (R276). -/
def bobDoorbell (b : Fin 16) (t : Nat) (d : Device) : Device :=
  if bobState d b.1 = 2 then
    bobFlow (bobFetch 65536 d b (rdN d (Addr.BOB_CUR b.1)) (rdF d (Addr.BOB_STAT b.1) 16 16) t) b t
  else d

/-- Whether a bobbin's producer holds data. -/
def bobHasData (d : Device) (b : Fin 16) : Bool :=
  match fin? 4 (b.1 - 2) with
  | some e =>
    if 2 ≤ b.1 ∧ b.1 ≤ 5 then !((d.recs[e.1]).history.isEmpty) else !((d.bobs[b.1]).queue.isEmpty)
  | none => !((d.bobs[b.1]).queue.isEmpty)

/-- A refetch of a waiting bobbin every 1 024 CKF cycles while its producer holds data. -/
def bobRefetch (b : Fin 16) (t : Nat) (d : Device) : Device :=
  if bobHasData d b && decide ((d.bobs[b.1]).waitFrom + 1024 * ckf ≤ t) then bobDoorbell b t d else d

/-- `RESUME` (R280): a failed fetch repeated, the walk reset after a LOOP, a return repeated. -/
def bobResume (b : Fin 16) (t : Nat) (d : Device) : Device :=
  match bobState d b.1 with
  | 3 => bobFlow (bobFetch 65536 d b (rdN d (Addr.BOB_CUR b.1)) (rdF d (Addr.BOB_STAT b.1) 16 16) t) b t
  | 4 => bobFlow (bobFetch 65536 d b (rdN d (Addr.BOB_CUR b.1)) 0 t) b t
  | 5 =>
    match (d.bobs[b.1]).retry with
    | some (stat, info) =>
      let d := setBobState (updBob d b (fun p => { p with retry := none })) b.1 1
      match (d.bobs[b.1]).inHand with
      | some desc =>
        let cause := dmaCause d (bobSteward b.1) true desc
        if cause ≠ 0 then bobHalt (updBob d b (fun p => { p with retry := some (stat, info) })) b 5 desc cause
        else bobFlow (bobNext (dmaPutNat (dmaPutNat (dmaPutNat d (desc + 16) 4 stat) (desc + 20) 4 info) (desc + 24) 8 (ialos d))
          b desc t) b t
      | none => d
    | none => d
  | _ => d

/-- `RESTART`, or an enable: the ring begins again at `BOB_BASE`; a descriptor held is not returned. -/
def bobRestart (b : Fin 16) (t : Nat) (d : Device) : Device :=
  if bobOn d b.1 then
    let d := updBob d b (fun p => { p with inHand := none, retry := none, stopping := false })
    bobFlow (bobFetch 65536 (wrB d Addr.DMA_INFLIGHT b.1 false) b (rdN d (Addr.BOB_BASE b.1)) 0 t) b t
  else d

/-- Data handed to a bobbin by its producer. -/
def bobPush (d : Device) (b : Fin 16) (bytes : List Byte) : Device :=
  updBob d b (fun p => { p with queue := p.queue ++ [bytes] })

/-- The bobbins after a transfer that found `old` in force (R282, R287): one enabled begins its ring; one disabled
stops, after the descriptor in hand. -/
def bobTransfer (old d : Device) (t : Nat) : Device :=
  each (List.finRange 16) (fun d b =>
    if bobOn d b.1 && !bobOn old b.1 then bobRestart b t d
    else if bobOn old b.1 && !bobOn d b.1 then
      (if ((d.bobs[b.1]).inHand).isSome then updBob d b (fun p => { p with stopping := true }) else setBobState d b.1 0)
    else d) d

/-! ### Commands and frames (R265 to R267) -/

/-- `REC_STATe.STATE`. -/
def recState (d : Device) (e : Nat) : Nat := rdF d (Addr.REC_STAT e) 0 3

/-- `REC_STATe.STATE`, written. -/
def setRecState (d : Device) (e s : Nat) : Device := wrF d (Addr.REC_STAT e) 0 3 s

/-- A capture begins: the indices count from 0 and the trigger state is clear. -/
def recBegin (d : Device) (e : Fin 4) : Device :=
  let mode := rdF d (Addr.REC_TRG e.1) 0 2
  let pre := rdF d (Addr.REC_PRE e.1) 0 14
  let d := wrB (wrB (wr64 d (Addr.REC_FRAMES_LO e.1 0) 0) (Addr.REC_STAT e.1) 3 false) (Addr.REC_STAT e.1) 4 false
  let d := updRec d e (fun r =>
    { r with cap := r.cap + 1, ring := [], last := none, riseArm := false, fallArm := false, postLeft := none })
  setRecState d e.1 (if mode = 0 then 4 else if pre = 0 then 2 else 1)

/-- The capture in progress ends: its last frame's index, and whether a stop ended it. -/
def recEnd (d : Device) (e : Fin 4) (stopped : Bool) : Device :=
  let n := rd64 d (Addr.REC_FRAMES_LO e.1 0)
  updRec d e (fun r => { r with ends := (r.cap, n - 1, stopped) :: r.ends.take 3, history := r.history ++ r.ring,
                                ring := [], postLeft := none })

/-- The arm command (R267). -/
def recArm (e : Fin 4) (t : Nat) (d : Device) : Device :=
  let live := decide (1 ≤ recState d e.1 ∧ recState d e.1 ≤ 4)
  let d := if live then recEnd d e true else d
  recFlow (recBegin d e) e t

/-- The stop command (R267): the capture closes as STOPPED and the history drains. -/
def recStop (e : Fin 4) (t : Nat) (d : Device) : Device :=
  if 1 ≤ recState d e.1 ∧ recState d e.1 ≤ 4 then recFlow (setRecState (recEnd d e true) e.1 6) e t else d

/-- After `REC_POST` frame instants the capture ends in DONE, or with `REC_AUTO` the next one begins. -/
def recPostEnd (e : Fin 4) (t : Nat) (d : Device) : Device :=
  if recState d e.1 = 3 ∧ (d.recs[e.1]).postLeft = some 0 then
    let d := setRecState (recEnd d e false) e.1 5
    recFlow (if rdB d (Addr.REC_CFG e.1) 31 then recBegin d e else d) e t
  else d

/-- The cause of a gap that begins now (R272, R282). -/
def gapCause (d : Device) (e : Fin 4) : Nat :=
  match bobState d (recBob e).1 with
  | 1 => 1
  | 2 => 2
  | _ => 4

/-- A frame into the elastic store, or missed where it does not fit or frames are being missed already (R266). -/
def recStore (d : Device) (e : Fin 4) (f : RecFrame) (t : Nat) : Device :=
  let r := d.recs[e.1]
  let s := (recSources d e.1).length
  match r.missing with
  | some g => updRec d e (fun r => { r with missing := some { g with frames := g.frames + 1 } })
  | none =>
    if (r.history.length + 1) * s ≤ 8192 then recFlow (updRec d e (fun r => { r with history := r.history ++ [f] })) e t
    else
      let g : Gap := { cause := gapCause d e, index := f.index, frames := 1, time := f.time }
      wrB (updRec d e (fun r => { r with missing := some g, closed := r.closed || !r.block.isEmpty }))
        (Addr.REC_STAT e.1) 5 true

/-- A frame into the pre-trigger ring, which overwrites the oldest; with `REC_PRE` frames the engine is ARMED. -/
def recRing (d : Device) (e : Fin 4) (f : RecFrame) : Device :=
  let s := max 1 (recSources d e.1).length
  let d := updRec d e (fun r =>
    let ring := r.ring ++ [f]
    { r with ring := ring.drop (ring.length - (8192 / s - r.history.length)) })
  let d := if recState d e.1 = 1 ∧ rdF d (Addr.REC_PRE e.1) 0 14 ≤ (d.recs[e.1]).ring.length then setRecState d e.1 2 else d
  recShow d e

/-- A sample instant of an engine (R263, R265 to R267): one frame of all its sources. -/
def recFrame (e : Fin 4) (t : Nat) (d : Device) : Device :=
  let d := recPostEnd e t d
  let srcs := recSources d e.1
  if recState d e.1 = 0 ∨ 5 ≤ recState d e.1 ∨ srcs.isEmpty = true then d
  else
    let n := rd64 d (Addr.REC_FRAMES_LO e.1 0)
    let f : RecFrame :=
      { cap := (d.recs[e.1]).cap, index := n, inst := t, time := recTime d e.1 t, words := srcs.map (recWord d) }
    let d := if n + 1 < 2 ^ 64 then wr64 d (Addr.REC_FRAMES_LO e.1 0) (n + 1)
      else count (wr64 d (Addr.REC_FRAMES_LO e.1 0) 0) (Addr.REC_FRAMES_WRAP e.1)
    let d := recEdge d e f t
    let d := updRec d e (fun r => { r with last := some f })
    match recState d e.1 with
    | 3 =>
      let d := updRec d e (fun r => { r with postLeft := r.postLeft.map (· - 1) })
      recStore d e f t
    | 4 => recStore d e f t
    | _ => recRing d e f

/-- A rising edge on `RTRIG` (R268): every engine in mode 2 that evaluates its trigger is stamped. -/
def rtrigEdge (t : Nat) (d : Device) : Device :=
  each (List.finRange 4) (fun d e =>
    if rdF d (Addr.REC_TRG e.1) 0 2 = 2 then recForce d e t else d) d

/-- `REC_FLUSH` ms since the block's first frame: the block closes (R271). -/
def recFlush (e : Fin 4) (t : Nat) (d : Device) : Device :=
  let f := rdF d (Addr.REC_FLUSH e.1) 0 14
  let r := d.recs[e.1]
  if f ≠ 0 ∧ r.block ≠ [] ∧ r.blockAt + ms f ≤ t then updRec d e (fun r => { r with closed := true }) else d

/-- The history has drained to 4 096 words or fewer (R266): missed frames end and the gap is recorded. -/
def recDrained (e : Fin 4) (d : Device) : Device :=
  let r := d.recs[e.1]
  match r.missing with
  | some g =>
    if r.history.length * (recSources d e.1).length ≤ 4096 then
      wrB (addGap (updRec d e (fun r => { r with missing := none })) e g) (Addr.REC_STAT e.1) 5 false
    else d
  | none => d

/-- An accepted change of an engine's fields returns it to IDLE (R273). -/
def recTransfer (old d : Device) : Device :=
  each (List.finRange 4) (fun d e =>
    let regs := (List.range 8).map (fun i => Addr.REC_CFG e.1 + 4 * i) ++ (List.range 32).map (Addr.REC_SRC e.1)
    if regs.all (fun a => rd old a == rd d a) then d
    else
      wrN (updRec d e (fun r => { r with
        ring := [], history := [], missing := none, last := none, riseArm := false, fallArm := false,
        postLeft := none, block := [], blockGap := [], closed := false })) (Addr.REC_STAT e.1) 0) d

end Sys2Proof.Machine
end

