-- ==== Sys2Proof/Machine/Xfer.lean ====
section
/-! DEFINITION. The transfer of configuration at D + 1 (R23, R310, R311, R316): the condition on the change of each
field, the clamp reports on bobbin B14, what follows from a transfer in each block, and the configuration hash. -/

namespace Sys2Proof.Machine

open Sys2Proof

/-! ### Conditions on a change (R310) -/

/-- What becomes of a change of a field: it passes, its condition fails, or a closed seal refuses it. -/
inductive Verdict where
  | pass
  | keep
  | sealed (n : Nat)
deriving DecidableEq, Repr

/-- A change that passes only under a condition. -/
def passIf (b : Bool) : Verdict := if b then .pass else .keep

/-- No enabled harness and no metering point uses a channel (R51). -/
def chanFree (d : Device) (c : Nat) : Bool := !(chanUsed d c) && !(chanMetered d c)

/-- A harness is in a state in which its gate fields may change (R152). -/
def stageFree (d : Device) (h : Nat) : Bool :=
  hstate d h == .disabled || hstate d h == .selvedge || hstate d h == .latched

/-- The harness that a gate or shed field of a harness belongs to. -/
def fieldHarness (id : Nat) : Nat :=
  if id < 0x0500 then (id - 0x0480) / 0x20
  else if id < 0x05C0 then (id - 0x0580) / 0x10
  else (id - 0x05D0) / 8

/-- The `SHED_RUN` bit of the harness a shed field concerns reads 0 (R125). -/
def runFree (d : Device) (id : Nat) : Bool :=
  if id < 0x0480 then
    match legHarness d (if id < 0x0418 then id - 0x0400 else id - 0x0418) with
    | some h => !rdB d Addr.SHED_RUN h
    | none => true
  else !rdB d Addr.SHED_RUN (fieldHarness id)

/-- A selvedge field passes before the first RUN (R314), and afterwards only while `SEAL2` reads open (R147). -/
def selvVerdict (d : Device) : Verdict := if !d.loom.everRun || sealOpen d 2 then .pass else .sealed 2

/-- The verdict on a change of a field to `v`, by the state before the transfer. `kept` holds the fields that the
steward withheld when it prepared the change (R184). -/
def fieldVerdict (d : Device) (kept : List Nat) (g : Guard) (id : Nat) (v : Word) : Verdict :=
  match g with
  | .none => passIf (!(id == 0x0701 && v == 0 && loomMode d == .hold))
  | .legHarness =>
    let free (h : Nat) : Bool := decide (4 ≤ h) || !harnessEnabled d h
    passIf (free (fieldN d id) && free v.toNat)
  | .channelUse =>
    if id = 0x0201 then
      passIf ((List.range 32).all (fun c => !(rdB d Addr.MOD_ENABLE c && !bit v c) || chanFree d c))
    else passIf (chanFree d 31)
  | .skew =>
    if chanMetered d (id - 0x0301) then (if sealOpen d 0 then passIf (logRoom d) else .sealed 0) else .pass
  | .shedRun => passIf (runFree d id)
  | .stage => passIf (stageFree d (fieldHarness id))
  | .selv => selvVerdict d
  | .stageSelv => if stageFree d (fieldHarness id) then selvVerdict d else .keep
  | .kernel => passIf (!kept.contains id)
  | .metrology => .pass
  | .bridle => .pass
  | .recorder =>
    let s := recState d ((id - 0x0A00) / 0x30)
    passIf (s == 0 || s == 5 || s == 6)
  | .ring => let s := bobState d (id % 16); passIf (s == 0 || decide (3 ≤ s))
  | .refComp => passIf (v != 0 || d.meter.en == 0)
  | .loomStop => passIf (loomMode d == .stop)
  | .pairing => passIf (loomMode d == .stop && !(redState d == 2 && pairSync d))

/-- The verdict on a field by its identifier. -/
def verdictOf (d : Device) (kept : List Nat) (id : Nat) (v : Word) : Verdict :=
  match FieldMap.find? id with
  | some (r, _) => fieldVerdict d kept r.guard id v
  | none => .pass

/-- Whether a field goes to an owner of its own and not through the shadows (R310). -/
def ownerField (id : Nat) : Bool := decide (0x0800 ≤ id ∧ id < 0x0A00)

/-- The fields marked R184 that the steward withholds: the kernel is not in OFF or its harness is running. -/
def kernelHeld (d : Device) (kernelOff : Bool) : List Nat :=
  let h := fieldN d 0x0600
  if kernelOff && (decide (4 ≤ h) || !rdB d Addr.SHED_RUN h) then []
  else (FieldMap.gfRows.filter (fun r => r.guard == .kernel)).flatMap (fun r => FieldMap.idsOf [r])

/-! ### Clamp reports (R311) -/

/-- An entry of B14 queued; beyond 256 it is lost and counted. -/
def reportPush (d : Device) (body : List Byte) : Device :=
  if (d.bobs[14]).queue.length < 256 then bobPush d 14 (body ++ bytesLE 4 (crc32c body))
  else if d.cfg.lost + 1 < 2 ^ 32 - 1 then { d with cfg := { d.cfg with lost := d.cfg.lost + 1 } }
  else { d with cfg := { d.cfg with lost := 2 ^ 32 - 1, lostOvf := true } }

/-- The 28 bytes of an entry of kind 0x01 before its CRC. -/
def reportBody (d : Device) (reason : Nat) (r : CfgReq) (source cycle : Nat) : List Byte :=
  [1, BitVec.ofNat 8 reason] ++ bytesLE 2 r.id ++ bytesLE 4 r.raw.toNat ++ bytesLE 4 (fieldN d r.id)
    ++ [BitVec.ofNat 8 source, BitVec.ofNat 8 r.origin, 0, 0] ++ bytesLE 8 (ialos d) ++ bytesLE 4 cycle

/-- A clamp report. -/
def clampReport (d : Device) (reason : Nat) (r : CfgReq) (source cycle : Nat) : Device :=
  reportPush d (reportBody d reason r source cycle)

/-- The entry of kind 0x02 of a completed change (R316). -/
def changeReport (d : Device) (result changed cycle : Nat) : Device :=
  reportPush d ([2, BitVec.ofNat 8 result, 0, 0]
    ++ (List.range 4).map (fun i => BitVec.ofNat 8 ((d.cfg.stack[i]?).getD 0))
    ++ bytesLE 4 changed ++ zeros 4 ++ bytesLE 8 (ialos d) ++ bytesLE 4 cycle)

/-! ### The configuration hash (R318) -/

/-- Every allocated identifier in ascending order. -/
def allIds : List Nat := sortOn id (FieldMap.idsOf FieldMap.rows)

/-- The configuration hash of the values in force. -/
def cfgHash (d : Device) : List Byte :=
  Config.sha256 (allIds.flatMap (fun id => bytesLE 2 id ++ bytesLE 4 (fieldN d id)))

/-- The hash computed again. -/
def cfgRehash (d : Device) : Device := { d with cfg := { d.cfg with hash := cfgHash d } }

/-! ### What follows from a transfer -/

/-- The modulator channels after a transfer (R51, R78): one disabled is no longer valid, one enabled and `M31`
with another source restart. -/
def modTransfer (old d : Device) : Device :=
  let seta := rdB old Addr.MOD_EXT_CFG 0 != rdB d Addr.MOD_EXT_CFG 0
  each (List.finRange 32) (fun d c =>
    let was := rdB old Addr.MOD_ENABLE c.1
    let is := rdB d Addr.MOD_ENABLE c.1
    let fresh' := is && !was || is && seta && c.1 == 31
    if was && !is then
      { wrB d Addr.MOD_VALID c.1 false with chans := upd d.chans c (fun h => { h with stuckAt := none }) }
    else if fresh' then
      let d := wrB { d with chans := upd d.chans c (fun h => { h with stuckAt := none }) } Addr.MOD_VALID c.1 false
      if islandGood d c.1 then revalidate d c else restartPaths d c
    else d) d

/-- The precision paths whose skew changed (R77). -/
def skewTransfer (old d : Device) : Device :=
  each (List.finRange 32) (fun d c =>
    if rd old (Addr.DEC_SKEW c.1) = rd d (Addr.DEC_SKEW c.1) then d else restartPrecision d c) d

/-- The shed units: a new band replaces h (R113), and `HL_NONE` follows the channels. -/
def shedTransfer (old d : Device) : Device :=
  showHlNone (each (List.finRange 24) (fun d n =>
    if rdF old (Addr.SHED_BAND n.1) 0 22 = rdF d (Addr.SHED_BAND n.1) 0 22 then d
    else wrN d (Addr.SHED_HNOW n.1) (rdF d (Addr.SHED_BAND n.1) 0 22)) d)

/-- The addresses of the ports follow the base and the site address (R357). -/
def netTransfer (old d : Device) : Device :=
  let site := rdF d Addr.NET_SITE 0 9
  let d := wrN (wrN d Addr.NET_IP0 (fieldN d 0x0C04 + site)) Addr.NET_IP1 (fieldN d 0x0C05 + site)
  if rdB old Addr.NET_CFG 3 && !rdB d Addr.NET_CFG 3 then { d with net := { d.net with tpps := none } } else d

/-- The role after a change of `RED_PAIR_EN` (R376, R378). -/
def redTransfer (old d : Device) (t : Nat) : Device :=
  if paired old == paired d then d
  else if paired d then
    let d := setRedState d 1
    if ownMode d = 2 then ownWrite 1 t { d with red := { d.red with dropOwn := true } } else ownWrite 0 t d
  else setHand (setRedState d 0) false t

/-- What every block makes of a transfer that found `old` in force. -/
def afterTransfer (old : Device) (t : Nat) (d : Device) : Device :=
  let d := shedTransfer old (skewTransfer old (modTransfer old d))
  let d := if selvTable old = selvTable d then d else { d with selvNext := true }
  let d := bobTransfer old (recTransfer old (thTransfer old (rsmTransfer old (hkTransfer old d)))) t
  let d := redTransfer old (netTransfer old d) t
  let gf := (FieldMap.idsOf FieldMap.gfRows).any (fun id => fieldOf old id != fieldOf d id)
  if gf then { d with loom := { d.loom with paramReq := true } } else d

/-! ### Groups of legs (R96) -/

/-- Whether the group of a master is formed: every other leg that it reaches is in mode 3 and in the same harness. -/
def groupFormed (d : Device) (n : Nat) : Bool :=
  match legHarness d n with
  | none => true
  | some h => (List.range (groupSize d h)).all (fun k =>
      k == 0 || decide (n + k < 24) && shedMode d (n + k) == 3 && legHarness d (n + k) == some h)

/-- The masters whose group is not formed. -/
def unformed (d : Device) : List Nat :=
  (List.range 24).filter (fun n => (shedMode d n == 1 || shedMode d n == 2) && !groupFormed d n)

/-- Masters applied in mode 0. -/
def mastersOff (l : List Nat) (d : Device) : Device := each l (fun d n => wrF d (Addr.SHED_CFG n) 0 2 0) d

/-! ### Raw shadows (R23, R51) -/

/-- The fields held in the register at an address, with their places. -/
def fieldsAt (a : Nat) : List (Nat × Nat × Nat × Guard) :=
  FieldMap.rows.flatMap (fun r =>
    (List.range r.count).filterMap (fun i =>
      match r.dest, destOf r i with
      | .reg _ _ _ _ _ len _ _ _, some (b, lo) =>
        if b = a then some (r.first + r.stride * i, lo, len, r.guard) else none
      | _, _ => none))

/-- A register taken from its shadow: a field whose condition fails keeps its bits, channel by channel for
`MOD_ENABLE`. The seals of R7 were checked at the write. -/
def rawValue (old : Device) (a : Nat) (v : Word) : Word × List Nat :=
  let now := rd old a
  if a = Addr.MOD_ENABLE then
    (word (v.toNat ||| ((List.range 32).map (fun c =>
      if bit now c && !bit v c && !chanFree old c then 2 ^ c else 0)).sum), [])
  else
    (fieldsAt a).foldl (fun (acc : Word × List Nat) f =>
      let (id, lo, len, g) := f
      let g := match g with
        | .selv => Guard.none
        | .stageSelv => Guard.stage
        | g => g
      if field acc.1 lo len = field now lo len then acc
      else
        match fieldVerdict old [] g id (word (field acc.1 lo len)) with
        | .pass => acc
        | .keep => (setField acc.1 lo len (field now lo len), acc.2)
        | .sealed n => (setField acc.1 lo len (field now lo len), n :: acc.2)) (v, [])

/-- A logbook entry of type 3 for a skew that passes on a metering channel (R77, R233). -/
def skewLog (old : Device) (d : Device) : Device :=
  each (List.finRange 32) (fun d c =>
    let a := Addr.DEC_SKEW c.1
    if rd old a = rd d a || !chanMetered old c.1 then d
    else
      let m := (((mpOfChan old c.1).head?).map (·.1)).getD 0xFF
      let (target, d) := logEntry d 3 m c.1 (bytesLE 4 (rdN old a)) (bytesLE 4 (rdN d a)) 0
      mramPut d 3 .logbook [target]) d

/-- Every raw shadow passes. -/
def rawPass (old d : Device) : Device :=
  let d := each d.shadow (fun d s =>
    let (v, seals) := rawValue old s.1 s.2
    each seals sealRefused (wr d s.1 v)) d
  mastersOff (unformed d) { d with shadow := [] }

/-! ### A requested set (R309 to R311, R316) -/

/-- The default site identifiers of the CAN controllers (R375): from the site address that will be in force. -/
def canDefault (d : Device) (site : Nat) (r : CfgReq) : CfgReq :=
  if r.origin = 0xFF ∧ (r.id = 0x0C24 ∨ r.id = 0x0C25 ∨ r.id = 0x0C2C ∨ r.id = 0x0C2D) then
    let s := if loomMode d = .stop then site else rdF d Addr.NET_SITE 0 9
    { r with raw := word ((if r.id % 8 = 4 then 0x600 else 0x580) + s) }
  else r

/-- The raw value that a requested set gives a field. -/
def rawOf (reqs : List CfgReq) (id : Nat) : Word :=
  ((reqs.find? (fun r => r.id == id)).map (·.raw)).getD (FieldMap.defaultOf id)

/-- The requested set with the defaults of the CAN identifiers formed. -/
def canDefaults (d : Device) (reqs : List CfgReq) : List CfgReq :=
  let site := p1 (rawOf reqs) 0x0C00
  reqs.map (canDefault d site)

/-- A requested value after both passes, with its reason. A bobbin whose ring base lies in another region is not
enabled (R286). -/
def requested (reqs : List CfgReq) (r : CfgReq) : Word × Nat :=
  if 0x0AF0 ≤ r.id ∧ r.id < 0x0B00 ∧ (pass1 (rawOf reqs) (r.id - 0x20)).2 = 2 ∧ r.raw ≠ 0 then (0, 8)
  else pass2 (rawOf reqs) r.id

/-- The transfer of a set so far: the unit, the entries it produces and the registers refused under seals. -/
structure PassState where
  dev     : Device
  reports : List (Nat × CfgReq)
  seals   : List (Nat × Nat)

/-- One field of the set at the transfer. -/
def passField (old : Device) (c : CfgChange) (reqs : List CfgReq) (p : PassState) (r : CfgReq) : PassState :=
  if r.why = 5 ∨ r.why = 7 then { p with reports := p.reports ++ [(r.why, r)] }
  else if ownerField r.id then p
  else
    let (v, clamped) := requested reqs r
    let why := if r.why = 0 then clamped else r.why
    let noted := if why = 0 then p.reports else p.reports ++ [(why, r)]
    if v = fieldOf old r.id then { p with reports := noted }
    else
      match verdictOf old c.kept r.id v with
      | .pass => { p with dev := setFieldOf p.dev r.id v, reports := noted }
      | .keep => { p with reports := p.reports ++ [(3, r)] }
      | .sealed n =>
        let reg := match FieldMap.find? r.id with
          | some (row, i) => ((destOf row i).map (·.1)).getD 0
          | none => 0
        { p with reports := p.reports ++ [(4, r)],
                 seals := if p.seals.contains (n, reg) then p.seals else p.seals ++ [(n, reg)] }

/-- The masters whose group the applied set does not form take mode 0, with a report each (R96). -/
def mastersPass (reqs : List CfgReq) (p : PassState) : PassState :=
  let off := unformed p.dev
  let mine (id : Nat) : Bool := decide (0x0400 ≤ id) && off.contains (id - 0x0400)
  { p with dev := mastersOff off p.dev,
           reports := p.reports.filter (fun e => !mine e.2.id)
             ++ (reqs.filter (fun r => mine r.id && r.why != 5 && r.why != 7)).map (fun r => (8, r)) }

/-- The fields of tacks of policy 1 whose condition fails (R316). -/
def wholeFails (old : Device) (c : CfgChange) (reqs : List CfgReq) : List CfgReq :=
  reqs.filter (fun r => c.whole.contains r.id &&
    (let v := (requested reqs r).1
     v != fieldOf old r.id && verdictOf old c.kept r.id v != .pass))

/-- The values of the saddle that go to their owners at a load or a store (R218, R258), of the identifiers from `lo` to `hi`: each
field with the reason of its clamp, and the value of the requested set. -/
def ownerValues (reqs : List CfgReq) (lo hi : Nat) : List (CfgReq × Word) :=
  (reqs.filter (fun r => r.origin == 0 && r.why == 0 && decide (lo ≤ r.id ∧ r.id < hi))).map (fun r =>
    let (v, why) := requested reqs r
    ({ r with why := why }, v))

/-- The report of a clamp of an owner's field, where it was clamped. -/
def ownerNote (source : Nat) (r : CfgReq) (d : Device) : Device :=
  if r.why = 0 then d else clampReport d r.why r source (rdN d Addr.LOOM_CYCLE)

/-- The saddle's metrology values sent to the ledger: those that differ from the values in force, and all of them where the
ledger has yet to load its own. -/
def ledgerSends (c : CfgChange) (reqs : List CfgReq) (t : Nat) (d : Device) : Device :=
  each (ownerValues reqs 0x0800 0x0900) (fun d x =>
    if d.meter.ready ∧ x.2 = fieldOf d x.1.id then ownerNote c.source x.1 d
    else
      let seq := d.meter.seqNo
      let m := if x.1.id < 0x0880 then (x.1.id - 0x0800) / 0x20 else 0xFF
      let d := lreqSend d 4 m (bytesLE 2 x.1.id ++ [0, 0] ++ bytesLE 4 x.2.toNat) t
      { d with cfg := { d.cfg with ledger := d.cfg.ledger ++ [(seq, x.1)] } }) d

/-- The saddle's values written to the bridle's page, register by register where the contents differ. -/
def bridleSends (c : CfgChange) (reqs : List CfgReq) (t : Nat) (d : Device) : Device :=
  let brd := ownerValues reqs 0x0900 0x0A00
  let want := each brd (fun d x => setFieldOf d x.1.id x.2) d
  let regs := ((List.range 0x20).map (fun i => 0x40800000 + 4 * i)).filter (fun a => rd d a != rd want a)
  let d := each regs (fun d a => bridleCfgWrite (a - 0x40800000) (rd want a) t d) d
  each brd (fun d x => ownerNote c.source (if fieldOf d x.1.id = x.2 then x.1 else { x.1 with why := 4 }) d) d

/-- The values of the saddle that go to the ledger and to the bridle. -/
def ownerSends (c : CfgChange) (reqs : List CfgReq) (t : Nat) (d : Device) : Device :=
  if c.source = 1 ∨ c.source = 2 then bridleSends c reqs t (ledgerSends c reqs t d) else d

/-- The fields that wait for a ledger that has just loaded its configuration: those that it holds already are not sent (R218). -/
def ledgerPrune (d : Device) : Device :=
  let held (x : Nat × CfgReq) : Option (List Byte) :=
    d.meter.queue.find? (fun f => decide (sliceLE f 0 2 = x.1) && word (sliceLE f 8 4) == fieldOf d x.2.id)
  each d.cfg.ledger (fun d x =>
    match held x with
    | some f =>
      ownerNote 1 x.2 { d with
        meter := { d.meter with queue := d.meter.queue.erase f }, cfg := { d.cfg with ledger := d.cfg.ledger.erase x } }
    | none => d) d

/-- The ledger reports ready (R240). -/
def ledgerUp (t : Nat) (d : Device) : Device :=
  if d.meter.ready then d
  else
    let d := ledgerReady t d
    if d.meter.ready then ledgerPrune d else d

/-- The opcode of the long operation behind a change, by its source of R311. -/
def changeOps (source : Nat) : List Nat :=
  match source with
  | 2 => [0x0102]
  | 3 => [0x0103]
  | 4 => [0x0104]
  | _ => []

/-- The requested set passes (R316): every field that may, then the reports, the entry of the completed change
(a saddle load is none), the hash and the end of the operation behind it; a tack of policy 1 that holds a failing field withholds all. -/
def setPass (old : Device) (c : CfgChange) (t : Nat) (d : Device) : Device :=
  let cycle := rdN d Addr.LOOM_CYCLE
  let reqs := canDefaults d c.reqs
  let fails := wholeFails old c reqs
  let clear (d : Device) : Device := { d with cfg := { d.cfg with change := none } }
  if fails.isEmpty then
    let p := mastersPass reqs (reqs.foldl (passField old c reqs) ⟨d, [], []⟩)
    let changed := (allIds.filter (fun id => fieldOf old id != fieldOf p.dev id)).length
    let d := each p.seals (fun d s => sealRefused d s.1) p.dev
    let d := { d with cfg := { d.cfg with stack := c.stack, loaded := true,
                                          origins := reqs.filterMap (fun r =>
                                            if r.origin = 0xFF then none else some (r.id, r.origin)) } }
    let d := each p.reports (fun d e => clampReport d e.1 e.2 c.source cycle) d
    let d := if c.source = 1 then clear d else changeReport (clear d) 0 changed cycle
    ownerSends c reqs t (opFinish d (changeOps c.source) 0 100 t)
  else
    let d := each fails (fun d r => clampReport d 9 r c.source cycle) d
    opFinish (changeReport (clear d) 5 0 cycle) (changeOps c.source) 0x8305 100 t

/-- `XFER_COUNT` advanced and `PEND` cleared (R34). -/
def showTransfer (d : Device) : Device :=
  let d := wrF d Addr.SYS_CFG_STAT 16 16 (rdF d Addr.SYS_CFG_STAT 16 16 + 1)
  { wrB d Addr.SYS_CFG_STAT 0 false with cfg := { d.cfg with applyAt := none } }

/-- The shadow transfer (R23): the raw shadows, a resolved set, what follows in every block, and the hash. -/
def shadowTransfer (t : Nat) (d : Device) : Device :=
  let old := d
  let d := showTransfer (rawPass old d)
  let (d, set) := match d.cfg.change with
    | some c => if c.resolved then (setPass old c t d, true) else (d, false)
    | none => (d, false)
  let d := afterTransfer old t (skewLog old d)
  if set then cfgRehash d else d

/-- Whether a transfer happens at the write (R23): the loom has not run, or is in STOP. -/
def transferNow (d : Device) : Bool := !d.loom.everRun || loomMode d == .stop

/-- A write of `SYS_CFG_APPLY` (R23, R34): the transfer now, or a request for a T0 boundary. -/
def cfgApply (v : Word) (t : Nat) (d : Device) : Device :=
  if bit v 0 then
    if transferNow d then shadowTransfer t d
    else
      { wrB d Addr.SYS_CFG_STAT 0 true with cfg := { d.cfg with applyAt := some (d.cfg.applyAt.getD t) } }
  else d

/-- The transfer at D + 1 (R32, R33): of a request made by D − 16. -/
def boundaryTransfer (dl : Nat) (d : Device) : Device :=
  match d.cfg.applyAt with
  | some a => if a + 16 * ckf ≤ dl then shadowTransfer (dl + ckf) d else d
  | none => d

end Sys2Proof.Machine
end

