-- ==== Sys2Proof/Machine/Loom.lean ====
section
/-! DEFINITION. The loom: cores, tasks, commit buffers, modes, overruns and the T0 boundary (R185 to R210). -/

namespace Sys2Proof.Machine

open Sys2Proof

/-! ### Cores (R185, R186) -/

/-- A shuttle core's control registers, changed. -/
def updCore (d : Device) (c : Fin 4) (f : CoreCsr → CoreCsr) : Device := { d with cores := upd d.cores c f }

/-- A bit of `mip` of a core. -/
def setMip (d : Device) (c : Fin 4) (b : Nat) (v : Bool) : Device :=
  updCore d c (fun x => { x with mip := setBit x.mip b v })

/-- A core in reset at the present instant: its control registers cleared and its cycle count begun afresh (DESIGN
CHOICE: no values are given), and not running; its general registers keep what they hold. -/
def coreReset (d : Device) (c : Fin 4) : Device :=
  updCore d c (fun x => { CoreCsr.reset with cycleAt := d.now, xs := x.xs, fs := x.fs })

/-- Whether a core is in reset or halted (R196, R203): it issues nothing. -/
def coreHalted (d : Device) (c : Fin 4) : Bool := (d.cores[c.1]).halted

/-- Every core of a started image leaves reset at its start address; a core without one stays in reset. -/
def coresStart (d : Device) : Device :=
  match d.loom.image with
  | some i =>
    each (List.finRange 4) (fun d c =>
      let pc := (i.starts[c.1]?).getD 0
      if pc = 0 then coreReset d c else updCore (coreReset d c) c (fun x => { x with pc := word pc, halted := false })) d
  | none => d

/-- A write of `LOOM_IPI` (R186): the software interrupts of the cores. -/
def ipiWrite (v : Word) (d : Device) : Device :=
  each (List.finRange 4) (fun d c => setMip d c 3 (bit v c.1)) (wrN d Addr.LOOM_IPI (field v 0 4))

/-! ### Tasks (R188 to R193) -/

/-- A task, changed. -/
def updTask (d : Device) (t : Fin 4) (f : Task → Task) : Device :=
  { d with loom := { d.loom with tasks := upd d.loom.tasks t f } }

/-- The cores of a task of the loaded image; T3 runs on every core with a start address. -/
def taskCores (d : Device) (t : Nat) : Nat :=
  match d.loom.image with
  | some i =>
    if t < 3 then coresOf i t
    else if i.t3Wdog = 0 then 0
    else ((List.range 4).map (fun c => if (i.starts[c]?).getD 0 = 0 then 0 else 2 ^ c)).sum
  | none => 0

/-- The period of a task in T0 periods; 0 where it is absent. -/
def taskMult (d : Device) (t : Nat) : Nat :=
  match d.loom.image, t with
  | some _, 0 => 1
  | some i, 1 => i.t1Mul
  | some i, 2 => i.t2Mul
  | _, _ => 0

/-- The T0 period of the loaded image. -/
def t0Period (d : Device) : Nat := rdN d Addr.LOOM_T0_CKF * ckf

/-- Whether an instance is complete: every core of its task has written `LOOM_DONE`. -/
def taskComplete (d : Device) (t : Fin 4) : Bool :=
  (d.loom.tasks[t.1]).done &&& taskCores d t.1 == taskCores d t.1

/-- The deadline of the running instance of a task. -/
def taskDeadline (d : Device) (t : Fin 4) : Nat := d.loom.lastD + (d.loom.tasks[t.1]).left * t0Period d

/-- `LOOM_CB_LVL` follows the buffers. -/
def showLevel (d : Device) (t : Fin 4) : Device := wrN d (Addr.LOOM_CB_LVL t.1) ((d.loom.tasks[t.1]).buffer.length)

/-- A commit buffer emptied, its entries counted as discarded. -/
def discardBuffer (d : Device) (t : Fin 4) : Device :=
  let n := (d.loom.tasks[t.1]).buffer.length
  let d := if n = 0 then d else countBy d Addr.LOOM_DISCARD_CNT n
  showLevel (updTask d t (fun k => { k with buffer := [] })) t

/-- Whether an address is that of a committed register. -/
def committedReg (a : Nat) : Bool :=
  match RegMap.row? a with
  | some r => r.kind == .committed
  | none => false

/-- An append to the commit buffer of a task by a core (R192, R193). -/
def cbAppend (task : Fin 4) (core : Fin 4) (a : Nat) (v : Word) (d : Device) : Device :=
  let k := d.loom.tasks[task.1]
  let d := if coreHalted d core then d else updTask d task (fun k => { k with addr := word a })
  let open' := loomMode d != .stop &&
    (task == 3 || (k.active && k.released.testBit core.1 && !k.done.testBit core.1))
  if coreHalted d core then d
  else if !open' || !committedReg a then count d Addr.LOOM_CB_BADADDR_CNT
  else if (if task = 3 then 64 else 256) ≤ k.buffer.length then count d Addr.LOOM_CB_OVF_CNT
  else showLevel (updTask d task (fun k => { k with buffer := k.buffer ++ [⟨a, v⟩] })) task

/-- T3 asks for its buffer to be committed at the next T0 deadline. -/
def cbFlush3 (d : Device) : Device := { d with loom := { d.loom with flush3 := true } }

/-- T3 kicks its watchdog (R197). -/
def loomKick (t : Nat) (d : Device) : Device :=
  { d with loom := { d.loom with kickAt := t, t3Missed := false } }

/-! ### Modes (R194) -/

/-- `LOOM_MODE` with a mode and the cause of the change. -/
def setMode (d : Device) (mode cause : Nat) : Device :=
  wrF (wrF d Addr.LOOM_MODE 0 2 mode) Addr.LOOM_MODE 8 8 cause

/-- `LOOM_XCHG_STAT`. -/
def xchgState (d : Device) : Nat := rdF d Addr.LOOM_XCHG_STAT 0 3

/-- `LOOM_XCHG_STAT` with a state and a code. -/
def setXchg (d : Device) (s code : Nat) : Device :=
  wrF (wrF d Addr.LOOM_XCHG_STAT 0 3 s) Addr.LOOM_XCHG_STAT 8 8 code

/-- Every instance abandoned: no task runs, no words wait for a release. -/
def abandonTasks (d : Device) : Device :=
  let d := { d with loom := { d.loom with
    latched := [], flush3 := false,
    tasks := d.loom.tasks.map (fun k => { k with active := false, released := 0, done := 0, extended := false,
                                                 tolUsed := false, tolNext := false }) } }
  each (List.finRange 4) (fun d c => setMip (setMip (setMip d c 16 false) c 17 false) c 18 false) d

/-- The loom enters STOP (R194, R195): the cores in reset, every harness at the selvedge with cause 0x0A, an exchange
that was to switch cancelled, a kernel command dropped, and a waiting configuration transfer made. Entries still in
the buffers are discarded where the stop suppresses the following commit. -/
def enterStop (cause t : Nat) (d : Device) : Device :=
  let d := selvedgeAll (setMode d 0 cause) t 0x0A
  let d := each (List.finRange 4) (fun d k => if d.loom.suppress then discardBuffer d k else
    showLevel (updTask d k (fun k => { k with buffer := [] })) k) d
  let d := each (List.finRange 4) coreReset (abandonTasks d)
  let d := if xchgState d = 4 then setXchg d 2 0x15 else d
  let d := { d with loom := { d.loom with
    change := none, resume := false, overrun := none, suppress := false, kernelCmd := none, kernelNow := none, firstCommit := true,
    overlay := d.loom.overlay.map (fun _ => false) } }
  if d.cfg.applyAt.isSome then shadowTransfer t d else d

/-- Whether the unit may run a program: unpaired, or the active unit of its pair. -/
def mayRun (d : Device) : Bool := (redState d == 0 || redState d == 2) && domOn d 2 && domOn d 3

/-- Every object of the image at its initial values (R195, R198, R200). -/
def objectsInit (d : Device) (i : LoomImage) : Device :=
  let d := each (List.finRange 64) (fun d n =>
    let d := wrN (wrN (wrN (wrN d (Addr.LOOM_TMR_CTRL n.1) 0) (Addr.LOOM_TMR_PRESET n.1) 0) (Addr.LOOM_TMR_ELAP n.1) 0)
      (Addr.LOOM_TMR_STAT n.1) 0
    { d with loom := { d.loom with timers := upd d.loom.timers n (fun _ => ⟨none, 0, 0, 0⟩) } }) d
  let d := each (List.range 128) (fun d n =>
    wrN (wrN (wrN d (Addr.LOOM_EDG_CTRL n) 0) (Addr.LOOM_EDG_SRC n) 0) (Addr.LOOM_EDG_STAT n) 0) d
  let d := { d with loom := { d.loom with edgeFirst := [] } }
  let d := each (timersOf i).zipIdx (fun d o =>
    atFin 64 o.2 (fun n d =>
      let d := wrF (wrN d (Addr.LOOM_TMR_PRESET n.1) o.1.arg0) (Addr.LOOM_TMR_CTRL n.1) 16 16 o.1.objId
      let d := wrN (wrF d (Addr.LOOM_TMR_STAT n.1) 8 8 o.1.kind) (Addr.LOOM_TMR_ELAP n.1) o.1.initial
      { d with loom := { d.loom with timers := upd d.loom.timers n (fun m => { m with base := o.1.initial }) } }) d) d
  each (edgesOf i).zipIdx (fun d o =>
    let own := decide (o.1.srcBit = 32)
    let d := wrF (wrN d (Addr.LOOM_EDG_SRC o.2) (if own then 0 else o.1.arg0)) (Addr.LOOM_EDG_CTRL o.2) 16 16 o.1.objId
    let d := wrF (wrF d (Addr.LOOM_EDG_STAT o.2) 8 5 o.1.srcBit) (Addr.LOOM_EDG_STAT o.2) 16 8 o.1.kind
    if o.1.initial = 2 then { d with loom := { d.loom with edgeFirst := d.loom.edgeFirst ++ [o.2] } }
    else wrB d (Addr.LOOM_EDG_STAT o.2) 2 (o.1.initial == 1)) d

/-- Every station as a program finds it that has received nothing yet: its timeout counts from `t`. -/
def stationsInit (t : Nat) (d : Device) : Device :=
  stationsFollow (each (List.finRange 16) (fun d k =>
    let d := wrN d (Addr.LOOM_ST_STAT k.1) 0
    updStation d k (fun s => { s with lastRx := some t, timedOut := false, down := false, lostLatch := false,
                                      lostSince := false, fresh := false, seqIn := none })) d)

/-- The change from STOP to RUN begins (R195): the image checked, every section reloaded and every object
initialised. Where the image fails, the loom stays in STOP with the code shown. -/
def runStart (cause t : Nat) (d : Device) : Device :=
  if loomMode d = .stop ∧ d.loom.change = none ∧ mayRun d = true then
    let bank := loomBank d
    let code := imageCode d bank false
    let d := showImage d code
    if code = 0 then
      let i := readImage d bank
      let d := showLoaded (loadImage d i) i
      let d := stationsInit t (objectsInit { d with loom := { d.loom with image := some i } } i)
      { d with loom := { d.loom with change := some ⟨cause, true⟩, paramReq := true } }
    else opFinish d [0x0301] (0x8400 + code) 100 t
  else d

/-- The loom starts by itself at ready (R195, R320): a valid image, `AUTORUN` set, the saddle not degraded. -/
def autorun (t : Nat) (d : Device) : Device :=
  if unitReady d && rdB d Addr.LOOM_CFG 0 && !d.cfg.degraded && !d.loom.everRun then runStart 1 t d else d

/-- The stop command (R195): a STOP to RUN change in progress is cancelled; RUN and HOLD pass to STOP. -/
def loomStop (t : Nat) (d : Device) : Device :=
  match loomMode d with
  | .stop =>
    if d.loom.change.isSome then
      opFinish { d with loom := { d.loom with change := none } } [0x0301] 0x000D 100 t
    else d
  | _ => enterStop 3 t d

/-! ### Hold (R203, R204) -/

/-- The conditions of a debug overlay of a harness (R204). The voltage is taken against the nominal full scale of
R42, 2 000 V. -/
def overlayOk (d : Device) (h : Nat) : Bool :=
  let c := rdF d (Addr.LOOM_OVL_VCH h) 0 8
  let w := rd d (Addr.DEC_MED c)
  decide (c < 32) && !bit w 31 && decide ((dataOf w).natAbs * 2000 < rdF d Addr.LOOM_OVL_VMAX 0 7 * 4194304)
    && rdB d Addr.BRD_PERMIT h

/-- The loom enters HOLD (R203), unless debugging is not enabled or the unit is the active unit of a synchronised
pair. -/
def enterHold (cause t : Nat) (d : Device) : Device :=
  if loomMode d = .run ∧ rdB d Addr.LOOM_CFG 1 = true ∧ ¬ (redState d = 2 ∧ pairSync d = true) then
    let d := setMode d 2 cause
    let d := each (List.finRange 4) (fun d c => updCore d c (fun x => { x with halted := true })) d
    let d := { d with loom := { d.loom with overrun := none, suppress := false, kernelCmd := none, kernelNow := none, latched := [],
                                            overlay := Vector.ofFn (fun h : Fin 4 => overlayOk d h.1) } }
    each (List.finRange 4) (fun d h => if d.loom.overlay[h.1] then d else selvedge d h t 0x0A) d
  else d

/-- The resume command: at the next T0 boundary the loom leaves HOLD for RUN (R204). -/
def loomResume (d : Device) : Device :=
  if loomMode d = .hold then { d with loom := { d.loom with resume := true } } else d

/-- The debug port forces the state of a leg in HOLD under an accepted overlay (R204). -/
def overlayWrite (n : Fin 24) (code t : Nat) (d : Device) : Device :=
  match harOf d n.1 with
  | some h => if loomMode d = .hold ∧ d.loom.overlay[h.1] = true then legCommand d t n (code % 4) else d
  | none => d

/-- A condition of an overlay has lapsed (R204). -/
def overlayLapse (h : Fin 4) (t : Nat) (d : Device) : Device :=
  if d.loom.overlay[h.1] = true ∧ overlayOk d h.1 = false then
    selvedge { d with loom := { d.loom with overlay := upd d.loom.overlay h (fun _ => false) } } h t 0x0A
  else d

/-! ### Overrun and fault stop (R187, R196, R197) -/

/-- An overrun begins at `t` (R196): every harness at the selvedge, the next commit suppressed, the other cores
halted, the overrun recorded, and a self-diagnosis fault. -/
def overrunBegin (task : Fin 4) (t : Nat) (d : Device) : Device :=
  let late := taskCores d task.1 &&& (15 ^^^ (d.loom.tasks[task.1]).done)
  let d := selvedgeAll d t 0x0A
  let d := wrN d Addr.LOOM_OVR_INFO (task.1 + 16 * late + 2 ^ 31)
  let d := wrN (wrN d Addr.LOOM_OVR_CYCLE (rdN d Addr.LOOM_CYCLE)) Addr.LOOM_OVR_AMOUNT 0xFFFFFFFF
  let d := each (List.finRange 4) (fun d c =>
    if (taskCores d task.1).testBit c.1 then d else updCore d c (fun x => { x with halted := true })) d
  let d := { d with loom := { d.loom with overrun := some ⟨task.1, t, false⟩, suppress := true, latched := [] } }
  selfDiag (raise d .overrun task.1) 1 t

/-- The done limit of a deadline (R193). -/
def doneLimit (deadline : Nat) : Nat := deadline - 32 * ckf

/-- An instance of T0, T1 or T2 has not written `LOOM_DONE` at its done limit: tolerated once where T2's bit allows
it (R197), else an overrun. -/
def loomOverrun (task : Fin 4) (t : Nat) (d : Device) : Device :=
  let k := d.loom.tasks[task.1]
  if loomMode d = .run ∧ d.loom.overrun = none ∧ task.1 < 3 ∧ k.active = true ∧ taskComplete d task = false
      ∧ doneLimit (taskDeadline d task) ≤ t ∧ k.extended = false then
    if task = 2 ∧ k.tolOk = true ∧ k.tolUsed = false then
      count (updTask d task (fun k => { k with extended := true, tolUsed := true })) Addr.LOOM_TOL_CNT
    else overrunBegin task t d
  else d

/-- T3's watchdog period has passed without a kick (R197). It is not checked while every core that carries T3 runs a
higher task. -/
def t3Expiry (t : Nat) (d : Device) : Device :=
  match d.loom.image with
  | none => d
  | some i =>
    let per := us i.t3Wdog
    let busy (c : Nat) : Bool := (List.finRange 3).any (fun k =>
      let x := d.loom.tasks[k.1]
      x.active && (taskCores d k.1).testBit c && x.released.testBit c && !x.done.testBit c)
    let away := (bitsOf 4 (taskCores d 3)).all busy
    if loomMode d = .run ∧ d.loom.overrun = none ∧ i.t3Wdog ≠ 0 ∧ d.loom.kickAt + per ≤ t ∧ away = false then
      if (d.loom.tasks[3]).tolOk = true ∧ d.loom.t3Missed = false then
        count { d with loom := { d.loom with t3Missed := true, kickAt := d.loom.kickAt + per } } Addr.LOOM_TOL_CNT
      else overrunBegin 3 t d
    else d

/-- The overrunning instance has finished, or one further period has passed: STOP (R196). -/
def overrunEnd (t : Nat) (d : Device) : Device :=
  match d.loom.overrun with
  | none => d
  | some o =>
    let per := if o.task = 3 then us (rdN d Addr.LOOM_T3_WDOG) else taskMult d o.task * t0Period d
    if o.finished = true ∨ o.limit + per ≤ t then enterStop 4 t d else d

/-- A synchronous exception on a core is a fault stop (R187): its cause captured, and STOP with no wait. `ecc` says
that it is a double-bit error of the core's TCM (R27). -/
def faultStop (core : Fin 4) (mcause mepc mtval : Word) (ecc : Bool) (t : Nat) (d : Device) : Device :=
  if loomMode d = .stop then d
  else
    let d := wr d Addr.LOOM_EXC_CAUSE (setField mcause 30 2 core.1)
    let d := wr (wr d Addr.LOOM_EXC_PC mepc) Addr.LOOM_EXC_TVAL mtval
    let d := updCore d core (fun x => { x with mcause := mcause, mepc := mepc, mtval := mtval })
    let d := raise { d with loom := { d.loom with suppress := true } } .faultStop core.1
    let d := enterStop 5 t d
    let d := selfDiag d 1 t
    if ecc then selfDiag (count d Addr.SYS_ECC_UE_CNT) 3 t else d

/-- A trigger or `EBREAK` on a core (R203): HOLD, or an exception. -/
def debugBreak (core : Fin 4) (pc : Word) (t : Nat) (d : Device) : Device :=
  if loomMode d ≠ .run then d
  else if rdB d Addr.LOOM_CFG 1 && rdB d Addr.LOOM_CFG 2 then enterHold 8 t (updCore d core (fun x => { x with pc := pc }))
  else faultStop core 3 pc 0 false t d

/-- A core writes `LOOM_DONE` for a task (R189, R193, R196). -/
def loomDone (core task : Fin 4) (t : Nat) (d : Device) : Device :=
  let k := d.loom.tasks[task.1]
  if loomMode d = .stop ∨ k.active = false ∨ (taskCores d task.1).testBit core.1 = false ∨ coreHalted d core = true then d
  else
    let d := setMip d core (16 + task.1) false
    let d := updTask d task (fun k => { k with done := k.done ||| 2 ^ core.1 })
    match d.loom.overrun with
    | some o =>
      if o.task = task.1 ∧ taskComplete d task = true then
        wrN { d with loom := { d.loom with overrun := some { o with finished := true } } } Addr.LOOM_OVR_AMOUNT ((t - o.limit) / 20)
      else d
    | none => d

/-! ### Commit (R32, R33, R192) -/

/-- Within one buffer the later entry for an address wins. -/
def latestEntries (es : List CommitEntry) : List CommitEntry :=
  es.foldl (fun acc e => acc.filter (fun x => x.addr ≠ e.addr) ++ [e]) []

/-- The entries of buffers in order of priority, and how many were overridden between buffers. -/
def resolveEntries (bs : List (List CommitEntry)) : List CommitEntry × Nat :=
  bs.foldl (fun acc b =>
    let es := latestEntries b
    let fresh' := es.filter (fun e => !(acc.1.any (fun x => x.addr == e.addr)))
    (acc.1 ++ fresh', acc.2 + (es.length - fresh'.length))) ([], 0)

/-- The harnesses that went to the selvedge in the CKF cycle of the commit. -/
def selvNow (d : Device) (t : Nat) : List (Fin 4) :=
  (List.finRange 4).filter (fun h =>
    (hstate d h.1 == .selvedge || hstate d h.1 == .latched) && decide ((d.har[h.1]).selvAt / ckf = t / ckf))

/-- The entries that remain where the selvedge wins for a harness (R33): its references are discarded, and its bits
of the registers shared by the harnesses keep what they hold; and how many were discarded. -/
def selvWins (d : Device) (t : Nat) (es : List CommitEntry) : List CommitEntry × Nat :=
  let hs := selvNow d t
  let refs := (hs.flatMap (fun h => legsOf d h.1)).map (fun n => Addr.SHED_REF n.1)
  let kept := es.filter (fun e => !refs.contains e.addr)
  let shared (e : CommitEntry) : CommitEntry :=
    if e.addr = Addr.SHED_RUN then
      { e with value := hs.foldl (fun v h => setBit v h.1 false) e.value }
    else if e.addr = Addr.GATE_SELV_REQ then
      { e with value := hs.foldl (fun v h =>
          setBit (setBit v h.1 (rdB d Addr.GATE_SELV_REQ h.1)) (4 + h.1) (rdB d Addr.GATE_SELV_REQ (4 + h.1))) e.value }
    else e
  let hit := (kept.filter (fun e => !hs.isEmpty && (e.addr == Addr.SHED_RUN || e.addr == Addr.GATE_SELV_REQ))).length
  (kept.map shared, es.length - kept.length + hit)

/-- A committed register loaded: the bits that the register has. -/
def loadEntry (d : Device) (e : CommitEntry) : Device :=
  match RegMap.row? e.addr with
  | some r =>
    if e.addr = Addr.SHED_RUN ∨ e.addr = Addr.GATE_SELV_REQ ∨ e.addr = Addr.BRD_KREQ
        ∨ (0x40409000 ≤ e.addr ∧ e.addr < 0x40409400) then d
    else
      let m := BitVec.ofNat 32 (r.rw ||| r.wo)
      wr d e.addr ((rd d e.addr &&& ~~~m) ||| (e.value &&& m))
  | none => d

/-- What a commit sets going in the blocks, beyond the registers it loads: `old` is the unit before it. -/
def commitEffects (old : Device) (es : List CommitEntry) (t : Nat) (d : Device) : Device :=
  let has (a : Nat) : Bool := es.any (fun e => e.addr == a)
  let val (a : Nat) : Word := ((es.find? (fun e => e.addr == a)).map (·.value)).getD 0
  let d := each (List.finRange 24) (fun d n =>
    if has (Addr.SHED_REF n.1) then
      { d with shed := upd d.shed n (fun u => { u with gen :=
          { u.gen with due := some (t + 4 * ckf, dataOf (rd d (Addr.SHED_REF n.1))) } }) }
    else d) d
  let d := each (List.finRange 4) (fun d j => if has (Addr.INJ_CTRL j.1) then injCommit old t d j else d) d
  let d := each (List.finRange 64) (fun d i =>
    if has (Addr.LOOM_TMR_CTRL i.1) then tmrCommit d i (val (Addr.LOOM_TMR_CTRL i.1)) t else d) d
  let d := each (List.finRange 4) (fun d k => dcmpCommit old (has (Addr.DCMP_ANGLE k.1)) t d k) d
  let d := each (List.finRange 32) (fun d n => intStep (has (Addr.INT_CTRL n.1)) d n) d
  let d := if has Addr.RSM_KFREQ then rsmCommit d t else d
  let d := if has Addr.HK_INJ_TRIG ∧ bit (val Addr.HK_INJ_TRIG) 0 = true then hkTrigger d 0 else d
  let d := if has Addr.BRD_KREQ then kreqCommit d (val Addr.BRD_KREQ) t else d
  let d := if has Addr.LOOM_XCHG_GO ∧ bit (val Addr.LOOM_XCHG_GO) 0 = true ∧ xchgState d = 3 then setXchg d 4 0 else d
  let d := if has Addr.GATE_SELV_REQ then selvReqEnter d (val Addr.GATE_SELV_REQ) t else d
  let d := if has Addr.SHED_RUN then shedRunCommit d (val Addr.SHED_RUN) t else d
  if has Addr.GATE_SELV_REQ then selvReqRelease d (val Addr.GATE_SELV_REQ) t else d

/-- The commit of resolved entries at `t` in RUN; the first releases cause 0x0A (R195). It answers the entries whose
registers changed. -/
def commitEntries (es : List CommitEntry) (t : Nat) (d : Device) : List CommitEntry × Device :=
  let (kept, lost) := selvWins d t es
  let d := if lost = 0 then d else countBy d Addr.LOOM_DISCARD_CNT lost
  let old := d
  let d := commitEffects old kept t (kept.foldl loadEntry d)
  let d := if d.loom.firstCommit then
      each (List.finRange 4) (fun d h => ownerRelease d h t 0x0A) { d with loom := { d.loom with firstCommit := false } }
    else d
  ((kept.map (fun e => ⟨e.addr, rd d e.addr⟩)).filter (fun e => rd old e.addr != e.value), d)

/-! ### Instances and the latch (R190 to R193) -/

/-- Whether the deadline of a running instance falls at this boundary. -/
def taskDue (d : Device) (t : Fin 4) : Bool := (d.loom.tasks[t.1]).active && decide ((d.loom.tasks[t.1]).left ≤ 1)

/-- The buffers that a boundary commits, in order of priority. A tolerated instance's buffer is discarded at the
deadline it misses; T3's is committed where it asked. -/
def dueTasks (d : Device) : List (Fin 4) :=
  (List.finRange 4).filter (fun t =>
    if t = 3 then d.loom.flush3 else taskDue d t && !((d.loom.tasks[t.1]).extended && !taskComplete d t))

/-- Whether an instance of T1 and one of T2 end at this boundary, where these tasks exist (R208). -/
def bothEnd (d : Device) : Bool :=
  ([1, 2] : List (Fin 4)).all (fun k => taskMult d k.1 == 0 || (dueTasks d).contains k)

/-- The commit of a boundary in RUN. From an overrun to the STOP that ends it nothing is committed (R196). -/
def boundaryCommit (t : Nat) (d : Device) : List CommitEntry × Device :=
  let d := each ([0, 1, 2] : List (Fin 4)) (fun d k => if taskDue d k && !taskComplete d k then loomOverrun k (doneLimit t) d else d) d
  if d.loom.suppress || d.loom.overrun.isSome then
    let d := each (List.finRange 4) (fun d k => if k = 3 ∨ taskDue d k = true then discardBuffer d k else d) d
    ([], { d with loom := { d.loom with suppress := false } })
  else
    let due := dueTasks d
    let (es, n) := resolveEntries (due.map (fun k => (d.loom.tasks[k.1]).buffer))
    let d := if n = 0 then d else countBy d Addr.LOOM_CB_CONFLICT_CNT n
    let d := each (List.finRange 4) (fun d k =>
      if due.contains k then showLevel (updTask d k (fun k => { k with buffer := [] })) k
      else if taskDue d k then discardBuffer d k
      else d) d
    let d := { d with loom := { d.loom with flush3 := false } }
    let r := commitEntries es t d
    (r.1, each (due.filter (fun k => k ≠ 3)) (fun d k => stationsSend d k.1 (d.time.read t)) r.2)

/-- The instances after the commit of a boundary: one that ends leaves its task free to start again, with `TOL` next
where it had been tolerated; a tolerated one goes on to its extended deadline, and an overrunning one for one further
period; others count down. -/
def advanceTasks (d : Device) : Device :=
  each ([0, 1, 2] : List (Fin 4)) (fun d k =>
    let x := d.loom.tasks[k.1]
    if !x.active then d
    else if taskDue d k then
      if (x.extended && !taskComplete d k) || (d.loom.overrun.map (·.task)) == some k.1 then
        updTask d k (fun x => { x with left := taskMult d k.1, extended := false })
      else updTask d k (fun y => { y with active := false, tolNext := y.tolUsed && (x.extended || y.tolUsed),
                                          tolUsed := false, extended := false })
    else updTask d k (fun x => { x with left := x.left - 1 })) d

/-- The header of a task on a core (R191), as its 16 words. -/
def taskHeader (d : Device) (task core : Fin 4) (time : Nat) : List Word :=
  let k := d.loom.tasks[task.1]
  let ctx := (d.loom.image.map (·.kctx)).getD 0
  let param := task == 0 && d.loom.paramNow && inDtcm ctx 1024 0 0x20000
    && decide (dtcmBase core.1 ≤ ctx ∧ ctx < dtcmBase core.1 + 0x20000)
  let flags := k.first + 8 * k.tolNext.toNat + 16 * param.toNat + 32 * (taskStale d task.1).toNat
  let lost := if k.first.testBit 6 then d.loom.lost else 0
  [rd d Addr.LOOM_CYCLE, word flags, loWord time, hiWord time, word lost] ++ List.replicate 11 0

/-- The latch of the tasks whose instances begin (R190): stations, edge detectors, then every source word; the words
wait for the release of each core. A kernel command that waits is placed (R348). -/
def latchTasks (starts : List (Fin 4)) (t : Nat) (d : Device) : Device :=
  match d.loom.image with
  | none => d
  | some i =>
    let d := each starts (fun d k => edgesLatch (stationsLatch d k.1) k.1 t) d
    let d := { d with loom := { d.loom with
      latchTime := d.time.read t, paramNow := d.loom.paramReq, paramReq := false,
      kernelNow := d.loom.kernelCmd, kernelCmd := none } }
    let words (k c : Fin 4) : List Word :=
      taskHeader d k c d.loom.latchTime ++ (snapList i k.1 c.1).map (fun e => sourceWord d e.source t)
    let lists := starts.flatMap (fun k =>
      ((List.finRange 4).filter (fun c => (taskCores d k.1).testBit c.1)).map (fun c => (k.1, c.1, words k c)))
    let tol (b : Fin 4) : Bool := rdB d Addr.LOOM_CFG (8 + b.1)
    let d := { d with loom := { d.loom with
      latched := d.loom.latched.filter (fun l => !(starts.any (fun k => k.1 == l.1))) ++ lists } }
    each starts (fun d k => updTask d k (fun x =>
      { x with active := true, released := 0, done := 0, left := taskMult d k.1, extended := false, tolNext := false,
               tolUsed := false, tolOk := tol k, first := 0 })) d

/-- The tasks whose instances begin at a boundary: those that are present and idle. T1 and T2 begin at multiples of
their periods, which is where their last instance ended. -/
def startingTasks (d : Device) : List (Fin 4) :=
  ([0, 1, 2] : List (Fin 4)).filter (fun k => taskMult d k.1 != 0 && !(d.loom.tasks[k.1]).active)

/-- The words of a latch copied into the loom area of a core's DTCM, with the kernel parameter block where it is
rewritten, and the release interrupt raised (R157, R190, R191). -/
def taskRelease (task core : Fin 4) (d : Device) : Device :=
  match d.loom.latched.find? (fun l => l.1 == task.1 && l.2.1 == core.1) with
  | none => d
  | some (_, _, ws) =>
    let base := dtcmBase core.1 + [0, 0x800, 0x1040, 0x1880].getD task.1 0
    let d := each ws.zipIdx (fun d w => dmaPutNat d (base + 4 * w.2) 4 w.1.toNat) d
    let ctx := (d.loom.image.map (·.kctx)).getD 0
    let param := (ws.getD 1 0).getLsbD 4
    let d := if param then each (List.range 112) (fun d k => dmaPutNat d (ctx + 4 * k) 4 (fieldN d (0x0600 + k))) d else d
    let d := { d with loom := { d.loom with
      latched := d.loom.latched.filter (fun l => !(l.1 == task.1 && l.2.1 == core.1)) } }
    setMip (updTask d task (fun k => { k with released := k.released ||| 2 ^ core.1 })) core (16 + task.1) true

/-! ### Exchange (R208 to R210) -/

/-- The code of R209 with which an exchange is refused, 0 where it may take place. -/
def xchgCode (d : Device) : Nat :=
  match d.loom.image, d.loom.armed with
  | some o, some n =>
    let clash := n.sections.any (fun s => !inTcm s && o.sections.any (fun u => !inTcm u && sectionsMeet s u))
    if o.full ∨ n.full then 0x10
    else if o.t0 ≠ n.t0 ∨ o.coreMap ≠ n.coreMap then 0x11
    else if paired d ∧ pairSync d = false then 0x12
    else if degraded d then 0x13
    else if clash then 0x14
    else if loomMode d ≠ .run then 0x15
    else 0
  | _, _ => 0x15

/-- The new object table filled from the old (R210). -/
def objectsCarry (old : Device) (o n : LoomImage) (t : Nat) (d : Device) : Device :=
  let was (kind : ObjEntry → Bool) (x : ObjEntry) : Option Nat :=
    let l := o.objects.filter kind
    l.findIdx? (fun y => y.objId == x.objId && y.kind == x.kind)
  let dropped := (o.objects.filter (fun x => !(n.objects.any (fun y => y.objId == x.objId && y.kind == x.kind)))).length
  let d := objectsInit d n
  let d := if dropped = 0 then d else countBy d Addr.LOOM_OBJ_DROP_CNT dropped
  let d := each (timersOf n).zipIdx (fun d x =>
    match fin? 64 x.2, (was (·.timer) x.1).bind (fin? 64) with
    | some i, some j =>
      let old := tmrSettle old j t
      let d := wrB d (Addr.LOOM_TMR_CTRL i.1) 0 (rdB old (Addr.LOOM_TMR_CTRL j.1) 0)
      let d := wrN d (Addr.LOOM_TMR_ELAP i.1) (rdN old (Addr.LOOM_TMR_ELAP j.1))
      let d := wrB d (Addr.LOOM_TMR_STAT i.1) 0 (rdB old (Addr.LOOM_TMR_STAT j.1) 0)
      let m := old.loom.timers[j.1]
      { d with loom := { d.loom with timers := upd d.loom.timers i (fun _ =>
          { m with presetWas := tmrPreset old j t, presetAt := t + us 1 }) } }
    | _, _ => d) d
  each (edgesOf n).zipIdx (fun d x =>
    match was (·.edge) x.1 with
    | some j =>
      let d := wrB d (Addr.LOOM_EDG_STAT x.2) 2 (rdB old (Addr.LOOM_EDG_STAT j) 2)
      let d := wrB d (Addr.LOOM_EDG_CTRL x.2) 0 (rdB old (Addr.LOOM_EDG_CTRL j) 0)
      { d with loom := { d.loom with edgeFirst :=
          if old.loom.edgeFirst.contains j then d.loom.edgeFirst else d.loom.edgeFirst.filter (· ≠ x.2) } }
    | none => d) d

/-- The switch of R208 at D + 2: the halves exchanged, the objects carried over, the new image in use. -/
def xchgSwitch (t : Nat) (d : Device) : Device :=
  match d.loom.image, d.loom.armed with
  | some o, some n =>
    let d := showLoaded (objectsCarry d o n t (swapHalves d)) n
    let ret := decide (o.layout = n.layout)
    let d := wrB (setXchg (wrN d Addr.LOOM_XCHG_GO 0) 5 0) Addr.LOOM_MODE 16 (n.bank == 1)
    let d := stationsFollow { d with loom := { d.loom with image := some n, armed := none, paramReq := true } }
    let d := abandonTasks d
    let tasks := d.loom.tasks.map (fun k => { k with buffer := [], first := 2 + 4 * ret.toNat })
    coresStart { d with loom := { d.loom with kickAt := t, tasks := tasks } }
  | _, _ => d

/-! ### The boundary (R32, R195, R208) -/

/-- Every task starts afresh with bits of `FLAGS`, and the cores run from their start addresses. -/
def startAll (flags t : Nat) (d : Device) : Device :=
  let tol := rdB d Addr.LOOM_CFG 11
  let d := coresStart (abandonTasks d)
  let tasks := upd (d.loom.tasks.map (fun k => { k with first := flags, buffer := [] })) (3 : Fin 4) (fun k => { k with tolOk := tol })
  { d with loom := {
      d.loom with kickAt := t, t3Missed := false, everRun := true, firstCommit := true, resume := false, change := none, tasks := tasks } }

/-- A T0 boundary with the number of the cycle advanced (R211). -/
def countCycle (t : Nat) (d : Device) : Device :=
  let d := { d with loom := { d.loom with lastD := t } }
  countWrap d Addr.LOOM_CYCLE Addr.LOOM_CYCLE_WRAP

/-- The T0 deadline D at `t` (R32): the commit; the shadow transfer at D + 1 with what else passes into use at a T0
boundary; a mode change or an exchange that waits for the boundary; the latch at D + 2; the image for the link. -/
def boundary (t : Nat) (d : Device) : Device :=
  if rdN d Addr.LOOM_T0_CKF = 0 then boundaryTransfer t d
  else
    let d := countCycle t d
    let mode := loomMode d
    let t1 := taskDue d 1
    let (cs, d) := match mode with
      | .run => boundaryCommit t d
      | _ => ([], each (List.finRange 4) discardBuffer d)
    let ends := bothEnd d
    let d := if loomMode d = .run then advanceTasks d else d
    let d := refBoundaryT0 (calBoundaryT0 (rsmBoundaryT0 (boundaryTransfer t d)))
    let d2 := t + 2 * ckf
    let switch := loomMode d == .run && d.loom.overrun.isNone && xchgState d == 4 && ends
    let code := xchgCode d
    let d := if switch then (if code = 0 then xchgSwitch d2 d else setXchg d 2 code) else d
    let d := if loomMode d = .stop then
        match d.loom.change with
        | some c => if c.loaded then opFinish (startAll 1 t (setMode d 1 c.cause)) [0x0301] 0 100 t else d
        | none => d
      else if loomMode d = .hold ∧ d.loom.resume = true then startAll 5 t (setMode d 1 9)
      else d
    let d := if loomMode d = .run ∧ d.loom.overrun = none then latchTasks (startingTasks d) d2 d else d
    imageSend cs (switch && code == 0) (t1 || mode != .run) t d

/-- The loom enters RUN at the T0 boundary at `t`, once the image is reloaded. -/
def runEntry (t : Nat) (d : Device) : Device :=
  match d.loom.change with
  | some c => if c.loaded ∧ loomMode d = .stop then boundary t d else d
  | none => d

/-- The boundary at which a switch that waits takes place (R208). -/
def xchgBoundary (t : Nat) (d : Device) : Device :=
  if xchgState d = 4 ∧ bothEnd d = true then boundary t d else d

end Sys2Proof.Machine
end

