-- ==== Sys2Proof/Machine/Domains.lean ====
section
/-! DEFINITION. The power domains: what switching one on or off does (R16, R133, R402, R406, R413), and the seal
loops that PD0 measures (R438). -/

namespace Sys2Proof.Machine

open Sys2Proof

/-- The unit after `f` while every domain of a list is on; unchanged otherwise. -/
def whileOn (doms : List Nat) (f : Device → Device) (d : Device) : Device :=
  if doms.all (domOn d) then f d else d

/-- The unit after `f` while some shuttle core has power: PD2 feeds S0 and S1, PD3 feeds S2 and S3. -/
def whileCores (f : Device → Device) (d : Device) : Device :=
  if domOn d 2 || domOn d 3 then f d else d

/-- The shuttle cores that a domain feeds: S0 and S1 on PD2, S2 and S3 on PD3. -/
def domCores (n : Nat) : List (Fin 4) := if n = 2 then [0, 1] else if n = 3 then [2, 3] else []

/-- The gate channels of a bank's domain: `G00` to `G23` on PD9, `G24` to `G47` on PD10. -/
def domGates (n : Nat) : List (Fin 48) :=
  (List.finRange 48).filter (fun c => if n = 9 then decide (c.1 < 24) else if n = 10 then decide (24 ≤ c.1) else false)

/-- Cores without power: their memories no longer hold anything. -/
def coresOff (n : Nat) (d : Device) : Device :=
  each (domCores n) (fun d c => coreReset (memForget (memForget d (itcmBase c.1) 0x20000) (dtcmBase c.1) 0x20000) c) d

/-- A gate bank without power (R16): no report arrives, and every island of it goes to the entry it holds. -/
def gatesOff (n t : Nat) (d : Device) : Device :=
  each (domGates n) (fun d c => islandTimeout c t (wrB d (Addr.GATE_CSTAT c.1) 7 false)) d

/-- A gate bank that comes up (R133): the link to every island with supply, which takes its entry. -/
def gatesOn (n : Nat) (d : Device) : Device :=
  let m := ownMode d
  each (domGates n) (fun d c =>
    if (d.gchan[c.1]).supplyUp then
      let d := { d with gchan := upd d.gchan c (fun g => { g with entry := entryOf d m c.1, hizAt := none, entryAt := none }) }
      setCstate (wrB d (Addr.GATE_CSTAT c.1) 7 true) c.1 (if m = 0 then .hiz else .off)
    else d) d

/-- The networks without power: no link, no frame in either direction. -/
def networksOff (t : Nat) (d : Device) : Device :=
  let d := cutFrame (wrN d Addr.ETH_LINK 0) t
  let d := wrB d Addr.RED_STAT 6 false
  stationsFollow { d with red := { d.red with peerUp := false, rxRun := 0 } }

/-- A modulator island whose converter is off (R49, R402). -/
def islandOff (current : Bool) (d : Device) : Device :=
  wrF (islandLoss current true d) Addr.MOD_ISL_STAT (if current then 3 else 0) 3 0

/-- A domain switched off. -/
def domSwitchOff (n t : Nat) (d : Device) : Device :=
  if domOn d n then
    let d := setDom d n false
    match n with
    | 1 => memForget (memForget d 0x20000000 0x400000) 0x80000000 0x20000000
    | 2 | 3 => coresOff n d
    | 4 => ledgerOff { d with regs := d.regs.filter (fun r => r.1 / 0x10000 != 0x40A0) }
    | 5 => { wrN d Addr.CLK_STAT 0 with clock := ⟨none, none, none, false, d.clock.trimUsed⟩ }
    | 6 => networksOff t d
    | 7 => islandOff false d
    | 8 => islandOff true d
    | 9 | 10 => gatesOff n t d
    | 11 => bridlePowerUp d
    | _ => d
  else d

/-- A domain switched on. -/
def domSwitchOn (n : Nat) (d : Device) : Device :=
  if domOn d n then d
  else
    let d := setDom d n true
    match n with
    | 2 | 3 => each (domCores n) coreReset d
    | 5 => rootStart d
    | 9 | 10 => gatesOn n d
    | 11 => bridlePowerUp d
    | _ => d

/-- A measurement of the loop of seal `n` (R438): it reads closed once two consecutive measurements lie within 8 to
12 kΩ; any open reading sets its latch. -/
def sealMeasure (n : Fin 4) (ohms : Nat) (d : Device) : Device :=
  { d with seals := upd d.seals n (fun s =>
      let run := if 8000 ≤ ohms ∧ ohms ≤ 12000 then min 2 (s.run + 1) else 0
      { openNow := run != 2, run := run, latch := s.latch || run != 2 }) }

/-- The latches as the start of PD1 reads and clears them (R438): a set `SEAL0` latch is one opening, and the next
record of every point carries `SEAL`. -/
def sealLatches (d : Device) : Device :=
  let d := if (d.seals[0]).latch then
      let (x, o) := bumpMeter d.meter.openings 2 d.meter.ovf
      { d with meter := { d.meter with openings := x, ovf := o, sealFirst := 0xF } }
    else d
  { d with seals := d.seals.map (fun s => { s with latch := s.openNow }) }

end Sys2Proof.Machine
end

