-- ==== Sys2Proof/Machine/Saddle.lean ====
section
/-! DEFINITION. The saddle, the tacks and the stack: their stored form, what is loaded at start-up, what a store
and a stack change do, and the MRAM operations that carry them (R308 to R324). -/

namespace Sys2Proof.Machine

open Sys2Proof

/-! ### Records in store (R308, R312, R315) -/

/-- Whether the CRC-8 of an 8-byte record is good. -/
def recordGood (bs : List Byte) : Bool :=
  bs.length == 8 && bs[3]? == some (crc8 (bs.take 3 ++ bs.drop 4))

/-- The identifier and the value of a record. -/
def recordOf (bs : List Byte) : Nat × Word := (sliceLE bs 0 2, word (sliceLE bs 4 4))

/-- Whether identifiers ascend strictly. -/
def ascending : List Nat → Bool
  | a :: b :: l => decide (a < b) && ascending (b :: l)
  | _ => true

/-- A stored set of records with its 32-byte header, as it lies at an address of the MRAM. -/
def storeHeader (d : Device) (base : Nat) : List Byte := memBytes d base 32

/-- Whether the CRC of a header over its first 28 bytes is good. -/
def headerGood (h : List Byte) : Bool := sliceLE h 28 4 == crc32c (h.take 28)

/-- The `n` records behind a header. -/
def storeRecords (d : Device) (base n : Nat) : List (List Byte) :=
  (List.range n).map (fun i => memBytes d (base + 32 + 8 * i) 8)

/-- Whether what lies at an address is valid: the magic, the format, byte 3, both CRCs, the count, the CRC-8 of every
record and ascending identifiers. -/
def storeValid (d : Device) (base magic third most : Nat) : Bool :=
  let h := storeHeader d base
  let n := sliceLE h 4 4
  sliceLE h 0 2 == magic && sliceLE h 2 1 == 1 && sliceLE h 3 1 == third && headerGood h && decide (n ≤ most)
    && (let rs := storeRecords d base n
        sliceLE h 24 4 == crc32c rs.flatten && rs.all recordGood && ascending (rs.map (fun r => (recordOf r).1)))

/-- The records of a valid store. -/
def storeList (d : Device) (base : Nat) : List (Nat × Word) :=
  (storeRecords d base (sliceLE (storeHeader d base) 4 4)).map recordOf

/-- The address of saddle copy A (`k` = 0) or B (`k` = 1). -/
def copyBase (k : Nat) : Nat := mramBase + 0x10000 * k

/-- Whether a saddle copy is valid (R312). -/
def copyValid (d : Device) (k : Nat) : Bool := storeValid d (copyBase k) 0x5357 (0x0A + k) 8188

/-- The generation of a copy whose header is good; 0 of any other. -/
def copyGen (d : Device) (k : Nat) : Nat :=
  let h := storeHeader d (copyBase k)
  if sliceLE h 0 2 = 0x5357 ∧ headerGood h = true then sliceLE h 8 8 else 0

/-- The generation of the saddle in store: the higher of the two copies. -/
def saddleGen (d : Device) : Nat := max (copyGen d 0) (copyGen d 1)

/-- The copy that a load takes, of those valid (R319). -/
def saddleCopy (d : Device) : Option Nat :=
  match copyValid d 0, copyValid d 1 with
  | true, true => some (if copyGen d 0 < copyGen d 1 then 1 else 0)
  | true, false => some 0
  | false, true => some 1
  | false, false => none

/-- The slot of tack `t` (R322). -/
def tackBase (t : Nat) : Nat := mramBase + 0x20000 + 0x1000 * t

/-- Whether a slot holds a valid tack (R315). -/
def tackValid (d : Device) (t : Nat) : Bool :=
  decide (1 ≤ t ∧ t ≤ 15) && storeValid d (tackBase t) 0x4B57 t 508

/-- The records of a tack. -/
def tackList (d : Device) (t : Nat) : List (Nat × Word) := storeList d (tackBase t)

/-- Whether a tack is of policy 1 (R315). -/
def tackWhole (d : Device) (t : Nat) : Bool := memByte d (tackBase t + 16) == 1

/-- A header of 28 bytes with its CRC. -/
def sealHeader (h : List Byte) : List Byte := h ++ bytesLE 4 (crc32c h)

/-- A saddle copy as bytes (R312). -/
def copyBytes (k gen : Nat) (boot : List Nat) (recs : List (List Byte)) : List Byte :=
  sealHeader ([0x57, 0x53, 1, BitVec.ofNat 8 (0x0A + k)] ++ bytesLE 4 recs.length ++ bytesLE 8 gen
    ++ (List.range 4).map (fun i => BitVec.ofNat 8 ((boot[i]?).getD 0)) ++ zeros 4
    ++ bytesLE 4 (crc32c recs.flatten)) ++ recs.flatten

/-- A tack as bytes (R315). -/
def tackBytes (t gen policy : Nat) (name : List Byte) (recs : List (List Byte)) : List Byte :=
  sealHeader ([0x57, 0x4B, 1, BitVec.ofNat 8 t] ++ bytesLE 4 recs.length ++ bytesLE 8 gen
    ++ [BitVec.ofNat 8 policy] ++ (name ++ zeros 7).take 7 ++ bytesLE 4 (crc32c recs.flatten)) ++ recs.flatten

/-- A saturating generation, one higher. -/
def nextGen (g : Nat) : Nat := min (g + 1) (2 ^ 64 - 1)

/-! ### Resolving (R309) -/

/-- The selvedge fields (R313). -/
def selvedgeField (id : Nat) : Bool :=
  match FieldMap.find? id with
  | some (r, _) => r.guard == .selv || r.guard == .stageSelv
  | none => false

/-- The fields that no tack may carry (R315). -/
def tackForbids (id : Nat) : Bool := ownerField id || selvedgeField id

/-- The value of a field from the highest position of a stack whose tack holds it, with the tack. -/
def stackValue (tacks : List (Nat × List (Nat × Word))) (id : Nat) : Option (Nat × Word) :=
  tacks.reverse.findSome? (fun t => ((t.2.find? (fun r => r.1 == id)).map (fun r => (t.1, r.2))))

/-- The tacks of a stack with the records that they may carry. -/
def stackTacks (d : Device) (stack : List Nat) : List (Nat × List (Nat × Word)) :=
  (stack.filter (· ≠ 0)).map (fun t => (t, (tackList d t).filter (fun r => !tackForbids r.1)))

/-- The requested set (R309) of a stack over the saddle's records: every allocated field with its origin, and the
records that are ignored. -/
def resolveSet (d : Device) (stack : List Nat) (saddle : List (Nat × Word)) (withSaddle : Bool) : List CfgReq :=
  let tacks := stackTacks d stack
  let fields := allIds.map (fun id =>
    match stackValue tacks id with
    | some (t, v) => { id := id, raw := v, origin := t, why := 0 : CfgReq }
    | none =>
      match saddle.find? (fun r => r.1 == id) with
      | some r => ⟨id, r.2, 0, 0⟩
      | none => ⟨id, FieldMap.defaultOf id, 0xFF, 0⟩)
  let stray (l : List (Nat × Word)) (o : Nat) : List CfgReq :=
    (l.filter (fun r => !FieldMap.allocated r.1)).map (fun r => ⟨r.1, r.2, o, 5⟩)
  fields ++ (if withSaddle then stray saddle 0 else []) ++ tacks.flatMap (fun t => stray t.2 t.1)

/-- The fields that stacked tacks of policy 1 hold (R316). -/
def wholeIds (d : Device) (stack : List Nat) : List Nat :=
  (stack.filter (fun t => t != 0 && tackWhole d t)).flatMap (fun t => (tackList d t).map (·.1))

/-- Whether the kernel of the program reads OFF, as the steward finds it when it prepares a change (R184, R310). -/
def kernelOff (d : Device) : Bool :=
  match d.loom.image with
  | some i => kstate d i.kctx == 0
  | none => true

/-- The saddle's records in use: of the copy that a load takes, or what a degraded load took. -/
def saddleList (d : Device) : List (Nat × Word) :=
  match saddleCopy d with
  | some k => storeList d (copyBase k)
  | none => d.cfg.taken

/-- A change resolved (R316): its requested set, the fields of policy 1 and the fields that the kernel withholds. -/
def resolveChange (d : Device) (c : CfgChange) : CfgChange :=
  { c with resolved := true, reqs := resolveSet d c.stack (saddleList d) (c.source == 1 || c.source == 2),
           whole := wholeIds d c.stack, kept := kernelHeld d (kernelOff d) }

/-- A change begun. -/
def beginChange (d : Device) (source : Nat) (stack : List Nat) : Device :=
  { d with cfg := { d.cfg with change := some ⟨source, stack, false, [], [], []⟩ } }

/-- An accepted change is resolved, written to the shadows, and `APPLY` is written (R316). -/
def stackResolved (t : Nat) (d : Device) : Device :=
  match d.cfg.change with
  | some c =>
    if c.resolved then d
    else cfgApply 1 t { d with cfg := { d.cfg with change := some (resolveChange d c) } }
  | none => d

/-! ### The load at start-up (R319, R320) -/

/-- The records of one copy that parse, read one by one (R320): the count of a bad header is not trusted. -/
def parsedRecords (d : Device) (k : Nat) : List (Nat × Word) :=
  let h := storeHeader d (copyBase k)
  let n := if headerGood h then min 8188 (sliceLE h 4 4) else 8188
  (storeRecords d (copyBase k) n).filterMap parseRecord

/-- What a degraded load takes: for each identifier the first record that parses, from the copy of higher generation
if its header is good, else from copy A first; selvedge records only while `SEAL2` reads open. -/
def degradedTake (d : Device) : List (Nat × Word) :=
  let first := if copyGen d 0 < copyGen d 1 then 1 else 0
  let recs := parsedRecords d first ++ parsedRecords d (1 - first)
  allIds.filterMap (fun id =>
    if selvedgeField id && !sealOpen d 2 then none else recs.find? (fun r => r.1 == id))

/-- The requested set of a degraded load: the fields taken, and defaults with their reason. -/
def degradedSet (d : Device) (taken : List (Nat × Word)) : List CfgReq :=
  allIds.map (fun id =>
    match taken.find? (fun r => r.1 == id) with
    | some r => ⟨id, r.2, 0, 0⟩
    | none => ⟨id, FieldMap.defaultOf id, 0xFF, if selvedgeField id && !sealOpen d 2 then 4 else 6⟩)

/-- A load passes at once, since the loom is in STOP (R319). -/
def loadSet (d : Device) (c : CfgChange) (t : Nat) : Device :=
  cfgApply 1 t { d with cfg := { d.cfg with change := some c } }

/-- The saddle loaded at start-up (R319): the valid copy of higher generation, with the other rewritten where it is
not valid, and the boot stack without the tacks that are not valid; else the degraded load of R320. -/
def saddleLoad (t : Nat) (d : Device) : Device :=
  match saddleCopy d with
  | some k =>
    let h := storeHeader d (copyBase k)
    let recs := storeRecords d (copyBase k) (sliceLE h 4 4)
    let boot := (List.range 4).map (fun i => sliceLE h (16 + i) 1)
    let d := if copyValid d (1 - k) then d
      else raise (mramPut d 4 .plain [(copyBase (1 - k), copyBytes (1 - k) (sliceLE h 8 8) boot recs)]) .saddleCopy (1 - k)
    let d := each boot (fun d b => if b = 0 ∨ tackValid d b = true then d else raise d .tackInvalid b) d
    let stack := boot.map (fun b => if tackValid d b then b else 0)
    loadSet d (resolveChange d ⟨1, stack, true, [], [], []⟩) t
  | none =>
    let taken := degradedTake d
    let d := { d with cfg := { d.cfg with degraded := true, taken := taken } }
    loadSet d ⟨1, [0, 0, 0, 0], true, degradedSet d taken, [], kernelHeld d (kernelOff d)⟩ t

/-! ### Stores (R313, R315, R321) -/

/-- Both saddle copies written, the lower first (R313). -/
def copiesPut (d : Device) (gen : Nat) (boot : List Nat) (recs : List (List Byte)) : Device :=
  let lower := match copyValid d 0, copyValid d 1 with
    | true, true => if copyGen d 0 < copyGen d 1 then 0 else 1
    | false, true => 0
    | _, _ => 1
  let d := mramPut d 4 (.saddleCopy false) [(copyBase lower, copyBytes lower gen boot recs)]
  mramPut d 4 (.saddleCopy true) [(copyBase (1 - lower), copyBytes (1 - lower) gen boot recs)]

/-- The cycle of a report on something that changed nothing in force (R311). -/
def noCycle : Nat := 0xFFFFFFFF

/-- Whether staged records may be stored (R313, R345): the count and the CRC match the buffer, every CRC-8 is good
and the identifiers ascend. -/
def stagedOk (d : Device) (count' crc most : Nat) : Bool :=
  let bs := d.tomus.staging
  bs.length == 8 * count' && decide (count' ≤ most) && crc32c bs == crc
    && (let rs := chunks 8 count' bs
        rs.all recordGood && ascending (rs.map (fun r => (recordOf r).1)))

/-- The staged records. -/
def stagedRecords (d : Device) : List (List Byte) := chunks 8 (d.tomus.staging.length / 8) d.tomus.staging

/-- A complete saddle stored (R313): selvedge records keep their stored values while `SEAL2` reads closed, with a
report each and one count of the refusal. -/
def saddleStore (boot : List Nat) (d : Device) : Device :=
  let old := saddleList d
  let shut := !sealOpen d 2
  let staged := (stagedRecords d).map (fun r => (r, recordOf r))
  let change (x : List Byte × Nat × Word) : Bool :=
    shut && selvedgeField x.2.1 && (old.find? (fun r => r.1 == x.2.1)).map (·.2) != some x.2.2
  let recs := staged.filterMap (fun x =>
    if change x then (old.find? (fun r => r.1 == x.2.1)).map (fun r => fieldRecord r.1 r.2) else some x.1)
  let held := staged.filter change
  let d := each held (fun d x => clampReport d 4 ⟨x.2.1, x.2.2, 0, 4⟩ 2 noCycle) d
  let d := if held.isEmpty then d else sealRefused d 2
  let d := { d with cfg := { d.cfg with store := some (0, 2), storeSrc := 2 } }
  copiesPut d (nextGen (saddleGen d)) boot recs

/-- A tack stored (R315): fields that no tack may carry are left out and reported. -/
def tackStore (t policy : Nat) (name : List Byte) (d : Device) : Device :=
  let staged := (stagedRecords d).map (fun r => (r, recordOf r))
  let d := each (staged.filter (fun x => tackForbids x.2.1))
    (fun d x => clampReport d 7 ⟨x.2.1, x.2.2, t, 7⟩ 3 noCycle) d
  let recs := (staged.filter (fun x => !tackForbids x.2.1)).map (·.1)
  let h := storeHeader d (tackBase t)
  let gen := if sliceLE h 0 2 = 0x4B57 ∧ headerGood h = true then sliceLE h 8 8 else 0
  let d := { d with cfg := { d.cfg with store := some (t, 1), storeSrc := 3 } }
  mramPut d 4 (.tack t) [(tackBase t, tackBytes t (nextGen gen) policy name recs)]

/-- The degraded state acknowledged (R321): both copies written with what the degraded load took. -/
def saddleAck (d : Device) : Device :=
  let recs := d.cfg.taken.map (fun r => fieldRecord r.1 r.2)
  let d := { d with cfg := { d.cfg with store := some (0, 2), storeSrc := 5 } }
  copiesPut d (nextGen (saddleGen d)) [0, 0, 0, 0] recs

/-- The result of R316 with which a stack change is refused, 0 where it is accepted, and the fields behind 0x05. -/
def stackCode (d : Device) (stack : List Nat) : Nat × List CfgReq :=
  let named := stack.filter (· ≠ 0)
  let busy := d.cfg.change.isSome || (match d.cfg.store with
    | some (0, _) => true
    | some (t, _) => d.cfg.stack.contains t
    | none => false)
  if busy then (1, [])
  else if !named.all (tackValid d) then (2, [])
  else if !named.Nodup then (3, [])
  else if d.cfg.degraded then (4, [])
  else
    let c := resolveChange d ⟨4, stack, true, [], [], []⟩
    let fails := wholeFails d c (canDefaults d c.reqs)
    (if fails.isEmpty then 0 else 5, fails)

/-- A stack change requested (R316): the result, and the unit with the change begun or with a report of reason 0x09
for each field that refuses it. -/
def stackSelect (stack : List Nat) (d : Device) : Nat × Device :=
  let (code, fails) := stackCode d stack
  if code = 0 then (0, beginChange d 4 stack)
  else (code, each fails (fun d r => clampReport d 9 r 4 noCycle) d)

/-- One copy of the saddle is in store: after the second the store is complete (R313, R321). -/
def copyStored (second : Bool) (t : Nat) (d : Device) : Device :=
  if second then
    let d := { d with cfg := { d.cfg with store := none } }
    if d.cfg.storeSrc = 5 then
      let missing := allIds.filter (fun id => !(d.cfg.taken.any (fun r => r.1 == id)))
      let d := each missing (fun d id => clampReport d 6 ⟨id, FieldMap.defaultOf id, 0xFF, 6⟩ 5 noCycle) d
      opFinish { d with cfg := { d.cfg with degraded := false, taken := [] } } [0x0105] 0 100 t
    else beginChange { d with cfg := { d.cfg with degraded := false, taken := [] } } 2 d.cfg.stack
  else { d with cfg := { d.cfg with store := d.cfg.store.map (fun s => (s.1, 1)) } }

/-- A tack is in store (R317): a stacked one is a stack change with the same stack. -/
def tackStored (k t : Nat) (d : Device) : Device :=
  let d := { d with cfg := { d.cfg with store := none } }
  if d.cfg.stack.contains k then beginChange d 3 d.cfg.stack else opFinish d [0x0103] 0 100 t

/-! ### The MRAM controller (R323) -/

/-- What the completion of a transaction settles. -/
def txDone (n : TxNote) (t : Nat) (d : Device) : Device :=
  match n with
  | .thermal =>
    let d := wrB d Addr.TH_STAT 6 false
    if d.therm.moduleOff then
      domSwitchOff 8 t (domSwitchOff 7 t { d with therm := { d.therm with moduleOff := false } })
    else d
  | .record slot => bobPush d 13 (memBytes d (0x60100000 + 1024 * slot) 1024)
  | .calCommit => { d with cal := { d.cal with written := true } }
  | .saddleCopy second => copyStored second t d
  | .tack k => tackStored k t d
  | _ => d

/-- An operation of the MRAM controller ends (R323): what it wrote, the end of its transaction where it was the
last, and the next operation by priority. -/
def mramDone (t : Nat) (d : Device) : Device :=
  match d.mram.findIdx? (·.running) with
  | none => d
  | some i =>
    match d.mram[i]? with
    | none => d
    | some x =>
      let d := mramApply d (x.ops.headD .complete)
      let rest := x.ops.drop 1
      let x' := { x with running := false, ops := rest,
                         committed := x.committed || x.ops.head? == some .commit || x.writer == 0 }
      if rest.isEmpty then
        mramKick (txDone x.note t { d with mram := d.mram.eraseIdx i })
      else mramKick { d with mram := d.mram.set i x' }

/-- Power is cut to the controller (R323, R413): the operation in progress completes, no other starts. -/
def mramHalt (d : Device) : Device :=
  match d.mram.findIdx? (·.running) with
  | none => d
  | some i =>
    match d.mram[i]? with
    | none => d
    | some x =>
      let d := mramApply d (x.ops.headD .complete)
      let rest := x.ops.drop 1
      let x' := { x with running := false, ops := rest,
                         committed := x.committed || x.ops.head? == some .commit || x.writer == 0 }
      { d with mram := if rest.isEmpty then d.mram.eraseIdx i else d.mram.set i x' }

end Sys2Proof.Machine
end

