-- ==== Sys2Proof/Machine/Red.lean ====
section
/-! DEFINITION. Pairs over the Filut link: what a received frame does, segments, synchronisation, the handover, the
takeover boundary, takeback and the start of a pair (R376 to R399). -/

namespace Sys2Proof.Machine

open Sys2Proof

/-- The T0 period as an instant difference. -/
def t0Time (d : Device) : Nat := rdN d Addr.LOOM_T0_CKF * ckf

/-- Whether this unit is the B of its pair. -/
def unitB (d : Device) : Bool := rdB d Addr.RED_STAT 4

/-! ### Committed registers (R386) -/

/-- The addresses of an array of registers. -/
def gridAddrs : List (Nat × Nat) → Nat → List Nat
  | [], a => [a]
  | (stride, n) :: ds, a => (List.range n).flatMap (fun k => gridAddrs ds (a + k * stride))

/-- Every committed register of the map. -/
def committedAddrs : List Nat :=
  ((RegMap.primRows ++ RegMap.rsmRows ++ RegMap.hkRows ++ RegMap.shedRows ++ RegMap.gateRows ++ RegMap.loomRows
      ++ RegMap.brdRows).filter (fun r => r.kind == .committed)).flatMap (fun r => gridAddrs r.dims r.base)

/-- The full set of committed values. -/
def committedSet (d : Device) : List CommitEntry := committedAddrs.map (fun a => ⟨a, rd d a⟩)

/-- Entries written over a set: the later value of an address stands. -/
def overlay (set new : List CommitEntry) : List CommitEntry :=
  set.filter (fun e => !(new.any (fun n => n.addr == e.addr))) ++ new

/-! ### Segments (R383, R386) -/

/-- The bytes that a segment sent from `start` on may carry, beside its prefix, so that it ends 0.2 µs before the next
T0 frame is due. -/
def segmentRoom (d : Device) (start : Nat) : Nat :=
  (d.loom.lastD + t0Time d + 16 * ckf - ns 200 - start) / 100 - 52

/-- The mirror begins: every committed value as it stands after the last boundary. -/
def mirrorBegin (d : Device) : Device :=
  let set := committedSet d
  { d with red := { d.red with mirrorTx := set, mirrorLen := set.length, mirrorTxAt := rdN d Addr.LOOM_CYCLE,
                               mirrorDue := false } }

/-- A segment sent at `t` (R383, R386): of the mirror where one is under way or due, else of the T1 image. DESIGN CHOICE:
a mirror segment's prefix is the number of the first entry it carries and the number of all. -/
def segmentSend (t : Nat) (d : Device) : Device :=
  if redState d = 2 ∧ d.red.stopTx = false ∧ filutRuns d = true then
    let start := max t d.red.txEnd
    let room := segmentRoom d start
    let d := if d.red.mirrorDue then mirrorBegin d else d
    let sent (n : Nat) (d : Device) : Device := { d with red := { d.red with txEnd := start + linkTime (n + 52) } }
    if d.red.mirrorTx ≠ [] then
      let n := min 511 (room / 8)
      if n = 0 then d
      else
        let es := d.red.mirrorTx.take n
        let body := bytesLE 4 (d.red.mirrorLen - d.red.mirrorTx.length) ++ bytesLE 4 d.red.mirrorLen
          ++ es.flatMap (fun e => bytesLE 4 e.addr ++ bytesLE 4 e.value.toNat)
        let d := filutSend d 3 0 d.red.mirrorTxAt (ialos d) body
        sent (8 * es.length) { d with red := { d.red with mirrorTx := d.red.mirrorTx.drop n } }
    else if d.red.t1Tx ≠ [] then
      let n := min 4088 room
      if n = 0 then d
      else
        let bs := d.red.t1Tx.take n
        let d := filutSend d 2 0 d.red.t1TxAt (ialos d) (bytesLE 4 d.red.t1TxOff ++ bytesLE 4 d.red.t1TxAt ++ bs)
        sent bs.length { d with red := { d.red with t1Tx := d.red.t1Tx.drop n, t1TxOff := d.red.t1TxOff + bs.length } }
    else d
  else d

/-! ### Synchronisation (R386, R387) -/

/-- A gap or an image that does not match: the count of matching images clears. -/
def matchLost (d : Device) : Device := clearCount d Addr.RED_MATCH

/-- A gap (R380, R386, R387): the mirror and the T1 image are wanted again. -/
def gapSeen (d : Device) : Device :=
  matchLost { d with red := { d.red with mirrorOk := false, t1Since := false } }

/-- `SYNC` as it follows from the counts, the T1 image and the offset (R387). -/
def showSync (t : Nat) (d : Device) : Device :=
  let off := (rdI d Addr.RED_OFFSET).natAbs
  let near := decide (off < rdF d Addr.RED_SYNC 16 16)
  let d := wrB d Addr.RED_STAT 9 (!near)
  let sync := near && d.red.t1Since && d.red.t1Equal && decide (rdF d Addr.RED_SYNC 0 16 ≤ rdN d Addr.RED_MATCH)
    && !rdB d Addr.CLK_STAT 5
  let d := wrB d Addr.RED_STAT 5 sync
  { d with red := { d.red with syncAt := if sync then some (d.red.syncAt.getD t) else none } }

/-- The pairs of a commit set. -/
def commitPairs (bs : List Byte) (n : Nat) : List CommitEntry :=
  (List.range n).map (fun i => ⟨sliceLE bs (4 + 8 * i) 4, word (sliceLE bs (8 + 8 * i) 4)⟩)

/-- The standby switches its loaded image at the boundary whose image carries `XCHG` (R388). -/
def standbySwitch (d : Device) : Device :=
  match d.loom.armed with
  | some n =>
    let d := showLoaded (swapHalves d) n
    let d := wrB (setXchg d 5 0) Addr.LOOM_MODE 16 (n.bank == 1)
    { d with loom := { d.loom with image := some n, armed := none } }
  | none => d

/-- A T0 image that began to arrive at `start` (R382, R384, R387). The standby's count of cycles is the image's. -/
def imageTake (flags cycle time imgId cfgId : Nat) (payload : List Byte) (start t : Nat) (d : Device) : Device :=
  let n := sliceLE payload 0 4
  let es := commitPairs payload n
  let d := if flags.testBit 0 then standbySwitch d else d
  let prev := d.red.image.map (·.1)
  let img := decide (imgId = rdN d Addr.LOOM_IMG_ID)
  let cfg := decide (cfgId = sliceLE (d.cfg.hash ++ zeros 4) 0 4)
  let next := prev == some ((cycle + 2 ^ 32 - 1) % 2 ^ 32)
  let red : Redundancy := if d.red.mirrorOk then { d.red with mirror := overlay d.red.mirror es }
    else { d.red with mirrorLate := overlay d.red.mirrorLate es }
  let d := { d with red := { red with image := some (cycle, payload.drop (4 + 8 * n)) } }
  let d := wrN (wrN d Addr.RED_IMG_CYCLE cycle) Addr.LOOM_CYCLE cycle
  let off : Int := (time : Int) - (d.time.read (start - 9424) : Int)
  let d := wrI d Addr.RED_OFFSET (clampI (-(2 ^ 31)) (2 ^ 31 - 1) off)
  let d := wrB (wrB d Addr.RED_STAT 7 (!cfg)) Addr.RED_STAT 8 (!img)
  let d := if next && d.red.mirrorOk && img && cfg then count d Addr.RED_MATCH else matchLost d
  showSync t d

/-- The length of a whole T1 image of this unit's program. -/
def t1Length (d : Device) : Nat :=
  ((d.loom.image.map (fun i => ((i.regions.filter (·.classT1)).map (·.length)).sum)).getD 0) + 1952

/-- The thermal states of a T1 image, which the standby takes (R294). -/
def thermalTake (bs : List Byte) (d : Device) : Device :=
  let at' (n k : Nat) : Int := signed 32 (sliceLE bs (20 * n + 4 * k) 4) * 1000
  { d with therm := { d.therm with legs := Vector.ofFn (fun n : Fin 24 =>
      { energy := 0, stages := Vector.ofFn (fun k : Fin 4 => at' n.1 k.1), hs := at' n.1 4 : ThermalLeg }) } }

/-- A part of the T1 image (R383): once every byte of one boundary has arrived, the image is complete. -/
def t1Take (payload : List Byte) (t : Nat) (d : Device) : Device :=
  let off := sliceLE payload 0 4
  let cycle := sliceLE payload 4 4
  let bs := payload.drop 8
  let parts := (if d.red.t1Cycle = cycle then d.red.t1Parts.filter (fun p => p.1 != off) else []) ++ [(off, bs)]
  let d := { d with red := { d.red with t1Parts := parts, t1Cycle := cycle } }
  let whole := ((sortOn (·.1) parts).flatMap (·.2))
  if whole.length = t1Length d then
    let own := (d.cfg.hash ++ zeros 32).take 32 ++ ((d.loom.image.map (·.hash)).getD [] ++ zeros 32).take 32
    let d := thermalTake (whole.drop (whole.length - 672)) d
    showSync t { d with red := { d.red with
      t1 := some (cycle, whole), t1Since := true, t1Equal := whole.drop (whole.length - 64) == own, t1Parts := [] } }
  else d

/-- A segment of the mirror (R386): with the last entry the mirror is complete, and the commits since stand over it. -/
def mirrorTake (payload : List Byte) (d : Device) : Device :=
  let first := sliceLE payload 0 4
  let all := sliceLE payload 4 4
  let es := (List.range ((payload.length - 8) / 8)).map (fun i =>
    ({ addr := sliceLE payload (8 + 8 * i) 4, value := word (sliceLE payload (12 + 8 * i) 4) } : CommitEntry))
  let red : Redundancy :=
    if first = 0 then
      { d.red with
        mirror := es, mirrorLeft := all - es.length, mirrorLate := [], mirrorOk := false }
    else { d.red with mirror := d.red.mirror ++ es, mirrorLeft := d.red.mirrorLeft - es.length }
  if red.mirrorLeft = 0 then
    { d with red := { red with mirror := overlay red.mirror red.mirrorLate, mirrorLate := [], mirrorOk := true } }
  else { d with red := red }

/-! ### Giving up control (R391, R399) -/

/-- An active unit with a synchronised standby yields (R391, code 0x10): its loom stops, and it says so in a control
frame. -/
def yieldCommand (t : Nat) (d : Device) : Device :=
  if paired d ∧ redState d = 2 ∧ pairSync d then
    let d := yieldStart (controlFrame d 2 5 [0x10]) 0x10 t
    if loomMode d = .stop then d else enterStop 3 t d
  else d

/-- Mode 0 after the partner has answered (R391): FAILED, or STANDBY after a yield of code 0x10. The loom is in STOP,
the sessions end and what was pending is abandoned (R340, R354, R398). -/
def yieldEnd (t : Nat) (d : Device) : Device :=
  let standby := rdF d Addr.RED_DIAG 0 8 == 0x10
  let d := setHand (ownWrite 0 t d) false t
  let d := if loomMode d = .stop then d else enterStop 3 t d
  let d := wrB (setRedState d (if standby then 3 else 6)) Addr.RED_STAT 5 false
  { d with red := { d.red with stopTx := false, image := none, mirrorOk := false, t1Since := false, syncAt := none },
           tomus := { d.tomus with sessions := [], ops := [] } }

/-! ### Taking control (R391 to R395) -/

/-- The number of T0 boundaries between the last complete image and the takeover boundary of a takeover that begins
at `t`: the first own boundary at least 9 µs later. -/
def lostBoundaries (t : Nat) (d : Device) : Option Nat :=
  match d.red.image with
  | some (cycle, _) =>
    let k := ceilDiv (t + us 9 - d.loom.lastD) (max 1 (t0Time d))
    some ((rdN d Addr.LOOM_CYCLE + k + 2 ^ 32 - cycle) % 2 ^ 32)
  | none => none

/-- Whether the state is stale (R395). -/
def stateStale (t : Nat) (d : Device) : Bool :=
  !pairSync d || (match lostBoundaries t d with
    | some n => decide (rdF d Addr.RED_CFG 4 5 < n)
    | none => true)

/-- A standby with stale state stays in mode 0 (R395). -/
def staleStay (d : Device) : Device := raise (wrB d Addr.RED_STAT 13 true) .takeoverStale 0

/-- `PHAND_N` falls, as seen at `t` (R391): the standby begins to take control; the failing unit goes on to mode 0. -/
def phandFall (t : Nat) (d : Device) : Device :=
  let d := wrB d Addr.RED_STAT 11 true
  if !paired d then d
  else if redState d = 3 then
    if stateStale t d then staleStay d
    else setHand (ownWrite 1 t (setRedState { d with red := { d.red with takeFrom := some t } } 5)) true (t + 952)
  else if redState d = 4 ∧ ownMode d = 1 then yieldEnd t d
  else d

/-- `POWN_N` rises, as seen at `t` (R391): a unit that is taking control writes mode 2. -/
def pownRise (t : Nat) (d : Device) : Device :=
  let d := { d with red := { d.red with pownHighAt := some t } }
  let d := wrB (wrB d Addr.RED_STAT 10 false) Addr.RED_STAT 11 false
  if redState d = 5 ∧ ownMode d = 1 then ownWrite 2 t d else d

/-- The standby has not answered within 50 µs (R391). -/
def handoverTimeout (t : Nat) (d : Device) : Device :=
  match d.red.handAt with
  | some h => if redState d = 4 ∧ h + us 50 ≤ t ∧ ownMode d = 1 then setRedState d 6 else d
  | none => d

/-- A takeover without a signal (R394). -/
def silentTakeover (t : Nat) (d : Device) : Device :=
  let quiet := match d.red.lastRx with
    | some r => decide (r + 2 * t0Time d ≤ t)
    | none => true
  let free := match d.red.pownHighAt with
    | some r => decide (r + us 25 ≤ t)
    | none => false
  if redState d = 3 ∧ quiet = true ∧ free = true then
    if stateStale t d then staleStay d
    else ownWrite 2 t (ownWrite 1 t (setRedState { d with red := { d.red with takeFrom := some t } } 5))
  else d

/-- The hardware record of an image written back (R382, R393). -/
def restoreRecord (bs : List Byte) (t : Nat) (d : Device) : Device :=
  let w (o : Nat) : Nat := sliceLE bs o 4
  let d := each (List.range 4) (fun d h =>
    let d := if w (8 * h) % 8 = 4 then setHstate d h .latched else d
    wrF d (Addr.GATE_HSTAT h) 4 4 (w (8 * h + 4))) d
  let d := each (List.range 32) (fun d n =>
    let d := wrN (wrN d (Addr.INT_STATE n) (w (32 + 8 * n))) (Addr.INT_OUT n) (w (36 + 8 * n))
    wrF d (Addr.INT_STAT n) 0 4 (sliceLE bs (288 + n) 1)) d
  let d := each (List.finRange 64) (fun d i =>
    let flags := sliceLE bs (320 + 8 * i.1 + 4) 1
    let q := flags.testBit 0
    let on := flags.testBit 1
    let e := w (320 + 8 * i.1)
    let d := wrB d (Addr.LOOM_TMR_CTRL i.1) 0 on
    let runs := match tmrType d i.1 with
      | 1 | 4 => on
      | 2 => !on && q
      | 3 => flags.testBit 2
      | _ => false
    tmrSet d i e q runs t) d
  let d := each (List.range 128) (fun d j =>
    wrB d (Addr.LOOM_EDG_STAT j) 2 ((sliceLE bs (832 + j / 8) 1).testBit (j % 8))) d
  let d := each (List.range 16) (fun d k => wrN d (Addr.LOOM_ST_STAT k) (w (848 + 4 * k))) d
  { d with loom := { d.loom with edgeFirst := [] } }

/-- State regions of one class written back, in the order of their table (R381, R393). -/
def restoreRegions (one : Bool) (bs : List Byte) (d : Device) : Device :=
  match d.loom.image with
  | some i =>
    ((i.regions.filter (fun r => r.classT1 == one)).foldl
      (fun (x : Device × List Byte) r => (putBytes x.1 r.base (x.2.take r.length), x.2.drop r.length)) (d, bs)).1
  | none => d

/-- The shutdown state of the partner's thermal record (R303, R393). -/
def restoreShutdown (bs : List Byte) (t : Nat) (d : Device) : Device :=
  if sliceLE bs 0 2 = 0x5457 ∧ sliceLE bs 124 4 = crc32c (bs.take 124) ∧ sliceLE bs 3 1 = 1 then
    let scope := sliceLE bs 16 1 % 32
    let d := thermalPut (wrF d Addr.TH_STAT 0 5 scope) bs
    each (List.finRange 4) (fun d h => if scope.testBit h.1 then selvedge d h t 12 else d) d
  else d

/-- The T1 image written back: coefficient banks, presets, thermal states and shutdown (R383, R393). -/
def restoreT1 (bs : List Byte) (t : Nat) (d : Device) : Device :=
  let d := restoreRegions true bs d
  let fixed := bs.drop (bs.length - 1952)
  let d := each (List.range 32) (fun d n => each (List.range 8) (fun d k =>
    wrN d (Addr.INT_A n k) (sliceLE fixed (32 * n + 4 * k) 4)) d) d
  let d := each (List.range 64) (fun d i => wrN d (Addr.LOOM_TMR_PRESET i) (sliceLE fixed (1024 + 4 * i) 4)) d
  restoreShutdown ((fixed.drop 1760).take 128) t (thermalTake (fixed.drop 1280) d)

/-- The mirror as it is committed at the takeover boundary: a `SHED_RUN` bit that it carries is ignored (R195, R393). -/
def mirrorEntries (d : Device) : List CommitEntry := d.red.mirror.filter (fun e => e.addr != Addr.SHED_RUN)

/-- The takeover boundary D_T at `t` (R393): the image written back, RUN entered without reloading, the mirror
committed, every first instance with `HANDOVER` and the number of boundaries since the image. -/
def takeoverBoundary (t : Nat) (d : Device) : Device :=
  match d.red.takeFrom, d.red.image with
  | some f, some (cycle, bs) =>
    if redState d = 5 ∧ ownMode d = 2 ∧ f + us 9 ≤ t then
      let d := countCycle t d
      let lost := (rdN d Addr.LOOM_CYCLE + 2 ^ 32 - cycle) % 2 ^ 32
      let d := restoreRegions false (bs.drop 912) (restoreRecord bs t d)
      let d := match d.red.t1 with
        | some (_, b) => restoreT1 b t d
        | none => d
      let d := startAll 64 t (setMode d 1 0x0A)
      let d := { d with loom := { d.loom with lost := lost } }
      let (cs, d) := commitEntries (mirrorEntries d) t d
      let d := { d with cfg := { d.cfg with change := none, applyAt := none },
                        tomus := { d.tomus with sessions := [] },
                        red := { d.red with takeFrom := none, forwarded := [], stopTx := false, mirrorDue := true } }
      let d := refBoundaryT0 (calBoundaryT0 (rsmBoundaryT0 (wrB d Addr.SYS_CFG_STAT 0 false)))
      let d := setHand (wrB (setRedState d 2) Addr.RED_STAT 13 false) false t
      let d := wr64 (count d Addr.RED_HANDOVER_CNT) Addr.RED_HO_TIME_LO (d.time.read t)
      imageSend cs false true t (latchTasks (startingTasks d) (t + 2 * ckf) d)
    else d
  | _, _ => d

/-! ### Takeback and start (R396, R397) -/

/-- Whether the last image shows every harness of the active unit DISABLED. -/
def partnerDisabled (d : Device) : Bool :=
  match d.red.image with
  | some (_, bs) => (List.range 4).all (fun h => sliceLE bs (8 * h) 4 % 8 == 0)
  | none => false

/-- Unit A asks for control back (R396). -/
def takebackRequest (t : Nat) (d : Device) : Device :=
  let mode := rdF d Addr.RED_CFG 1 2
  let waited := match d.red.syncAt with
    | some s => decide (s + sec (rdF d Addr.RED_TIMES 16 12) ≤ t)
    | none => false
  if paired d ∧ unitB d = false ∧ redState d = 3 ∧ pairSync d ∧ waited = true ∧ 1000 ≤ rdN d Addr.RED_MATCH
      ∧ rdB d Addr.RED_STAT 7 = false ∧ rdB d Addr.RED_STAT 8 = false ∧ (rdI d Addr.RED_OFFSET).natAbs < 1000
      ∧ rdB d Addr.RED_STAT 14 = false ∧ (mode = 1 ∨ (mode = 2 ∧ partnerDisabled d = true)) then
    controlFrame d 0 1 []
  else d

/-- A starting unit settles as STANDBY (R397). -/
def standbyEnter (t : Nat) (d : Device) : Device := setRedState (if ownMode d = 0 then d else ownWrite 0 t d) 3

/-- A starting unit tries mode 1, and mode 2 if `POWN_N` still reads high once mode 1 is in force (R397). -/
def tryActive (pownStill : Bool) (t : Nat) (d : Device) : Device :=
  let d := ownWrite 1 t d
  if pownStill then setRedState (ownWrite 2 t d) 2
  else standbyEnter t (wrB { d with red := { d.red with pownHighAt := none } } Addr.RED_STAT 10 true)

/-- The level of `POWN_N` as a starting unit reads it. -/
def pownRead (low : Bool) (t : Nat) (d : Device) : Device :=
  let d := wrB d Addr.RED_STAT 10 low
  { d with red := { d.red with pownHighAt := if low then none else some (d.red.pownHighAt.getD t) } }

/-- A paired unit that has reported ready settles by its partner's state and `POWN_N`, which reads `low` now and
`lowThen` once its mode 1 is in force (R397); after a wake it comes up as STANDBY (R414). -/
def pairStart (low lowThen : Bool) (t : Nat) (d : Device) : Device :=
  if paired d ∧ redState d = 1 ∧ unitReady d then
    let d := pownRead low t d
    if d.red.partner = 2 ∨ low = true ∨ rdF d Addr.PWR_RST_CAUSE 0 8 = 8 then standbyEnter t d
    else if unitB d then d
    else tryActive (!lowThen) t d
  else d

/-- Unit B has heard nothing for `RED_START_WAIT` after ready (R397). -/
def startWaitExpiry (low lowThen : Bool) (t : Nat) (d : Device) : Device :=
  match d.red.readyAt with
  | some r =>
    let heard := match d.red.lastRx with
      | some x => decide (r ≤ x)
      | none => false
    if paired d ∧ redState d = 1 ∧ unitB d ∧ heard = false ∧ r + ms (rdF d Addr.RED_TIMES 0 14) ≤ t then
      let d := pownRead low t d
      if low then standbyEnter t d else tryActive (!lowThen) t d
    else d
  | none => d

/-! ### Forwarded changes (R388) -/

/-- A request that the active unit of a synchronised pair forwards: the staged records first, then the opcode and its
parameters. DESIGN CHOICE: codes 4 and 2 of a control frame. -/
def forwardRequest (opcode : Nat) (params : List Byte) (d : Device) : Device :=
  if paired d ∧ redState d = 2 ∧ pairSync d then
    let parts := if opcode = 0x0104 then [] else (chunks 4096 17 d.tomus.staging).zipIdx
    let d := each parts (fun d p => controlFrame d 0 4 (bytesLE 4 (4096 * p.2) ++ p.1)) d
    controlFrame d 0 2 (bytesLE 2 opcode ++ params)
  else d

/-- The boundary at which a change is to act, forwarded when the active unit writes `APPLY` (R388, code 3). -/
def forwardApply (d : Device) : Device :=
  if paired d ∧ redState d = 2 ∧ pairSync d then
    controlFrame d 0 3 (bytesLE 4 ((rdN d Addr.LOOM_CYCLE + 1) % 2 ^ 32))
  else d

/-- A change resolved in a unit that is not the standby of a synchronised pair; the active one says at which boundary it
acts. -/
def stackResolve (t : Nat) (d : Device) : Device :=
  if redState d = 3 ∧ pairSync d then d
  else match d.cfg.change with
    | some c => if c.resolved then d else stackResolved t (forwardApply d)
    | none => d

/-- Bytes placed at an offset of the staging buffer: at offset 0 it is emptied first (R345). -/
def stageBytes (off : Nat) (bs : List Byte) (d : Device) : Device :=
  let old := if off = 0 then [] else d.tomus.staging
  let padded := old ++ zeros (off - old.length)
  { d with tomus := { d.tomus with staging := padded.take off ++ bs ++ padded.drop (off + bs.length) } }

/-- The standby carries out a forwarded request (R388): it stores, under its own seals, or begins the stack change. -/
def forwardedTake (opcode : Nat) (p : List Byte) (d : Device) : Device :=
  match opcode with
  | 0x0102 => saddleStore ((List.range 4).map (fun i => sliceLE p (4 + i) 1)) d
  | 0x0103 => tackStore (sliceLE p 0 1) (sliceLE p 1 1) ((p.drop 4).take 7) d
  | 0x0104 => beginChange d 4 ((List.range 4).map (fun i => sliceLE p i 1))
  | _ => d

/-- At a T0 boundary the standby applies the changes that act there. -/
def forwardedApply (t : Nat) (d : Device) : Device :=
  let due := d.red.forwarded.filter (fun f => decide (f.cycle ≤ rdN d Addr.LOOM_CYCLE))
  if due.isEmpty then d
  else stackResolved t { d with red := { d.red with
    forwarded := d.red.forwarded.filter (fun f => !decide (f.cycle ≤ rdN d Addr.LOOM_CYCLE)) } }

/-- The T0 deadline at `t`, with the changes forwarded for it. -/
def t0Deadline (t : Nat) (d : Device) : Device := forwardedApply t (boundary t d)

/-! ### Received frames (R380) -/

/-- A control frame from the partner. -/
def controlTake (payload : List Byte) (t : Nat) (d : Device) : Device :=
  let p := payload.drop 1
  match sliceLE payload 0 1 with
  | 1 => yieldCommand t d
  | 2 => if redState d = 3 then forwardedTake (sliceLE p 0 2) (p.drop 2) d else d
  | 3 =>
    if redState d = 3 then
      { d with red := { d.red with forwarded := d.red.forwarded ++ [⟨sliceLE p 0 4, 0x0104, []⟩] } }
    else d
  | 4 => if redState d = 3 then stageBytes (sliceLE p 0 4) (p.drop 4) d else d
  | _ => d

/-- A status frame from the partner. An active partner holds `OWN_N` low. -/
def statusTake (payload : List Byte) (d : Device) : Device :=
  let state := sliceLE payload 0 1
  let flags := sliceLE payload 1 1
  let d := { d with red := { d.red with partner := state, peerUp := flags.testBit 0,
                                        armedHash := (payload.drop 6).take 32 } }
  let d := if state = 2 then
      wrB (wrB { d with red := { d.red with pownHighAt := none } } Addr.RED_STAT 10 true) Addr.RED_STAT 11 false
    else d
  if redState d = 2 then
    let d := wrB d Addr.RED_STAT 5 (flags.testBit 2 && !rdB d Addr.CLK_STAT 5)
    if flags.testBit 1 ∧ d.red.mirrorTx = [] then { d with red := { d.red with mirrorDue := true } } else d
  else d

/-- `LINK` as it follows from both directions (R380); when the link comes up the active unit sends its mirror (R386). -/
def showLink (d : Device) : Device :=
  let up := decide (64 ≤ d.red.rxRun) && d.red.peerUp
  let d := if up && !rdB d Addr.RED_STAT 6 && redState d == 2 then { d with red := { d.red with mirrorDue := true } } else d
  wrB d Addr.RED_STAT 6 (up || (rdB d Addr.RED_STAT 6 && decide (64 ≤ d.red.rxRun)))

/-- A received frame, its first byte at `start` and its last at `t` (R380): the CRC, the magic and the type, and the
sequence of its type are checked. A frame after a gap is not valid, and the sequence goes on from it. -/
def filutRx (bs : List Byte) (start t : Nat) (d : Device) : Device :=
  if filutRuns d then
    let n := bs.length
    let len := sliceLE bs 28 2
    let type := sliceLE bs 2 1
    let bad (d : Device) : Device := { d with red := { d.red with rxRun := 0 } }
    if n < 36 ∨ crc32c (bs.take (n - 4)) ≠ sliceLE bs (n - 4) 4 then bad (count d Addr.RED_CRC_CNT)
    else if sliceLE bs 0 2 ≠ 0x5057 ∨ type = 0 ∨ 5 < type ∨ n ≠ len + 36 then bad d
    else
      let seq := sliceLE bs 4 4
      let gap := match (d.red.rxSeq[type]?).getD none with
        | some s => (seq + 2 ^ 32 - s - 1) % 2 ^ 32
        | none => 0
      let heard : Device := { d with red := { d.red with rxSeq := d.red.rxSeq.set! type (some seq) } }
      if gap = 0 then
        let d := { heard with red := { heard.red with rxRun := heard.red.rxRun + 1, lastRx := some t } }
        let payload := (bs.drop 32).take len
        let cycle := sliceLE bs 8 4
        let standby := redState d == 3
        let d := match type with
          | 1 =>
            if standby then
              imageTake (sliceLE bs 3 1) cycle (sliceLE bs 12 8) (sliceLE bs 20 4) (sliceLE bs 24 4) payload start t d
            else d
          | 2 => if standby then t1Take payload t d else d
          | 3 => if standby then mirrorTake payload d else d
          | 4 => statusTake payload d
          | _ => controlTake payload t d
        showLink d
      else if gap < 2 ^ 31 then gapSeen (bad (countBy heard Addr.RED_GAP_CNT gap))
      else bad d
  else d

/-- No valid frame for 2 T0 periods (R380). An active unit then knows of no synchronised standby. -/
def filutDown (t : Nat) (d : Device) : Device :=
  let quiet := match d.red.lastRx with
    | some r => decide (r + 2 * t0Time d ≤ t)
    | none => true
  if quiet then
    let d := wrB { d with red := { d.red with rxRun := 0, peerUp := false } } Addr.RED_STAT 6 false
    if redState d = 2 then wrB d Addr.RED_STAT 5 false else d
  else d

/-- A command of `RED_CTRL` (R399): 1 yield, 2 inhibit takeback, 3 allow takeback. -/
def redCtrl (v t : Nat) (d : Device) : Device :=
  match v with
  | 1 => yieldCommand t d
  | 2 => wrB d Addr.RED_STAT 14 true
  | 3 => wrB d Addr.RED_STAT 14 false
  | _ => d

end Sys2Proof.Machine
end

