-- ==== Sys2Proof/Machine/Power.lean ====
section
/-! DEFINITION. Supplies, resets, start-up, power failure and sleep (R401 to R416). -/

namespace Sys2Proof.Machine

open Sys2Proof

/-! ### What a reset leaves (R408, R428) -/

/-- Whether a reset of a kind leaves PD0 as it is. -/
def keepsPd0 (kind : Nat) : Bool := kind != 1

/-- Whether a reset of a kind leaves PD11 as it is. -/
def keepsPd11 (kind : Nat) : Bool := decide (3 ≤ kind)

/-- Whether a reset of a kind leaves the root and the MDLL running (R428). -/
def keepsClock (kind : Nat) : Bool := decide (4 ≤ kind ∧ kind ≤ 7)

/-- Whether the register at an address keeps its value through a reset: those of PD0 and of PD11, what the clock block
and the gate islands show of themselves, and none else. -/
def keepsReg (kind a : Nat) : Bool :=
  (keepsPd0 kind && decide (0x40028040 ≤ a ∧ a < 0x40028080))
    || (keepsPd11 kind && a / 0x10000 == 0x4080)
    || (keepsClock kind && (a == Addr.CLK_STAT || a == Addr.CLK_CORR || a == Addr.CLK_CTRL_VAL))
    || (List.range 48).any (fun c => a == Addr.GATE_CSTAT c)

/-- The bits of `PWR_STAT` that a reset leaves: the domains that run on, and the supplies. -/
def keptStat (kind : Nat) : Nat :=
  1 + (if keepsPd11 kind then 2 ^ 11 else 0) + (if keepsClock kind then 2 ^ 5 else 0)
    + (if 3 ≤ kind then 2 ^ 22 else 0)

/-- The ledger through a reset of PD4: what it holds in MRAM. -/
def Meter.restart (m : Meter) : Meter :=
  { m with ready := false, en := 0, calMask := 0, sets := [], refused := 0, intrs := 0, openings := 0, ovf := 0,
           ack := 0, ackRec := 0, queue := [], seqNo := 1, sealFirst := 0, lastMs := 0 }

/-- The unit after a reset of a kind: what lies in a domain that is not reset, in a non-volatile store, on the islands
or outside the unit stays; the rest is as at power-on. -/
def afterReset (kind : Nat) (d : Device) : Device :=
  let b := Device.initial
  let stat := rd d Addr.PWR_STAT &&& word (keptStat kind)
  let ovf := if keepsPd0 kind then rd d Addr.PWR_CNT_OVF &&& 0x3FC else 0
  let d' := { b with
    now := d.now, freeCtr := d.freeCtr, mem := d.mem, mram := d.mram, events := d.events, seals := d.seals,
    out := d.out, regs := d.regs.filter (fun r => keepsReg kind r.1), gchan := d.gchan, selv := d.selv,
    bridle := if keepsPd11 kind then d.bridle else b.bridle,
    clock := if keepsClock kind then d.clock else b.clock,
    power := { d.power with starting := true, resetReq := none, sleepEntry := none, wakePending := false,
                            vinfAt := none, vinBack := false, graceDone := false, shedDone := false,
                            finalDone := false, monRun := [], monRoundOk := false },
    meter := d.meter.restart,
    tomus := { b.tomus with keys := d.tomus.keys, stewBank := d.tomus.stewNext, stewNext := d.tomus.stewNext } }
  wr (wr d' Addr.PWR_STAT stat) Addr.PWR_CNT_OVF ovf

/-- A reset of a kind recorded and its start-up begun after step `k` (R408, R410). -/
def restart (kind k : Nat) (d : Device) : Device :=
  let d := wrN (afterReset kind d) Addr.PWR_RST_CAUSE kind
  wrN (count d (Addr.PWR_RST_CNT (kind - 1))) Addr.PWR_STEP k

/-! ### Supplies (R401, R404, R408) -/

/-- `VIN` becomes valid with the hold-up store empty: a cold start or a power-on, from step 0. -/
def vinValid (t : Nat) (d : Device) : Device :=
  if d.power.vinValid = false ∧ d.power.storeEmpty = true then
    let kind := if d.power.vbakLost then 1 else 2
    let d := restart kind 0 d
    let d := { d with power := { d.power with vinValid := true, startAt := t, storeEmpty := false } }
    let d := if kind = 1 then { d with power := { d.power with rtcSeconds := 0, rtcNanos := 0, rtcAt := t } } else d
    setDom d 0 true
  else d

/-- Whether the ledger or any other writer has an energy write before the controller. -/
def ledgerWrites (d : Device) : Bool := d.mram.any (fun x => x.writer == 1)

/-- The ledger's energy write, where the ledger runs (R223). -/
def ledgerSave (d : Device) : Device := if domOn d 4 && d.meter.ready then energySave d else d

/-- `VINF` is declared (R401, R413): the power-fail sequence begins, or goes on where it had. -/
def vinfDeclared (t : Nat) (d : Device) : Device :=
  if d.power.vinValid then
    let d := count (wrB (wrB d Addr.PWR_STAT 21 true) Addr.PWR_STAT 22 false) Addr.PWR_VINF_CNT
    let d := { d with power := { d.power with vinValid := false, vinBack := false } }
    if d.power.vinfAt.isSome then d
    else
      let d := wrB d Addr.PWR_STAT 17 true
      let d := { d with power := { d.power with vinfAt := some t, resetReq := none, sleepEntry := none } }
      ledgerSave (if domOn d 1 then hkTrigger d 2 else d)
  else d

/-- `VINF` clears (R413, R408): before the grace has passed nothing was shed; after PD1 is off a reset of kind 0x03
follows; in between the sequence runs on. -/
def vinfClear (t : Nat) (d : Device) : Device :=
  if d.power.vinValid = false ∧ d.power.vinfAt.isSome then
    let d := wrB { d with power := { d.power with vinValid := true } } Addr.PWR_STAT 21 false
    if d.power.graceDone = false then
      wrB { d with power := { d.power with vinfAt := none } } Addr.PWR_STAT 17 false
    else if d.power.finalDone then
      restart 3 1 { d with power := { d.power with startAt := t } }
    else { d with power := { d.power with vinBack := true, startAt := t } }
  else d

/-- `PWR_VINF_GRACE` in units of 50 ps. -/
def vinfGrace (d : Device) : Nat := us (rdF d Addr.PWR_CFG 0 10)

/-- The grace has passed (R413): PD2 and PD3 off. -/
def graceExpiry (t : Nat) (d : Device) : Device :=
  match d.power.vinfAt with
  | some s =>
    if d.power.graceDone = false ∧ s + vinfGrace d ≤ t then
      domSwitchOff 3 t (domSwitchOff 2 t { d with power := { d.power with graceDone := true } })
    else d
  | none => d

/-- Mode 0 is in force, or 200 µs have passed since the grace (R413): PD6 to PD10 off. -/
def shedTimeout (t : Nat) (d : Device) : Device :=
  match d.power.vinfAt with
  | some s =>
    if d.power.graceDone ∧ d.power.shedDone = false ∧ (ownMode d = 0 ∨ s + vinfGrace d + us 200 ≤ t) then
      each [6, 7, 8, 9, 10] (fun d n => domSwitchOff n t d) { d with power := { d.power with shedDone := true } }
    else d
  | none => d

/-- The last event record, written before the controller stops (R413). -/
def lastRecord (d : Device) : Device :=
  let d := raise d .lastRecord 0
  match d.mram.getLast? with
  | some x => { x.ops.foldl mramApply d with mram := d.mram.dropLast }
  | none => d

/-- The end of the power-fail sequence (R413) with the store at `mv` mV: the last event record while above 14 V, the
operation in progress completed, PD1, PD4 and PD5 off. -/
def powerFinal (mv t : Nat) (d : Device) : Device :=
  let idle := d.mram.isEmpty && d.therm.record.isNone
  if d.power.shedDone ∧ d.power.finalDone = false ∧ (idle = true ∨ mv ≤ 14000) then
    let d := mramHalt (if 14000 < mv then lastRecord d else d)
    let d := each [4, 1, 5] (fun d n => domSwitchOff n t d) d
    let d := wrB { d with power := { d.power with finalDone := true, starting := false } } Addr.PWR_STAT 20 false
    if d.power.vinBack then restart 3 1 d else d
  else d

/-- The store at 12 V (R413): PD11 off, PD0 from `VBAK`. -/
def holdup12 (t : Nat) (d : Device) : Device :=
  if d.power.finalDone ∧ d.power.vinValid = false then
    let d := domSwitchOff 11 t { d with power := { d.power with storeEmpty := true, vinfAt := none } }
    wrB (wrB d Addr.PWR_STAT 16 true) Addr.PWR_STAT 17 false
  else d

/-- The store is full (R404). -/
def holdupFull (d : Device) : Device := if d.power.vinValid then wrB d Addr.PWR_STAT 22 true else d

/-- `VBAK` below 2.2 V while PD0 depends on it (R401, R438): the RTC, the event slot and the seal latches are lost. -/
def vbakLoss (d : Device) : Device :=
  if rdB d Addr.PWR_STAT 16 then
    { d with power := { d.power with vbakLost := true }, seals := d.seals.map (fun s => { s with latch := false }) }
  else d

/-! ### Domain requests (R406, R407) -/

/-- A request refused with a code of R407. -/
def refuseRequest (code n : Nat) (d : Device) : Device :=
  count (wrF (wrF d Addr.PWR_REFUSED 0 8 code) Addr.PWR_REFUSED 8 4 n) Addr.PWR_REFUSED_CNT

/-- A sleep entry, a power-fail sequence or a reset is in progress. -/
def powerBusy (d : Device) : Bool :=
  d.power.vinfAt.isSome || d.power.resetReq.isSome || d.power.sleepEntry.isSome

/-- Whether a harness that is RUNNING uses a channel of an island (R406). -/
def islandRunning (d : Device) (current : Bool) : Bool :=
  (List.range 4).any (fun h => hstate d h == .running
    && (wordChannels d h).any (fun c => decide (c < 32) && currentIsland c == current))

/-- Whether a session is open on a metering point that uses a channel of an island. -/
def islandSession (d : Device) (current : Bool) : Bool :=
  mpAll.any (fun m => mpSession d m && (mpChans d d.meter.sets m.1).any (fun c => decide (c < 32) && currentIsland c == current))

/-- Whether any session is open. -/
def anySession (d : Device) : Bool := mpAll.any (mpSession d)

/-- The code with which a request to switch a domain off is refused, 0 where it is served. -/
def offCode (d : Device) (n : Nat) (steward : Bool) : Nat :=
  if powerBusy d then 6
  else match n with
    | 2 | 3 => if loomMode d ≠ .stop then 2 else if redState d = 3 ∧ pairSync d then 7 else 0
    | 4 => if steward = false then 8 else if anySession d || ledgerWrites d then 4 else 0
    | 6 => if loomMode d ≠ .stop then 2 else if paired d then 7 else 0
    | 7 => if islandRunning d false then 3 else if islandSession d false then 4 else 0
    | 8 => if islandRunning d true then 3 else if islandSession d true then 4 else 0
    | 9 | 10 => if ownMode d ≠ 0 then 3 else 0
    | _ => 1

/-- The code with which a cycle is refused. -/
def cycleCode (d : Device) (n : Nat) (steward : Bool) : Nat :=
  if powerBusy d then 6
  else if n ≠ 11 then 1
  else if steward = false then 8
  else if sealOpen d 1 = false then 5
  else if (List.range 4).any (harnessEnabled d) then 3
  else if loomMode d ≠ .stop then 2
  else 0

/-- A request to switch a domain on. -/
def domainOn (n : Nat) (d : Device) : Device :=
  if powerBusy d then refuseRequest 6 n d
  else if n = 0 ∨ n = 1 ∨ n = 5 ∨ 11 ≤ n then refuseRequest 1 n d
  else domSwitchOn n d

/-- A request to switch a domain off. -/
def domainOff (n : Nat) (steward : Bool) (t : Nat) (d : Device) : Device :=
  let code := offCode d n steward
  if code = 0 then domSwitchOff n t d else refuseRequest code n d

/-- A request to cycle PD11: off now, on again 100 ms later. -/
def domainCycle (n : Nat) (steward : Bool) (t : Nat) (d : Device) : Device :=
  let code := cycleCode d n steward
  if code = 0 then { domSwitchOff 11 t d with power := { d.power with pd11OffAt := some t } } else refuseRequest code n d

/-- PD11 restarts 100 ms after a cycle began (R406). -/
def pd11Restart (t : Nat) (d : Device) : Device :=
  match d.power.pd11OffAt with
  | some s => if s + ms 100 ≤ t then domSwitchOn 11 { d with power := { d.power with pd11OffAt := none } } else d
  | none => d

/-- A write of `PWR_DOM_CTRL` (R416). -/
def domCtrl (v : Word) (steward : Bool) (t : Nat) (d : Device) : Device :=
  let n := field v 0 4
  match field v 12 2 with
  | 1 => domainOn n d
  | 2 => domainOff n steward t d
  | 3 => domainCycle n steward t d
  | _ => d

/-! ### Resets (R408, R409) -/

/-- The domains of a reset held and released into start-up at its step 4 (R409, step 3). The islands of both gate banks
go to their entries, and the operation in progress of the MRAM controller completes. -/
def resetHold (kind t : Nat) (d : Device) : Device :=
  restart kind 3 (mramHalt (gatesOff 10 t (gatesOff 9 t (cutFrame d t))))

/-- A reset of kind 0x04 to 0x07 begins (R409): the cores stop, every harness goes to the selvedge, and the ledger
writes its energy; kind 0x07 does not wait. Ignored during the power-fail sequence (R415). -/
def resetBegin (kind t : Nat) (d : Device) : Device :=
  if d.power.vinfAt.isSome || d.power.resetReq.isSome || !domOn d 5 || !domOn d 1 then d
  else
    let d := each (List.finRange 4) coreReset (selvedgeAll d t 0x0A)
    if kind = 7 then resetHold kind t d
    else ledgerSave { d with power := { d.power with resetReq := some (kind, t), starting := true } }

/-- Whether a limit with a tolerance has passed: surely above `hi`, surely not below `lo`, and a free choice
between. -/
def within (x lo hi : Nat) (d : Device) : Bool × Device :=
  if hi ≤ x then (true, d)
  else if x < lo then (false, d)
  else
    let (v, d) := fresh d
    (v.toNat % 2 == 1, d)

/-- `RST_N` low for `low` ns (R408). -/
def pinReset (low t : Nat) (d : Device) : Device :=
  let (acts, d) := within low 2000 10000 d
  if acts then resetBegin 4 t d else d

/-- No kick of the steward's watchdog for `idle` µs (R408). -/
def watchdogExpiry (idle t : Nat) (d : Device) : Device :=
  let (acts, d) := within idle 95000 105000 d
  if acts then resetBegin 5 t d else d

/-- A write of `PWR_RESET` (R408). -/
def softwareReset (v : Word) (t : Nat) (d : Device) : Device := if v = 0xA5C3 then resetBegin 6 t d else d

/-- The core rail below 0.700 V for `low` ns (R408). -/
def coreSupervisor (low t : Nat) (d : Device) : Device := if 1000 ≤ low then resetBegin 7 t d else d

/-! ### Start-up (R410, R411) -/

/-- Ialos loaded from the RTC, or with 0 (R367). -/
def ialosLoad (t : Nat) (d : Device) : Device :=
  let p := d.power
  let ns' := if p.vbakLost then 0 else 1000000000 * p.rtcSeconds + p.rtcNanos + (t - p.rtcAt) / us 25 * 25000
  let d := wrB (wrB d Addr.PWR_STAT 23 (!p.vbakLost)) Addr.TIME_STAT 6 (!p.vbakLost)
  let d := wrB (wrF d Addr.TIME_STAT 0 3 0) Addr.TIME_STAT 3 true
  { d with time := ⟨ns', 0, t, 0x666666666⟩,
           power := { p with vbakLost := false, rtcSeconds := ns' / 1000000000, rtcNanos := ns' % 1000000000, rtcAt := t } }

/-- The ring of a bobbin that the steward sets up: eight descriptors and a link in its private SRAM, those of a write
bobbin held by the hardware. DESIGN CHOICE: the spec gives neither addresses nor lengths (R274). -/
def stewardRing (t : Nat) (d : Device) (b : Fin 16) : Device :=
  let base := 0x20380000 + 0x8000 * b.1
  let ctrl := 0x800 + (if bobReads b.1 then 0 else 2 ^ 31)
  let d := each (List.range 8) (fun d i =>
    putNat (putNat d (base + 32 * i) 4 ctrl) (base + 32 * i + 4) 4 (base + 0x400 + 0x800 * i)) d
  let d := putNat (putNat d (base + 256) 4 (2 ^ 30)) (base + 260) 4 base
  let d := wrB (wrN (wrN d (Addr.BOB_BASE b.1) base) (Addr.BOB_LEN b.1) 9) (Addr.BOB_CFG b.1) 0 true
  bobRestart b t d

/-- The active loom image checked, and its sections loaded where it passes (R410 step 10). -/
def imageStart (d : Device) : Device :=
  let bank := loomBank d
  let code := imageCode d bank false
  let d := showImage d code
  if code = 0 then
    let i := readImage d bank
    let d := showLoaded (loadImage d i) i
    { d with loom := { d.loom with image := some i } }
  else d

/-- Whether a start-up step is complete, so that the next may begin. -/
def stepComplete (d : Device) (k : Nat) : Bool :=
  match k with
  | 1 => domOn d 11
  | 2 => domOn d 5
  | 3 => rdB d Addr.CLK_STAT 0
  | 7 => islandGood d 0
  | 8 => islandGood d 12
  | _ => decide (k < 10)

/-- A start-up step begins (R410). -/
def stepBegin (k t : Nat) (d : Device) : Device :=
  let d := wrF d Addr.PWR_STEP 0 4 k
  match k with
  | 1 => domSwitchOn 11 d
  | 2 => domSwitchOn 5 d
  | 4 =>
    let d := domSwitchOn 4 (domSwitchOn 1 d)
    let d := wrB (wrB d Addr.RED_STAT 4 Config.pairB) Addr.HK_CFG 1 true
    sealLatches (ialosLoad t d)
  | 5 => thStart (saddleLoad t (calLoad (mramRecover d))) t
  | 6 => each ([0, 1, 6, 7, 8, 9, 10, 11, 12, 13, 14] : List (Fin 16)) (stewardRing t) (domSwitchOn 6 d)
  | 7 => domSwitchOn 7 d
  | 8 => domSwitchOn 8 d
  | 9 => domSwitchOn 10 (domSwitchOn 9 d)
  | 10 => imageStart (domSwitchOn 3 (domSwitchOn 2 d))
  | _ => d

/-- The next start-up step begins once the one before it is complete; a reset that waits for the ledger takes its
third step once the write is done or 2 ms have passed. -/
def startupStep (t : Nat) (d : Device) : Device :=
  match d.power.resetReq with
  | some (kind, s) => if ledgerWrites d = false ∨ s + ms 2 ≤ t then resetHold kind t d else d
  | none =>
    let k := rdF d Addr.PWR_STEP 0 4
    if d.power.starting ∧ d.power.vinfAt = none ∧ stepComplete d k = true then stepBegin (k + 1) t d else d

/-- The conditions of R411 that fail, in their order. -/
def notReady (d : Device) : Nat :=
  let enabled := rd d Addr.MOD_ENABLE
  (!d.cfg.loaded).toNat + 2 * (!d.meter.ready).toNat + 4 * (enabled &&& ~~~(rd d Addr.MOD_VALID) != 0).toNat
    + 8 * (!rdB d Addr.PWR_STAT 22).toNat + 16 * (!d.power.monRoundOk).toNat
    + 32 * (decide (rdF d Addr.PWR_STEP 0 4 < 10)).toNat + 64 * (!rdB d Addr.BRD_STAT 0).toNat

/-- The unit reports ready where every condition of R411 holds, else it shows those that fail. Cause 0x0A of the loom's
STOP is recorded in every harness (R194, R461). An unpaired unit takes `GATE_OWN` to 1 and then to 2, or to 1 only with a degraded saddle. -/
def readyReport (t : Nat) (d : Device) : Device :=
  if d.power.starting ∧ d.power.vinfAt = none ∧ d.power.resetReq = none then
    let bad := notReady d
    let d := wrN d Addr.PWR_NOT_READY bad
    if bad = 0 then
      let d := wrB (wrB (wrF d Addr.PWR_STEP 0 4 11) Addr.PWR_STAT 20 true) Addr.HK_CFG 1 false
      let d := if rdN d Addr.PWR_START_TIME = 0 then wrN d Addr.PWR_START_TIME ((t - d.power.startAt) / ms 1) else d
      let d := { d with power := { d.power with starting := false }, red := { d.red with readyAt := some t } }
      let d := if loomMode d = .stop then selvedgeAll d t 0x0A else d
      if paired d then d
      else
        let d := ownWrite 1 t d
        if d.cfg.degraded then d else ownWrite 2 t d
    else d
  else d

/-! ### Sleep (R414) -/

/-- The unit wakes: from level 1 by start-up from step 7, from level 2 by a reset of kind 0x08. A paired unit comes up
as STANDBY. -/
def wake (d : Device) : Device :=
  match rdF d Addr.PWR_STAT 18 2 with
  | 1 =>
    let d := wrF d Addr.PWR_STAT 18 2 0
    let d := if rdB d Addr.PWR_CFG 16 then wrB d Addr.HK_CFG 2 false else d
    let d := wrF { d with power := { d.power with starting := true, wakePending := false } } Addr.PWR_STEP 0 4 6
    if paired d then setRedState d 3 else d
  | 2 => restart 8 1 d
  | _ => d

/-- A wake by a source: at once in sleep, after the entry where one is under way (R415). -/
def wakeBy (d : Device) : Device :=
  if d.power.sleepEntry.isSome then { d with power := { d.power with wakePending := true } } else wake d

/-- A sleep entry goes on (R414): once `GATE_OWN` is at 0, and for level 2 the ledger's write complete, the domains of
the level go off. -/
def sleepGo (t : Nat) (d : Device) : Device :=
  match d.power.sleepEntry with
  | some l =>
    if ownMode d = 0 ∧ (l = 1 ∨ ledgerWrites d = false) then
      let d := each [2, 3, 7, 8, 9, 10] (fun d n => domSwitchOff n t d) d
      let d := if l = 2 then each [6, 4, 1, 5] (fun d n => domSwitchOff n t d) (mramHalt d)
        else if rdB d Addr.PWR_CFG 16 then wrB d Addr.HK_CFG 2 true
        else d
      let d := wrB (wrF d Addr.PWR_STAT 18 2 l) Addr.PWR_STAT 20 false
      let d := { d with power := { d.power with sleepEntry := none, starting := false, monRoundOk := false } }
      if d.power.wakePending then wake d else d
    else d
  | none => d

/-- The code with which a sleep request is refused (R407, R414). -/
def sleepCode (d : Device) : Nat :=
  if powerBusy d then 6
  else if loomMode d ≠ .stop then 2
  else if (List.range 4).any (harnessEnabled d) then 3
  else if anySession d then 4
  else if redState d = 2 ∧ pairSync d then 7
  else 0

/-- A request for sleep level 1 or 2 (R414): the steward first takes `GATE_OWN` to 0. -/
def sleepEnter (level t : Nat) (d : Device) : Device :=
  let code := sleepCode d
  if code = 0 then
    let d := { d with power := { d.power with sleepEntry := some level, wakePending := false } }
    let d := match ownMode d with
      | 2 => ownDone t (ownWrite 1 t { d with red := { d.red with dropOwn := true } })
      | 1 => ownWrite 0 t d
      | _ => d
    sleepGo t (if level = 2 then ledgerSave d else d)
  else refuseRequest code 0 d

/-- A write of 0 to `PWR_SLEEP` (R414). -/
def sleepExit (d : Device) : Device :=
  if rdF d Addr.PWR_STAT 18 2 = 1 ∨ d.power.sleepEntry = some 1 then wakeBy d else d

/-- A write of `PWR_SLEEP` (R416). -/
def sleepWrite (v : Word) (t : Nat) (d : Device) : Device :=
  match field v 0 2 with
  | 0 => sleepExit d
  | 1 => sleepEnter 1 t d
  | 2 => sleepEnter 2 t d
  | _ => d

/-- `WAKE_N` low for `low` µs (R414). -/
def wakeLow (low : Nat) (d : Device) : Device :=
  if 100 ≤ low ∧ rdB d Addr.PWR_WAKE_MASK 0 then wakeBy d else d

/-- The seconds of the RTC at an instant (R367). -/
def rtcNow (t : Nat) (d : Device) : Nat :=
  let p := d.power
  (1000000000 * p.rtcSeconds + p.rtcNanos + (t - p.rtcAt) / us 25 * 25000) / 1000000000

/-- The RTC reaches the alarm (R414, R416). -/
def rtcAlarm (t : Nat) (d : Device) : Device :=
  let a := rdN d Addr.PWR_RTC_ALARM
  if a ≠ 0 ∧ a ≤ rtcNow t d ∧ rdB d Addr.PWR_WAKE_MASK 1 then wakeBy d else d

/-- A pending change of the ownership mode completes, and a sleep entry that waited for it goes on (R132, R414). -/
def ownChangeDone (t : Nat) (d : Device) : Device := sleepGo t (ownDone t d)

/-- An MRAM operation ends, and a sleep entry that waited for the ledger goes on. -/
def mramOperation (t : Nat) (d : Device) : Device := sleepGo t (mramDone t d)

end Sys2Proof.Machine
end

