-- ==== Sys2Proof/Machine/Access.lean ====
section
/-! DEFINITION. Access to registers and memories through the fabric: who may reach what, the bus errors, the pages and
shadows, the commands that a write gives, and the reads that clear or latch (R6 to R9, R12, R20 to R35). -/

namespace Sys2Proof.Machine

open Sys2Proof

/-! ### Bus errors (R26, R34) -/

/-- A failed access: counted, and captured where `VALID` is clear. -/
def busError (init : Fin 9) (a : Nat) (write : Bool) (cause : Nat) (d : Device) : Device :=
  let d := count d Addr.SYS_BUSERR_CNT
  let d := if cause = 2 then count d Addr.SYS_DENIED_CNT else d
  if rdB d Addr.SYS_BUSERR_INFO 31 then d
  else wrN (wrN d Addr.SYS_BUSERR_ADDR a) Addr.SYS_BUSERR_INFO (2 ^ 31 + 256 * cause + 16 * write.toNat + init.1)

/-! ### Rights (R20, R22) -/

/-- The steward. -/
def steward : Fin 9 := 4

/-- The debug port. -/
def debugPort : Fin 9 := 8

/-- An initiator is a shuttle core. -/
def isShuttle (i : Fin 9) : Bool := decide (i.1 < 4)

/-- The debug port answers only while `LOOM_DBG_EN` is 1 (R203). -/
def debugInert (d : Device) (i : Fin 9) : Bool := i == debugPort && !rdB d Addr.LOOM_CFG 1

/-- Whether an initiator acts with the steward's rights: the steward, and the debug port (DEDUCED from R22 and
R203). -/
def asSteward (i : Fin 9) : Bool := i == steward || i == debugPort

/-- The blocks whose run page the shuttle cores may write. -/
def shuttleWrites (b : Nat) : Bool :=
  [0x40120000, 0x40130000, 0x40200000, 0x40220000, 0x40300000, 0x40400000, 0x40500000, 0x40510000, 0x40610000].contains b

/-- The blocks that the DMA read engine may read. -/
def dmaReads (b : Nat) : Bool :=
  [0x40100000, 0x40110000, 0x40120000, 0x40130000, 0x40200000, 0x40220000, 0x40300000, 0x40900000, 0x40A00000].contains b

/-- The MRAM regions that the steward writes (R322): the saddle copies, the tacks, the loom keys and the event ring. -/
def stewardMram (a : Nat) : Bool :=
  let o := a - 0x60000000
  decide (o < 0x20000 ∨ 0x21000 ≤ o ∧ o < 0x30000 ∨ 0x32000 ≤ o ∧ o < 0x33000 ∨ 0x40000 ≤ o ∧ o < 0x80000)

/-- Whether an address lies in the region of the loom keys. -/
def keyRegion (a : Nat) : Bool := decide (0x60032000 ≤ a ∧ a < 0x60033000)

/-- Whether an initiator may read a target. -/
def mayRead (d : Device) (i : Fin 9) (a : Nat) : Bool :=
  !debugInert d i && match target a with
  | .itcm _ => false
  | .stewardSram => asSteward i || i == 5
  | .block b => isShuttle i || asSteward i || (i == 5 && dmaReads b)
  | .unmapped => false
  | _ => i != 6 && i != 7

/-- Whether a register takes a write of an initiator by its page and kind (R22, R23, R211). -/
def mayWriteReg (d : Device) (i : Fin 9) (b a : Nat) : Bool :=
  let hold := loomMode d == .hold
  let page := i == steward || (i == debugPort && hold)
  if b = 0x40A00000 then false
  else if a % 0x10000 < 0x8000 then page
  else
    match RegMap.row? a with
    | none => asSteward i || (isShuttle i && shuttleWrites b)
    | some r =>
      match r.kind with
      | .committed => i == 7
      | .steward => i == steward
      | .stewardDebug => asSteward i
      | .debugHold => i == debugPort && hold
      | _ => if b = 0x40800000 then false else asSteward i || (isShuttle i && shuttleWrites b)

/-- Whether an initiator may write a target. -/
def mayWrite (d : Device) (i : Fin 9) (a : Nat) : Bool :=
  !debugInert d i && match target a with
  | .rom | .itcm _ | .nor | .unmapped => false
  | .dtcm n => i.1 == n || asSteward i || i == 5 || i == 6
  | .sram | .lpddr => i != 7
  | .stewardSram => asSteward i || i == 5 || i == 6
  | .mram => asSteward i && stewardMram a && (!keyRegion a || sealOpen d 3)
  | .block b => mayWriteReg d i b a

/-- Whether an address is a coefficient that is in use: of an integrator's active bank (R117), or of a resampler bank
that is not open to writes (R87). -/
def activeCoef (d : Device) (a : Nat) : Bool :=
  let n := (a - 0x40228000) / 64
  let o := (a - 0x40228000) % 64
  if 0x40228000 ≤ a ∧ a < 0x40228800 ∧ 0x20 ≤ o then decide (0x30 ≤ o) == rdB d (Addr.INT_STAT n) 0
  else if 0x40122000 ≤ a ∧ a < 0x40126000 then !rsmBankOpen d (decide (0x40124000 ≤ a))
  else false

/-- The cause of R26 with which an access fails; 0 where it is carried out. The order in which two causes are judged is
the order below (DEDUCED). -/
def accessCause (d : Device) (i : Fin 9) (write : Bool) (width a : Nat) : Nat :=
  let tg := target a
  let isReg := match tg with | .block _ => true | _ => false
  if tg = .unmapped then 1
  else if ¬ (width = 1 ∨ width = 2 ∨ width = 4 ∨ width = 8) ∨ a % width ≠ 0 ∨ (isReg = true ∧ width < 4) then 6
  else if targetDown d tg ≠ 0 then targetDown d tg
  else if (if write then mayWrite d i a else mayRead d i a) = false then 2
  else if write = true ∧ activeCoef d a = true then 2
  else 0

/-! ### Commands that a write gives -/

/-- The index that an address has in an array of `n` registers. -/
def slot? (n base stride a : Nat) : Option (Fin n) :=
  if base ≤ a ∧ (a - base) % stride = 0 then fin? n ((a - base) / stride) else none

/-- A command of the calibration engine by its code (R63); 0 and 7 are ignored. -/
def calCommand (cmd chan t : Nat) (d : Device) : Device :=
  match cmd with
  | 1 => calStart chan t d
  | 2 => calZero t d
  | 3 => calFull t d
  | 4 => calCommit t d
  | 5 => calAbort t d
  | 6 => calRestore t d
  | _ => d

/-- A command of `LOOM_CTRL` (R211). -/
def loomCtrl (v t : Nat) (d : Device) : Device :=
  match v with
  | 1 => runStart 2 t d
  | 2 => loomStop t d
  | 3 => enterHold 6 t d
  | 4 => loomResume d
  | _ => d

/-- A write of `BOB_CTRLb` (R283). -/
def bobCtrl (b : Fin 16) (v : Word) (t : Nat) (d : Device) : Device :=
  let d := whenB (bit v 0) (bobDoorbell b t) d
  let d := whenB (bit v 1) (bobResume b t) d
  whenB (bit v 2) (bobRestart b t) d

/-- A command of `REC_CMDe` (R284). -/
def recCommand (e : Fin 4) (v t : Nat) (d : Device) : Device :=
  match v with
  | 1 => recArm e t d
  | 2 => recStop e t d
  | 3 => recForce d e t
  | _ => d

/-- A coefficient written to a bank that is not in use (R87, R88). -/
def coefWrite (bankB : Bool) (a : Nat) (v : Word) (d : Device) : Device :=
  if rsmBankOpen d bankB then rsmShowCrc (wr d a v) bankB else d

/-- A write of `BOB_BASEb` or `BOB_LENb`, accepted while the bobbin is disabled or halted (R283). -/
def bobSetup (b : Fin 16) (a : Nat) (v : Word) (d : Device) : Device :=
  if bobState d b.1 = 0 ∨ 3 ≤ bobState d b.1 then
    wr d a (if a % 16 = 0 then word (v.toNat / 32 * 32) else word (v.toNat % 65536))
  else d

/-- What a write does at the loom block's streamed and direct registers, by a core where one writes. -/
def loomCommand (i : Fin 9) (a : Nat) (v : Word) (t : Nat) (d : Device) : Option Device :=
  let core := (fin? 4 i.1)
  if a = Addr.LOOM_CTRL then some (loomCtrl v.toNat t d)
  else if a = Addr.LOOM_DONE then
    match core, fin? 4 (field v 0 2) with
    | some c, some k => some (loomDone c k t d)
    | _, _ => some d
  else if a = Addr.LOOM_KICK then some (if core.isSome then loomKick t d else d)
  else if a = Addr.LOOM_IPI then some (ipiWrite v d)
  else if a = Addr.LOOM_CB_FLUSH3 then some (cbFlush3 d)
  else
    match slot? 4 0x40408100 8 a, slot? 4 0x40408104 8 a, slot? 64 0x40409004 16 a, slot? 24 0x4040B000 4 a with
    | some k, _, _, _ => some (updTask d k (fun x => { x with addr := v }))
    | _, some k, _, _ =>
      match core with
      | some c => some (cbAppend k c (d.loom.tasks[k.1]).addr.toNat v d)
      | none => some (count d Addr.LOOM_CB_BADADDR_CNT)
    | _, _, some k, _ => some (tmrPresetWrite k v t d)
    | _, _, _, some n => some (overlayWrite n (field v 0 2) t d)
    | none, none, none, none => none

/-- What a write does at a register that gives a command; none at any other register. -/
def commandWrite (i : Fin 9) (a : Nat) (v : Word) (t : Nat) (d : Device) : Option Device :=
  match a / 0x10000 with
  | 0x4000 => if a = Addr.SYS_CFG_APPLY then some (cfgApply v t d) else none
  | 0x4002 =>
    if a = Addr.PWR_DOM_CTRL then some (domCtrl v true t d)
    else if a = Addr.PWR_SLEEP then some (sleepWrite v t d)
    else if a = Addr.PWR_RESET then some (softwareReset v t d)
    else none
  | 0x4010 => if a = Addr.CAL_CTRL then some (calCommand (field v 0 3) (field v 8 7) t d) else none
  | 0x4012 =>
    if a = Addr.RSM_COEF_CTRL then some (whenB (bit v 0) rsmSwitch d)
    else match slot? 2048 0x40122000 4 a, slot? 2048 0x40124000 4 a with
      | some _, _ => some (coefWrite false a v d)
      | _, some _ => some (coefWrite true a v d)
      | none, none => none
  | 0x4020 =>
    match slot? 24 0x40208104 64 a, slot? 24 0x40208108 64 a with
    | some n, _ => some (fifoWrite n v t d)
    | _, some n => some (edgeWrite n v t d)
    | none, none => none
  | 0x4022 => (slot? 8 0x4022900C 32 a).map (fun c => cordicWrite c v t d)
  | 0x4030 =>
    if a = Addr.GATE_OWN then some (ownWrite (field v 0 2) t d)
    else if a = Addr.GATE_TEST_CMD then some (gateTestWrite v t d)
    else if a = Addr.GATE_CLEAR then some (gateClear (field v 0 4) t d)
    else none
  | 0x4040 => loomCommand i a v t d
  | 0x4050 =>
    match slot? 16 0x40508100 32 a, slot? 16 0x40500100 16 a, slot? 16 0x40500104 16 a with
    | some b, _, _ => some (bobCtrl b v t d)
    | _, some b, _ => some (bobSetup b a v d)
    | _, _, some b => some (bobSetup b a v d)
    | none, none, none => none
  | 0x4051 => (slot? 4 0x40518000 256 a).map (fun e => recCommand e v.toNat t d)
  | 0x4060 =>
    if a = Addr.TIME_LREQ_GO then some (whenB (bit v 0) (lreqGo t) d)
    else if 0x4060F000 ≤ a ∧ a < 0x4060F030 ∧ rdB d Addr.TIME_LREQ_STAT 0 = true then some d
    else none
  | 0x4070 => if a = Addr.RED_CTRL then some (redCtrl v.toNat t d) else none
  | 0x4080 => if a % 0x10000 < 0x8000 then some (bridleCfgWrite (a % 0x10000) v t d) else none
  | 0x4090 => if a = Addr.TH_RESTART then some (thRestart (field v 0 4) t d) else none
  | _ => none

/-! ### Register writes (R6 to R8, R22, R23) -/

/-- The bits of `v` where the mask has ones, the bits of `old` elsewhere. -/
def mergeBits (mask : Nat) (old v : Word) : Word :=
  let m := word mask
  (old &&& ~~~m) ||| (v &&& m)

/-- A write of a register of a configuration page (R7, R23): the fields that a closed `SEAL2` guards keep their
values and the refusal is counted; the rest lands in the shadow, and passes at once where the loom has not run or is
in STOP. -/
def configWrite (r : RegRow) (a : Nat) (v : Word) (t : Nat) (d : Device) : Device :=
  let shut := decide (r.rws ≠ 0) && !sealOpen d 2
  let d := whenB shut (fun d => sealRefused d 2) d
  let mask := if shut then r.rw else r.rw ||| r.rws
  if mask = 0 then d
  else
    let base := (Sparse.find a d.shadow).getD (rd d a)
    let d := { d with shadow := Sparse.insert a (mergeBits mask base v) d.shadow }
    if transferNow d then shadowTransfer t d else d

/-- A write of any other register: its writable fields, and the W1C bits written with 1 cleared. -/
def plainWrite (r : RegRow) (a : Nat) (v : Word) (d : Device) : Device :=
  let w := mergeBits r.rw (rd d a) v
  wr d a (w &&& ~~~(v &&& word r.w1c))

/-- A word written to a register or a reserved offset of a block, by an initiator that may. The commit engine loads a
committed register. -/
def regWrite (i : Fin 9) (a : Nat) (v : Word) (t : Nat) (d : Device) : Device :=
  match RegMap.row? a with
  | none => d
  | some r =>
    if r.kind = .committed then (commitEntries [⟨a, v⟩] t d).2
    else
      match commandWrite i a v t d with
      | some d' => d'
      | none => if r.kind = .config then configWrite r a v t d else plainWrite r a v d

/-! ### Memory (R20, R30, R322) -/

/-- The core whose reservation an initiator holds. -/
def resvOf (i : Fin 9) : Option (Fin 5) := fin? 5 i.1

/-- Bytes written to a memory by an initiator that may: to the MRAM as one transaction of the steward. -/
def memWrite (i : Fin 9) (a : Nat) (bs : List Byte) (d : Device) : Device :=
  if target a = .mram then mramPut d 4 .plain [(a, bs)]
  else breakResv (resvOf i) a bs.length (putBytes d a bs)

/-- A store of `width` bytes. A 64-bit store to a block is two 32-bit stores, low word first (R26). -/
def storeAt (i : Fin 9) (width a : Nat) (v : DWord) (t : Nat) (d : Device) : Device :=
  match target a with
  | .block _ =>
    let d := regWrite i a (v.setWidth 32) t d
    if width = 8 then
      let c := accessCause d i true 4 (a + 4)
      if c = 0 then regWrite i (a + 4) ((v >>> 32).setWidth 32) t d else busError i (a + 4) true c d
    else d
  | _ => memWrite i a (bytesLE width v.toNat) d

/-- The value that an atomic operation stores. -/
def amoValue (op : BusOp) (old v : Word) : Word :=
  match op with
  | .add => old + v
  | .xor => old ^^^ v
  | .and => old &&& v
  | .or => old ||| v
  | .min => if old.toInt ≤ v.toInt then old else v
  | .max => if old.toInt ≤ v.toInt then v else old
  | .minu => if old.toNat ≤ v.toNat then old else v
  | .maxu => if old.toNat ≤ v.toNat then v else old
  | .store | .lr | .sc | .swap => v

/-- Whether an atomic operation of an initiator may act on a target: shared SRAM, and a core's own DTCM. -/
def amoTarget (i : Fin 9) (tg : Target) : Bool :=
  match tg with
  | .sram | .stewardSram => i.1 < 5
  | .dtcm n => i.1 == n
  | _ => false

/-- A word put on the read lines of the initiator. -/
def answer (v : DWord) (d : Device) : Device := { d with busData := v }

/-- An atomic operation on a word: the old value is returned; a store-conditional returns 0 where it stores and 1 where
it does not. -/
def atomicAt (i : Fin 9) (c : Fin 5) (op : BusOp) (a : Nat) (v : Word) (d : Device) : Device :=
  let old := word (memNat d a 4)
  match op with
  | .lr => answer (old.setWidth 64) { d with resv := d.resv.set c.1 (some (a / 8)) }
  | .sc =>
    let held := d.resv[c.1] == some (a / 8)
    let d := { d with resv := d.resv.set c.1 none }
    if held then answer 0 (memWrite i a (bytesLE 4 v.toNat) d) else answer 1 d
  | op => answer (old.setWidth 64) (memWrite i a (bytesLE 4 (amoValue op old v).toNat) d)

/-- A write access of an initiator (R6, R20, R22, R26, R30). -/
def fabricWrite (i : Fin 9) (op : BusOp) (width a : Nat) (v : DWord) (t : Nat) (d : Device) : Device :=
  match op with
  | .store =>
    let c := accessCause d i true width a
    if c = 0 then storeAt i width a v t d
    else busError i a true c (whenB (c == 2 && asSteward i && keyRegion a && !sealOpen d 3) (fun d => sealRefused d 3) d)
  | op =>
    let write := op != .lr
    let c := accessCause d i write width a
    match resvOf i with
    | some k =>
      let c := if c = 0 ∧ (width ≠ 4 ∨ amoTarget i (target a) = false) then 6 else c
      if c = 0 then atomicAt i k op a (v.setWidth 32) d else busError i a write c d
    | none => busError i a write (if c = 0 then 6 else c) d

/-! ### Reads (R6, R9, R12, R34) -/

/-- The registers that hold the low word of a 64-bit value. -/
def lowWords : List (Nat × List (Nat × Nat)) :=
  [(0x40000004, []), (0x40018020, []), (0x40128010, []), (0x40128020, []), (0x40138220, []), (0x40218000, []),
   (0x40518008, [(0x100, 4)]), (0x40518010, [(0x100, 4)]), (0x40518018, [(0x100, 4)]), (0x40600004, []),
   (0x40608000, []), (0x40608008, []), (0x40608028, []), (0x40608030, []), (0x40608038, []), (0x40608040, []),
   (0x40708034, []), (0x40808018, []), (0x40A00008, []), (0x40A00018, []), (0x40A00108, [(0x80, 4), (0x8, 6)])]

/-- Whether an address is that of a low word. -/
def isLow (a : Nat) : Bool := lowWords.any (fun r => decide (r.1 ≤ a) && onGrid r.2 (a - r.1))

/-- Whether an address is that of a high word. -/
def isHigh (a : Nat) : Bool := decide (4 ≤ a) && isLow (a - 4)

/-- What a register shows to a read that disturbs nothing: its WO fields read zero. -/
def shown (d : Device) (a t : Nat) : Word :=
  match RegMap.row? a with
  | some r => live d a t &&& ~~~(word r.wo)
  | none => 0

/-- A read of a register by an initiator: a high word from its shadow; a low word copies the high word there; an RC
register clears, those of system control for the steward alone. -/
def regRead (i : Fin 9) (a t : Nat) (d : Device) : Word × Device :=
  let v := if isHigh a then d.hiShadow[i.1] else shown d a t
  let d := if isLow a then { d with hiShadow := d.hiShadow.set i.1 (shown d (a + 4) t) } else d
  let rc := match RegMap.row? a with | some r => r.rc | none => false
  (v, if rc && (i == steward || a / 0x10000 != 0x4000) then clearCount d a else d)

/-- The value that an access of `width` bytes reads, where it does not fail. -/
def loadAt (i : Fin 9) (width a t : Nat) (d : Device) : Nat × Device :=
  match target a with
  | .block _ =>
    let (lo, d) := regRead i a t d
    if width = 8 then
      let (hi, d) := regRead i (a + 4) t d
      (lo.toNat + 2 ^ 32 * hi.toNat, d)
    else (lo.toNat, d)
  | _ => (memNat d a width, d)

/-- A read access of an initiator: the value on its read lines, or a bus error. -/
def fabricRead (i : Fin 9) (width a t : Nat) (d : Device) : Device :=
  let c := accessCause d i false width a
  if c = 0 then
    let (v, d) := loadAt i width a t d
    answer (BitVec.ofNat 64 v) d
  else busError i a false c d

/-- A target that has not responded within 4 096 CKF cycles (R26). -/
def noResponse (i : Fin 9) (write : Bool) (a : Nat) (d : Device) : Device := busError i a write 3 d

/-! ### Scrubbing (R27, R36) -/

/-- A scrub of the whole shared SRAM that found single-bit and double-bit errors: the single-bit ones are corrected and
counted, with an event at the limit; a double-bit one is a self-diagnosis fault. -/
def scrubPass (single double t : Nat) (d : Device) : Device :=
  let d := if single = 0 then d else countBy d Addr.SYS_ECC_CE_CNT single
  let d := if fieldN d 0x0102 ≤ single then raise d .eccLimit single else d
  if double = 0 then d else selfDiag (countBy d Addr.SYS_ECC_UE_CNT double) 3 t

end Sys2Proof.Machine
end

