-- ==== Sys2Proof/Machine/Operands.lean ====
section
/-! DEFINITION. The operands of the Tomus commands: how a packet is taken apart and built (R327 to R331), the parameters
of a request, and what the opcode tables say of each opcode (R344 to R353). -/

namespace Sys2Proof.Machine

open Sys2Proof

/-! ### Packets (R327 to R329, R331) -/

/-- The largest packet of a transport (R331). -/
def packetLimit (transport : Nat) : Nat := if transport = 0 then 512 else if transport ≤ 2 then 1472 else 64

/-- The length of the packet that a header announces: the fixed bytes, the parameters and the tag. -/
def packetLength (bs : List Byte) : Nat := 14 + sliceLE bs 8 2 + (if (sliceLE bs 3 1).testBit 6 then 16 else 0)

/-- The bytes of the packet in what a transport delivered: a datagram as it stands; of an SPI or a CAN FD frame, as
many as `LENGTH` says (R331). -/
def packetBytes (transport : Nat) (bs : List Byte) : List Byte :=
  if transport = 1 ∨ transport = 2 then bs
  else if packetLength bs ≤ bs.length then bs.take (packetLength bs) else bs

/-- A request taken apart; none where R329 discards it: a wrong magic, length or CRC, or `REPLY` set. -/
def parsePacket (transport : Nat) (peer : Peer) (raw : List Byte) : Option Req :=
  let bs := packetBytes transport raw
  let n := sliceLE bs 8 2
  let flags := sliceLE bs 3 1
  let stop := bs.length - 4
  if 14 ≤ bs.length ∧ sliceLE bs 0 2 = 0x4D54 ∧ bs.length = packetLength bs
      ∧ sliceLE bs stop 4 = crc32c (bs.take stop) ∧ flags.testBit 7 = false then
    some { transport := transport, peer := peer, version := sliceLE bs 2 1, flags := flags, seq := sliceLE bs 4 2,
           opcode := sliceLE bs 6 2, params := (bs.drop 10).take n, tag := (bs.drop (10 + n)).take (stop - (10 + n)) }
  else none

/-- The first bytes of a packet, to the end of its parameters. -/
def packetHead (flags seq opcode : Nat) (params : List Byte) (version : Nat) : List Byte :=
  [0x54, 0x4D, BitVec.ofNat 8 version, BitVec.ofNat 8 flags] ++ bytesLE 2 seq ++ bytesLE 2 opcode
    ++ bytesLE 2 params.length ++ params

end Sys2Proof.Machine

namespace Sys2Proof

open Sys2Proof.Machine

/-- The bytes 0 to 9 + n of a request, which its tag covers (R338). -/
def Req.head (r : Req) : List Byte := packetHead r.flags r.seq r.opcode r.params r.version

/-- `AUTH` of a request. -/
def Req.auth (r : Req) : Bool := r.flags.testBit 6

/-- `RETRY` of a request. -/
def Req.retry (r : Req) : Bool := r.flags.testBit 5

/-! ### Parameters -/

/-- `n` little-endian bytes of the parameters from an offset. -/
def Req.num (r : Req) (off n : Nat) : Nat := sliceLE r.params off n

/-- `n` bytes of the parameters from an offset. -/
def Req.bytes (r : Req) (off n : Nat) : List Byte := (r.params.drop off).take n

/-- The number of parameter bytes. -/
def Req.len (r : Req) : Nat := r.params.length

/-- Whether a reserved range of parameter bytes is zero. -/
def Req.zero (r : Req) (off n : Nat) : Bool := r.num off n == 0

end Sys2Proof

namespace Sys2Proof.Machine

open Sys2Proof

/-! ### The opcode tables -/

/-- What the tables give for an opcode: the role it needs (0 for none), whether CAN FD carries it, and whether it is an
L operation. -/
structure OpInfo where
  role  : Nat
  can   : Bool
  long  : Bool
deriving DecidableEq, Repr

/-- The opcodes with their columns (R344 to R353). -/
def opRows : List (Nat × OpInfo) :=
  [(0x0000, ⟨0, true, false⟩), (0x0001, ⟨0, true, false⟩), (0x0002, ⟨0, false, false⟩), (0x0003, ⟨0, false, false⟩),
   (0x0004, ⟨0, false, false⟩), (0x0010, ⟨0, false, false⟩), (0x0011, ⟨0, false, false⟩), (0x0012, ⟨1, false, false⟩),
   (0x0018, ⟨3, false, false⟩), (0x0019, ⟨3, false, false⟩), (0x001A, ⟨0, false, false⟩)]
  ++ [(0x0100, ⟨0, false, false⟩), (0x0101, ⟨2, false, false⟩), (0x0102, ⟨2, false, true⟩), (0x0103, ⟨2, false, true⟩),
      (0x0104, ⟨1, false, true⟩), (0x0105, ⟨2, false, true⟩), (0x0106, ⟨0, false, false⟩), (0x0107, ⟨0, false, false⟩)]
  ++ [(0x0200, ⟨2, false, true⟩), (0x0201, ⟨2, false, false⟩), (0x0202, ⟨2, false, true⟩), (0x0203, ⟨2, false, true⟩),
      (0x0204, ⟨2, false, true⟩), (0x0205, ⟨1, false, false⟩), (0x0206, ⟨0, false, false⟩), (0x0208, ⟨3, false, false⟩)]
  ++ [(0x0300, ⟨0, true, false⟩), (0x0301, ⟨1, false, true⟩), (0x0302, ⟨1, false, false⟩), (0x0303, ⟨2, false, false⟩),
      (0x0304, ⟨2, false, false⟩), (0x0305, ⟨1, false, false⟩), (0x0306, ⟨1, false, false⟩), (0x0307, ⟨1, false, false⟩)]
  ++ [(0x0400, ⟨0, false, false⟩), (0x0401, ⟨2, false, false⟩), (0x0500, ⟨1, false, false⟩), (0x0501, ⟨1, false, false⟩),
      (0x0502, ⟨1, false, false⟩), (0x0503, ⟨1, false, false⟩), (0x0504, ⟨0, false, false⟩), (0x0505, ⟨0, false, false⟩),
      (0x0506, ⟨0, false, false⟩)]
  ++ [(0x0600, ⟨1, false, false⟩), (0x0601, ⟨0, false, false⟩), (0x0602, ⟨0, false, false⟩), (0x0603, ⟨1, false, false⟩),
      (0x0700, ⟨2, false, false⟩), (0x0701, ⟨2, false, true⟩), (0x0800, ⟨2, false, false⟩), (0x0801, ⟨0, false, false⟩),
      (0x0802, ⟨2, false, true⟩), (0x0803, ⟨2, false, false⟩), (0x0804, ⟨2, false, false⟩)]
  ++ [(0x0900, ⟨0, true, false⟩), (0x0901, ⟨1, false, false⟩), (0x0A00, ⟨0, true, false⟩), (0x0A01, ⟨1, false, false⟩),
      (0x0A02, ⟨1, false, false⟩), (0x0B00, ⟨0, false, false⟩), (0x0B01, ⟨0, false, false⟩), (0x0B02, ⟨0, false, false⟩)]

/-- What the tables give for an opcode, where it is allocated. -/
def opInfo (opcode : Nat) : Option OpInfo := (opRows.find? (fun r => r.1 == opcode)).map (·.2)

end Sys2Proof.Machine

namespace Sys2Proof

open Sys2Proof.Machine

/-- Whether a request starts an L operation: the opcodes marked L, and commands 2 to 4 of `CAL_CMD` (R352). -/
def Req.long (r : Req) : Bool :=
  (r.opcode == 0x0800 && decide (2 ≤ r.num 0 1 ∧ r.num 0 1 ≤ 4)) || ((opInfo r.opcode).map (·.long)).getD false

end Sys2Proof
end

