-- ==== Sys2Proof/Machine/Tomus.lean ====
section
/-! DEFINITION. The Tomus server of the steward: packets in and replies out, repeats, sessions, the checks that every
request passes, long operations and replies that wait (R327 to R343). -/

namespace Sys2Proof.Machine

open Sys2Proof

/-! ### The server's parts -/

/-- The Tomus server after a change. -/
def updTomus (d : Device) (f : Tomus → Tomus) : Device := { d with tomus := f d.tomus }

/-- The counts of a transport after a change. -/
def updStats (d : Device) (k : Nat) (f : TransportStats → TransportStats) : Device :=
  atFin 5 k (fun i d => updTomus d (fun s => { s with stats := upd s.stats i f })) d

/-- One more on a sticky count, which stays at its largest value (R8, R344). -/
def stickyUp (n : Nat) : Nat := min (n + 1) 0xFFFFFFFF

/-- A packet received: a count that wraps, and its wraps. -/
def statRx (d : Device) (k : Nat) : Device :=
  updStats d k (fun s =>
    if s.rx + 1 < 2 ^ 32 then { s with rx := s.rx + 1 } else { s with rx := 0, rxWrap := stickyUp s.rxWrap })

/-- A packet discarded (R329). -/
def statDiscard (d : Device) (k : Nat) : Device := updStats d k (fun s => { s with discard := stickyUp s.discard })

/-- A packet that found B0 full (R334). -/
def statDrop (d : Device) (k : Nat) : Device := updStats d k (fun s => { s with drop := stickyUp s.drop })

/-- An authentication refusal. -/
def statAuth (d : Device) (k : Nat) : Device := updStats d k (fun s => { s with auth := stickyUp s.auth })

/-- A repeat (R334). -/
def statRepeat (d : Device) (k : Nat) : Device := updStats d k (fun s => { s with repeats := stickyUp s.repeats })

/-- The session of a peer. -/
def sessionOf (d : Device) (p : Peer) : Option Session' := d.tomus.sessions.find? (fun s => s.peer == p)

/-- The session of a peer after a change. -/
def updSession (d : Device) (p : Peer) (f : Session' → Session') : Device :=
  updTomus d (fun s => { s with sessions := s.sessions.map (fun x => if x.peer == p then f x else x) })

/-- The session of a peer ended. -/
def endSession (d : Device) (p : Peer) : Device :=
  updTomus d (fun s => { s with sessions := s.sessions.filter (fun x => x.peer != p) })

/-- Every session of a host key slot ended (R340). -/
def endSlot (d : Device) (slot : Nat) : Device :=
  updTomus d (fun s => { s with sessions := s.sessions.filter (fun x => x.slot != slot) })

/-! ### Authentication (R338) -/

/-- HMAC-SHA-256 (RFC 2104), blocks of 64 bytes. -/
def hmac (key msg : List Byte) : List Byte :=
  let k0 := if 64 < key.length then Config.sha256 key else key
  let k := k0 ++ zeros (64 - k0.length)
  Config.sha256 (k.map (· ^^^ 0x5C) ++ Config.sha256 (k.map (· ^^^ 0x36) ++ msg))

/-- The session key: HKDF-SHA-256 with one block of output. -/
def sessionKey (x nd : List Byte) (ident : Word) : List Byte :=
  (hmac (hmac nd x) (ascii "TOMUS" ++ serialBytes ++ bytesLE 4 ident.toNat ++ [1])).take 32

/-- The tag over the bytes 0 to 9 + n of a packet. -/
def tagOf (s : Session') (head : List Byte) : List Byte := (hmac s.key (bytesLE 4 s.ident.toNat ++ head)).take 16

/-! ### Replies (R330, R333, R334) -/

/-- A reply as a packet, tagged under a session where the request was accepted under one. -/
def replyPacket (r : Req) (under : Option Session') (status : Nat) (data : List Byte) : List Byte :=
  let head := packetHead (match under with | some _ => 0xC0 | none => 0x80) r.seq r.opcode (bytesLE 2 status ++ data) 1
  let body := match under with
    | some s => head ++ tagOf s head
    | none => head
  body ++ bytesLE 4 (crc32c body)

/-- The length that a reply with so many bytes of data has. -/
def replyLength (under : Option Session') (n : Nat) : Nat :=
  16 + n + (match under with | some _ => 16 | none => 0)

/-- A packet sent to a peer on a transport: the SPI holds it until a frame collects it; UDP answers through the port of
arrival; CAN FD pads it. -/
def sendPacket (transport : Nat) (p : Peer) (bs : List Byte) (d : Device) : Device :=
  match p with
  | .spi => updTomus d (fun s => { s with spiOut := s.spiOut ++ [bs] })
  | .udp a port => sendUdp (transport - 1) a port bs d
  | .can c =>
    if rdF d (Addr.CAN_STAT c) 0 2 = 2 then d
    else { d with out := d.out ++ [(.can c (rdF d (Addr.CAN_TTXID c) 0 29), canPad bs)] }

/-- The stored reply of a peer. -/
def storedOf (d : Device) (p : Peer) : Option Stored := d.tomus.stored.find? (fun s => s.peer == p)

/-- The last reply to a peer kept, for 16 peers, the least recently used one dropped. -/
def storeReply (r : Req) (bs : List Byte) (d : Device) : Device :=
  updTomus d (fun s => { s with stored := (⟨r.peer, r.seq, r.opcode, bs⟩ :: s.stored.filter (fun x => x.peer != r.peer)).take 16 })

/-- A reply sent and kept: by the session for a request of a session, else for the peer. -/
def reply (r : Req) (under : Option Session') (status : Nat) (data : List Byte) (d : Device) : Device :=
  let bs := replyPacket r under status data
  let d := match under with
    | some _ => updSession d r.peer (fun s => if s.seq = r.seq ∧ s.opcode = r.opcode then { s with reply := bs } else s)
    | none => storeReply r bs d
  sendPacket r.transport r.peer bs d

/-! ### Answers -/

/-- What an opcode answers: its status and data, the unit after it, and what the reply waits for, where it does. -/
structure Answer where
  status : Nat
  data   : List Byte
  dev    : Device
  wait   : Option Nat

/-- Executed, with reply data. -/
def okWith (data : List Byte) (d : Device) : Answer := ⟨0, data, d, none⟩

/-- Executed, with none. -/
def okay (d : Device) : Answer := okWith [] d

/-- Refused, or ended otherwise, with a status. -/
def deny (status : Nat) (d : Device) : Answer := ⟨status, [], d, none⟩

/-- The answer where a condition holds, else a refusal. -/
def need (b : Bool) (status : Nat) (d : Device) (a : Answer) : Answer := if b then a else deny status d

/-- The reply waits for an event of its own. -/
def waitFor (key : Nat) (d : Device) : Answer := ⟨0, [], d, some key⟩

/-- The slot of the session under which a request comes. -/
def reqSlot (d : Device) (r : Req) : Option Nat := if r.auth then (sessionOf d r.peer).map (·.slot) else none

/-- The role under which a request comes; 0 without a session. -/
def reqRole (d : Device) (r : Req) : Nat := if r.auth then ((sessionOf d r.peer).map (·.role)).getD 0 else 0

/-- A long operation begins (R335): the reply is PENDING and its work goes on. -/
def startLong (r : Req) (d : Device) (work : Device → Device) : Answer :=
  ⟨1, [], work (updTomus d (fun s => { s with ops := s.ops ++ [⟨r, reqSlot d r, 0, none⟩] })), none⟩

/-- Whether a long operation of the group of an opcode runs. -/
def groupBusy (d : Device) (opcode : Nat) : Bool :=
  d.tomus.ops.any (fun o => o.final.isNone && o.req.opcode / 256 == opcode / 256)

/-! ### The checks of every request (R330 to R342) -/

/-- Whether the unit receives packets of a transport at all: the steward and the networks have power, and a saddle has
come into force (R336). -/
def tomusUp (d : Device) (transport : Nat) : Bool :=
  domOn d 1 && d.cfg.loaded && (transport == 0 || domOn d 6)

/-- Whether a transport takes a packet: the SPI always, UDP on a port that is enabled, CAN FD on a controller that is
enabled and not bus-off (R329, R355, R359). -/
def transportTakes (d : Device) (transport : Nat) : Bool :=
  tomusUp d transport && match transport with
    | 0 => true
    | 1 => rdB d Addr.NET_CFG 0
    | 2 => rdB d Addr.NET_CFG 1
    | k + 3 => rdB d (Addr.CAN_CFG k) 0 && rdF d (Addr.CAN_STAT k) 0 2 != 2

/-- The refusal of a request that needs no session to be judged: an opcode that is not allocated, a transport that does not
carry it, or a unit that is not ready or is the standby of a pair (R331, R336); 0 where none applies. -/
def plainRefusal (d : Device) (r : Req) : Nat :=
  match opInfo r.opcode with
  | none => 4
  | some i =>
    let g := r.opcode / 256
    if 3 ≤ r.transport ∧ i.can = false then 11
    else if unitReady d = false ∧ g ≠ 0 ∧ i.role ≠ 0 then 13
    else if redState d = 3 ∧ i.role ≠ 0 ∧ (g = 1 ∨ g = 3) ∧ r.opcode ≠ 0x0303 then 13
    else 0

/-- Whether a request may run under its role: under a session of at least the opcode's, or `HOSTKEY_SET` over the SPI while
no slot holds a key (R341). -/
def roleRefusal (d : Device) (r : Req) : Nat :=
  let need := ((opInfo r.opcode).map (·.role)).getD 0
  if need = 0 then 0
  else if r.auth then (if reqRole d r < need then 8 else 0)
  else if r.opcode = 0x0018 ∧ r.transport = 0 ∧ d.tomus.keys.toList.all (·.isNone) = true then 0
  else 6

/-- The refusal of a request before its opcode's own rules; 0 where it executes. A long operation waits for no other of
its group (R335), but `STACK_SELECT` has its own result (R316). -/
def refusal (d : Device) (r : Req) : Nat :=
  let a := plainRefusal d r
  if a ≠ 0 then a
  else
    let b := roleRefusal d r
    if b ≠ 0 then b
    else if r.long ∧ r.opcode ≠ 0x0104 ∧ groupBusy d r.opcode = true then 10
    else 0

/-- A request executed, under a session where it came in one: a reply that is too long for the transport is a refusal
without effect (R331). -/
def runRequest (h : Req → Nat → Device → Answer) (r : Req) (under : Option Session') (t : Nat) (d : Device) : Device :=
  match refusal d r with
  | 0 =>
    let a := h r t d
    if packetLimit r.transport < replyLength under a.data.length then reply r under 3 [] d
    else
      match a.wait with
      | some k => updTomus a.dev (fun s => { s with waits := s.waits ++ [⟨r, k⟩] })
      | none => reply r under a.status a.data a.dev
  | c => reply r under c [] d

/-- A session that has executed its last request ends (R340). -/
def sessionSpent (p : Peer) (d : Device) : Device :=
  match sessionOf d p with
  | some s => if 65535 ≤ s.count then endSession d p else d
  | none => d

/-- A tagged request (R338, R339): its session, its tag, its place in the sequence; then it executes. -/
def runTagged (h : Req → Nat → Device → Answer) (r : Req) (t : Nat) (d : Device) : Device :=
  match sessionOf d r.peer with
  | none => reply r none 14 [] d
  | some s =>
    if r.tag ≠ tagOf s r.head then
      let d := statAuth d r.transport
      let d := if 8 ≤ s.bad + 1 then endSession d r.peer else updSession d r.peer (fun s => { s with bad := s.bad + 1 })
      reply r none 7 [] d
    else if r.seq = s.seq ∧ r.opcode = s.opcode then
      let d := if r.retry then d else statRepeat d r.transport
      if s.reply = [] then d else sendPacket r.transport r.peer s.reply d
    else if r.seq ≠ (s.seq + 1) % 65536 then reply r (some s) 9 [] d
    else
      let d := updSession d r.peer (fun s =>
        { s with seq := r.seq, opcode := r.opcode, reply := [], count := s.count + 1, lastAt := t, bad := 0 })
      sessionSpent r.peer (runRequest h r (some s) t d)

/-- A request outside a session whose `SEQ` and `OPCODE` are those of its peer's stored reply (R334). -/
def isRepeat (d : Device) (r : Req) : Bool :=
  !r.auth && ((storedOf d r.peer).map (fun s => s.seq == r.seq && s.opcode == r.opcode)).getD false

/-- A request taken up (R327 to R341): a repeat is answered with the stored reply; a wrong version and a tag on CAN FD
are refused; else it goes its way with or without a session. -/
def serve (h : Req → Nat → Device → Answer) (r : Req) (t : Nat) (d : Device) : Device :=
  let d := if r.retry then statRepeat d r.transport else d
  if isRepeat d r then
    let d := if r.retry then d else statRepeat d r.transport
    match storedOf d r.peer with
    | some s => sendPacket r.transport r.peer s.reply (storeReply r s.reply d)
    | none => d
  else if r.version ≠ 1 then reply r none 2 [] d
  else if 3 ≤ r.transport ∧ r.auth then reply r none 11 [] d
  else if r.auth then runTagged h r t d
  else runRequest h r none t d

/-! ### The queue of B0 (R334) -/

/-- Whether a request is answered by the server alone, with no opcode of its own: a wrong version, an opcode that is not
allocated, or a repeat. -/
def quick (d : Device) (r : Req) : Bool := r.version != 1 || (opInfo r.opcode).isNone || isRepeat d r

/-- An opcode that is not allocated has no meaning of its own. -/
def noOpcode (_ : Req) (_ : Nat) (d : Device) : Answer := deny 4 d

/-- The requests at the front of B0 that the server answers alone. -/
def drain (t : Nat) : Nat → Device → Device
  | 0, d => d
  | n + 1, d =>
    match d.tomus.b0 with
    | r :: rest => if quick d r then drain t n (serve noOpcode r t (updTomus d (fun s => { s with b0 := rest }))) else d
    | [] => d

/-- The execution of an opcode: the request at the front of B0 where it is that one, and after it what the server answers
alone. -/
def execute (h : Req → Nat → Device → Answer) (opcode : Nat) (req : Req) (t : Nat) (d : Device) : Device :=
  let r := { req with opcode := opcode }
  if tomusUp d r.transport then
    let d := if d.tomus.b0.head? = some r then updTomus d (fun s => { s with b0 := s.b0.drop 1 }) else d
    drain t 16 (serve h r t d)
  else d

/-! ### Packets received (R329, R331, R332, R414) -/

/-- A packet that a transport delivers: discarded, dropped where B0 holds 16, answered at once, or queued. A packet wakes
a unit from sleep level 1 where that is enabled. -/
def packetRx (transport : Nat) (peer : Peer) (bs : List Byte) (t : Nat) (d : Device) : Device :=
  if transportTakes d transport then
    let d := if rdF d Addr.PWR_STAT 18 2 = 1 ∧ rdB d Addr.PWR_WAKE_MASK 2 = true then wakeBy d else d
    let d := statRx d transport
    match parsePacket transport peer bs with
    | none => statDiscard d transport
    | some r =>
      if 16 ≤ d.tomus.b0.length then statDrop d transport
      else drain t 16 (updTomus d (fun s => { s with b0 := s.b0 ++ [r] }))
  else d

/-- A frame of the host SPI of which `bits` bits have passed when `SPI_CS_N` rises: a short one is void; else the oldest
reply goes out, or zeros, and what came in is a packet unless it begins with two zero bytes. -/
def spiFrame (bs : List Byte) (bits t : Nat) (d : Device) : Device :=
  if domOn d 1 = false ∨ bits < 4096 then d
  else
    let answer := d.tomus.spiOut.headD []
    let d := { d with out := d.out ++ [(.spi, answer ++ zeros (512 - answer.length))] }
    let d := updTomus d (fun s => { s with spiOut := s.spiOut.drop 1 })
    if sliceLE bs 0 2 = 0 then d else packetRx 0 .spi (bs.take 512) t d

/-! ### Ends by time (R335, R338, R340) -/

/-- A handshake that has waited 10 s for `SESSION_PROVE` ends. -/
def proveTimeout (t : Nat) (d : Device) : Device :=
  updTomus d (fun s => { s with hands := s.hands.filter (fun h => decide (t < h.at50 + sec 10)) })

/-- A session without a request that executes for 300 s ± 1 s ends. -/
def idleTimeout (peer : Peer) (t : Nat) (d : Device) : Device :=
  match sessionOf d peer with
  | some s =>
    let (past, d) := within ((t - s.lastAt) / ms 1) 299000 301000 d
    if past then endSession d peer else d
  | none => d

/-- The results that have been kept for 60 s are dropped. -/
def resultExpiry (t : Nat) (d : Device) : Device :=
  updTomus d (fun s => { s with ops := s.ops.filter (fun o =>
    match o.final with
    | some (_, f) => decide (t < f + sec 60)
    | none => true) })

/-! ### Replies that wait (R348, R350, R351) -/

/-- The keys of what a reply waits for: the latch of a kernel command, the gate self-test, and a frame to the ledger by its
sequence number. -/
def kernelKey : Nat := 0

/-- The gate self-test. -/
def testKey : Nat := 1

/-- A frame to the ledger. -/
def frameKey (seq : Nat) : Nat := 2 + seq

/-- The answer of the ledger to the frame with a sequence number, once its mailbox shows it (R213). -/
def ledgerResult (d : Device) (seq : Nat) : Option Nat :=
  let a := rdN d Addr.MBX_REQ_ACK
  if a % 65536 = seq ∧ d.meter.ack % 65536 = seq then some (a / 65536) else none

/-- The status and the data that a reply has waited for, once they are there. -/
def waitResult (d : Device) (w : Waiting) : Option (Nat × List Byte) :=
  if w.key = kernelKey then
    match d.loom.kernelCmd, d.loom.kernelNow with
    | some _, _ => none
    | none, some _ => some (0, bytesLE 4 (rdN d Addr.LOOM_CYCLE))
    | none, none => some (0x000D, [])
  else if w.key = testKey then
    if d.gtest.isSome then none
    else
      let v := rdN d Addr.GATE_TEST_STAT
      some (0, [BitVec.ofNat 8 (v / 2 ^ 28 % 4), 0] ++ bytesLE 2 (v % 65536))
  else
    (ledgerResult d (w.key - 2)).map (fun r =>
      if r ≠ 0 then (0x8200 + r, [])
      else if w.req.opcode ≤ 0x0501 then (0, bytesLE 8 d.meter.ackRec)
      else (0, []))

/-- The replies whose wait is over are sent, under the sessions that still stand. -/
def settleWaits (d : Device) : Device :=
  each d.tomus.waits (fun d w =>
    match waitResult d w with
    | some (status, data) =>
      reply w.req (if w.req.auth then sessionOf d w.req.peer else none) status data
        (updTomus d (fun s => { s with waits := s.waits.erase w }))
    | none => d) d

/-- The answers of the ledger to the fields of a set become clamp reports (R311): reason 4 for a closed seal and 3 for
any other refusal; for a value taken, the reason of its own clamp, or 8 where the ledger clamps it by R219. -/
def settleFields (d : Device) : Device :=
  each d.cfg.ledger (fun d x =>
    match ledgerResult d x.1 with
    | some r =>
      let d := { d with cfg := { d.cfg with ledger := d.cfg.ledger.erase x } }
      let reason := if r = 0 then x.2.why else if r = 10 then (if x.2.why = 0 then 8 else x.2.why) else if r = 3 then 4 else 3
      if reason = 0 then d
      else
        clampReport d reason { x.2 with why := reason } (if d.cfg.storeSrc = 2 then 2 else 1) (rdN d Addr.LOOM_CYCLE)
    | none => d) d

/-- The final status of a calibration that runs as a long operation, once the engine is done with it (R352). -/
def settleCal (t : Nat) (d : Device) : Device :=
  match opRunning d [0x0800, 0x0802] with
  | some _ =>
    let s := calState d
    let r := rdF d Addr.CAL_STAT 8 8
    if s = 3 ∨ s = 5 then opFinish d [0x0800, 0x0802] 0 100 t
    else if s = 0 ∨ s = 1 then opFinish d [0x0800, 0x0802] (if s = 0 ∧ r = 0 then 0 else 0x8100 + r) 100 t
    else d
  | none => d

/-- Everything in the server that waits for another block, after an event there. -/
def settle (t : Nat) (d : Device) : Device := settleFields (settleWaits (settleCal t d))

/-- An event of another block, and what waits for it in the server. -/
def settled (f : Device → Device) (t : Nat) (d : Device) : Device := settle t (f d)

end Sys2Proof.Machine
end

