-- ==== Sys2Proof/Machine/CmdAccess.lean ====
section
/-! DEFINITION. Meanings: the fabric, the shared SRAM and the tasks as the fabric releases them.
Each is a shared operation of the unit at the instant `t` of the command, while the domains that it needs are on. -/

namespace Sys2Proof.Machine

open Sys2Proof

/-- `REGISTER_WRITE` (R6). A write to a register field that has no row of its own, with access-code, page,
initiator, seal and reserved-bit checks. -/
def execRegisterWrite (i : Fin 9) (op : BusOp) (width a : Nat) (v : DWord) (t : Nat) (s : State) :
    Host.Outcome State Fault Refusal :=
  done s (fabricWrite i op width a v t (at50 s.dev t))

/-- `RC_FIELD_READ` (R6). A read of an RC field returns its value and then clears it; in the system control block
only a steward read clears it. -/
def execRcFieldRead (i : Fin 9) (width a : Nat) (t : Nat) (s : State) :
    Host.Outcome State Fault Refusal :=
  done s (fabricRead i width a t (at50 s.dev t))

/-- `LOW_WORD_READ` (R12). A read of the low word of a 64-bit register copies the high word into that initiator's
shadow. -/
def execLowWordRead (i : Fin 9) (width a : Nat) (t : Nat) (s : State) :
    Host.Outcome State Fault Refusal :=
  done s (fabricRead i width a t (at50 s.dev t))

/-- `TARGET_NO_RESPONSE` (R26). A target that has not responded within 4 096 CKF cycles ends the access with cause
0x3. -/
def execTargetNoResponse (i : Fin 9) (write : Bool) (a : Nat) (t : Nat) (s : State) :
    Host.Outcome State Fault Refusal :=
  done s (whileOn [1] (noResponse i write a) (at50 s.dev t))

/-- `SRAM_SCRUB_PASS` (R27). The steward scrubs the whole shared SRAM once per SYS_SCRUB_PERIOD, correcting and
counting single-bit errors. -/
def execSramScrubPass (single double : Nat) (t : Nat) (s : State) :
    Host.Outcome State Fault Refusal :=
  done s (whileOn [1] (scrubPass single double t) (at50 s.dev t))

/-- `CFG_APPLY_WRITE` (R23). Writing APPLY requests a shadow transfer at the next T0 boundary, or at once if the
loom has not run or is in STOP. -/
def execCfgApplyWrite (v : Word) (t : Nat) (s : State) :
    Host.Outcome State Fault Refusal :=
  done s (whileOn [1] (cfgApply v t) (at50 s.dev t))

/-- `T0_DEADLINE` (R32). At each T0 deadline D the device commits outputs, transfers shadows, latches the snapshot
and starts the state image and snapshot copy. -/
def execT0Deadline (t : Nat) (s : State) :
    Host.Outcome State Fault Refusal :=
  done s (whileOn [1, 5] (settled (t0Deadline t) t) (at50 s.dev t))

/-- `TASK_RELEASE` (R190). A task is released on a core once its snapshot copy has completed, raising its release
interrupt. -/
def execTaskRelease (task core : Fin 4) (t : Nat) (s : State) :
    Host.Outcome State Fault Refusal :=
  done s (whileOn [1] (taskRelease task core) (at50 s.dev t))

/-- `GATE_ISLAND_LINK_TIMEOUT` (R16). A gate island that receives no valid command frame for 40 CKF cycles goes to
its stored selvedge entry. -/
def execGateIslandLinkTimeout (c : Fin 48) (t : Nat) (s : State) :
    Host.Outcome State Fault Refusal :=
  done s (islandTimeout c t (at50 s.dev t))

/-- `ISLAND_ENTRY_HIZ_TIMEOUT` (R392). In a paired unit, an island that has held its entry for 20 µs passes to HIZ.
-/
def execIslandEntryHizTimeout (c : Fin 48) (t : Nat) (s : State) :
    Host.Outcome State Fault Refusal :=
  done s (islandHiz c t (at50 s.dev t))

end Sys2Proof.Machine
end

