-- ==== Sys2Proof/Machine/CmdBridle.lean ====
section
/-! DEFINITION. Meanings: the bridle and the seal loops.
Each is a shared operation of the unit at the instant `t` of the command, while the domains that it needs are on. -/

namespace Sys2Proof.Machine

open Sys2Proof

/-- `SEAL_MEASUREMENT` (R438). PD0 measures each seal loop every 10 ms and latches any open reading. -/
def execSealMeasurement (n : Fin 4) (ohms : Nat) (t : Nat) (s : State) :
    Host.Outcome State Fault Refusal :=
  done s (whileOn [0] (sealMeasure n ohms) (at50 s.dev t))

/-- `BRIDLE_INPUT_CHANGE` (R241). A change of a bridle input that has held for BRD_IN_FILT is accepted and the pair
and reaction states follow. -/
def execBridleInputChange (i : Nat) (r : Reading) (t : Nat) (s : State) :
    Host.Outcome State Fault Refusal :=
  done s (whileOn [11] (bridleInputChange i r t) (at50 s.dev t))

/-- `SA_DISC_TIMEOUT` (R242). Pair channels that do not agree within BRD_SA_DISC_p put the pair in DISC. -/
def execSaDiscTimeout (p : Fin 8) (t : Nat) (s : State) :
    Host.Outcome State Fault Refusal :=
  done s (whileOn [11] (saDisc p t) (at50 s.dev t))

/-- `STOP1_DELAY_EXPIRY` (R243). After BRD_STOP1_DELAY a category 1 stop takes enables low and opens contactors. -/
def execStop1DelayExpiry (p : Fin 8) (t : Nat) (s : State) :
    Host.Outcome State Fault Refusal :=
  done s (whileOn [11] (stop1Expiry p t) (at50 s.dev t))

/-- `IMD_FAULT` (R244). IMD reading 0 or LOST for BRD_IMD_FILT outside the blanking time is an insulation fault. -/
def execImdFault (t : Nat) (s : State) :
    Host.Outcome State Fault Refusal :=
  done s (whileOn [11] (imdFault t) (at50 s.dev t))

/-- `IMD_BLANK_END` (R244). The IMD blanking after a contactor closes ends. -/
def execImdBlankEnd (t : Nat) (s : State) :
    Host.Outcome State Fault Refusal :=
  done s (whileOn [11] (imdBlankEnd t) (at50 s.dev t))

/-- `SEN_TEST_PULSE` (R245). Once a second each channel pulses its enable switch off for 200 µs and checks the read-
back. -/
def execSenTestPulse (low : Nat) (t : Nat) (s : State) :
    Host.Outcome State Fault Refusal :=
  done s (whileOn [11] (senTest low t) (at50 s.dev t))

/-- `BRIDLE_RESET` (R247). A valid SRES_N pulse releases every reaction and fault whose condition has gone. -/
def execBridleReset (low high : Nat) (t : Nat) (s : State) :
    Host.Outcome State Fault Refusal :=
  done s (whileOn [11] (bridleReset low high t) (at50 s.dev t))

/-- `SRES_STUCK` (R247). SRES_N held low for longer than 5 s sets STUCK. -/
def execSresStuck (low : Nat) (t : Nat) (s : State) :
    Host.Outcome State Fault Refusal :=
  done s (whileOn [11] (sresStuck low) (at50 s.dev t))

/-- `KF_CHECK_EXPIRY` (R248). After BRD_K_KFTIME the contactor feedback is checked for close failure, weld or
dropout. -/
def execKfCheckExpiry (n : Fin 4) (t : Nat) (s : State) :
    Host.Outcome State Fault Refusal :=
  done s (whileOn [11] (kfCheck n t) (at50 s.dev t))

/-- `CKF_SUPERVISION_WINDOW` (R250). Each 10 µs window the CKF cycle count is judged and a supervision fault
declared if out of range. -/
def execCkfSupervisionWindow (cycles : Nat) (t : Nat) (s : State) :
    Host.Outcome State Fault Refusal :=
  done s (whileOn [11] (ckfWindow cycles t) (at50 s.dev t))

/-- `BRIDLE_FAULT` (R251). A channel disagreement, read-back mismatch, oscillator error or configuration failure
takes every output off until power cycle. -/
def execBridleFault (t : Nat) (s : State) :
    Host.Outcome State Fault Refusal :=
  done s (whileOn [11] (bridleFault t) (at50 s.dev t))

/-- `DEGRADED_MODE_EXPIRY` (R253). When the degraded-mode budget runs out the pair's reaction applies. -/
def execDegradedModeExpiry (t : Nat) (s : State) :
    Host.Outcome State Fault Refusal :=
  done s (whileOn [11] (degradedExpiry t) (at50 s.dev t))

/-- `POWER_ABSENT_PERMIT` (R254). The power-absent permit is granted once the named contactors have read open for 1
s. -/
def execPowerAbsentPermit (t : Nat) (s : State) :
    Host.Outcome State Fault Refusal :=
  done s (powerAbsent t (at50 s.dev t))

/-- `BRIDLE_CFG_WRITE` (R258). A write to the bridle configuration page is stored in one journalled transaction, or
refused under SEAL1. -/
def execBridleCfgWrite (offset : Nat) (v : Word) (t : Nat) (s : State) :
    Host.Outcome State Fault Refusal :=
  done s (whileOn [1, 11] (bridleCfgWrite offset v t) (at50 s.dev t))

/-- `BRIDLE_CFG_CHECK` (R260). At PD11 power-up the bridle checks its stored configuration before enabling outputs.
-/
def execBridleCfgCheck (t : Nat) (s : State) :
    Host.Outcome State Fault Refusal :=
  done s (whileOn [11] (bridleCheck t) (at50 s.dev t))

end Sys2Proof.Machine
end

