-- ==== Sys2Proof/Machine/Net.lean ====
section
/-! DEFINITION. The networks and the Ialos timebase: Ethernet frames with PRP, ARP, ICMP and UDP, CAN FD frames, the
states of the timebase and its servo, PTP, and the events at Ialos seconds (R355 to R373). -/

namespace Sys2Proof.Machine

open Sys2Proof

/-! ### Big-endian fields -/

/-- `n` bytes from an offset as a big-endian number. -/
def sliceBE (bs : List Byte) (lo n : Nat) : Nat := natBE ((bs.drop lo).take n)

/-! ### Ports (R355 to R358) -/

/-- The network server after a change. -/
def updNet (d : Device) (f : Net → Net) : Device := { d with net := f d.net }

/-- A PTP port after a change. -/
def updPort (d : Device) (n : Fin 2) (f : PtpPort → PtpPort) : Device :=
  updNet d (fun s => { s with ports := upd s.ports n f })

/-- Whether an Ethernet port works: PD6 on, the port enabled, a saddle in force and its link up. -/
def ethOn (d : Device) (n : Nat) : Bool :=
  domOn d 6 && d.cfg.loaded && rdB d Addr.NET_CFG n && rdB d Addr.ETH_LINK n

/-- Whether the two ports form one PRP node. -/
def prpOn (d : Device) : Bool := rdB d Addr.NET_CFG 2

/-- The unit's MAC address (R357). -/
def macBytes (d : Device) : List Byte := bytesBE 2 (rdF d Addr.NET_MAC_HI 0 16) ++ bytesBE 4 (rdN d Addr.NET_MAC_LO)

/-- The IPv4 address of a port; under PRP that of port 0. -/
def ipOf (d : Device) (n : Nat) : Nat := if prpOn d ∨ n = 0 then rdN d Addr.NET_IP0 else rdN d Addr.NET_IP1

/-- An Ethernet frame of the unit without its check sequence, padded to 60 bytes. -/
def ethFrame (d : Device) (dest : List Byte) (type : Nat) (payload : List Byte) : List Byte :=
  let f := dest ++ macBytes d ++ bytesBE 2 type ++ payload
  f ++ zeros (60 - f.length)

/-- A frame sent through one port, where it works. -/
def ethSend (n : Nat) (f : List Byte) (d : Device) : Device :=
  if ethOn d n then { d with out := d.out ++ [(.eth n, f)] } else d

/-- The redundancy control trailer of a frame on a port: the sequence number, LAN A or B, the size of what follows the
EtherType, and the suffix (IEC 62439-3). -/
def prpTrailer (seq n size : Nat) : List Byte :=
  bytesBE 2 seq ++ bytesBE 2 ((10 + n) * 4096 + size % 4096) ++ [0x88, 0xFB]

/-- A frame that is not of PTP sent: through port `n`, or under PRP through both with a trailer (R358). -/
def ethOut (n : Nat) (f : List Byte) (d : Device) : Device :=
  if prpOn d then
    let seq := d.net.prpSeq
    let one (k : Nat) : List Byte := f ++ prpTrailer seq k (f.length - 14 + 6)
    let d := updNet d (fun s => { s with prpSeq := (s.prpSeq + 1) % 65536 })
    ethSend 1 (one 1) (ethSend 0 (one 0) d)
  else ethSend n f d

/-! ### The duplicate window (R358) -/

/-- An entry leaves the window: a frame that came on one port only counts for the other. -/
def prpGone (d : Device) (e : Nat × Nat × Nat × Nat) : Device :=
  match e.2.2.1 with
  | 0 => count d (Addr.PRP_MISS_CNT 1)
  | 1 => count d (Addr.PRP_MISS_CNT 0)
  | _ => d

/-- Entries of 400 ms and older leave the window. -/
def prpAge (t : Nat) (d : Device) : Device :=
  let old := d.net.prpSeen.filter (fun e => decide (e.2.2.2 + ms 400 ≤ t))
  let d := updNet d (fun s => { s with prpSeen := s.prpSeen.filter (fun e => decide (t < e.2.2.2 + ms 400)) })
  each old prpGone d

/-- A frame of a source with a sequence number on a port: whether it is a duplicate, and the window with it. -/
def prpSee (src seq n t : Nat) (d : Device) : Bool × Device :=
  let d := prpAge t d
  let same (e : Nat × Nat × Nat × Nat) : Bool := e.1 == src && e.2.1 == seq
  if d.net.prpSeen.any same then
    (true, updNet d (fun s => { s with prpSeen := s.prpSeen.map (fun e =>
      if same e && e.2.2.1 != n then (e.1, e.2.1, 2, e.2.2.2) else e) }))
  else
    let l := d.net.prpSeen ++ [(src, seq, n, t)]
    let d := each (l.take (l.length - 128)) prpGone d
    (false, updNet d (fun s => { s with prpSeen := l.drop (l.length - 128) }))

/-- The sequence number of a trailer at the end of a frame, where it has one. -/
def prpSeq? (f : List Byte) : Option Nat :=
  let n := f.length
  let size := sliceBE f (n - 4) 2
  if 20 ≤ n ∧ sliceBE f (n - 2) 2 = 0x88FB ∧ (size / 4096 = 10 ∨ size / 4096 = 11) ∧ size % 4096 = n - 14 then
    some (sliceBE f (n - 6) 2)
  else none

/-- Supervision frames, sent every 2 s on both ports (R358). The layout is that of IEC 62439-3 (PRESUMED). -/
def prpSupervision (t : Nat) (d : Device) : Device :=
  if prpOn d then
    let d := prpAge t d
    let body := bytesBE 2 0x0001 ++ bytesBE 2 d.net.prpSeq ++ [20, 6] ++ macBytes d ++ [0, 0]
    ethOut 0 (ethFrame d [0x01, 0x15, 0x4E, 0x00, 0x01, 0x00] 0x88FB body) d
  else d

/-! ### The Ialos counter (R363 to R366) -/

/-- `TIME_STAT.STATE`. -/
def timeState (d : Device) : Nat := rdF d Addr.TIME_STAT 0 3

/-- A state of the timebase, and `TUNS` as R365 gives it: 0 in SYNC and, until it expires, in HOLDOVER. -/
def setTimeState (s : Nat) (d : Device) : Device :=
  let d := if s ≠ timeState d ∧ (timeState d = 3 ∨ timeState d = 4) then count d Addr.TIME_SYNC_LOSS_CNT else d
  wrB (wrF d Addr.TIME_STAT 0 3 s) Addr.TIME_STAT 3 (decide (s < 3))

/-- The counter set: from `at'` on it counts from `ns'`. -/
def timeRebase (ns' at' : Nat) (d : Device) : Device := { d with time := { d.time with ns := ns', frac := 0, at50 := at' } }

/-- A rate correction in use from the next tick, with its increment (R364). -/
def timeRate (r : Int) (t : Nat) (d : Device) : Device :=
  let inc := (roundDiv (64 * 2 ^ 32 * (1000000000 + r)) 10000000000).toNat
  let d := wrI (wrN (wrN d Addr.TIME_INC_LO (inc % 2 ^ 32)) Addr.TIME_INC_HI (inc / 2 ^ 32 % 256)) Addr.TIME_RATE r
  { d with time := { d.time.settle (nextTick t) with inc := inc } }

/-- `TIME_SET` before the first synchronisation (R353, R365). -/
def timeSet (ns' t : Nat) (d : Device) : Device := setTimeState 1 (timeRebase ns' t d)

/-- The one step of the counter, by the first offset, at the next tick (R366). -/
def timeStep (offset : Int) (t : Nat) (d : Device) : Device :=
  let at' := nextTick t
  let now := (Int.emod ((d.time.read at' : Int) - offset) (2 ^ 64)).toNat
  let d := wr64 (wr64 d (Addr.TIME_STEP_AT_LO 0) now) (Addr.TIME_STEP_AMT_LO 0) (Int.emod (-offset) (2 ^ 64)).toNat
  setTimeState 2 (wrB (timeRebase now at' d) Addr.TIME_STAT 4 true)

/-- The state after an offset inside or outside the limit (R365). -/
def timeNext (inside : Bool) (d : Device) : Device :=
  let d := updNet d (fun s =>
    if inside then { s with runIn := s.runIn + 1, runOut := 0 } else { s with runIn := 0, runOut := s.runOut + 1 })
  match timeState d with
  | 2 => if 8 ≤ d.net.runIn then setTimeState 3 d else d
  | 3 => if 4 ≤ d.net.runOut then setTimeState 2 d else d
  | 4 => updNet (setTimeState (if inside then 3 else 2) d) (fun s => { s with holdFrom := none })
  | _ => d

/-- An offset from the selected master: the first steps the counter; later ones drive the rate and the states. `TUNS` is
set while an offset exceeds the limit (R365, R366). -/
def timeOffset (offset : Int) (t : Nat) (d : Device) : Device :=
  let d := updNet (wrI d Addr.TIME_OFFSET (clampI (-(2 ^ 31 - 1)) (2 ^ 31 - 1) offset)) (fun s => { s with syncAt := t })
  if rdB d Addr.TIME_STAT 4 = false then
    updNet (timeStep offset t d) (fun s => { s with runIn := 0, runOut := 0, integral := 0 })
  else
    let most : Int := 1000 * rdF d Addr.TIME_SERVO 16 16
    let (integral, r) := Config.timeServo (rdF d Addr.TIME_SERVO 0 16) d.net.integral offset
    let d := updNet d (fun s => { s with integral := clampI (-most) most integral })
    let inside := decide (offset.natAbs ≤ rdF d Addr.TIME_LIMS 0 20)
    let d := timeNext inside (timeRate (clampI (-most) most r) t d)
    if inside then d else wrB d Addr.TIME_STAT 3 true

/-- HOLDOVER: r stays as it is (R365). -/
def timeHoldover (t : Nat) (d : Device) : Device :=
  if timeState d = 2 ∨ timeState d = 3 then
    updNet (setTimeState 4 d) (fun s => { s with holdFrom := some t, runIn := 0, runOut := 0 })
  else d

/-- No valid Sync for 3 intervals of 1 s. -/
def syncTimeout (t : Nat) (d : Device) : Device := if d.net.syncAt + sec 3 ≤ t then timeHoldover t d else d

/-- `TIME_HOLDOVER_T` has passed in HOLDOVER. -/
def holdoverExpiry (t : Nat) (d : Device) : Device :=
  match d.net.holdFrom with
  | some s => if timeState d = 4 ∧ s + sec (rdF d Addr.TIME_LIMS 20 12) ≤ t then wrB d Addr.TIME_STAT 3 true else d
  | none => d

/-! ### Ialos seconds (R363, R367, R371, R372) -/

/-- An Ialos second begins: both counters captured at the first CKF edge at which it has, the RTC rewritten in SYNC, `TPPS` raised where it is enabled and
driven; a counter that has wrapped is counted. -/
def secondBoundary (t : Nat) (d : Device) : Device :=
  let s := d.time.tickRead t / 1000000000
  if s = d.net.lastSec then d
  else
    let e := (([t, t + 64].find? (fun x => d.time.read x / 1000000000 == s)).getD (nextTick t))
    let d := if 2 ^ 64 ≤ d.time.total e then { count d Addr.TIME_WRAP with time := d.time.settle e } else d
    let ns' := d.time.read e
    let d := wr64 (wr64 d (Addr.TIME_XCAP_IALOS_LO 0) ns') (Addr.TIME_XCAP_EDGE_LO 0) (edgeNow d e)
    let d := if timeState d = 3 then
        { d with power := { d.power with rtcSeconds := ns' / 1000000000, rtcNanos := ns' % 1000000000, rtcAt := t, vbakLost := false } }
      else d
    let pps := rdB d Addr.NET_CFG 3 && timeState d != 0
    updNet d (fun x => { x with lastSec := s, tpps := if pps then some t else x.tpps })

/-- `TPPS` falls 100 ms after it rose. -/
def tppsFall (t : Nat) (d : Device) : Device :=
  match d.net.tpps with
  | some s => if s + ms 100 ≤ t then updNet d (fun x => { x with tpps := none }) else d
  | none => d

/-! ### PTP messages (R368, R369) -/

/-- PTP runs on a port. -/
def ptpOn (d : Device) (n : Nat) : Bool := ethOn d n && rdB d Addr.TIME_PTP_CFG 0

/-- The identity of the unit's clock: its MAC address with FF-FE in the middle (IEEE 1588-2008). -/
def clockIdentity (d : Device) : List Byte :=
  let m := macBytes d
  m.take 3 ++ [0xFF, 0xFE] ++ m.drop 3

/-- The identity of a port of the unit. -/
def portIdentity (d : Device) (n : Nat) : List Byte := clockIdentity d ++ bytesBE 2 (n + 1)

/-- The type of a message. -/
def ptpType (m : List Byte) : Nat := sliceBE m 0 1 % 16

/-- A message of PTP version 2 in the unit's domain, of the length it announces. -/
def ptpValid (d : Device) (m : List Byte) : Bool :=
  decide (34 ≤ m.length ∧ sliceBE m 1 1 % 16 = 2 ∧ sliceBE m 2 2 ≤ m.length ∧ sliceBE m 4 1 = rdF d Addr.TIME_PTP_CFG 8 8)

/-- The sender of a message. -/
def ptpSource (m : List Byte) : Nat := sliceBE m 20 10

/-- The number of a message. -/
def ptpSeq (m : List Byte) : Nat := sliceBE m 30 2

/-- The correction field, in 2^-16 ns. -/
def ptpCorrection (m : List Byte) : Int := signed 64 (sliceBE m 8 8)

/-- Whether a message is of a two-step clock. -/
def ptpTwoStep (m : List Byte) : Bool := (sliceBE m 6 1).testBit 1

/-- A timestamp of seconds and nanoseconds in a message, in ns. -/
def ptpTime (m : List Byte) (off : Nat) : Nat := sliceBE m off 6 * 1000000000 + sliceBE m (off + 6) 4

/-- A timestamp in ten bytes. -/
def ptpStamp (ns' : Nat) : List Byte := bytesBE 6 (ns' / 1000000000) ++ bytesBE 4 (ns' % 1000000000)

/-- A timestamp of the MAC at the start of a received frame, corrected by the PHY's latency (R369). -/
def rxStamp (d : Device) (n ts : Nat) : Int := (ts : Int) - rdF d (Addr.NET_PHYLAT n) 0 10

/-- A timestamp of a departing frame. -/
def txStamp (d : Device) (n ts : Nat) : Int := (ts : Int) + rdF d (Addr.NET_PHYLAT n) 16 10

/-- A message of the unit: its header and its body. -/
def ptpMessage (d : Device) (n type seq : Nat) (correction : Int) (control interval : Nat) (body : List Byte) : List Byte :=
  [BitVec.ofNat 8 type, 2] ++ bytesBE 2 (34 + body.length) ++ bytesBE 1 (rdF d Addr.TIME_PTP_CFG 8 8) ++ [0, 0, 0]
    ++ bytesBE 8 (Int.emod correction (2 ^ 64)).toNat ++ zeros 4 ++ portIdentity d n ++ bytesBE 2 seq
    ++ bytesBE 1 control ++ bytesBE 1 interval ++ body

/-- A PTP message sent through one port: peer-delay messages and others have their own multicast address (R356). -/
def ptpSend (n : Nat) (peer : Bool) (m : List Byte) (d : Device) : Device :=
  let dest : List Byte := if peer then [0x01, 0x80, 0xC2, 0x00, 0x00, 0x0E] else [0x01, 0x1B, 0x19, 0x00, 0x00, 0x00]
  ethSend n (ethFrame d dest 0x88F7 m) d

/-! ### The best master clock algorithm (R368) -/

/-- What an Announce offers. -/
def readAnnounce (m : List Byte) : Announce :=
  { priority1 := sliceBE m 47 1, class_ := sliceBE m 48 1, accuracy := sliceBE m 49 1, variance := sliceBE m 50 2,
    priority2 := sliceBE m 52 1, identity := sliceBE m 53 8, steps := sliceBE m 61 2 }

/-- What the unit itself offers: clockClass 248, with unknown accuracy and variance (PRESUMED). -/
def ownAnnounce (d : Device) : Announce :=
  { priority1 := rdF d Addr.TIME_PTP_CFG 16 8, class_ := 248, accuracy := 0xFE, variance := 0xFFFF,
    priority2 := rdF d Addr.TIME_PTP_CFG 24 8, identity := natBE (clockIdentity d), steps := 0 }

/-- The order in which two offers are compared. -/
def Announce.rank (a : Announce) : List Nat :=
  [a.priority1, a.class_, a.accuracy, a.variance, a.priority2, a.identity, a.steps]

/-- Whether a list of numbers comes before another, by the first difference. -/
def before : List Nat → List Nat → Bool
  | a :: l, b :: m => decide (a < b) || (a == b && before l m)
  | _, _ => false

/-- Whether an offer of a sender is better than another. -/
def betterOffer (a b : Nat × Announce) : Bool := before (a.2.rank ++ [a.1]) (b.2.rank ++ [b.1])

/-- The unit only ever follows while `TIME_PRIORITY1` is 255. -/
def slaveOnly (d : Device) : Bool := rdF d Addr.TIME_PTP_CFG 16 8 == 255

/-- The port with the best offer, with that offer. -/
def bestPort (d : Device) : Option (Fin 2 × Nat × Announce) :=
  let at' (n : Fin 2) : Option (Fin 2 × Nat × Announce) :=
    if ptpOn d n.1 then (d.net.ports[n.1]).best.map (fun b => (n, b.1, b.2)) else none
  match at' 0, at' 1 with
  | some a, some b => if betterOffer b.2 a.2 then some b else some a
  | some a, none => some a
  | none, b => b

/-- The roles of the ports settled: the port with the best offer is slave and the other passive; a unit that may be
master and is better than every offer, or has waited out the timeout with none, is master on both. The clock is an
ordinary one, so a port never is master beside a slave. -/
def elect (waited : Bool) (d : Device) : Device :=
  let roles (f : Fin 2 → PtpRole) : Device := updNet d (fun s => { s with ports := Vector.ofFn (fun n : Fin 2 =>
    { s.ports[n.1] with role := if ptpOn d n.1 then f n else .listening }) })
  match bestPort d with
  | some (n, _, a) =>
    if slaveOnly d = false ∧ before (ownAnnounce d).rank a.rank = true then roles (fun _ => .master)
    else wrB (roles (fun k => if k = n then .slave else .passive)) Addr.TIME_STAT 5 (n.1 == 1)
  | none =>
    if slaveOnly d then roles (fun _ => .listening)
    else if waited then roles (fun _ => .master)
    else roles (fun k => if (d.net.ports[k.1]).role = .master then .master else .listening)

/-- Whether an offer replaces the best so far: the first, news of the same sender, or a better one. -/
def keepOffer (best : Option (Nat × Announce)) (src : Nat) (a : Announce) : Bool :=
  match best with
  | some b => b.1 == src || betterOffer (src, a) b
  | none => true

/-- An Announce on a port: the best of the port, or news of its sender, is kept. -/
def announceRx (n : Fin 2) (m : List Byte) (t : Nat) (d : Device) : Device :=
  let a := readAnnounce m
  let src := ptpSource m
  if ptpOn d n.1 ∧ ptpValid d m = true ∧ ptpType m = 11 ∧ 64 ≤ m.length ∧ a.identity ≠ natBE (clockIdentity d) ∧ a.steps < 255 then
    if keepOffer (d.net.ports[n.1]).best src a then elect false (updPort d n (fun p => { p with best := some (src, a), heardAt := t })) else d
  else d

/-- A port has heard no Announce of its best master for 3 intervals: it is forgotten, and the roles are settled again. -/
def announceTimeout (n : Fin 2) (t : Nat) (d : Device) : Device :=
  if ptpOn d n.1 ∧ (d.net.ports[n.1]).heardAt + sec 3 ≤ t then
    elect true (updPort d n (fun p => { p with best := none, sync := none }))
  else d

/-! ### Sync (R366, R368) -/

/-- A Sync of the selected master that is complete: the time it left the master, its correction, and when it came. -/
def syncTaken (n : Fin 2) (origin : Nat) (correction : Int) (came : Int) (t : Nat) (d : Device) : Device :=
  timeOffset (came - origin - roundDiv correction 65536 - rdN d (Addr.TIME_PDELAY n.1)) t d

/-- A Sync, or the Follow_Up of a two-step one, with the MAC's timestamp: valid on the slave port, from its master. -/
def syncRx (n : Fin 2) (m : List Byte) (ts t : Nat) (d : Device) : Device :=
  let p := d.net.ports[n.1]
  if ptpOn d n.1 ∧ ptpValid d m = true ∧ p.role = .slave ∧ p.best.map (·.1) = some (ptpSource m) ∧ 44 ≤ m.length then
    match ptpType m with
    | 0 =>
      if ptpTwoStep m then
        updPort d n (fun p => { p with sync := some (ptpSeq m, rxStamp d n.1 ts, ptpCorrection m) })
      else syncTaken n (ptpTime m 34) (ptpCorrection m) (rxStamp d n.1 ts) t d
    | 8 =>
      match p.sync with
      | some (seq, came, c) =>
        if seq = ptpSeq m then
          syncTaken n (ptpTime m 34) (c + ptpCorrection m) came t (updPort d n (fun p => { p with sync := none }))
        else d
      | none => d
    | _ => d
  else d

/-! ### Peer delay (R368) -/

/-- The peer delay of a port shown. -/
def showPdelay (n : Nat) (twice : Int) (d : Device) : Device :=
  wrN d (Addr.TIME_PDELAY n) (clampI 0 (2 ^ 32 - 1) (roundDiv twice (2 ^ 17))).toNat

/-- A peer-delay message with the MAC's timestamp: a request is answered in one step, its answer leaving at `tx`; a
response to the unit's own request, or its Follow_Up, gives the delay. -/
def pdelayRx (n : Fin 2) (m : List Byte) (ts tx : Nat) (d : Device) : Device :=
  let p := d.net.ports[n.1]
  let came := rxStamp d n.1 ts
  let mine := (m.drop 44).take 10 == portIdentity d n.1 && ptpSeq m == p.seq
  if ptpOn d n.1 ∧ ptpValid d m = true ∧ 54 ≤ m.length then
    match ptpType m, p.pdelayAt with
    | 2, _ =>
      let turn := (txStamp d n.1 tx - came) * 65536
      let body := zeros 10 ++ bytesBE 10 (ptpSource m)
      ptpSend n.1 true (ptpMessage d n.1 3 (ptpSeq m) (ptpCorrection m + turn) 5 0x7F body) d
    | 3, some left =>
      if mine = false then d
      else if ptpTwoStep m then
        updPort d n (fun p => { p with resp := some (ptpSeq m, came, ptpTime m 34, ptpCorrection m) })
      else showPdelay n.1 ((came - left) * 65536 - ptpCorrection m) d
    | 10, some left =>
      match p.resp with
      | some (seq, back, reached, c) =>
        if mine ∧ seq = ptpSeq m then
          showPdelay n.1 ((back - left - (ptpTime m 34 - reached)) * 65536 - c - ptpCorrection m)
            (updPort d n (fun p => { p with resp := none }))
        else d
      | none => d
    | _, _ => d
  else d

/-- Each interval of 1 s on a port: its Pdelay_Req, and Sync and Announce where it is master; `tsSync` and `tsReq` are the
MAC's timestamps of the departing Sync and Pdelay_Req. -/
def intervalTx (n : Fin 2) (tsSync tsReq : Nat) (d : Device) : Device :=
  if ptpOn d n.1 then
    let p := d.net.ports[n.1]
    let seq := (p.seq + 1) % 65536
    let d := if p.role = .master then
        let a := ownAnnounce d
        let body := zeros 10 ++ bytesBE 2 37 ++ [0, BitVec.ofNat 8 a.priority1, 248, 0xFE, 0xFF, 0xFF, BitVec.ofNat 8 a.priority2]
          ++ clockIdentity d ++ [0, 0, 0xA0]
        let d := ptpSend n.1 false (ptpMessage d n.1 11 seq 0 5 0 body) d
        ptpSend n.1 false (ptpMessage d n.1 0 seq 0 0 0 (ptpStamp (txStamp d n.1 tsSync).toNat)) d
      else d
    let d := ptpSend n.1 true (ptpMessage d n.1 2 seq 0 5 0 (zeros 20)) d
    updPort d n (fun p => { p with seq := seq, pdelayAt := some (txStamp d n.1 tsReq), resp := none })
  else d

/-- A PTP message goes to its receiver by its type. -/
def ptpRx (n : Fin 2) (m : List Byte) (ts tx t : Nat) (d : Device) : Device :=
  match ptpType m with
  | 0 | 8 => syncRx n m ts t d
  | 11 => announceRx n m t d
  | 2 | 3 | 10 => pdelayRx n m ts tx d
  | _ => d

/-! ### Internet protocols (R356) -/

/-- The ones' complement sum of 16-bit words. -/
def onesSum (bs : List Byte) : Nat :=
  let s := ((List.range ((bs.length + 1) / 2)).map (fun i => natBE (((bs.drop (2 * i)) ++ [0]).take 2))).sum
  let s := s % 65536 + s / 65536
  s % 65536 + s / 65536

/-- The checksum over bytes whose own checksum field is zero. -/
def checksum (bs : List Byte) : Nat := 65535 - onesSum bs

/-- Whether bytes with their checksum in place are good. -/
def sumGood (bs : List Byte) : Bool := onesSum bs == 65535

/-- An ARP request for the port's address is answered. -/
def arpRx (n : Nat) (p : List Byte) (d : Device) : Device :=
  if sliceBE p 0 8 = 0x0001080006040001 ∧ sliceBE p 24 4 = ipOf d n then
    let asker := (p.drop 8).take 10
    let body := bytesBE 8 0x0001080006040002 ++ macBytes d ++ bytesBE 4 (ipOf d n) ++ asker
    ethOut n (ethFrame d (asker.take 6) 0x0806 body) d
  else d

/-- An ICMP echo request is answered with its own data. -/
def icmpRx (n : Nat) (mac : List Byte) (src : Nat) (p : List Byte) (d : Device) : Device :=
  if sliceBE p 0 2 = 0x0800 ∧ sumGood p = true then
    let rest := p.drop 4
    let icmp := [0, 0] ++ bytesBE 2 (checksum ([0, 0, 0, 0] ++ rest)) ++ rest
    let head (sum : Nat) : List Byte :=
      [0x45, 0] ++ bytesBE 2 (20 + icmp.length) ++ [0, 0, 0, 0, 64, 1] ++ bytesBE 2 sum ++ bytesBE 4 (ipOf d n) ++ bytesBE 4 src
    ethOut n (ethFrame d mac 0x0800 (head (checksum (head 0)) ++ icmp)) d
  else d

/-- The site address behind an IPv4 address on a port (R357). -/
def siteOf (d : Device) (n src : Nat) : Nat := src - fieldN d (0x0C04 + (if prpOn d then 0 else n))

/-- A UDP datagram: Tomus on port 48 120, a station on port 48 121. -/
def udpRx (n src dst : Nat) (p : List Byte) (t : Nat) (d : Device) : Device :=
  let len := sliceBE p 4 2
  let u := p.take len
  let pseudo := bytesBE 4 src ++ bytesBE 4 dst ++ [0, 17] ++ bytesBE 2 len
  if 8 ≤ len ∧ len ≤ p.length ∧ (sliceBE p 6 2 = 0 ∨ sumGood (pseudo ++ u) = true) then
    match sliceBE p 2 2 with
    | 48120 => packetRx (1 + n) (.udp src (sliceBE p 0 2)) (u.drop 8) t d
    | 48121 => stationFrame 3 (siteOf d n src) (u.drop 8) t d
    | _ => d
  else d

/-- An IPv4 packet for the port's address: one with options, a fragment or a bad header is discarded. -/
def ipRx (n : Nat) (mac : List Byte) (p : List Byte) (t : Nat) (d : Device) : Device :=
  let len := sliceBE p 2 2
  let body := (p.take len).drop 20
  let src := sliceBE p 12 4
  if sliceBE p 0 1 = 0x45 ∧ 20 ≤ len ∧ len ≤ p.length ∧ sliceBE p 6 2 % 0x4000 = 0 ∧ sumGood (p.take 20) = true
      ∧ sliceBE p 16 4 = ipOf d n then
    match sliceBE p 9 1 with
    | 1 => icmpRx n mac src body d
    | 17 => udpRx n src (ipOf d n) body t d
    | _ => d
  else d

/-! ### Frames (R356, R358) -/

/-- The EtherType of a frame and what follows it, an IEEE 802.1Q tag removed. -/
def frameBody (f : List Byte) : Nat × List Byte :=
  if sliceBE f 12 2 = 0x8100 then (sliceBE f 16 2, f.drop 18) else (sliceBE f 12 2, f.drop 14)

/-- Whether the MAC takes a frame. -/
def macTakes (d : Device) (f : List Byte) : Bool :=
  let dest := f.take 6
  let type := (frameBody f).1
  decide (14 ≤ f.length) && (dest == macBytes d || [0xFFFFFFFFFFFF, 0x011B19000000, 0x0180C200000E, 0x01154E000100].contains (natBE dest))
    && [0x0800, 0x0806, 0x88F7, 0x88FB].contains type

/-- A frame received on a port, without its check sequence; `ts` is the MAC's timestamp of its start and `tx` that of the
answer to a Pdelay_Req. -/
def ethRx (n : Fin 2) (f : List Byte) (ts tx t : Nat) (d : Device) : Device :=
  if ethOn d n.1 then
    if macTakes d f then
      let (type, p) := frameBody f
      let mac := (f.drop 6).take 6
      if type = 0x88F7 then ptpRx n p ts tx t d
      else
        let (dup, d) := match prpOn d, prpSeq? f with
          | true, some seq => prpSee (natBE mac) seq n.1 t d
          | _, _ => (false, d)
        if dup then d
        else match type with
          | 0x0806 => arpRx n.1 p d
          | 0x0800 => ipRx n.1 mac p t d
          | _ => d
    else count d (Addr.ETH_RXDROP_CNT n.1)
  else d

/-- A port gains or loses link (R355, R368, R373): the speed is the PHY's unless it is forced. -/
def linkChange (n : Fin 2) (up : Bool) (speed t : Nat) (d : Device) : Device :=
  let forced := rdF d Addr.NET_CFG (4 + 2 * n.1) 2
  let d := wrF (wrB d Addr.ETH_LINK n.1 up) Addr.ETH_LINK (2 + 2 * n.1) 2 (if forced = 0 then speed % 4 else forced)
  let d := if up then updPort d n (fun p => { p with heardAt := t })
    else updPort d n (fun p => { p with best := none, sync := none, resp := none, pdelayAt := none })
  let d := stationsFollow (elect false d)
  if rdF d Addr.ETH_LINK 0 2 = 0 then timeHoldover t d else d

/-! ### CAN FD (R359, R360) -/

/-- Whether a controller takes part in its bus. -/
def canOn (d : Device) (c : Nat) : Bool :=
  domOn d 6 && d.cfg.loaded && rdB d (Addr.CAN_CFG c) 0 && rdF d (Addr.CAN_STAT c) 0 2 != 2

/-- A frame received by a controller: a classical one is ignored, one that finds no room is lost and counted, the others
go to Tomus or to a station by their identifier. -/
def canRx (c : Fin 2) (ident : Nat) (ext fd room : Bool) (bs : List Byte) (t : Nat) (d : Device) : Device :=
  if canOn d c.1 && fd then
    if room = false then count d (Addr.CAN_RXLOST_CNT c.1)
    else if ext ≠ rdB d (Addr.CAN_CFG c.1) 1 then d
    else if ident = rdF d (Addr.CAN_TRXID c.1) 0 29 then packetRx (3 + c.1) (.can c.1) bs t d
    else stationFrame (1 + c.1) ident bs t d
  else d

/-- A controller goes bus-off: its stations are down. -/
def canBusOff (c : Fin 2) (d : Device) : Device :=
  if canOn d c.1 then stationsFollow (count (wrF d (Addr.CAN_STAT c.1) 0 2 2) (Addr.CAN_BUSOFF_CNT c.1)) else d

/-- After 128 × 11 recessive bits it is active again, with its error counters at 0 (ISO 11898-1). -/
def canRecover (c : Fin 2) (d : Device) : Device :=
  if domOn d 6 ∧ rdF d (Addr.CAN_STAT c.1) 0 2 = 2 then stationsFollow (wrN d (Addr.CAN_STAT c.1) 0) else d

end Sys2Proof.Machine
end

