-- ==== Sys2Proof/Machine/CmdClock.lean ====
section
/-! DEFINITION. Meanings: the clocks, the gate islands and the links that come and go.
Each is a shared operation of the unit at the instant `t` of the command, while the domains that it needs are on. -/

namespace Sys2Proof.Machine

open Sys2Proof

/-- `LOCK_DECLARED` (R423). The MDLL is declared locked after 250 good root edges with LOCKF in its window. -/
def execLockDeclared (mv : Nat) (t : Nat) (s : State) :
    Host.Outcome State Fault Refusal :=
  done s (whileOn [5] (lockDeclared mv t) (at50 s.dev t))

/-- `LOSS_OF_LOCK` (R424). A phase error or high LOCKF declares loss of lock, freezing the MDLL and gating CKE and
CKL. -/
def execLossOfLock (digital : Bool) (mv held : Nat) (t : Nat) (s : State) :
    Host.Outcome State Fault Refusal :=
  done s (whileOn [5] (lossOfLock digital mv held t) (at50 s.dev t))

/-- `LOSS_OF_REFERENCE` (R424). A missing or off-frequency root declares loss of reference and loss of lock. -/
def execLossOfReference (t : Nat) (s : State) :
    Host.Outcome State Fault Refusal :=
  done s (whileOn [5] (lossOfReference t) (at50 s.dev t))

/-- `LOCKF_FILTER_FAULT` (R424). LOCKF below its low limit while locked sets FILT_FLT. -/
def execLockfFilterFault (mv : Nat) (t : Nat) (s : State) :
    Host.Outcome State Fault Refusal :=
  done s (whileOn [5] (lockfFault mv) (at50 s.dev t))

/-- `REFERENCE_RECOVERED` (R427). After 1 ms of good root the MDLL starts to reacquire. -/
def execReferenceRecovered (t : Nat) (s : State) :
    Host.Outcome State Fault Refusal :=
  done s (whileOn [5] referenceRecovered (at50 s.dev t))

/-- `RELOCK_HOLD_EXPIRY` (R427). Lock held for CLK_RELOCK_HOLD ungates CKE and CKL and releases cause 0x0D. -/
def execRelockHoldExpiry (t : Nat) (s : State) :
    Host.Outcome State Fault Refusal :=
  done s (whileOn [5] (relockExpiry t) (at50 s.dev t))

/-- `GATE_ISLAND_LINK_LOST` (R143). The gate bank stops receiving valid fault and state reports from a gate island,
so LINK clears, the harness goes to the selvedge latched with cause 0x08 and a self-diagnosis fault of code 0x04 is
raised. -/
def execGateIslandLinkLost (c : Fin 48) (t : Nat) (s : State) :
    Host.Outcome State Fault Refusal :=
  done s (whileOn [1] (islandLinkLost c t) (at50 s.dev t))

/-- `GATE_ISLAND_SUPPLY_UP` (R135). A gate island's VD comes up, the island holds HIZ until it receives an entry,
and UV (and UVN where enabled) read 1. -/
def execGateIslandSupplyUp (c : Fin 48) (t : Nat) (s : State) :
    Host.Outcome State Fault Refusal :=
  done s (islandSupplyUp c (at50 s.dev t))

/-- `ETH_LINK_CHANGE` (R368). An Ethernet port gains or loses link, changing PTP port roles, holdover and the lost
state of UDP stations. -/
def execEthLinkChange (n : Fin 2) (up : Bool) (speed : Nat) (t : Nat) (s : State) :
    Host.Outcome State Fault Refusal :=
  done s (whileOn [1, 6] (linkChange n up speed t) (at50 s.dev t))

/-- `PTP_ANNOUNCE_TIMEOUT` (R368). No Announce arrives within the announce receipt timeout of 3 intervals, and the
best master clock algorithm re-selects the master and port roles. -/
def execPtpAnnounceTimeout (n : Fin 2) (t : Nat) (s : State) :
    Host.Outcome State Fault Refusal :=
  done s (whileOn [1, 6] (announceTimeout n t) (at50 s.dev t))

/-- `RED_START_WAIT_EXPIRY` (R397). Unit B, with no frame from its partner for RED_START_WAIT after ready, tries
mode 1 and becomes ACTIVE or STANDBY according to POWN_N. -/
def execRedStartWaitExpiry (low lowThen : Bool) (t : Nat) (s : State) :
    Host.Outcome State Fault Refusal :=
  done s (whileOn [1] (startWaitExpiry low lowThen t) (at50 s.dev t))

/-- `FILT_FLT_CLEAR` (R430). LOCKF returns inside its window while lock is declared, and FILT_FLT clears. -/
def execFiltFltClear (mv : Nat) (t : Nat) (s : State) :
    Host.Outcome State Fault Refusal :=
  done s (whileOn [5] (lockfClear mv) (at50 s.dev t))

end Sys2Proof.Machine
end

