-- ==== Sys2Proof/Machine/CmdGate.lean ====
section
/-! DEFINITION. Meanings: the gate channels, the legs, the harnesses and the selvedge.
Each is a shared operation of the unit at the instant `t` of the command, while the domains that it needs are on. -/

namespace Sys2Proof.Machine

open Sys2Proof

/-- `GATE_OWN_WRITE` (R132). A write of GATE_OWN.MODE is accepted, started as a pending change or refused. -/
def execGateOwnWrite (mode : Fin 4) (t : Nat) (s : State) :
    Host.Outcome State Fault Refusal :=
  done s (whileOn [1] (ownWrite mode.1 t) (at50 s.dev t))

/-- `GATE_OWN_CHANGE_DONE` (R132). A pending change from mode 2 to 1 completes once every selvedge sequence has
finished. -/
def execGateOwnChangeDone (t : Nat) (s : State) :
    Host.Outcome State Fault Refusal :=
  done s (whileOn [1] (ownChangeDone t) (at50 s.dev t))

/-- `UVLO_TRIP` (R135). A filtered VD or VN undervoltage takes ON channels to OFF and is a leg fault while running.
-/
def execUvloTrip (c : Fin 48) (vn dead : Bool) (t : Nat) (s : State) :
    Host.Outcome State Fault Refusal :=
  done s (uvloTrip c vn dead t (at50 s.dev t))

/-- `UVLO_RELEASE` (R135). A supply that has passed its release threshold for the filter time clears UV or UVN. -/
def execUvloRelease (c : Fin 48) (vn : Bool) (t : Nat) (s : State) :
    Host.Outcome State Fault Refusal :=
  done s (uvloRelease c vn t (at50 s.dev t))

/-- `BLANKING_END` (R136). The DESAT source is enabled once the blanking time after a turn-on has passed. -/
def execBlankingEnd (c : Fin 48) (t : Nat) (s : State) :
    Host.Outcome State Fault Refusal :=
  done s (blankingEnd c t (at50 s.dev t))

/-- `DESAT_TRIP` (R136). A confirmed desaturation takes the channel to SOFT, stamps the instant and reports cause
0x01. -/
def execDesatTrip (c : Fin 48) (stamp : Nat) (t : Nat) (s : State) :
    Host.Outcome State Fault Refusal :=
  done s (desatTrip c stamp t (at50 s.dev t))

/-- `SOFT_TIME_END` (R139). At the end of GATE_SOFT_TIME a channel passes from SOFT to OFF. -/
def execSoftTimeEnd (c : Fin 48) (t : Nat) (s : State) :
    Host.Outcome State Fault Refusal :=
  done s (softEnd c t (at50 s.dev t))

/-- `MILLER_CLAMP_ENABLE` (R140). In OFF the clamp is enabled once the CLMP voltage falls below VN + 2.0 V. -/
def execMillerClampEnable (c : Fin 48) (t : Nat) (s : State) :
    Host.Outcome State Fault Refusal :=
  done s (millerClamp c (at50 s.dev t))

/-- `SELVEDGE_ENTRY` (R145). A harness goes to the selvedge with a cause, its groups turn off in sequence and
contactor openings are requested. -/
def execSelvedgeEntry (h : Fin 4) (cause : Fin 16) (t : Nat) (s : State) :
    Host.Outcome State Fault Refusal :=
  done s (whileOn [1] (fun d => selvedge d h t cause.1) (at50 s.dev t))

/-- `SELVEDGE_SEQUENCE_STEP` (R145). A selvedge sequence step's delay expires and its legs leave. -/
def execSelvedgeSequenceStep (h : Fin 4) (t : Nat) (s : State) :
    Host.Outcome State Fault Refusal :=
  done s (whileOn [1] (selvStep h t) (at50 s.dev t))

/-- `SELVEDGE_HIZ_DELAY` (R145). A channel whose entry is HIZ passes to HIZ 10 µs after reaching OFF. -/
def execSelvedgeHizDelay (c : Fin 48) (t : Nat) (s : State) :
    Host.Outcome State Fault Refusal :=
  done s (selvHiz c t (at50 s.dev t))

/-- `SELVEDGE_TABLE_RELOAD` (R147). A changed selvedge table reaches every island, after which selvedge entries
follow the new table. -/
def execSelvedgeTableReload (t : Nat) (s : State) :
    Host.Outcome State Fault Refusal :=
  done s (whileOn [1] selvReload (at50 s.dev t))

/-- `RELEASE_HOLDOFF_END` (R148). Twenty µs after the last gate of a fault is off, release under the clearing mode
becomes possible. -/
def execReleaseHoldoffEnd (h : Fin 4) (t : Nat) (s : State) :
    Host.Outcome State Fault Refusal :=
  done s (whileOn [1] (holdoffEnd h t) (at50 s.dev t))

/-- `RETRY_WAIT_EXPIRY` (R148). In timed mode, GATE_RETRY_WAIT after the fault releases the group or harness if
every cause has gone. -/
def execRetryWaitExpiry (h : Fin 4) (leg : Option Nat) (t : Nat) (s : State) :
    Host.Outcome State Fault Refusal :=
  done s (whileOn [1] (retryWait h leg t) (at50 s.dev t))

/-- `RETRY_FORGET_EXPIRY` (R149). A harness that has run for GATE_RETRY_FORGET without a fault starts a new run of
tries. -/
def execRetryForgetExpiry (h : Fin 4) (t : Nat) (s : State) :
    Host.Outcome State Fault Refusal :=
  done s (whileOn [1] (retryForget h t) (at50 s.dev t))

/-- `GATE_CLEAR_WRITE` (R149). Writing GATE_CLEAR unlatches the named harnesses and clears their run of tries. -/
def execGateClearWrite (mask : Fin 16) (t : Nat) (s : State) :
    Host.Outcome State Fault Refusal :=
  done s (whileOn [1] (gateClear mask.1 t) (at50 s.dev t))

/-- `GATE_TEST_CMD_WRITE` (R150). Writing GATE_TEST_CMD starts a comparator self-test, or refuses it. -/
def execGateTestCmdWrite (v : Word) (t : Nat) (s : State) :
    Host.Outcome State Fault Refusal :=
  done s (whileOn [1] (gateTestWrite v t) (at50 s.dev t))

/-- `GATE_TEST_DONE` (R150). A self-test completes with pass or fail within 20 µs. -/
def execGateTestDone (trip : Option Nat) (t : Nat) (s : State) :
    Host.Outcome State Fault Refusal :=
  done s (whileOn [1] (settled (gateTestDone trip) t) (at50 s.dev t))

end Sys2Proof.Machine
end

