-- ==== Sys2Proof/Machine/CmdHousekeeping.lean ====
section
/-! DEFINITION. Meanings: the housekeeping converter, the calibration engine, the thermal model and the stores.
Each is a shared operation of the unit at the instant `t` of the command, while the domains that it needs are on. -/

namespace Sys2Proof.Machine

open Sys2Proof

/-- `HK_CONVERSION_DONE` (R54). A housekeeping conversion completes and its result is stored, with the next slot or
queued sequence started. -/
def execHkConversionDone (raw : Nat) (t : Nat) (s : State) :
    Host.Outcome State Fault Refusal :=
  done s (whileOn [1] (settled (hkDone raw t) t) (at50 s.dev t))

/-- `HK_ROUND_TICK` (R55). A round tick starts the regular sequence, or marks the round late. -/
def execHkRoundTick (t : Nat) (s : State) :
    Host.Outcome State Fault Refusal :=
  done s (whileOn [1] hkRoundTick (at50 s.dev t))

/-- `HK_ROUND_END` (R292). At the end of a round the NTCs are cross-checked and the drift corrections updated. -/
def execHkRoundEnd (t : Nat) (s : State) :
    Host.Outcome State Fault Refusal :=
  done s (whileOn [1] hkRoundEnd (at50 s.dev t))

/-- `HK_INJECTED_TRIGGER` (R56). An enabled trigger starts, queues or drops an injected sequence. -/
def execHkInjectedTrigger (source : Nat) (t : Nat) (s : State) :
    Host.Outcome State Fault Refusal :=
  done s (whileOn [1] (fun d => hkTrigger d source) (at50 s.dev t))

/-- `HK_RESULT_STALE` (R59). An input without a completed conversion for two round periods is marked STALE. -/
def execHkResultStale (i : Nat) (t : Nat) (s : State) :
    Host.Outcome State Fault Refusal :=
  done s (whileOn [1] (hkStale i t) (at50 s.dev t))

/-- `CAL_START` (R63). The START command selects an entry, runs the checks and arms the engine. -/
def execCalStart (entry : Nat) (t : Nat) (s : State) :
    Host.Outcome State Fault Refusal :=
  done s (whileOn [1] (calStart entry t) (at50 s.dev t))

/-- `CAL_ZERO` (R63). The ZERO command begins settling and averaging at zero. -/
def execCalZero (t : Nat) (s : State) :
    Host.Outcome State Fault Refusal :=
  done s (whileOn [1] (calZero t) (at50 s.dev t))

/-- `CAL_FULL` (R63). The FULL command begins settling and averaging at the applied reference. -/
def execCalFull (t : Nat) (s : State) :
    Host.Outcome State Fault Refusal :=
  done s (whileOn [1] (calFull t) (at50 s.dev t))

/-- `CAL_COMMIT` (R67). The COMMIT command writes the new entry, with a logbook entry for a metering channel. -/
def execCalCommit (t : Nat) (s : State) :
    Host.Outcome State Fault Refusal :=
  done s (whileOn [1] (calCommit t) (at50 s.dev t))

/-- `CAL_ABORT` (R63). The ABORT command discards everything and returns the engine to IDLE. -/
def execCalAbort (t : Nat) (s : State) :
    Host.Outcome State Fault Refusal :=
  done s (whileOn [1] (settled (calAbort t) t) (at50 s.dev t))

/-- `CAL_ENGINE_RESTORE` (R63). The RESTORE command checks and commits the restore values as a restored entry. -/
def execCalEngineRestore (t : Nat) (s : State) :
    Host.Outcome State Fault Refusal :=
  done s (whileOn [1] (calRestore t) (at50 s.dev t))

/-- `CAL_SETTLE_EXPIRY` (R63). After CAL_SETTLE the engine starts averaging readings. -/
def execCalSettleExpiry (t : Nat) (s : State) :
    Host.Outcome State Fault Refusal :=
  done s (whileOn [1] (calSettle t) (at50 s.dev t))

/-- `CAL_AVERAGING_DONE` (R64). The averaging of the required readings completes and the result is checked. -/
def execCalAveragingDone (t : Nat) (s : State) :
    Host.Outcome State Fault Refusal :=
  done s (whileOn [1] (settled calDone t) (at50 s.dev t))

/-- `CAL_FLAGGED_READING` (R64). A reading with the invalid or overload flag ends the averaging with result 0xB. -/
def execCalFlaggedReading (t : Nat) (s : State) :
    Host.Outcome State Fault Refusal :=
  done s (whileOn [1] (settled calFlagged t) (at50 s.dev t))

/-- `CAL_TIMEOUT` (R63). No command for CAL_TIMEOUT returns the engine to IDLE with result 0xA. -/
def execCalTimeout (t : Nat) (s : State) :
    Host.Outcome State Fault Refusal :=
  done s (whileOn [1] (settled (calTimeout t) t) (at50 s.dev t))

/-- `CAL_COMMIT_DONE` (R67). The journalled calibration write completes and the engine returns to IDLE. -/
def execCalCommitDone (t : Nat) (s : State) :
    Host.Outcome State Fault Refusal :=
  done s (whileOn [1] (settled (calCommitDone t) t) (at50 s.dev t))

/-- `THERMAL_TICK` (R290). Every 1 ms the thermal model updates losses, Foster and heatsink stages and compares
limits. -/
def execThermalTick (t : Nat) (s : State) :
    Host.Outcome State Fault Refusal :=
  done s (whileOn [1] (thTick t) (at50 s.dev t))

/-- `THERMAL_RECORD_WRITE` (R299). After the write in progress finishes, the thermal record is written in one
journalled transaction. -/
def execThermalRecordWrite (t : Nat) (s : State) :
    Host.Outcome State Fault Refusal :=
  done s (whileOn [1] thRecordWrite (at50 s.dev t))

/-- `TH_RESTART_WRITE` (R302). Writing TH_RESTART releases cause 0x0C for harnesses whose temperatures allow it. -/
def execThRestartWrite (mask : Fin 16) (t : Nat) (s : State) :
    Host.Outcome State Fault Refusal :=
  done s (whileOn [1] (thRestart mask.1 t) (at50 s.dev t))

/-- `MRAM_OPERATION_DONE` (R323). An MRAM operation completes and the controller starts the next one by writer
priority. -/
def execMramOperationDone (t : Nat) (s : State) :
    Host.Outcome State Fault Refusal :=
  done s (whileOn [1] (settled (mramOperation t) t) (at50 s.dev t))

/-- `STACK_RESOLVED` (R316). An accepted stack change is resolved, written to the shadows and APPLY is written. -/
def execStackResolved (t : Nat) (s : State) :
    Host.Outcome State Fault Refusal :=
  done s (whileOn [1] (stackResolve t) (at50 s.dev t))

end Sys2Proof.Machine
end

