-- ==== Sys2Proof/Machine/CmdKernel.lean ====
section
/-! DEFINITION. Meanings: the grid-forming kernel.
Each is a shared operation of the unit at the instant `t` of the command, while the domains that it needs are on. -/

namespace Sys2Proof.Machine

open Sys2Proof

/-- `GFK_INIT` (R155). A call of gfk_init checks the configuration and sets the kernel to OFF with no requests. -/
def execGfkInit (ctx : Nat) (t : Nat) (s : State) :
    Host.Outcome State Fault Refusal :=
  done s (whileCores (gfkInit ctx) (at50 s.dev t))

/-- `GFK_STEP` (R163). A call of gfk_step advances the virtual synchronous machine and the state machine by one T0
and returns references and requests. -/
def execGfkStep (ctx inp out : Nat) (t : Nat) (s : State) :
    Host.Outcome State Fault Refusal :=
  done s (whileCores (gfkStep ctx inp out) (at50 s.dev t))

/-- `GFK_CMD_START` (R172). The kernel command START leaves OFF for WAIT, FORM or RAMP. -/
def execGfkCmdStart (ctx inp out : Nat) (t : Nat) (s : State) :
    Host.Outcome State Fault Refusal :=
  done s (whileCores (gfkCommand 1 ctx inp out) (at50 s.dev t))

/-- `GFK_CMD_STOP` (R172). The kernel command STOP leads to OFF with OPEN set. -/
def execGfkCmdStop (ctx inp out : Nat) (t : Nat) (s : State) :
    Host.Outcome State Fault Refusal :=
  done s (whileCores (gfkCommand 2 ctx inp out) (at50 s.dev t))

/-- `GFK_CMD_RESET` (R172). The kernel command RESET leaves TRIPPED for OFF and clears SELV. -/
def execGfkCmdReset (ctx inp out : Nat) (t : Nat) (s : State) :
    Host.Outcome State Fault Refusal :=
  done s (whileCores (gfkCommand 3 ctx inp out) (at50 s.dev t))

/-- `GFK_CMD_RECON_ON` (R178). The kernel command RECON_ON starts reconnection in FORM, or is ignored with REASON
13. -/
def execGfkCmdReconOn (ctx inp out : Nat) (t : Nat) (s : State) :
    Host.Outcome State Fault Refusal :=
  done s (whileCores (gfkCommand 4 ctx inp out) (at50 s.dev t))

/-- `GFK_CMD_RECON_OFF` (R178). The kernel command RECON_OFF clears reconnection. -/
def execGfkCmdReconOff (ctx inp out : Nat) (t : Nat) (s : State) :
    Host.Outcome State Fault Refusal :=
  done s (whileCores (gfkCommand 5 ctx inp out) (at50 s.dev t))

/-- `DEAD_BUS_TIMER_EXPIRY` (R172). A bus dead for the staggered time in WAIT leads to CLOSING_DEAD with CLOSE set.
-/
def execDeadBusTimerExpiry (ctx inp out : Nat) (t : Nat) (s : State) :
    Host.Outcome State Fault Refusal :=
  done s (whileCores (gfkDeadExpiry ctx inp out) (at50 s.dev t))

/-- `LIVE_BUS_TIMER_EXPIRY` (R172). A bus live for GF_LIVE_T in WAIT leads to SYNC. -/
def execLiveBusTimerExpiry (ctx inp out : Nat) (t : Nat) (s : State) :
    Host.Outcome State Fault Refusal :=
  done s (whileCores (gfkLiveExpiry ctx inp out) (at50 s.dev t))

/-- `SYNC_HOLD_EXPIRY` (R177). A synchronisation window held for GF_SYNC_HOLD sets CLOSE or RECON_CLOSE. -/
def execSyncHoldExpiry (ctx inp out : Nat) (t : Nat) (s : State) :
    Host.Outcome State Fault Refusal :=
  done s (whileCores (gfkSyncExpiry ctx inp out) (at50 s.dev t))

/-- `CLOSE_TIMEOUT` (R172). GF_CLOSE_TMAX without contactor confirmation leads to OFF with REASON 8. -/
def execCloseTimeout (ctx inp out : Nat) (t : Nat) (s : State) :
    Host.Outcome State Fault Refusal :=
  done s (whileCores (gfkCloseExpiry ctx inp out) (at50 s.dev t))

/-- `SYNC_TIMEOUT` (R172). GF_SYNC_TIMEOUT in SYNC leads to OFF with REASON 9. -/
def execSyncTimeout (ctx inp out : Nat) (t : Nat) (s : State) :
    Host.Outcome State Fault Refusal :=
  done s (whileCores (gfkSyncTimeout ctx inp out) (at50 s.dev t))

/-- `RAMP_COMPLETE` (R175). When E reaches its droop value at the end of the ramp, the kernel enters FORM. -/
def execRampComplete (ctx inp out : Nat) (t : Nat) (s : State) :
    Host.Outcome State Fault Refusal :=
  done s (whileCores (gfkRampEnd ctx inp out) (at50 s.dev t))

/-- `FRT_RECOVER_EXPIRY` (R169). A voltage inside the band for GF_FRT_RECOVER ends the disturbance. -/
def execFrtRecoverExpiry (ctx inp out : Nat) (t : Nat) (s : State) :
    Host.Outcome State Fault Refusal :=
  done s (whileCores (gfkFrtExpiry ctx inp out) (at50 s.dev t))

/-- `CURRENT_LIMIT_HOLD_EXIT` (R168). The angle hold ends once the unclipped current has stayed below the exit level
for one fundamental period. -/
def execCurrentLimitHoldExit (ctx inp out : Nat) (t : Nat) (s : State) :
    Host.Outcome State Fault Refusal :=
  done s (whileCores (gfkHoldExit ctx inp out) (at50 s.dev t))

/-- `RECON_DELAY_EXPIRY` (R178). After the utility has been live for GF_RECON_DELAY the kernel starts pulling the
island onto its angle. -/
def execReconDelayExpiry (ctx inp out : Nat) (t : Nat) (s : State) :
    Host.Outcome State Fault Refusal :=
  done s (whileCores (gfkReconExpiry ctx inp out) (at50 s.dev t))

end Sys2Proof.Machine
end

