-- ==== Sys2Proof/Machine/CmdLedger.lean ====
section
/-! DEFINITION. Meanings: the ledger.
Each is a shared operation of the unit at the instant `t` of the command, while the domains that it needs are on. -/

namespace Sys2Proof.Machine

open Sys2Proof

/-- `TIME_LREQ_GO_WRITE` (R213). The steward marks a ledger request frame to go out with the next millisecond
boundary's time word. -/
def execTimeLreqGoWrite (t : Nat) (s : State) :
    Host.Outcome State Fault Refusal :=
  done s (whileOn [1] (lreqGo t) (at50 s.dev t))

/-- `IALOS_MS_BOUNDARY` (R370). At each Ialos millisecond boundary the ledger assigns energy, acts on the request
frame and refreshes the mailbox. -/
def execIalosMsBoundary (t : Nat) (s : State) :
    Host.Outcome State Fault Refusal :=
  done s (whileOn [1] (settled (msBoundary t) t) (at50 s.dev t))

/-- `LREQ_OPEN` (R226). An OPEN request frame opens a session and writes a signed start record, or is refused. -/
def execLreqOpen (seq : Nat) (mp : Nat) (sid : List Byte) (t : Nat) (s : State) :
    Host.Outcome State Fault Refusal :=
  done s (whileOn [4] (ledgerFrame seq 1 mp sid t) (at50 s.dev t))

/-- `LREQ_CLOSE` (R226). A CLOSE request frame writes the stop record into its reserved slot. -/
def execLreqClose (seq : Nat) (mp : Nat) (t : Nat) (s : State) :
    Host.Outcome State Fault Refusal :=
  done s (whileOn [4] (ledgerFrame seq 2 mp [] t) (at50 s.dev t))

/-- `LREQ_ACK_RECORDS` (R227). An ACK_RECORDS frame frees the written record slots up to the named number. -/
def execLreqAckRecords (seq : Nat) (upto : Nat) (t : Nat) (s : State) :
    Host.Outcome State Fault Refusal :=
  done s (whileOn [4] (ledgerFrame seq 3 0xFF (bytesLE 8 upto) t) (at50 s.dev t))

/-- `LREQ_SET_FIELD` (R218). A SET_FIELD frame changes a metrology field with a logbook entry, or is refused. -/
def execLreqSetField (seq : Nat) (mp : Nat) (id : Nat) (v : Word) (t : Nat) (s : State) :
    Host.Outcome State Fault Refusal :=
  done s (whileOn [4] (ledgerFrame seq 4 mp (bytesLE 2 id ++ [0, 0] ++ bytesLE 4 v.toNat) t) (at50 s.dev t))

/-- `LREQ_CLEAR_COUNTERS` (R214). A CLEAR_COUNTERS frame clears the named ledger sticky counters. -/
def execLreqClearCounters (seq : Nat) (mask : Word) (t : Nat) (s : State) :
    Host.Outcome State Fault Refusal :=
  done s (whileOn [4] (ledgerFrame seq 5 0xFF (bytesLE 4 mask.toNat) t) (at50 s.dev t))

/-- `LREQ_CAL_BEGIN` (R214). A CAL_BEGIN frame stops accumulation of metering points using the channel. -/
def execLreqCalBegin (seq : Nat) (c : Fin 32) (t : Nat) (s : State) :
    Host.Outcome State Fault Refusal :=
  done s (whileOn [4] (ledgerFrame seq 6 0xFF (bytesLE 1 c.1) t) (at50 s.dev t))

/-- `LREQ_CAL_END` (R214). A CAL_END frame resumes accumulation for the channel. -/
def execLreqCalEnd (seq : Nat) (c : Fin 32) (t : Nat) (s : State) :
    Host.Outcome State Fault Refusal :=
  done s (whileOn [4] (ledgerFrame seq 7 0xFF (bytesLE 1 c.1) t) (at50 s.dev t))

/-- `ENERGY_SAVE` (R223). Every MTR_SAVE_PERIOD the ledger writes all energy registers in one journalled
transaction. -/
def execEnergySave (t : Nat) (s : State) :
    Host.Outcome State Fault Refusal :=
  done s (whileOn [4] energySaveTick (at50 s.dev t))

/-- `LEDGER_READY` (R240). The ledger boot completes its verification, load, closure of open sessions and first
refresh. -/
def execLedgerReady (t : Nat) (s : State) :
    Host.Outcome State Fault Refusal :=
  done s (whileOn [4] (ledgerUp t) (at50 s.dev t))

end Sys2Proof.Machine
end

