-- ==== Sys2Proof/Machine/CmdLoom.lean ====
section
/-! DEFINITION. Meanings: the loom.
Each is a shared operation of the unit at the instant `t` of the command, while the domains that it needs are on. -/

namespace Sys2Proof.Machine

open Sys2Proof

/-- `LOOM_DONE_WRITE` (R189). A core writes LOOM_DONE for a task, completing the instance once every assigned core
has done so. -/
def execLoomDoneWrite (core task : Fin 4) (t : Nat) (s : State) :
    Host.Outcome State Fault Refusal :=
  done s (whileOn [1] (loomDone core task t) (at50 s.dev t))

/-- `LOOM_CB_APPEND` (R192). A core appends an address and value to its task's commit buffer, or the entry is
discarded and counted. -/
def execLoomCbAppend (core task : Fin 4) (a : Nat) (v : Word) (t : Nat) (s : State) :
    Host.Outcome State Fault Refusal :=
  done s (whileOn [1] (cbAppend task core a v) (at50 s.dev t))

/-- `LOOM_CB_FLUSH3` (R192). T3 requests that its buffer be committed at the next T0 deadline. -/
def execLoomCbFlush3 (t : Nat) (s : State) :
    Host.Outcome State Fault Refusal :=
  done s (whileOn [1] cbFlush3 (at50 s.dev t))

/-- `LOOM_KICK` (R197). T3 kicks its watchdog. -/
def execLoomKick (t : Nat) (s : State) :
    Host.Outcome State Fault Refusal :=
  done s (whileOn [1] (loomKick t) (at50 s.dev t))

/-- `T3_WATCHDOG_EXPIRY` (R197). A missed T3 watchdog period is an overrun of T3, tolerated once if allowed. -/
def execT3WatchdogExpiry (t : Nat) (s : State) :
    Host.Outcome State Fault Refusal :=
  done s (whileOn [1] (t3Expiry t) (at50 s.dev t))

/-- `LOOM_IPI_WRITE` (R186). A write to LOOM_IPI sets or clears the software interrupt of a core. -/
def execLoomIpiWrite (v : Word) (t : Nat) (s : State) :
    Host.Outcome State Fault Refusal :=
  done s (whileOn [1] (ipiWrite v) (at50 s.dev t))

/-- `LOOM_OVERRUN` (R196). An instance without LOOM_DONE at its done limit sends every harness to the selvedge and
suppresses the next commit. -/
def execLoomOverrun (task : Fin 4) (t : Nat) (s : State) :
    Host.Outcome State Fault Refusal :=
  done s (whileOn [1] (loomOverrun task t) (at50 s.dev t))

/-- `OVERRUN_END_STOP` (R196). The loom enters STOP when the overrunning instance finishes or one further period has
passed. -/
def execOverrunEndStop (t : Nat) (s : State) :
    Host.Outcome State Fault Refusal :=
  done s (whileOn [1] (settled (overrunEnd t) t) (at50 s.dev t))

/-- `LOOM_FAULT_STOP` (R187). A synchronous exception on a shuttle core captures its cause and stops the loom as for
an overrun. -/
def execLoomFaultStop (core : Fin 4) (mcause mepc mtval : Word) (ecc : Bool) (t : Nat) (s : State) :
    Host.Outcome State Fault Refusal :=
  done s (whileOn [1] (settled (faultStop core mcause mepc mtval ecc t) t) (at50 s.dev t))

/-- `LOOM_AUTORUN` (R195). At ready with a valid image and AUTORUN set, the loom enters RUN by itself. -/
def execLoomAutorun (t : Nat) (s : State) :
    Host.Outcome State Fault Refusal :=
  done s (whileOn [1] (autorun t) (at50 s.dev t))

/-- `LOOM_CTRL_RUN` (R195). The run command reloads the image and initialises objects for entry into RUN. -/
def execLoomCtrlRun (t : Nat) (s : State) :
    Host.Outcome State Fault Refusal :=
  done s (whileOn [1] (runStart 2 t) (at50 s.dev t))

/-- `LOOM_RUN_ENTRY` (R195). After reloading, the loom enters RUN at the next T0 boundary. -/
def execLoomRunEntry (t : Nat) (s : State) :
    Host.Outcome State Fault Refusal :=
  done s (whileOn [1, 5] (settled (runEntry t) t) (at50 s.dev t))

/-- `LOOM_CTRL_STOP` (R195). The stop command takes the loom to STOP, or cancels a STOP to RUN change. -/
def execLoomCtrlStop (t : Nat) (s : State) :
    Host.Outcome State Fault Refusal :=
  done s (whileOn [1] (settled (loomStop t) t) (at50 s.dev t))

/-- `LOOM_CTRL_HOLD` (R203). The hold command takes the loom to HOLD, unless the unit is the active unit of a
synchronised pair. -/
def execLoomCtrlHold (t : Nat) (s : State) :
    Host.Outcome State Fault Refusal :=
  done s (whileOn [1] (settled (enterHold 6 t) t) (at50 s.dev t))

/-- `LOOM_CTRL_RESUME` (R204). The resume command leaves HOLD for RUN at the next T0 boundary. -/
def execLoomCtrlResume (t : Nat) (s : State) :
    Host.Outcome State Fault Refusal :=
  done s (whileOn [1] loomResume (at50 s.dev t))

/-- `DEBUG_HALT_REQUEST` (R203). A debugger halt request takes the loom to HOLD. -/
def execDebugHaltRequest (t : Nat) (s : State) :
    Host.Outcome State Fault Refusal :=
  done s (whileOn [1] (settled (enterHold 7 t) t) (at50 s.dev t))

/-- `DEBUG_BREAK` (R203). A trigger or EBREAK on a core takes the loom to HOLD, or is an exception. -/
def execDebugBreak (core : Fin 4) (pc : Word) (t : Nat) (s : State) :
    Host.Outcome State Fault Refusal :=
  done s (whileOn [1] (settled (debugBreak core pc t) t) (at50 s.dev t))

/-- `OVERLAY_LEG_WRITE` (R204). The debug port forces a leg state through LOOM_OVL_LEGn in HOLD. -/
def execOverlayLegWrite (n : Fin 24) (code : Nat) (t : Nat) (s : State) :
    Host.Outcome State Fault Refusal :=
  done s (whileOn [1] (overlayWrite n code t) (at50 s.dev t))

/-- `OVERLAY_LAPSE` (R204). When a debug overlay condition lapses, the harness goes to the selvedge with cause 0x0A.
-/
def execOverlayLapse (h : Fin 4) (t : Nat) (s : State) :
    Host.Outcome State Fault Refusal :=
  done s (whileOn [1] (overlayLapse h t) (at50 s.dev t))

/-- `TIMER_PRESET_WRITE` (R199). A streamed write sets a timer's preset, taking effect at the next µs step. -/
def execTimerPresetWrite (i : Fin 64) (v : Word) (t : Nat) (s : State) :
    Host.Outcome State Fault Refusal :=
  done s (whileOn [1] (tmrPresetWrite i v t) (at50 s.dev t))

/-- `TIMER_EXPIRY` (R199). A loom timer's elapsed time reaches its preset and Q changes. -/
def execTimerExpiry (i : Fin 64) (t : Nat) (s : State) :
    Host.Outcome State Fault Refusal :=
  done s (whileOn [1] (tmrExpiry i t) (at50 s.dev t))

/-- `STATION_FRAME_RX` (R362). A remote-station frame is received, checked and stored as the station's inputs. -/
def execStationFrameRx (transport src : Nat) (bytes : List Byte) (t : Nat) (s : State) :
    Host.Outcome State Fault Refusal :=
  done s (whileOn [1, 6] (stationFrame transport src bytes t) (at50 s.dev t))

/-- `STATION_TIMEOUT` (R201). A station with no valid frame for its timeout becomes lost. -/
def execStationTimeout (k : Fin 16) (t : Nat) (s : State) :
    Host.Outcome State Fault Refusal :=
  done s (whileOn [1] (stationTimeout k t) (at50 s.dev t))

/-- `XCHG_SWITCH` (R208). At the first common T1/T2 deadline after LOOM_XCHG_GO, the new program replaces the old
one. -/
def execXchgSwitch (t : Nat) (s : State) :
    Host.Outcome State Fault Refusal :=
  done s (whileOn [1, 5] (settled (xchgBoundary t) t) (at50 s.dev t))

end Sys2Proof.Machine
end

