-- ==== Sys2Proof/Machine/CmdMeasure.lean ====
section
/-! DEFINITION. Meanings: the measurement chain, the decomposers and the resampler.
Each is a shared operation of the unit at the instant `t` of the command, while the domains that it needs are on. -/

namespace Sys2Proof.Machine

open Sys2Proof

/-- `FAST_WORDS_MISSING` (R50). No valid fast word for 2 output periods sends the using harness to the selvedge with
cause 0x07. -/
def execFastWordsMissing (c : Fin 32) (t : Nat) (s : State) :
    Host.Outcome State Fault Refusal :=
  done s (whileOn [1] (fastMissing c t) (at50 s.dev t))

/-- `LEDGER_INTERRUPTION` (R221). Missing or invalid precision words of a metering point for 2 output periods stop
accumulation and flag INTR. -/
def execLedgerInterruption (m : Fin 4) (t : Nat) (s : State) :
    Host.Outcome State Fault Refusal :=
  done s (whileOn [4] (ledgerInterruption m t) (at50 s.dev t))

/-- `MOD_OVERLOAD_ONSET` (R47). A run of MEAS_OVL_RUN identical bits sets the channel's overload bit and counts an
onset. -/
def execModOverloadOnset (c : Fin 32) (t : Nat) (s : State) :
    Host.Outcome State Fault Refusal :=
  done s (whileOn [1] (overloadOnset c) (at50 s.dev t))

/-- `STUCK_BITSTREAM` (R48). An external bitstream with no transition for MEAS_STUCK_RUN cycles is declared stuck
and made invalid. -/
def execStuckBitstream (c : Fin 32) (t : Nat) (s : State) :
    Host.Outcome State Fault Refusal :=
  done s (whileOn [1] (stuck c t) (at50 s.dev t))

/-- `STUCK_RECOVERY` (R48). A stuck channel becomes valid again after max(256, 2 × MEAS_STUCK_RUN) cycles without a
new stuck declaration. -/
def execStuckRecovery (c : Fin 32) (first : Nat) (t : Nat) (s : State) :
    Host.Outcome State Fault Refusal :=
  done s (whileOn [1] (stuckRecovery c first t) (at50 s.dev t))

/-- `ISLAND_LOSS` (R49). Loss of island power-good or 8 CKM cycles without a valid coupler frame makes every channel
of that island invalid. -/
def execIslandLoss (current powerGood : Bool) (t : Nat) (s : State) :
    Host.Outcome State Fault Refusal :=
  done s (whileOn [1] (islandLoss current powerGood) (at50 s.dev t))

/-- `ISLAND_RECOVERY` (R49). After power-good and 256 consecutive valid frames, the island's channels become valid
again. -/
def execIslandRecovery (current : Bool) (t : Nat) (s : State) :
    Host.Outcome State Fault Refusal :=
  done s (whileOn [1] (islandRecovery current) (at50 s.dev t))

/-- `FAST_PATH_WORD` (R72). A fast-path word of a channel is delivered after calibration and scaling, and the shed
unit and hard limit act on it. -/
def execFastPathWord (c : Fin 32) (bits : Nat) (t : Nat) (s : State) :
    Host.Outcome State Fault Refusal :=
  done s (whileOn [1, 5] (fastWord c bits t) (at50 s.dev t))

/-- `MEDIUM_PATH_WORD` (R72). A medium-path word is delivered and feeds the decomposers, reference generator timing
and loss model. -/
def execMediumPathWord (c : Fin 32) (t : Nat) (s : State) :
    Host.Outcome State Fault Refusal :=
  done s (whileOn [1, 5] (mediumWord c t) (at50 s.dev t))

/-- `PRECISION_PATH_WORD` (R72). A precision-path word is delivered to the ledger, the resampler and the calibration
engine. -/
def execPrecisionPathWord (c : Fin 32) (t : Nat) (s : State) :
    Host.Outcome State Fault Refusal :=
  done s (whileOn [1, 5] (precisionWord c t) (at50 s.dev t))

/-- `DECOMPOSER_UNS_END` (R120). The decomposer's UNS flag clears T/4 plus one medium period after enable, channel
change or a large frequency change. -/
def execDecomposerUnsEnd (k : Fin 4) (t : Nat) (s : State) :
    Host.Outcome State Fault Refusal :=
  done s (whileOn [1] (dcmpUnsEnd k t) (at50 s.dev t))

/-- `RESAMPLER_OUTPUT` (R82). The resampler computes one output per lane at the next position of its timebase. -/
def execResamplerOutput (t : Nat) (s : State) :
    Host.Outcome State Fault Refusal :=
  done s (whileOn [1, 5] (rsmOutput t) (at50 s.dev t))

/-- `RESAMPLER_PAUSE_END` (R85). After a step, outputs resume with a new cycle at the target's next zero. -/
def execResamplerPauseEnd (t : Nat) (s : State) :
    Host.Outcome State Fault Refusal :=
  done s (whileOn [1] (rsmPauseEnd t) (at50 s.dev t))

/-- `RSM_SOURCE_HOLD` (R84). The lock source is held when no kernel frequency commit arrives for two cycle periods
or the measuring lane fails. -/
def execRsmSourceHold (t : Nat) (s : State) :
    Host.Outcome State Fault Refusal :=
  done s (whileOn [1] (rsmHold t) (at50 s.dev t))

/-- `RSM_SWITCH_WRITE` (R87). Writing SWITCH requests a coefficient cross-fade, refused during a fade or on a CRC
mismatch. -/
def execRsmSwitchWrite (t : Nat) (s : State) :
    Host.Outcome State Fault Refusal :=
  done s (whileOn [1] rsmSwitch (at50 s.dev t))

/-- `RSM_XFADE_END` (R87). After RSM_XFADE outputs the cross-fade ends and the new bank is in use. -/
def execRsmXfadeEnd (t : Nat) (s : State) :
    Host.Outcome State Fault Refusal :=
  done s (whileOn [1] rsmFadeEnd (at50 s.dev t))

end Sys2Proof.Machine
end

