-- ==== Sys2Proof/Machine/CmdNet.lean ====
section
/-! DEFINITION. Meanings: the networks and the time server.
Each is a shared operation of the unit at the instant `t` of the command, while the domains that it needs are on. -/

namespace Sys2Proof.Machine

open Sys2Proof

/-- `ETH_FRAME_RX` (R356). A received Ethernet frame is filtered, de-duplicated under PRP and handed to ARP, ICMP,
UDP or PTP. -/
def execEthFrameRx (n : Fin 2) (frame : List Byte) (ts tx : Nat) (t : Nat) (s : State) :
    Host.Outcome State Fault Refusal :=
  done s (whileOn [1, 6] (ethRx n frame ts tx t) (at50 s.dev t))

/-- `PRP_SUPERVISION_TX` (R358). Every 2 s PRP supervision frames are sent on both ports. -/
def execPrpSupervisionTx (t : Nat) (s : State) :
    Host.Outcome State Fault Refusal :=
  done s (whileOn [1, 6] (prpSupervision t) (at50 s.dev t))

/-- `CAN_FRAME_RX` (R359). A CAN FD frame is received for Tomus or a station, or lost if the buffer is full. -/
def execCanFrameRx (c : Fin 2) (ident : Nat) (ext fd room : Bool) (bytes : List Byte) (t : Nat) (s : State) :
    Host.Outcome State Fault Refusal :=
  done s (whileOn [1, 6] (canRx c ident ext fd room bytes t) (at50 s.dev t))

/-- `CAN_BUS_OFF` (R359). A controller enters bus-off and its Tomus and station traffic stops. -/
def execCanBusOff (c : Fin 2) (t : Nat) (s : State) :
    Host.Outcome State Fault Refusal :=
  done s (whileOn [1, 6] (canBusOff c) (at50 s.dev t))

/-- `CAN_BUS_OFF_RECOVERY` (R359). After 128 × 11 recessive bits a bus-off controller recovers. -/
def execCanBusOffRecovery (c : Fin 2) (t : Nat) (s : State) :
    Host.Outcome State Fault Refusal :=
  done s (whileOn [1, 6] (canRecover c) (at50 s.dev t))

/-- `PTP_SYNC_RX` (R366). A valid Sync yields an offset that steps the counter once or drives the rate servo and
timebase states. -/
def execPtpSyncRx (n : Fin 2) (msg : List Byte) (ts : Nat) (t : Nat) (s : State) :
    Host.Outcome State Fault Refusal :=
  done s (whileOn [1, 6] (syncRx n msg ts t) (at50 s.dev t))

/-- `PTP_ANNOUNCE_RX` (R368). An Announce feeds the best master clock algorithm and port roles. -/
def execPtpAnnounceRx (n : Fin 2) (msg : List Byte) (t : Nat) (s : State) :
    Host.Outcome State Fault Refusal :=
  done s (whileOn [1, 6] (announceRx n msg t) (at50 s.dev t))

/-- `PTP_PDELAY_RX` (R368). A peer-delay message is answered or used to measure the peer delay. -/
def execPtpPdelayRx (n : Fin 2) (msg : List Byte) (ts tx : Nat) (t : Nat) (s : State) :
    Host.Outcome State Fault Refusal :=
  done s (whileOn [1, 6] (pdelayRx n msg ts tx) (at50 s.dev t))

/-- `PTP_INTERVAL_TX` (R368). At each 1 s interval the unit sends its Pdelay_Req, and Sync and Announce when master.
-/
def execPtpIntervalTx (n : Fin 2) (tsSync tsReq : Nat) (t : Nat) (s : State) :
    Host.Outcome State Fault Refusal :=
  done s (whileOn [1, 6] (intervalTx n tsSync tsReq) (at50 s.dev t))

/-- `PTP_SYNC_TIMEOUT` (R365). No valid Sync for 3 intervals puts the timebase in HOLDOVER. -/
def execPtpSyncTimeout (t : Nat) (s : State) :
    Host.Outcome State Fault Refusal :=
  done s (whileOn [1] (syncTimeout t) (at50 s.dev t))

/-- `HOLDOVER_EXPIRY` (R365). After TIME_HOLDOVER_T in HOLDOVER, TUNS sets. -/
def execHoldoverExpiry (t : Nat) (s : State) :
    Host.Outcome State Fault Refusal :=
  done s (whileOn [1] (holdoverExpiry t) (at50 s.dev t))

/-- `IALOS_SECOND_BOUNDARY` (R371). At each Ialos second the cross-capture, RTC rewrite and TPPS rise take place. -/
def execIalosSecondBoundary (t : Nat) (s : State) :
    Host.Outcome State Fault Refusal :=
  done s (whileOn [1] (secondBoundary t) (at50 s.dev t))

/-- `TPPS_FALL` (R372). TPPS falls 100 ms after its rise. -/
def execTppsFall (t : Nat) (s : State) :
    Host.Outcome State Fault Refusal :=
  done s (whileOn [1] (tppsFall t) (at50 s.dev t))

end Sys2Proof.Machine
end

