-- ==== Sys2Proof/Machine/CmdPair.lean ====
section
/-! DEFINITION. Meanings: pairs over the Filut link.
Each is a shared operation of the unit at the instant `t` of the command, while the domains that it needs are on. -/

namespace Sys2Proof.Machine

open Sys2Proof

/-- `FILUT_FRAME_RX` (R380). A received Filut frame is validated and updates images, the mirror, status or control.
-/
def execFilutFrameRx (bytes : List Byte) (start : Nat) (t : Nat) (s : State) :
    Host.Outcome State Fault Refusal :=
  done s (whileOn [1, 6] (filutRx bytes start t) (at50 s.dev t))

/-- `FILUT_LINK_DOWN` (R380). No valid frame for 2 T0 periods takes the link down. -/
def execFilutLinkDown (t : Nat) (s : State) :
    Host.Outcome State Fault Refusal :=
  done s (whileOn [1, 6] (filutDown t) (at50 s.dev t))

/-- `FILUT_SEGMENT_TX` (R383). A T1 or mirror segment is sent in link time that T0 frames leave free. -/
def execFilutSegmentTx (t : Nat) (s : State) :
    Host.Outcome State Fault Refusal :=
  done s (whileOn [1, 6] (segmentSend t) (at50 s.dev t))

/-- `PHAND_N_FALL` (R391). The partner's HAND_N falling advances the handover in the standby or the failing unit. -/
def execPhandNFall (t : Nat) (s : State) :
    Host.Outcome State Fault Refusal :=
  done s (whileOn [1] (phandFall t) (at50 s.dev t))

/-- `POWN_N_RISE` (R391). The partner releasing OWN_N lets the taking unit enter mode 2. -/
def execPownNRise (t : Nat) (s : State) :
    Host.Outcome State Fault Refusal :=
  done s (whileOn [1] (pownRise t) (at50 s.dev t))

/-- `HANDOVER_TIMEOUT` (R391). A standby that has not answered within 50 µs leaves the failing unit FAILED in mode
1. -/
def execHandoverTimeout (t : Nat) (s : State) :
    Host.Outcome State Fault Refusal :=
  done s (whileOn [1] (handoverTimeout t) (at50 s.dev t))

/-- `SILENT_TAKEOVER` (R394). With no frames for 2 T0 and POWN_N high for 25 µs, the standby takes over without a
signal. -/
def execSilentTakeover (t : Nat) (s : State) :
    Host.Outcome State Fault Refusal :=
  done s (whileOn [1] (silentTakeover t) (at50 s.dev t))

/-- `TAKEOVER_BOUNDARY` (R393). At D_T the loaded image and mirror are committed and the loom enters RUN with
HANDOVER. -/
def execTakeoverBoundary (t : Nat) (s : State) :
    Host.Outcome State Fault Refusal :=
  done s (whileOn [1] (takeoverBoundary t) (at50 s.dev t))

/-- `TAKEBACK_REQUEST` (R396). Unit A, once all takeback conditions hold, requests control by a control frame. -/
def execTakebackRequest (t : Nat) (s : State) :
    Host.Outcome State Fault Refusal :=
  done s (whileOn [1, 6] (takebackRequest t) (at50 s.dev t))

/-- `PAIR_START` (R397). At ready a paired unit settles as ACTIVE or STANDBY by the partner's state and OWN_N. -/
def execPairStart (low lowThen : Bool) (t : Nat) (s : State) :
    Host.Outcome State Fault Refusal :=
  done s (whileOn [1] (pairStart low lowThen t) (at50 s.dev t))

/-- `RED_CTRL_YIELD` (R399). The yield command of RED_CTRL starts a yield. -/
def execRedCtrlYield (t : Nat) (s : State) :
    Host.Outcome State Fault Refusal :=
  done s (whileOn [1, 6] (redCtrl 1 t) (at50 s.dev t))

/-- `RED_CTRL_INHIBIT` (R399). The inhibit command of RED_CTRL inhibits takeback. -/
def execRedCtrlInhibit (t : Nat) (s : State) :
    Host.Outcome State Fault Refusal :=
  done s (whileOn [1, 6] (redCtrl 2 t) (at50 s.dev t))

/-- `RED_CTRL_ALLOW` (R399). The allow command of RED_CTRL allows takeback. -/
def execRedCtrlAllow (t : Nat) (s : State) :
    Host.Outcome State Fault Refusal :=
  done s (whileOn [1, 6] (redCtrl 3 t) (at50 s.dev t))

end Sys2Proof.Machine
end

