-- ==== Sys2Proof/Machine/CmdPower.lean ====
section
/-! DEFINITION. Meanings: supplies, domains, sleep and resets.
Each is a shared operation of the unit at the instant `t` of the command, while the domains that it needs are on. -/

namespace Sys2Proof.Machine

open Sys2Proof

/-- `VIN_VALID` (R401). VIN at or above 8.8 V for 2 ms becomes valid and start-up or a reset kind follows. -/
def execVinValid (t : Nat) (s : State) :
    Host.Outcome State Fault Refusal :=
  done s (vinValid t (at50 s.dev t))

/-- `VINF_DECLARED` (R413). VIN below 8.5 V for 20 µs declares power failure and starts the power-fail sequence. -/
def execVinfDeclared (t : Nat) (s : State) :
    Host.Outcome State Fault Refusal :=
  done s (vinfDeclared t (at50 s.dev t))

/-- `VINF_CLEAR` (R401). VIN back at or above 8.8 V for 2 ms clears VINF. -/
def execVinfClear (t : Nat) (s : State) :
    Host.Outcome State Fault Refusal :=
  done s (vinfClear t (at50 s.dev t))

/-- `VINF_GRACE_EXPIRY` (R413). After PWR_VINF_GRACE the shuttle domains are switched off. -/
def execVinfGraceExpiry (t : Nat) (s : State) :
    Host.Outcome State Fault Refusal :=
  done s (graceExpiry t (at50 s.dev t))

/-- `VINF_SHED_TIMEOUT` (R413). At mode 0 or G + 200 µs the network, island and gate-bank domains are switched off.
-/
def execVinfShedTimeout (t : Nat) (s : State) :
    Host.Outcome State Fault Refusal :=
  done s (shedTimeout t (at50 s.dev t))

/-- `POWER_FAIL_FINAL_WRITE` (R413). When the ledger write is complete or the store reaches 14 V, the last record is
written and PD1, PD4, PD5 go off. -/
def execPowerFailFinalWrite (mv : Nat) (t : Nat) (s : State) :
    Host.Outcome State Fault Refusal :=
  done s (powerFinal mv t (at50 s.dev t))

/-- `HOLDUP_12V` (R413). At 12 V on the hold-up store PD11 goes off. -/
def execHoldup12v (t : Nat) (s : State) :
    Host.Outcome State Fault Refusal :=
  done s (holdup12 t (at50 s.dev t))

/-- `HOLDUP_FULL` (R404). The hold-up store reaches full charge and HOLDUP_OK sets. -/
def execHoldupFull (t : Nat) (s : State) :
    Host.Outcome State Fault Refusal :=
  done s (holdupFull (at50 s.dev t))

/-- `VBAK_LOSS` (R401). VBAK below 2.2 V while PD0 depends on it loses the RTC and event slot. -/
def execVbakLoss (t : Nat) (s : State) :
    Host.Outcome State Fault Refusal :=
  done s (vbakLoss (at50 s.dev t))

/-- `PWR_DOMAIN_ON` (R406). A domain-on request switches an off domain on. -/
def execPwrDomainOn (n : Fin 12) (t : Nat) (s : State) :
    Host.Outcome State Fault Refusal :=
  done s (whileOn [1] (domainOn n.1) (at50 s.dev t))

/-- `PWR_DOMAIN_OFF` (R406). A domain-off request switches a domain off if its conditions hold, otherwise it is
refused. -/
def execPwrDomainOff (n : Fin 12) (steward : Bool) (t : Nat) (s : State) :
    Host.Outcome State Fault Refusal :=
  done s (whileOn [1] (domainOff n.1 steward t) (at50 s.dev t))

/-- `PWR_DOMAIN_CYCLE` (R406). A cycle request switches PD11 off for 100 ms. -/
def execPwrDomainCycle (n : Fin 12) (steward : Bool) (t : Nat) (s : State) :
    Host.Outcome State Fault Refusal :=
  done s (whileOn [1] (domainCycle n.1 steward t) (at50 s.dev t))

/-- `PD11_CYCLE_RESTART` (R406). After 100 ms off, PD11 restarts under the bridle start-up sequence. -/
def execPd11CycleRestart (t : Nat) (s : State) :
    Host.Outcome State Fault Refusal :=
  done s (pd11Restart t (at50 s.dev t))

/-- `PWR_SLEEP_LEVEL1` (R414). A write of 1 to PWR_SLEEP enters sleep level 1. -/
def execPwrSleepLevel1 (t : Nat) (s : State) :
    Host.Outcome State Fault Refusal :=
  done s (whileOn [1] (sleepEnter 1 t) (at50 s.dev t))

/-- `PWR_SLEEP_LEVEL2` (R414). A write of 2 to PWR_SLEEP enters sleep level 2. -/
def execPwrSleepLevel2 (t : Nat) (s : State) :
    Host.Outcome State Fault Refusal :=
  done s (whileOn [1] (sleepEnter 2 t) (at50 s.dev t))

/-- `PWR_SLEEP_EXIT` (R414). A write of 0 to PWR_SLEEP wakes from level 1. -/
def execPwrSleepExit (t : Nat) (s : State) :
    Host.Outcome State Fault Refusal :=
  done s (whileOn [1] sleepExit (at50 s.dev t))

/-- `WAKE_N_LOW` (R414). A low of WAKE_N for 100 µs wakes the unit when enabled. -/
def execWakeNLow (low : Nat) (t : Nat) (s : State) :
    Host.Outcome State Fault Refusal :=
  done s (whileOn [0] (wakeLow low) (at50 s.dev t))

/-- `RTC_ALARM` (R414). The RTC alarm wakes the unit when enabled. -/
def execRtcAlarm (t : Nat) (s : State) :
    Host.Outcome State Fault Refusal :=
  done s (whileOn [0] (rtcAlarm t) (at50 s.dev t))

/-- `PIN_RESET` (R408). RST_N held low for 10 µs gives a reset of kind 0x04. -/
def execPinReset (low : Nat) (t : Nat) (s : State) :
    Host.Outcome State Fault Refusal :=
  done s (pinReset low t (at50 s.dev t))

/-- `STEWARD_WATCHDOG_EXPIRY` (R408). No steward watchdog kick for 100 ms gives a reset of kind 0x05. -/
def execStewardWatchdogExpiry (idle : Nat) (t : Nat) (s : State) :
    Host.Outcome State Fault Refusal :=
  done s (whileOn [1] (watchdogExpiry idle t) (at50 s.dev t))

/-- `SOFTWARE_RESET` (R408). Writing the key to PWR_RESET gives a reset of kind 0x06. -/
def execSoftwareReset (v : Word) (t : Nat) (s : State) :
    Host.Outcome State Fault Refusal :=
  done s (whileOn [1] (softwareReset v t) (at50 s.dev t))

/-- `CORE_SUPERVISOR_RESET` (R408). The core rail below 0.700 V for 1 µs gives a reset of kind 0x07. -/
def execCoreSupervisorReset (low : Nat) (t : Nat) (s : State) :
    Host.Outcome State Fault Refusal :=
  done s (whileOn [1] (coreSupervisor low t) (at50 s.dev t))

/-- `STARTUP_STEP` (R410). A start-up step begins when the one before it is complete. -/
def execStartupStep (t : Nat) (s : State) :
    Host.Outcome State Fault Refusal :=
  done s (startupStep t (at50 s.dev t))

/-- `UNIT_READY` (R411). When every ready condition holds the unit reports ready and sets the gate ownership mode.
-/
def execUnitReady (t : Nat) (s : State) :
    Host.Outcome State Fault Refusal :=
  done s (readyReport t (at50 s.dev t))

end Sys2Proof.Machine
end

