-- ==== Sys2Proof/Machine/CmdRecorder.lean ====
section
/-! DEFINITION. Meanings: the recorder engines and the bobbins.
Each is a shared operation of the unit at the instant `t` of the command, while the domains that it needs are on. -/

namespace Sys2Proof.Machine

open Sys2Proof

/-- `REC_ARM` (R267). The arm command starts a capture in PREFILL or RUN. -/
def execRecArm (e : Fin 4) (t : Nat) (s : State) :
    Host.Outcome State Fault Refusal :=
  done s (whileOn [1] (recArm e t) (at50 s.dev t))

/-- `REC_STOP` (R267). The stop command ends a capture as STOPPED and drains the history. -/
def execRecStop (e : Fin 4) (t : Nat) (s : State) :
    Host.Outcome State Fault Refusal :=
  done s (whileOn [1] (recStop e t) (at50 s.dev t))

/-- `REC_FORCE_TRIGGER` (R268). The force command acts as a trigger at its own instant. -/
def execRecForceTrigger (e : Fin 4) (t : Nat) (s : State) :
    Host.Outcome State Fault Refusal :=
  done s (whileOn [1] (fun d => recForce d e t) (at50 s.dev t))

/-- `REC_FRAME` (R263). At a sample instant an engine takes one frame of all its sources into the history. -/
def execRecFrame (e : Fin 4) (t : Nat) (s : State) :
    Host.Outcome State Fault Refusal :=
  done s (whileOn [1] (recFrame e t) (at50 s.dev t))

/-- `RTRIG_EDGE` (R268). A rising edge on RTRIG is stamped as an external trigger. -/
def execRtrigEdge (t : Nat) (s : State) :
    Host.Outcome State Fault Refusal :=
  done s (whileOn [1] (rtrigEdge t) (at50 s.dev t))

/-- `REC_POST_END` (R267). After REC_POST frame instants the capture ends in DONE, or rearms with REC_AUTO. -/
def execRecPostEnd (e : Fin 4) (t : Nat) (s : State) :
    Host.Outcome State Fault Refusal :=
  done s (whileOn [1] (recPostEnd e t) (at50 s.dev t))

/-- `REC_FLUSH_EXPIRY` (R271). A block closes when REC_FLUSH ms have passed since its first frame. -/
def execRecFlushExpiry (e : Fin 4) (t : Nat) (s : State) :
    Host.Outcome State Fault Refusal :=
  done s (whileOn [1] (recFlush e t) (at50 s.dev t))

/-- `HISTORY_DRAINED` (R266). Once the history has drained to 4 096 words, missed frames end and a gap is recorded.
-/
def execHistoryDrained (e : Fin 4) (t : Nat) (s : State) :
    Host.Outcome State Fault Refusal :=
  done s (whileOn [1] (recDrained e) (at50 s.dev t))

/-- `BOB_DOORBELL` (R276). A DOORBELL makes a waiting bobbin fetch its descriptor again. -/
def execBobDoorbell (b : Fin 16) (t : Nat) (s : State) :
    Host.Outcome State Fault Refusal :=
  done s (whileOn [1] (bobDoorbell b t) (at50 s.dev t))

/-- `BOB_RESUME` (R280). RESUME restarts a halted bobbin from where it halted. -/
def execBobResume (b : Fin 16) (t : Nat) (s : State) :
    Host.Outcome State Fault Refusal :=
  done s (whileOn [1] (bobResume b t) (at50 s.dev t))

/-- `BOB_RESTART` (R280). RESTART begins the ring again at BOB_BASE. -/
def execBobRestart (b : Fin 16) (t : Nat) (s : State) :
    Host.Outcome State Fault Refusal :=
  done s (whileOn [1] (bobRestart b t) (at50 s.dev t))

/-- `BOB_REFETCH` (R276). A waiting bobbin refetches its descriptor every 1 024 CKF cycles. -/
def execBobRefetch (b : Fin 16) (t : Nat) (s : State) :
    Host.Outcome State Fault Refusal :=
  done s (whileOn [1] (bobRefetch b t) (at50 s.dev t))

/-- `DESCRIPTOR_COMPLETE` (R278). A descriptor's data has moved and it is returned with status, halting on a write-
back failure. -/
def execDescriptorComplete (b : Fin 16) (bad : Option (Nat × Nat)) (late backFail : Option Nat) (t : Nat) (s : State) :
    Host.Outcome State Fault Refusal :=
  done s (whileOn [1] (descriptorComplete b ⟨bad, late, backFail⟩ t) (at50 s.dev t))

end Sys2Proof.Machine
end

