-- ==== Sys2Proof/Machine/CmdShed.lean ====
section
/-! DEFINITION. Meanings: the shed units, the set-point inputs, the injectors and the CORDIC rotators.
Each is a shared operation of the unit at the instant `t` of the command, while the domains that it needs are on. -/

namespace Sys2Proof.Machine

open Sys2Proof

/-- `SHED_TAP` (R103). At a pending step's tap instant the row change begins, the level changes and the direction is
recorded. -/
def execShedTap (n : Fin 24) (t : Nat) (s : State) :
    Host.Outcome State Fault Refusal :=
  done s (whileOn [1] (tapStep n t) (at50 s.dev t))

/-- `DEAD_TIME_TURN_ON` (R107). A gate that the new row turns on goes on once its leg's dead time after the tap has
passed. -/
def execDeadTimeTurnOn (c : Fin 48) (t : Nat) (s : State) :
    Host.Outcome State Fault Refusal :=
  done s (whileOn [1] (deadTimeOver c t) (at50 s.dev t))

/-- `SHED_REF_POP` (R99). At every SHED_REF_PERIOD-th medium instant the reference generator pops a FIFO entry or
underruns. -/
def execShedRefPop (n : Fin 24) (t : Nat) (s : State) :
    Host.Outcome State Fault Refusal :=
  done s (whileOn [1] (refPop n t) (at50 s.dev t))

/-- `SHED_FIFO_WRITE` (R99). A streamed write adds an entry to the reference FIFO, or is discarded and counted when
it is full. -/
def execShedFifoWrite (n : Fin 24) (v : Word) (t : Nat) (s : State) :
    Host.Outcome State Fault Refusal :=
  done s (whileOn [1] (fifoWrite n v t) (at50 s.dev t))

/-- `SHED_EDGE_WRITE` (R109). A streamed write adds an entry to a schedule-mode edge list, or is discarded when it
is full. -/
def execShedEdgeWrite (n : Fin 24) (v : Word) (t : Nat) (s : State) :
    Host.Outcome State Fault Refusal :=
  done s (whileOn [1] (edgeWrite n v t) (at50 s.dev t))

/-- `EDGE_LIST_ENTRY` (R109). At an edge-list entry's tap time the master moves to its target level by row changes.
-/
def execEdgeListEntry (n : Fin 24) (t : Nat) (s : State) :
    Host.Outcome State Fault Refusal :=
  done s (whileOn [1] (edgeEntry n t) (at50 s.dev t))

/-- `SHED_START_STEP` (R110). A mode-1 master places its start step on the first valid settled word of its channel
after the start. -/
def execShedStartStep (n : Fin 24) (t : Nat) (s : State) :
    Host.Outcome State Fault Refusal :=
  done s (whileOn [1] (startStep n t) (at50 s.dev t))

/-- `SETP_RISING_EDGE` (R100). A rising edge on SETP in pulse-width mode updates the set-point p from the measured
duty. -/
def execSetpRisingEdge (high : Nat) (t : Nat) (s : State) :
    Host.Outcome State Fault Refusal :=
  done s (whileOn [1] (setpRise high t) (at50 s.dev t))

/-- `SETPOINT_LOSS` (R100). A set-point with no valid update for its limit is taken as 0 and SP_LOSS is set. -/
def execSetpointLoss (seta : Bool) (t : Nat) (s : State) :
    Host.Outcome State Fault Refusal :=
  done s (whileOn [1] (setpLoss seta t) (at50 s.dev t))

/-- `CHIRP_END` (R115). After LEN fast periods a chirp repeats or clears EN. -/
def execChirpEnd (j : Fin 4) (t : Nat) (s : State) :
    Host.Outcome State Fault Refusal :=
  done s (whileOn [1] (chirpEnd j t) (at50 s.dev t))

/-- `CORDIC_CMD_WRITE` (R119). Writing CMD starts or restarts a CORDIC rotate or vector operation. -/
def execCordicCmdWrite (c : Fin 8) (cmd : Word) (t : Nat) (s : State) :
    Host.Outcome State Fault Refusal :=
  done s (whileOn [1] (cordicWrite c cmd t) (at50 s.dev t))

/-- `CORDIC_DONE` (R119). A CORDIC operation completes after 24 CKF cycles and sets DONE. -/
def execCordicDone (c : Fin 8) (t : Nat) (s : State) :
    Host.Outcome State Fault Refusal :=
  done s (whileOn [1] (cordicDone c t) (at50 s.dev t))

end Sys2Proof.Machine
end

