-- ==== Sys2Proof/Machine/TomusCfg.lean ====
section
/-! DEFINITION. The opcodes of groups 0x00xx (session and identity), 0x01xx (configuration) and 0x02xx (loom image)
(R338 to R341, R344 to R346). -/

namespace Sys2Proof.Machine

open Sys2Proof

/-! ### Group 0x00xx (R344) -/

/-- Bytes cut or padded with zeros to a length. -/
def padTo (n : Nat) (bs : List Byte) : List Byte := (bs ++ zeros n).take n

/-- `PING`. -/
def opPing (r : Req) (_ : Nat) (d : Device) : Answer := need (decide (r.len ≤ 32)) 3 d (okWith r.params d)

/-- `IDENTITY`. -/
def opIdentity (r : Req) (t : Nat) (d : Device) : Answer :=
  let unit := if paired d then (rdF d Addr.RED_STAT 4 1) else 0xFF
  let state := if unitReady d = false then 0 else if d.cfg.degraded then 2 else 1
  need (r.len == 0) 3 d (okWith
    (bytesLE 4 (shown d Addr.SYS_ID t).toNat ++ serialBytes ++ bytesLE 4 Config.stewardVersion.toNat
      ++ bytesLE 4 (rdN d Addr.MBX_FW_VER) ++ bytesLE 2 (rdF d Addr.NET_SITE 0 9) ++ [BitVec.ofNat 8 unit, BitVec.ofNat 8 state]
      ++ bytesLE 4 (rdN d Addr.LOOM_IMG_ID) ++ padTo 4 d.cfg.hash) d)

/-- `DEVICE_KEY`. -/
def opDeviceKey (r : Req) (_ : Nat) (d : Device) : Answer := need (r.len == 0) 3 d (okWith (padTo 64 Config.deviceKey) d)

/-- The last long operation that a peer or its session started. -/
def lastOp (d : Device) (p : Peer) : Option LongOp :=
  let slot := (sessionOf d p).map (·.slot)
  (d.tomus.ops.filter (fun o => o.req.peer == p || (o.slot.isSome && o.slot == slot))).getLast?

/-- `OP_STATUS` (R335): the result is kept for 60 s after completion. -/
def opOpStatus (r : Req) (t : Nat) (d : Device) : Answer :=
  let none' := deny 0x10 d
  let show' (o : LongOp) (status : Nat) : Answer :=
    okWith (bytesLE 2 o.req.opcode ++ bytesLE 2 status ++ [BitVec.ofNat 8 o.progress]) d
  need (r.len == 0) 3 d (match lastOp d r.peer with
    | some o =>
      match o.final with
      | some (status, f) => if t < f + sec 60 then show' o status else none'
      | none => show' o 1
    | none => none')

/-- The refusal of a part of an opcode that needs a role; 0 where the request has it. -/
def roleFor (d : Device) (r : Req) (role : Nat) : Nat :=
  if r.auth = false then 6 else if reqRole d r < role then 8 else 0

/-- The 24 bytes of a transport's counts. -/
def TransportStats.bytes (s : TransportStats) : List Byte :=
  [s.rx, s.rxWrap, s.discard, s.drop, s.auth, s.repeats].flatMap (bytesLE 4)

/-- `STATS`: the sticky counts are cleared on request. -/
def opStats (r : Req) (_ : Nat) (d : Device) : Answer :=
  let clear := (r.num 0 1).testBit 0
  let c := if clear then roleFor d r 1 else 0
  let data := d.tomus.stats.toList.flatMap (·.bytes)
  let d' := updTomus d (fun s => { s with stats := s.stats.map (fun x =>
    { x with rxWrap := 0, discard := 0, drop := 0, auth := 0, repeats := 0 }) })
  if r.len ≠ 1 then deny 3 d
  else if 2 ≤ r.num 0 1 then deny 5 d
  else if c ≠ 0 then deny c d
  else okWith data (if clear then d' else d)

/-- Whether a peer may have a session: its own, or one of those free; the last of the four is for the SPI (R337). -/
def sessionRoom (d : Device) (p : Peer) : Bool :=
  let others := d.tomus.sessions.filter (fun s => s.peer != p)
  decide (others.length < 4) && (p == .spi || decide ((others.filter (fun s => s.peer != .spi)).length < 3))

/-- `SESSION_HELLO` (R338): a handshake begins and takes the place of an unfinished one. -/
def opHello (r : Req) (t : Nat) (d : Device) : Answer :=
  let draw := d.freeCtr
  let qh := r.params
  let qd := padTo 64 (Config.ephemeralKey draw)
  let nd := padTo 16 (Config.nonce draw)
  let sig := padTo 64 (Config.deviceSign (Config.sha256 (qh ++ qd ++ nd)))
  if r.len ≠ 64 then deny 3 d
  else if Config.onCurve qh = false then deny 5 d
  else if sessionRoom d r.peer = false then deny 14 d
  else
    okWith (qd ++ nd ++ sig) (updTomus { d with freeCtr := draw + 1 } (fun s =>
      { s with hands := ⟨r.peer, qh, qd, nd, draw, t⟩ :: s.hands.filter (fun h => h.peer != r.peer) }))

/-- A handshake that failed: it ends, and the refusal is counted. -/
def proveFail (r : Req) (d : Device) : Answer := deny 7 (statAuth d r.transport)

/-- `SESSION_PROVE` (R338): the session opens where the signature of the slot's key verifies. -/
def opProve (r : Req) (t : Nat) (d : Device) : Answer :=
  let hand := d.tomus.hands.find? (fun h => h.peer == r.peer && decide (t < h.at50 + sec 10))
  let d' := updTomus d (fun s => { s with hands := s.hands.filter (fun h => h.peer != r.peer) })
  let key := (d.tomus.keys[r.num 0 1]?).getD none
  if r.len ≠ 68 then deny 3 d
  else if 8 ≤ r.num 0 1 ∨ r.num 1 3 ≠ 0 then deny 5 d
  else
    match hand, key with
    | some h, some (role, k) =>
      if Config.ecdsaVerify k (Config.sha256 (h.qh ++ h.qd ++ h.nd ++ serialBytes)) (r.bytes 4 64) = false then proveFail r d'
      else if sessionRoom d r.peer = false then deny 14 d'
      else
        let draw := d.freeCtr
        let ident := if Config.sessionIdent draw = 0 then 1 else Config.sessionIdent draw
        let s : Session' :=
          { peer := r.peer, slot := r.num 0 1, role := role, ident := ident,
            key := sessionKey (Config.ecdhX h.draw h.qh) h.nd ident, seq := r.seq, opcode := r.opcode, reply := [],
            count := 1, lastAt := t, bad := 0 }
        okWith (bytesLE 4 ident.toNat ++ [BitVec.ofNat 8 role, 0, 0, 0] ++ bytesLE 2 300)
          (updTomus { d' with freeCtr := draw + 1 } (fun x =>
            { x with sessions := x.sessions.filter (fun y => y.peer != r.peer) ++ [s] }))
    | _, _ => proveFail r d'

/-- `SESSION_CLOSE` (R340). -/
def opClose (r : Req) (_ : Nat) (d : Device) : Answer := need (r.len == 0) 3 d (okay (endSession d r.peer))

/-- A host key slot changed: its sessions end, and an event tells of it (R340, R341). -/
def keyChange (d : Device) (slot : Nat) (v : Option (Nat × List Byte)) : Device :=
  raise (atFin 8 slot (fun i d => updTomus d (fun s => { s with keys := s.keys.set i.1 v })) (endSlot d slot)) .hostKey slot

/-- `HOSTKEY_SET` (R341). -/
def opKeySet (r : Req) (_ : Nat) (d : Device) : Answer :=
  if r.len ≠ 68 then deny 3 d
  else if 8 ≤ r.num 0 1 ∨ r.num 1 1 = 0 ∨ 3 < r.num 1 1 ∨ r.num 2 2 ≠ 0 ∨ Config.onCurve (r.bytes 4 64) = false then deny 5 d
  else okay (keyChange d (r.num 0 1) (some (r.num 1 1, r.bytes 4 64)))

/-- `HOSTKEY_CLEAR`. -/
def opKeyClear (r : Req) (_ : Nat) (d : Device) : Answer :=
  if r.len ≠ 1 then deny 3 d else if 8 ≤ r.num 0 1 then deny 5 d else okay (keyChange d (r.num 0 1) none)

/-- `HOSTKEY_LIST`. -/
def opKeyList (r : Req) (_ : Nat) (d : Device) : Answer :=
  need (r.len == 0) 3 d (okWith (d.tomus.keys.toList.flatMap (fun k =>
    match k with
    | some (role, key) => BitVec.ofNat 8 role :: padTo 7 (Config.sha256 key)
    | none => zeros 8)) d)

/-! ### Group 0x01xx (R345) -/

/-- `CFG_STATUS`. -/
def opCfgStatus (r : Req) (_ : Nat) (d : Device) : Answer :=
  let clear := (r.num 0 1).testBit 0
  let c := if clear then roleFor d r 1 else 0
  let data := (List.range 4).map (fun i => BitVec.ofNat 8 ((d.cfg.stack[i]?).getD 0)) ++ bytesLE 8 (saddleGen d)
    ++ [BitVec.ofNat 8 d.cfg.degraded.toNat, BitVec.ofNat 8 d.cfg.change.isSome.toNat, 0, 0] ++ bytesLE 4 d.cfg.lost
    ++ padTo 32 d.cfg.hash
  if r.len ≠ 1 then deny 3 d
  else if 2 ≤ r.num 0 1 then deny 5 d
  else if c ≠ 0 then deny c d
  else okWith data (if clear then { d with cfg := { d.cfg with lost := 0, lostOvf := false } } else d)

/-- `STAGE_WRITE`. -/
def opStage (r : Req) (_ : Nat) (d : Device) : Answer :=
  if r.len < 4 then deny 3 d
  else if 0x10000 < r.num 0 4 + (r.len - 4) then deny 5 d
  else okay (stageBytes (r.num 0 4) (r.params.drop 4) d)

/-- `SADDLE_STORE` (R313): the standby of a synchronised pair stores it as well (R388). -/
def opSaddleStore (r : Req) (_ : Nat) (d : Device) : Answer :=
  let boot := (List.range 4).map (fun i => r.num (4 + i) 1)
  if r.len ≠ 12 then deny 3 d
  else if stagedOk d (r.num 0 4) (r.num 8 4) 8188 = false ∨ boot.all (· ≤ 15) = false then deny 5 d
  else startLong r d (fun d => saddleStore boot (forwardRequest 0x0102 r.params d))

/-- `TACK_STORE` (R315, R317). -/
def opTackStore (r : Req) (_ : Nat) (d : Device) : Answer :=
  if r.len ≠ 20 then deny 3 d
  else if r.num 0 1 = 0 ∨ 15 < r.num 0 1 ∨ 1 < r.num 1 1 ∨ r.num 2 2 ≠ 0 ∨ r.num 11 1 ≠ 0
      ∨ stagedOk d (r.num 12 4) (r.num 16 4) 508 = false then deny 5 d
  else startLong r d (fun d => tackStore (r.num 0 1) (r.num 1 1) (r.bytes 4 7) (forwardRequest 0x0103 r.params d))

/-- `STACK_SELECT` (R316). -/
def opStackSelect (r : Req) (_ : Nat) (d : Device) : Answer :=
  let stack := (List.range 4).map (fun i => r.num i 1)
  let (code, d') := stackSelect stack d
  if r.len ≠ 4 then deny 3 d
  else if stack.all (· ≤ 15) = false then deny 5 d
  else if groupBusy d 0x0104 then deny 0x8301 d
  else if code ≠ 0 then deny (0x8300 + code) d'
  else startLong r d' (forwardRequest 0x0104 r.params)

/-- `SADDLE_ACK` (R321). -/
def opSaddleAck (r : Req) (_ : Nat) (d : Device) : Answer :=
  if r.len ≠ 0 then deny 3 d else if d.cfg.degraded = false then deny 13 d else startLong r d saddleAck

/-- `FIELD_READ`: the value in force of each identifier, and where it came from. -/
def opFieldRead (r : Req) (_ : Nat) (d : Device) : Answer :=
  let first := r.num 0 2
  let n := r.num 2 2
  let origin (id : Nat) : Nat := ((d.cfg.origins.find? (fun o => o.1 == id)).map (·.2)).getD 0xFF
  if r.len ≠ 4 then deny 3 d
  else if n = 0 ∨ 64 < n ∨ 0x10000 < first + n then deny 5 d
  else okWith ((List.range n).flatMap (fun i =>
    bytesLE 2 (first + i) ++ [BitVec.ofNat 8 (origin (first + i)), 0] ++ bytesLE 4 (fieldN d (first + i)))) d

/-- The base and the size of a stored area: the two copies of the saddle, then the tacks; none of another number. -/
def storeArea (a : Nat) : Option (Nat × Nat) :=
  if a < 2 then some (copyBase a, 0x10000)
  else if 3 ≤ a ∧ a ≤ 17 then some (tackBase (a - 2), 0x1000)
  else none

/-- `STORE_READ`. -/
def opStoreRead (r : Req) (_ : Nat) (d : Device) : Answer :=
  if r.len ≠ 10 then deny 3 d
  else
    match storeArea (r.num 0 1) with
    | some (base, size) =>
      if r.num 1 3 ≠ 0 ∨ size < r.num 4 4 + r.num 8 2 then deny 5 d
      else okWith (memBytes d (base + r.num 4 4) (r.num 8 2)) d
    | none => deny 5 d

/-! ### Group 0x02xx (R205 to R209, R216, R346) -/

/-- The slot that an image of a kind is written to: the loom slot or the steward slot of the inactive bank. -/
def imageBase (d : Device) (kind : Nat) : Nat :=
  if kind = 1 then 0xC0000000 + 0x2000000 * (1 - d.tomus.stewBank) else loomSlot (1 - loomBank d)

/-- `IMG_BEGIN`: the exchange reads LOADING for a loom image; it is refused while one switches. -/
def opImgBegin (r : Req) (_ : Nat) (d : Device) : Answer :=
  let kind := r.num 0 1
  if r.len ≠ 8 then deny 3 d
  else if 2 < kind ∨ r.num 1 3 ≠ 0 ∨ r.num 4 4 = 0 ∨ 0x1000000 < r.num 4 4 then deny 5 d
  else if kind ≠ 1 ∧ xchgState d = 4 then deny 13 d
  else startLong r d (fun d =>
    let d := if kind = 0 then setXchg { d with loom := { d.loom with armed := none } } 1 0 else d
    updTomus d (fun s => { s with imgKind := kind + 1 }))

/-- `IMG_WRITE`. -/
def opImgWrite (r : Req) (_ : Nat) (d : Device) : Answer :=
  let off := r.num 0 4
  if r.len < 4 then deny 3 d
  else if off % 4 ≠ 0 ∨ 0x1000000 < off + (r.len - 4) then deny 5 d
  else if (opRunning d [0x0200]).isSome then deny 10 d
  else if d.tomus.imgKind = 0 then deny 13 d
  else okay (putBytes d (imageBase d (d.tomus.imgKind - 1) + off) (r.params.drop 4))

/-- `IMG_VERIFY`: of the image last written. -/
def opImgVerify (r : Req) (_ : Nat) (d : Device) : Answer :=
  if r.len ≠ 1 then deny 3 d
  else if 2 < r.num 0 1 then deny 5 d
  else if d.tomus.imgKind ≠ r.num 0 1 + 1 then deny 13 d
  else startLong r d id

/-- `IMG_ACTIVATE`. -/
def opImgActivate (r : Req) (_ : Nat) (d : Device) : Answer :=
  let kind := r.num 0 1
  if r.len ≠ 1 then deny 3 d
  else if 2 < kind then deny 5 d
  else if (kind = 0 ∧ loomMode d = .run) ∨ (kind = 2 ∧ (Config.orderE = false ∨ d.tomus.imgKind ≠ 3)) then deny 13 d
  else startLong r d id

/-- `XCHG_ARM` (R208): of a verified image. -/
def opXchgArm (r : Req) (_ : Nat) (d : Device) : Answer :=
  if r.len ≠ 0 then deny 3 d else if xchgState d ≠ 2 then deny 13 d else startLong r d id

/-- `XCHG_CANCEL`. -/
def opXchgCancel (r : Req) (_ : Nat) (d : Device) : Answer :=
  if r.len ≠ 0 then deny 3 d
  else if xchgState d ≠ 3 then deny 13 d
  else okay (setXchg { d with loom := { d.loom with armed := none } } 2 0)

/-- The first bytes of the trailer hash of the loom slot of a bank; zeros where it holds no image. -/
def slotHash (d : Device) (bank : Nat) : List Byte :=
  if imageCode d bank false = 1 then zeros 4 else padTo 4 (readImage d bank).hash

/-- `IMG_STATUS`. -/
def opImgStatus (r : Req) (_ : Nat) (d : Device) : Answer :=
  need (r.len == 0) 3 d (okWith
    (bytesLE 4 (rdN d Addr.LOOM_IMG_STAT) ++ bytesLE 4 (rdN d Addr.LOOM_XCHG_STAT)
      ++ [BitVec.ofNat 8 (loomBank d), BitVec.ofNat 8 d.tomus.stewBank, 0, 0] ++ slotHash d 0 ++ slotHash d 1) d)

/-- `LOOMKEY_SET` (R206): only while `SEAL3` reads open. -/
def opLoomKey (r : Req) (_ : Nat) (d : Device) : Answer :=
  let key := r.bytes 4 64
  let slot := r.num 0 1
  if r.len ≠ 68 then deny 3 d
  else if 4 ≤ slot ∨ r.num 1 3 ≠ 0 ∨ Config.onCurve key = false then deny 5 d
  else if sealOpen d 3 = false then deny 12 (sealRefused d 3)
  else okay (raise (mramPut d 4 .plain [(loomKeyAddr slot, key ++ bytesLE 4 (crc32c key))]) .loomKey slot)

/-! ### The ends of the image operations (R335, R346) -/

/-- `IMG_BEGIN` ends: the slot is erased. -/
def imgBeginDone (o : LongOp) (t : Nat) (d : Device) : Device :=
  opFinish (memForget d (imageBase d (o.req.num 0 1)) 0x1000000) [0x0200] 0 100 t

/-- `IMG_VERIFY` ends: the first check that fails, shown in `LOOM_IMG_STAT.CODE`. The spec gives no checks of steward
firmware, so that result is free. -/
def imgVerifyDone (o : LongOp) (t : Nat) (d : Device) : Device :=
  let finish (code : Nat) (d : Device) : Device := opFinish d [0x0202] (if code = 0 then 0 else 0x8400 + code) 100 t
  if o.req.num 0 1 = 1 then
    let (v, d) := fresh d
    finish (v.toNat % 256) d
  else
    let code := imageCode d (1 - loomBank d) (o.req.num 0 1 == 2)
    let d := wrF d Addr.LOOM_IMG_STAT 8 8 code
    finish code (if o.req.num 0 1 = 0 then setXchg d (if code = 0 then 2 else 1) code else d)

/-- The result of the ledger loader (R214, R216): a closed seal, a session that is open, a full logbook, else 0. -/
def loaderResult (d : Device) : Nat :=
  if sealOpen d 0 = false then 3 else if anySession d then 11 else if logRoom d = false then 4 else 0

/-- The replacement image in the inactive loom slot, of at most the 256 KiB of the ledger's region. -/
def stagedLedger (d : Device) : List Byte :=
  memBytes d (loomSlot (1 - loomBank d)) (min 0x40000 (readImage d (1 - loomBank d)).length)

/-- The ledger takes a replacement image: stored in its own region, with a logbook entry of type 5 (R216). -/
def loaderTake (d : Device) : Device :=
  let hash := (readImage d (1 - loomBank d)).hash
  let (log, d) := logEntry d 5 0xFF 0 (Config.ledgerFwHash d.meter.romFw) hash 0
  mramPut { d with meter := { d.meter with image := 1 } } 1 .plain [(0x60200000, stagedLedger d), log]

/-- `IMG_ACTIVATE` ends: the bank of the next STOP to RUN, the steward's bank after the next reset, or the image given to
the ledger loader, which verifies it. -/
def imgActivateDone (o : LongOp) (t : Nat) (d : Device) : Device :=
  let finish (status : Nat) (d : Device) : Device := opFinish d [0x0203] status 100 t
  match o.req.num 0 1 with
  | 0 => if loomMode d = .run then finish 13 d else finish 0 (wrB d Addr.LOOM_MODE 16 (loomBank d == 0))
  | 1 => finish 0 (updTomus d (fun s => { s with stewNext := 1 - s.stewBank }))
  | _ =>
    let code := imageCode d (1 - loomBank d) true
    let c := loaderResult d
    if code ≠ 0 then finish (0x8400 + code) d
    else if c ≠ 0 then finish (0x8200 + c) (if c = 3 then sealRefused d 0 else d)
    else if Config.ledgerImageGood (stagedLedger d) then finish 0 (loaderTake d)
    else finish 0x8404 d

/-- `XCHG_ARM` ends: the image verified again, its sections copied and R209 checked. The active unit of a pair refuses
it with code 0x12 unless its standby reports the same image armed (R388). -/
def xchgArmDone (t : Nat) (d : Device) : Device :=
  let finish (code : Nat) (d : Device) : Device := opFinish d [0x0204] (if code = 0 then 0 else 0x8400 + code) 100 t
  let code := imageCode d (1 - loomBank d) false
  if code ≠ 0 then finish code (setXchg (wrF d Addr.LOOM_IMG_STAT 8 8 code) 2 code)
  else
    let i := readImage d (1 - loomBank d)
    let held := { d with loom := { d.loom with armed := some i } }
    let alone := paired d && redState d == 2 && d.red.armedHash != padTo 32 i.hash
    let c := if alone then 0x12 else xchgCode held
    if c ≠ 0 then finish c (setXchg d 2 c) else finish 0 (setXchg (armImage held i) 3 0)

end Sys2Proof.Machine
end

