-- ==== Sys2Proof/Machine/TomusRun.lean ====
section
/-! DEFINITION. The opcodes of groups 0x03xx to 0x0Bxx: run control, memory access, metrology, recorder, diagnostics,
calibration, time, redundancy and logs, and the ends of long operations (R347 to R353). -/

namespace Sys2Proof.Machine

open Sys2Proof

/-! ### Group 0x03xx (R347, R348) -/

/-- `RUN_STATUS`. -/
def opRunStatus (r : Req) (t : Nat) (d : Device) : Answer :=
  let regs := [Addr.LOOM_MODE, Addr.LOOM_CYCLE] ++ (List.range 4).map Addr.GATE_HSTAT
    ++ [Addr.GATE_OWN_STAT, Addr.BRD_STAT, Addr.TH_STAT]
  need (r.len == 0) 3 d (okWith (regs.flatMap (fun a => bytesLE 4 (shown d a t).toNat)) d)

/-- `LOOM_RUN` (R195): an image that fails ends the operation at once. -/
def opLoomRun (r : Req) (t : Nat) (d : Device) : Answer :=
  if r.len ≠ 0 then deny 3 d
  else if loomMode d ≠ .stop ∨ d.loom.change.isSome ∨ mayRun d = false then deny 13 d
  else startLong r d (runStart 2 t)

/-- `LOOM_STOP`: from RUN or HOLD, or of a change to RUN that waits. -/
def opLoomStop (r : Req) (t : Nat) (d : Device) : Answer :=
  if r.len ≠ 0 then deny 3 d
  else if loomMode d = .stop ∧ d.loom.change.isNone then deny 13 d
  else okay (loomStop t d)

/-- `LOOM_HOLD` (R203). -/
def opLoomHold (r : Req) (t : Nat) (d : Device) : Answer :=
  if r.len ≠ 0 then deny 3 d
  else if loomMode d ≠ .run ∨ rdB d Addr.LOOM_CFG 1 = false ∨ (redState d = 2 ∧ pairSync d = true) then deny 13 d
  else okay (enterHold 6 t d)

/-- `LOOM_RESUME`. -/
def opLoomResume (r : Req) (_ : Nat) (d : Device) : Answer :=
  if r.len ≠ 0 then deny 3 d else if loomMode d ≠ .hold then deny 13 d else okay (loomResume d)

/-- `KERNEL_CMD` (R348): the command waits for the next T0 snapshot, and the reply for its latch. -/
def opKernel (r : Req) (_ : Nat) (d : Device) : Answer :=
  let code := r.num 0 1
  if r.len ≠ 1 then deny 3 d
  else if code = 0 ∨ 5 < code then deny 5 d
  else if loomMode d ≠ .run then deny 13 d
  else if d.loom.kernelCmd.isSome then deny 10 d
  else waitFor kernelKey { d with loom := { d.loom with kernelCmd := some code } }

/-- `FAULT_CLEAR` (R149). -/
def opFaultClear (r : Req) (t : Nat) (d : Device) : Answer :=
  if r.len ≠ 1 then deny 3 d else if 15 < r.num 0 1 then deny 5 d else okay (gateClear (r.num 0 1) t d)

/-- `THERMAL_RESTART` (R302): a refusal names the first condition that fails. -/
def opThermalRestart (r : Req) (t : Nat) (d : Device) : Answer :=
  let d' := thRestart (r.num 0 1) t d
  if r.len ≠ 1 then deny 3 d
  else if 15 < r.num 0 1 then deny 5 d
  else if d'.therm.refused ≠ 0 then deny (0x8600 + d'.therm.refused) d'
  else okay d'

/-! ### Group 0x04xx (R349) -/

/-- Whether an address is refused to these opcodes: steward-private SRAM and the MRAM window. -/
def memDenied (a : Nat) : Bool :=
  match target a with
  | .stewardSram | .mram => true
  | _ => false

/-- The addresses of the elements of an access. -/
def elements (r : Req) : List Nat := (List.range (r.num 6 2)).map (fun i => r.num 0 4 + i * r.num 4 1)

/-- Whether an element touches a register that clears when it is read. -/
def readsClear (width a : Nat) : Bool :=
  let rc (a : Nat) : Bool := match RegMap.row? a with | some x => x.rc | none => false
  rc a || (width == 8 && rc (a + 4))

/-- The refusal of the head of a memory request; 0 where it is sound. -/
def memHead (r : Req) : Nat :=
  if ¬ (r.num 4 1 = 1 ∨ r.num 4 1 = 2 ∨ r.num 4 1 = 4 ∨ r.num 4 1 = 8) ∨ r.num 5 1 ≠ 0
      ∨ 2 ^ 32 < r.num 0 4 + r.num 4 1 * r.num 6 2 then 5
  else if (elements r).any memDenied then 0x8702
  else 0

/-- Elements read in turn as the steward: the bytes so far, and the status of the element that failed. -/
def memReads (width t : Nat) : List Nat → List Byte × Nat × Device → List Byte × Nat × Device
  | [], x => x
  | a :: rest, (bs, status, d) =>
    let c := accessCause d steward false width a
    if c = 0 then
      let (v, d) := loadAt steward width a t d
      memReads width t rest (bs ++ bytesLE width v, status, d)
    else ([], 0x8700 + c, busError steward a false c d)

/-- `MEM_READ`. -/
def opMemRead (r : Req) (t : Nat) (d : Device) : Answer :=
  let width := r.num 4 1
  let under := if r.auth then sessionOf d r.peer else none
  let c := if (elements r).any (readsClear width) then roleFor d r 1 else 0
  if r.len ≠ 8 then deny 3 d
  else if memHead r ≠ 0 then deny (memHead r) d
  else if c ≠ 0 then deny c d
  else if packetLimit r.transport < replyLength under (width * r.num 6 2) then deny 3 d
  else
    let (bs, status, d) := memReads width t (elements r) ([], 0, d)
    ⟨status, bs, d, none⟩

/-- Whether an address lies in a configuration page of a block from 0x4010_0000 on. -/
def configPage (a : Nat) : Bool := decide (0x40100000 ≤ a ∧ a ≤ 0x40A0FFFF ∧ a % 0x10000 < 0x8000)

/-- The cause with which an element written fails, 0 where it is written: of a 64-bit store to a block, that of either
half. -/
def storeCause (width a : Nat) (d : Device) : Nat :=
  let c := accessCause d steward true width a
  if c ≠ 0 then c
  else
    match target a with
    | .block _ => if width = 8 then accessCause d steward true 4 (a + 4) else 0
    | _ => 0

/-- Elements written in turn as the steward, up to the one that fails. -/
def memWrites (width t : Nat) : List (Nat × Nat) → Device → Nat × Device
  | [], d => (0, d)
  | (a, v) :: rest, d =>
    let c := storeCause width a d
    let d' := fabricWrite steward .store width a (BitVec.ofNat 64 v) t d
    if c = 0 then memWrites width t rest d' else (0x8700 + c, d')

/-- The refusals on account of the seals so far. -/
def sealCounts (d : Device) : List Nat := (List.range 4).map (fun n => rdN d (Addr.SYS_SEAL_REF_CNT n))

/-- `MEM_WRITE`: a closed seal shows in the status, and only a bus error ends the access. -/
def opMemWrite (r : Req) (t : Nat) (d : Device) : Answer :=
  let width := r.num 4 1
  let pairs := (elements r).zipIdx.map (fun x => (x.1, r.num (8 + x.2 * width) width))
  if r.len < 8 ∨ r.len ≠ 8 + width * r.num 6 2 then deny 3 d
  else if memHead r ≠ 0 then deny (memHead r) d
  else if loomMode d = .run ∧ (elements r).any configPage = true then deny 13 d
  else
    let (status, d') := memWrites width t pairs d
    deny (if status ≠ 0 then status else if sealCounts d' ≠ sealCounts d then 12 else 0) d'

/-! ### Group 0x05xx (R350) -/

/-- A frame sent to the ledger, whose answer the reply waits for; before the ledger has reported ready, `OPEN` is refused
and any other frame waits (R240). -/
def frameFor (type mp : Nat) (params : List Byte) (t : Nat) (d : Device) : Answer :=
  if domOn d 4 ∧ d.meter.ready = false ∧ type = 1 then deny 0x8202 d
  else if domOn d 4 then waitFor (frameKey d.meter.seqNo) (lreqSend d type mp params t) else deny 13 d

/-- `MTR_OPEN`. -/
def opMtrOpen (r : Req) (t : Nat) (d : Device) : Answer :=
  if r.len ≠ 28 then deny 3 d else if r.num 1 3 ≠ 0 then deny 5 d else frameFor 1 (r.num 0 1) (r.bytes 4 24) t d

/-- `MTR_CLOSE`. -/
def opMtrClose (r : Req) (t : Nat) (d : Device) : Answer := if r.len ≠ 1 then deny 3 d else frameFor 2 (r.num 0 1) [] t d

/-- `MTR_ACK_RECORDS`. -/
def opMtrAck (r : Req) (t : Nat) (d : Device) : Answer := if r.len ≠ 8 then deny 3 d else frameFor 3 0xFF r.params t d

/-- `MTR_CLEAR_COUNTERS`. -/
def opMtrClear (r : Req) (t : Nat) (d : Device) : Answer := if r.len ≠ 4 then deny 3 d else frameFor 5 0xFF r.params t d

/-- `MTR_READ`: between two refreshes, so its values belong together (R225). -/
def opMtrRead (r : Req) (_ : Nat) (d : Device) : Answer :=
  let m := r.num 0 1
  if r.len ≠ 1 then deny 3 d
  else if 4 ≤ m then deny 5 d
  else if domOn d 4 = false then deny 13 d
  else okWith (bytesLE 4 (rdN d (Addr.MP_STAT m))
    ++ (List.range 6).flatMap (fun k => bytesLE 8 (rd64 d (Addr.MP_REGm_r_LO m k 0))) ++ bytesLE 8 (rd64 d Addr.MBX_TIME_LO)) d

/-- `MTR_RECORD`: from the slot that holds the record. -/
def opMtrRecord (r : Req) (_ : Nat) (d : Device) : Answer :=
  let layout := r.num 8 1
  if r.len ≠ 9 then deny 3 d
  else if 1 < layout then deny 5 d
  else if domOn d 4 = false then deny 13 d
  else
    match d.meter.slots.find? (fun s => s.2.1 == r.num 0 8 && s.2.2) with
    | some s =>
      let base := 0x60100000 + 1024 * s.1
      let n := memNat d (base + 192) 2
      if layout = 0 then okWith (memBytes d base 192) d
      else if n = 0 ∨ 800 < n then deny 5 d
      else okWith (memBytes d (base + 194) n) d
    | none => deny 5 d

/-- `MTR_KEYS`. -/
def opMtrKeys (r : Req) (_ : Nat) (d : Device) : Answer :=
  if r.len ≠ 0 then deny 3 d
  else if domOn d 4 = false then deny 13 d
  else okWith ((List.range 16).flatMap (fun i => bytesLE 4 (rdN d (Addr.MBX_PUBKEY i)))
    ++ (List.range 8).flatMap (fun i => bytesLE 4 (rdN d (Addr.MBX_FW_HASH i)))) d

/-! ### Groups 0x06xx and 0x07xx (R351) -/

/-- `REC_CMD`. -/
def opRecCmd (r : Req) (t : Nat) (d : Device) : Answer :=
  match fin? 4 (r.num 0 1) with
  | some e =>
    if r.len ≠ 2 then deny 3 d
    else if r.num 1 1 = 0 ∨ 3 < r.num 1 1 then deny 5 d
    else okay (recCommand e (r.num 1 1) t d)
  | none => deny (if r.len ≠ 2 then 3 else 5) d

/-- `REC_STATUS`. -/
def opRecStatus (r : Req) (t : Nat) (d : Device) : Answer :=
  let e := r.num 0 1
  let both (a : Nat) : List Byte := bytesLE 4 (shown d a t).toNat ++ bytesLE 4 (shown d (a + 4) t).toNat
  if r.len ≠ 1 then deny 3 d
  else if 4 ≤ e then deny 5 d
  else okWith (bytesLE 4 (rdN d (Addr.REC_STAT e)) ++ both (Addr.REC_TPOS_LO e 0) ++ both (Addr.REC_TTIME_LO e 0)
    ++ both (Addr.REC_FRAMES_LO e 0) ++ bytesLE 4 (rdN d (Addr.REC_GAP_CNT e)) ++ bytesLE 4 (rdN d (Addr.REC_MISS_CNT e))) d

/-- The descriptor of an engine's ring that a request names, where the ring has it. -/
def recDesc (d : Device) (r : Req) : Option Nat :=
  let e := r.num 0 1
  if e < 4 ∧ r.num 1 3 = 0 ∧ r.num 4 4 < rdN d (Addr.BOB_LEN (2 + e)) then
    some (rdN d (Addr.BOB_BASE (2 + e)) + 32 * r.num 4 4)
  else none

/-- `REC_BLOCK_READ`. -/
def opRecRead (r : Req) (_ : Nat) (d : Device) : Answer :=
  if r.len ≠ 14 then deny 3 d
  else
    match recDesc d r with
    | some desc =>
      if (memNat d desc 4).testBit 31 then deny 13 d
      else if descLen d desc < r.num 8 4 + r.num 12 2 then deny 5 d
      else okWith (memBytes d (descAddr d desc + r.num 8 4) (r.num 12 2)) d
    | none => deny 5 d

/-- `REC_BLOCK_RELEASE`. -/
def opRecRelease (r : Req) (t : Nat) (d : Device) : Answer :=
  if r.len ≠ 8 then deny 3 d
  else
    match recDesc d r, fin? 16 (2 + r.num 0 1) with
    | some desc, some b =>
      let ctrl := memNat d desc 4 ||| 2 ^ 31
      okay (bobDoorbell b t (memWrite steward desc (bytesLE 4 ctrl) d))
    | _, _ => deny 5 d

/-- `GATE_TEST` (R150): the reply waits for the result. -/
def opGateTest (r : Req) (t : Nat) (d : Device) : Answer :=
  let kind := r.num 0 1
  let target := r.num 1 1
  if r.len ≠ 2 then deny 3 d
  else if kind = 0 ∨ 5 < kind ∨ (if kind ≤ 3 then 48 else 24) ≤ target then deny 5 d
  else if d.gtest.isSome then deny 10 d
  else
    let d' := gateTestWrite (word (target + 256 * kind)) t d
    if d'.gtest.isSome then waitFor testKey d' else deny 0x8503 d'

/-- `SELFTEST`: only with the loom in STOP. -/
def opSelftest (r : Req) (_ : Nat) (d : Device) : Answer :=
  if r.len ≠ 0 then deny 3 d else if loomMode d ≠ .stop then deny 13 d else startLong r d id

/-! ### Group 0x08xx (R352) -/

/-- The state in which the calibration engine is after an accepted command. -/
def calReached (cmd : Nat) : Nat :=
  match cmd with
  | 1 => 1
  | 2 => 2
  | 3 => 4
  | 4 => 6
  | _ => 0

/-- `CAL_CMD`: commands 2 to 4 run as long operations; one that the engine refuses is answered with its result. -/
def opCalCmd (r : Req) (t : Nat) (d : Device) : Answer :=
  let cmd := r.num 0 1
  let entry := r.num 1 1
  let d' := calCommand cmd entry t (if cmd = 3 then wrN d Addr.CAL_REF (r.num 4 4) else d)
  let result := rdF d' Addr.CAL_STAT 8 8
  let taken := calState d' == calReached cmd && (cmd != 1 || calState d == 0) && (cmd != 5 || calState d != 6)
  if r.len ≠ 8 then deny 3 d
  else if cmd = 0 ∨ 5 < cmd ∨ (32 ≤ entry ∧ entry < 64) ∨ 128 ≤ entry ∨ r.num 2 2 ≠ 0 then deny 5 d
  else if cmd ≠ 1 ∧ entry ≠ calEntry d then deny 0x8101 d
  else if taken = false then deny (0x8100 + result) (settleCal t d')
  else if 2 ≤ cmd ∧ cmd ≤ 4 then startLong r d' id
  else okay (settleCal t d')

/-- `CAL_EXPORT` (R69). -/
def opCalExport (r : Req) (_ : Nat) (d : Device) : Answer :=
  if r.len ≠ 4 then deny 3 d
  else if 2320 < r.num 0 2 + r.num 2 2 then deny 5 d
  else okWith (((calImage d).drop (r.num 0 2)).take (r.num 2 2)) d

/-- `CAL_RESTORE` (R69): values that fail the engine's checks end the operation at once. -/
def opCalRestore (r : Req) (t : Nat) (d : Device) : Answer :=
  let b := r.bytes 12 24
  if r.len ≠ 36 then deny 3 d
  else if r.num 1 3 ≠ 0 then deny 5 d
  else if calState d ≠ 1 ∨ calEntry d ≠ r.num 0 1 then deny 13 d
  else if r.bytes 4 8 ≠ serialBytes then deny 15 d
  else if sliceLE b 20 4 ≠ crc32c (b.take 20) then deny 5 d
  else startLong r d (fun d =>
    settleCal t (calRestore t (wrN (wrN d Addr.CAL_RST_OFF (sliceLE b 0 4)) Addr.CAL_RST_GAIN (sliceLE b 4 4))))

/-- `RSM_COEF_WRITE` (R87): into the inactive bank. -/
def opCoefWrite (r : Req) (_ : Nat) (d : Device) : Answer :=
  let bankB := !rdB d Addr.RSM_COEF_CTRL 1
  let off := r.num 0 2
  let bs := r.params.drop 2
  if r.len < 2 then deny 3 d
  else if off % 2 ≠ 0 ∨ bs.length % 2 ≠ 0 ∨ 8192 < off + bs.length then deny 5 d
  else if rsmBankOpen d bankB = false then deny 13 d
  else
    let old := rsmBankBytes d bankB
    let new := old.take off ++ bs ++ old.drop (off + bs.length)
    let touched := (List.range 2048).filter (fun i => decide (off < 4 * i + 4 ∧ 4 * i < off + bs.length))
    okay (rsmShowCrc (each touched (fun d i =>
      wrN d (if bankB then Addr.RSM_COEF_B i else Addr.RSM_COEF_A i) (sliceLE new (4 * i) 4)) d) bankB)

/-- `RSM_SWITCH` (R87): refused during a fade, or where the bank's CRC is another. -/
def opRsmSwitch (r : Req) (_ : Nat) (d : Device) : Answer :=
  let d' := rsmSwitch (wrN d Addr.RSM_COEF_EXP (r.num 0 4))
  if r.len ≠ 4 then deny 3 d
  else if d'.rsm.switchReq ∨ (rdB d' Addr.RSM_COEF_CTRL 2 = true ∧ rdB d Addr.RSM_COEF_CTRL 2 = false) then okay d'
  else deny 13 d'

/-! ### Groups 0x09xx, 0x0Axx and 0x0Bxx (R353) -/

/-- `TIME_READ`. -/
def opTimeRead (r : Req) (t : Nat) (d : Device) : Answer :=
  need (r.len == 0) 3 d (okWith
    (bytesLE 8 (d.time.read t) ++ [BitVec.ofNat 8 (timeState d), 0, 0, 0] ++ bytesLE 4 (rdN d Addr.TIME_RATE)) d)

/-- `TIME_SET` (R365, R366). -/
def opTimeSet (r : Req) (t : Nat) (d : Device) : Answer :=
  if r.len ≠ 8 then deny 3 d
  else if 2 ≤ timeState d ∨ rdB d Addr.TIME_STAT 4 = true then deny 13 d
  else okay (timeSet (r.num 0 8) t d)

/-- `PAIR_STATUS`: a paired unit that is not active shows as the standby. -/
def opPairStatus (r : Req) (_ : Nat) (d : Device) : Answer :=
  let role := if paired d = false then 2 else if redState d = 2 then 0 else 1
  let equal := paired d && !rdB d Addr.RED_STAT 7 && !rdB d Addr.RED_STAT 8
  need (r.len == 0) 3 d (okWith
    ([BitVec.ofNat 8 role, BitVec.ofNat 8 (rdF d Addr.RED_STAT 5 1), 0, 0] ++ bytesLE 4 (rdN d Addr.RED_MATCH)
      ++ [BitVec.ofNat 8 equal.toNat, 0, 0, 0] ++ bytesLE 4 (rdN d Addr.RED_OFFSET)) d)

/-- `PAIR_YIELD` (R398). -/
def opPairYield (r : Req) (t : Nat) (d : Device) : Answer :=
  if r.len ≠ 0 then deny 3 d
  else if paired d ∧ redState d = 2 ∧ pairSync d then okay (yieldCommand t d)
  else deny 13 d

/-- `PAIR_TAKEBACK` (R396). -/
def opPairTakeback (r : Req) (t : Nat) (d : Device) : Answer :=
  if r.len ≠ 1 then deny 3 d
  else if 1 < r.num 0 1 then deny 5 d
  else okay (redCtrl (if r.num 0 1 = 1 then 2 else 3) t d)

/-- `EVENT_READ`: records by their running number from 0, of which the ring keeps the last 4 096. -/
def opEventRead (r : Req) (_ : Nat) (d : Device) : Answer :=
  let first := r.num 0 4
  let n := r.num 4 1
  if r.len ≠ 5 then deny 3 d
  else if n = 0 ∨ 16 < n then deny 5 d
  else okWith (((d.events.zipIdx.drop first).take n).flatMap (fun e =>
    if d.events.length ≤ e.2 + 4096 then eventBytes e.1 else [])) d

/-- `LOGBOOK_READ`: entries from number 1. -/
def opLogbookRead (r : Req) (_ : Nat) (d : Device) : Answer :=
  let first := r.num 0 4
  let n := r.num 4 1
  if r.len ≠ 5 then deny 3 d
  else if n = 0 ∨ 16 < n ∨ first = 0 then deny 5 d
  else okWith (((List.range n).filter (fun i => decide (first + i ≤ d.meter.logUsed))).flatMap (fun i =>
    memBytes d (0x60180000 + 64 * (first + i - 1)) 64)) d

/-- `THERMAL_READ` (R300). -/
def opThermalRead (r : Req) (_ : Nat) (d : Device) : Answer := need (r.len == 0) 3 d (okWith (memBytes d 0x60031000 128) d)

/-! ### The ends of long operations (R335) -/

/-- `SELFTEST` ends with the checks that failed: bit 0 the reference monitors, bit 1 the shared-SRAM scrub, bit 2 the NOR
hash of both banks. A failure is a self-diagnosis fault (R351, code 0x05 of R390). -/
def selftestDone (bad t : Nat) (d : Device) : Device :=
  if bad % 8 = 0 then opFinish d [0x0701] 0 100 t else selfDiag (opFinish d [0x0701] 13 (bad % 8) t) 5 t

/-- A long operation of an opcode ends, where one runs. Those of the configuration, of the loom and of a commit end by what
their own blocks do. -/
def operationDone (opcode result t : Nat) (d : Device) : Device :=
  match opRunning d [opcode] with
  | some o =>
    match opcode with
    | 0x0200 => imgBeginDone o t d
    | 0x0202 => imgVerifyDone o t d
    | 0x0203 => imgActivateDone o t d
    | 0x0204 => xchgArmDone t d
    | 0x0701 => selftestDone result t d
    | _ => settle t d
  | none => d

end Sys2Proof.Machine
end

