-- ==== Sys2Proof/Machine/CmdTomus.lean ====
section
/-! DEFINITION. Meanings: the Tomus server: packets, sessions and the opcodes.
Each is a shared operation of the unit at the instant `t` of the command, while the domains that it needs are on. -/

namespace Sys2Proof.Machine

open Sys2Proof

/-- `TOMUS_PACKET_RX` (R329). A received packet is checked, discarded, queued in B0 or answered as a repeat. -/
def execTomusPacketRx (transport : Fin 5) (peer : Peer) (bytes : List Byte) (t : Nat) (s : State) :
    Host.Outcome State Fault Refusal :=
  done s (packetRx transport.1 peer bytes t (at50 s.dev t))

/-- `SPI_FRAME` (R332). A 512-byte full-duplex SPI frame carries a request in and the oldest reply out, or is void.
-/
def execSpiFrame (bytes : List Byte) (bits : Nat) (t : Nat) (s : State) :
    Host.Outcome State Fault Refusal :=
  done s (spiFrame bytes bits t (at50 s.dev t))

/-- `SESSION_PROVE_TIMEOUT` (R338). A handshake without SESSION_PROVE within 10 s ends. -/
def execSessionProveTimeout (t : Nat) (s : State) :
    Host.Outcome State Fault Refusal :=
  done s (whileOn [1] (proveTimeout t) (at50 s.dev t))

/-- `SESSION_IDLE_TIMEOUT` (R340). A session with no executed request for 300 s ends. -/
def execSessionIdleTimeout (peer : Peer) (t : Nat) (s : State) :
    Host.Outcome State Fault Refusal :=
  done s (whileOn [1] (idleTimeout peer t) (at50 s.dev t))

/-- `OP_RESULT_EXPIRY` (R335). The final status of an L operation is dropped 60 s after completion. -/
def execOpResultExpiry (t : Nat) (s : State) :
    Host.Outcome State Fault Refusal :=
  done s (whileOn [1] (resultExpiry t) (at50 s.dev t))

/-- `L_OPERATION_DONE` (R335). A long-running Tomus operation completes and its final status is stored. -/
def execLOperationDone (opcode result : Nat) (t : Nat) (s : State) :
    Host.Outcome State Fault Refusal :=
  done s (whileOn [1] (operationDone opcode result t) (at50 s.dev t))

/-- `PING` (R344). PING returns its parameter bytes. -/
def execPing (req : Req) (t : Nat) (s : State) :
    Host.Outcome State Fault Refusal :=
  done s (execute opPing 0x0000 req t (at50 s.dev t))

/-- `IDENTITY` (R344). IDENTITY returns the unit's identity, state and hashes. -/
def execIdentity (req : Req) (t : Nat) (s : State) :
    Host.Outcome State Fault Refusal :=
  done s (execute opIdentity 0x0001 req t (at50 s.dev t))

/-- `DEVICE_KEY` (R344). DEVICE_KEY returns the device public key. -/
def execDeviceKey (req : Req) (t : Nat) (s : State) :
    Host.Outcome State Fault Refusal :=
  done s (execute opDeviceKey 0x0002 req t (at50 s.dev t))

/-- `OP_STATUS` (R335). OP_STATUS returns the final status of the last L operation. -/
def execOpStatus (req : Req) (t : Nat) (s : State) :
    Host.Outcome State Fault Refusal :=
  done s (execute opOpStatus 0x0003 req t (at50 s.dev t))

/-- `STATS` (R344). STATS returns transport counts and optionally clears the sticky ones. -/
def execStats (req : Req) (t : Nat) (s : State) :
    Host.Outcome State Fault Refusal :=
  done s (execute opStats 0x0004 req t (at50 s.dev t))

/-- `SESSION_HELLO` (R338). SESSION_HELLO starts a handshake and returns the unit's ephemeral key, nonce and
signature. -/
def execSessionHello (req : Req) (t : Nat) (s : State) :
    Host.Outcome State Fault Refusal :=
  done s (execute opHello 0x0010 req t (at50 s.dev t))

/-- `SESSION_PROVE` (R338). SESSION_PROVE verifies the host signature and opens a session with its key. -/
def execSessionProve (req : Req) (t : Nat) (s : State) :
    Host.Outcome State Fault Refusal :=
  done s (execute opProve 0x0011 req t (at50 s.dev t))

/-- `SESSION_CLOSE` (R340). SESSION_CLOSE ends the session. -/
def execSessionClose (req : Req) (t : Nat) (s : State) :
    Host.Outcome State Fault Refusal :=
  done s (execute opClose 0x0012 req t (at50 s.dev t))

/-- `HOSTKEY_SET` (R341). HOSTKEY_SET writes a host key slot and its role. -/
def execHostkeySet (req : Req) (t : Nat) (s : State) :
    Host.Outcome State Fault Refusal :=
  done s (execute opKeySet 0x0018 req t (at50 s.dev t))

/-- `HOSTKEY_CLEAR` (R344). HOSTKEY_CLEAR empties a host key slot and ends its sessions. -/
def execHostkeyClear (req : Req) (t : Nat) (s : State) :
    Host.Outcome State Fault Refusal :=
  done s (execute opKeyClear 0x0019 req t (at50 s.dev t))

/-- `HOSTKEY_LIST` (R344). HOSTKEY_LIST returns the role and key hash prefix of each slot. -/
def execHostkeyList (req : Req) (t : Nat) (s : State) :
    Host.Outcome State Fault Refusal :=
  done s (execute opKeyList 0x001A req t (at50 s.dev t))

/-- `CFG_STATUS` (R345). CFG_STATUS returns the stack, saddle generation, state and configuration hash. -/
def execCfgStatus (req : Req) (t : Nat) (s : State) :
    Host.Outcome State Fault Refusal :=
  done s (execute opCfgStatus 0x0100 req t (at50 s.dev t))

/-- `STAGE_WRITE` (R345). STAGE_WRITE places record bytes in the staging buffer. -/
def execStageWrite (req : Req) (t : Nat) (s : State) :
    Host.Outcome State Fault Refusal :=
  done s (execute opStage 0x0101 req t (at50 s.dev t))

/-- `SADDLE_STORE` (R313). SADDLE_STORE writes both saddle copies from the staging buffer. -/
def execSaddleStore (req : Req) (t : Nat) (s : State) :
    Host.Outcome State Fault Refusal :=
  done s (execute opSaddleStore 0x0102 req t (at50 s.dev t))

/-- `TACK_STORE` (R315). TACK_STORE writes a tack slot from the staging buffer. -/
def execTackStore (req : Req) (t : Nat) (s : State) :
    Host.Outcome State Fault Refusal :=
  done s (execute opTackStore 0x0103 req t (at50 s.dev t))

/-- `STACK_SELECT` (R316). STACK_SELECT requests a new stack of tacks, or is refused. -/
def execStackSelect (req : Req) (t : Nat) (s : State) :
    Host.Outcome State Fault Refusal :=
  done s (execute opStackSelect 0x0104 req t (at50 s.dev t))

/-- `SADDLE_ACK` (R321). SADDLE_ACK rewrites both copies and ends the degraded state. -/
def execSaddleAck (req : Req) (t : Nat) (s : State) :
    Host.Outcome State Fault Refusal :=
  done s (execute opSaddleAck 0x0105 req t (at50 s.dev t))

/-- `FIELD_READ` (R345). FIELD_READ returns the values in force and their sources. -/
def execFieldRead (req : Req) (t : Nat) (s : State) :
    Host.Outcome State Fault Refusal :=
  done s (execute opFieldRead 0x0106 req t (at50 s.dev t))

/-- `STORE_READ` (R345). STORE_READ returns stored bytes of a saddle copy or tack. -/
def execStoreRead (req : Req) (t : Nat) (s : State) :
    Host.Outcome State Fault Refusal :=
  done s (execute opStoreRead 0x0107 req t (at50 s.dev t))

/-- `IMG_BEGIN` (R346). IMG_BEGIN erases an image slot of the inactive bank. -/
def execImgBegin (req : Req) (t : Nat) (s : State) :
    Host.Outcome State Fault Refusal :=
  done s (execute opImgBegin 0x0200 req t (at50 s.dev t))

/-- `IMG_WRITE` (R346). IMG_WRITE programs image bytes into the slot. -/
def execImgWrite (req : Req) (t : Nat) (s : State) :
    Host.Outcome State Fault Refusal :=
  done s (execute opImgWrite 0x0201 req t (at50 s.dev t))

/-- `IMG_VERIFY` (R206). IMG_VERIFY checks an image. -/
def execImgVerify (req : Req) (t : Nat) (s : State) :
    Host.Outcome State Fault Refusal :=
  done s (execute opImgVerify 0x0202 req t (at50 s.dev t))

/-- `IMG_ACTIVATE` (R346). IMG_ACTIVATE selects a bank or delivers a ledger image to the loader. -/
def execImgActivate (req : Req) (t : Nat) (s : State) :
    Host.Outcome State Fault Refusal :=
  done s (execute opImgActivate 0x0203 req t (at50 s.dev t))

/-- `XCHG_ARM` (R208). XCHG_ARM copies the new image's sections and arms an online exchange. -/
def execXchgArm (req : Req) (t : Nat) (s : State) :
    Host.Outcome State Fault Refusal :=
  done s (execute opXchgArm 0x0204 req t (at50 s.dev t))

/-- `XCHG_CANCEL` (R346). XCHG_CANCEL returns an armed exchange to VERIFIED. -/
def execXchgCancel (req : Req) (t : Nat) (s : State) :
    Host.Outcome State Fault Refusal :=
  done s (execute opXchgCancel 0x0205 req t (at50 s.dev t))

/-- `IMG_STATUS` (R346). IMG_STATUS returns image and exchange state. -/
def execImgStatus (req : Req) (t : Nat) (s : State) :
    Host.Outcome State Fault Refusal :=
  done s (execute opImgStatus 0x0206 req t (at50 s.dev t))

/-- `LOOMKEY_SET` (R206). LOOMKEY_SET writes a loom key slot while SEAL3 is open. -/
def execLoomkeySet (req : Req) (t : Nat) (s : State) :
    Host.Outcome State Fault Refusal :=
  done s (execute opLoomKey 0x0208 req t (at50 s.dev t))

/-- `RUN_STATUS` (R347). RUN_STATUS returns the loom, harness, ownership, bridle and thermal state. -/
def execRunStatus (req : Req) (t : Nat) (s : State) :
    Host.Outcome State Fault Refusal :=
  done s (execute opRunStatus 0x0300 req t (at50 s.dev t))

/-- `LOOM_RUN` (R195). LOOM_RUN asks the loom to go from STOP to RUN. -/
def execLoomRun (req : Req) (t : Nat) (s : State) :
    Host.Outcome State Fault Refusal :=
  done s (execute opLoomRun 0x0301 req t (at50 s.dev t))

/-- `LOOM_STOP` (R347). LOOM_STOP takes the loom to STOP from RUN or HOLD. -/
def execLoomStop (req : Req) (t : Nat) (s : State) :
    Host.Outcome State Fault Refusal :=
  done s (settled (execute opLoomStop 0x0302 req t) t (at50 s.dev t))

/-- `LOOM_HOLD` (R347). LOOM_HOLD takes the loom to HOLD when debugging is enabled. -/
def execLoomHold (req : Req) (t : Nat) (s : State) :
    Host.Outcome State Fault Refusal :=
  done s (settled (execute opLoomHold 0x0303 req t) t (at50 s.dev t))

/-- `LOOM_RESUME` (R347). LOOM_RESUME leaves HOLD for RUN. -/
def execLoomResume (req : Req) (t : Nat) (s : State) :
    Host.Outcome State Fault Refusal :=
  done s (execute opLoomResume 0x0304 req t (at50 s.dev t))

/-- `KERNEL_CMD` (R348). KERNEL_CMD places a kernel command in the next T0 snapshot. -/
def execKernelCmd (req : Req) (t : Nat) (s : State) :
    Host.Outcome State Fault Refusal :=
  done s (execute opKernel 0x0305 req t (at50 s.dev t))

/-- `FAULT_CLEAR` (R347). FAULT_CLEAR writes GATE_CLEAR for the named harnesses. -/
def execFaultClear (req : Req) (t : Nat) (s : State) :
    Host.Outcome State Fault Refusal :=
  done s (execute opFaultClear 0x0306 req t (at50 s.dev t))

/-- `THERMAL_RESTART` (R347). THERMAL_RESTART writes TH_RESTART for the named harnesses. -/
def execThermalRestart (req : Req) (t : Nat) (s : State) :
    Host.Outcome State Fault Refusal :=
  done s (execute opThermalRestart 0x0307 req t (at50 s.dev t))

/-- `MEM_READ` (R349). MEM_READ reads memory or registers as the steward. -/
def execMemRead (req : Req) (t : Nat) (s : State) :
    Host.Outcome State Fault Refusal :=
  done s (execute opMemRead 0x0400 req t (at50 s.dev t))

/-- `MEM_WRITE` (R349). MEM_WRITE writes memory or registers as the steward, with configuration pages only in STOP
or HOLD. -/
def execMemWrite (req : Req) (t : Nat) (s : State) :
    Host.Outcome State Fault Refusal :=
  done s (execute opMemWrite 0x0401 req t (at50 s.dev t))

/-- `MTR_OPEN` (R350). MTR_OPEN sends an OPEN frame and returns the start record number. -/
def execMtrOpen (req : Req) (t : Nat) (s : State) :
    Host.Outcome State Fault Refusal :=
  done s (execute opMtrOpen 0x0500 req t (at50 s.dev t))

/-- `MTR_CLOSE` (R350). MTR_CLOSE sends a CLOSE frame and returns the stop record number. -/
def execMtrClose (req : Req) (t : Nat) (s : State) :
    Host.Outcome State Fault Refusal :=
  done s (execute opMtrClose 0x0501 req t (at50 s.dev t))

/-- `MTR_ACK_RECORDS` (R350). MTR_ACK_RECORDS sends an ACK_RECORDS frame. -/
def execMtrAckRecords (req : Req) (t : Nat) (s : State) :
    Host.Outcome State Fault Refusal :=
  done s (execute opMtrAck 0x0502 req t (at50 s.dev t))

/-- `MTR_CLEAR_COUNTERS` (R350). MTR_CLEAR_COUNTERS sends a CLEAR_COUNTERS frame. -/
def execMtrClearCounters (req : Req) (t : Nat) (s : State) :
    Host.Outcome State Fault Refusal :=
  done s (execute opMtrClear 0x0503 req t (at50 s.dev t))

/-- `MTR_READ` (R350). MTR_READ returns a metering point's registers coherently. -/
def execMtrRead (req : Req) (t : Nat) (s : State) :
    Host.Outcome State Fault Refusal :=
  done s (execute opMtrRead 0x0504 req t (at50 s.dev t))

/-- `MTR_RECORD` (R350). MTR_RECORD returns a record in native or OCMF layout. -/
def execMtrRecord (req : Req) (t : Nat) (s : State) :
    Host.Outcome State Fault Refusal :=
  done s (execute opMtrRecord 0x0505 req t (at50 s.dev t))

/-- `MTR_KEYS` (R350). MTR_KEYS returns the ledger public key and firmware hash. -/
def execMtrKeys (req : Req) (t : Nat) (s : State) :
    Host.Outcome State Fault Refusal :=
  done s (execute opMtrKeys 0x0506 req t (at50 s.dev t))

/-- `REC_CMD` (R351). REC_CMD gives a recorder engine an arm, stop or force command. -/
def execRecCmd (req : Req) (t : Nat) (s : State) :
    Host.Outcome State Fault Refusal :=
  done s (execute opRecCmd 0x0600 req t (at50 s.dev t))

/-- `REC_STATUS` (R351). REC_STATUS returns a recorder engine's state and counts. -/
def execRecStatus (req : Req) (t : Nat) (s : State) :
    Host.Outcome State Fault Refusal :=
  done s (execute opRecStatus 0x0601 req t (at50 s.dev t))

/-- `REC_BLOCK_READ` (R351). REC_BLOCK_READ returns bytes of a returned recorder block. -/
def execRecBlockRead (req : Req) (t : Nat) (s : State) :
    Host.Outcome State Fault Refusal :=
  done s (execute opRecRead 0x0602 req t (at50 s.dev t))

/-- `REC_BLOCK_RELEASE` (R351). REC_BLOCK_RELEASE gives a descriptor back to the hardware. -/
def execRecBlockRelease (req : Req) (t : Nat) (s : State) :
    Host.Outcome State Fault Refusal :=
  done s (execute opRecRelease 0x0603 req t (at50 s.dev t))

/-- `GATE_TEST` (R351). GATE_TEST runs a gate comparator self-test and returns its result. -/
def execGateTest (req : Req) (t : Nat) (s : State) :
    Host.Outcome State Fault Refusal :=
  done s (execute opGateTest 0x0700 req t (at50 s.dev t))

/-- `SELFTEST` (R351). SELFTEST checks references, SRAM scrub and NOR hashes with the loom in STOP. -/
def execSelftest (req : Req) (t : Nat) (s : State) :
    Host.Outcome State Fault Refusal :=
  done s (execute opSelftest 0x0701 req t (at50 s.dev t))

/-- `CAL_CMD` (R352). CAL_CMD drives the calibration engine with one command. -/
def execCalCmd (req : Req) (t : Nat) (s : State) :
    Host.Outcome State Fault Refusal :=
  done s (settled (execute opCalCmd 0x0800 req t) t (at50 s.dev t))

/-- `CAL_EXPORT` (R69). CAL_EXPORT returns bytes of the calibration image. -/
def execCalExport (req : Req) (t : Nat) (s : State) :
    Host.Outcome State Fault Refusal :=
  done s (execute opCalExport 0x0801 req t (at50 s.dev t))

/-- `CAL_RESTORE` (R352). CAL_RESTORE applies one entry of an exported image through RESTORE. -/
def execCalRestore (req : Req) (t : Nat) (s : State) :
    Host.Outcome State Fault Refusal :=
  done s (execute opCalRestore 0x0802 req t (at50 s.dev t))

/-- `RSM_COEF_WRITE` (R352). RSM_COEF_WRITE loads coefficients into the inactive resampler bank. -/
def execRsmCoefWrite (req : Req) (t : Nat) (s : State) :
    Host.Outcome State Fault Refusal :=
  done s (execute opCoefWrite 0x0803 req t (at50 s.dev t))

/-- `RSM_SWITCH` (R352). RSM_SWITCH requests a coefficient bank switch with its expected CRC. -/
def execRsmSwitch (req : Req) (t : Nat) (s : State) :
    Host.Outcome State Fault Refusal :=
  done s (execute opRsmSwitch 0x0804 req t (at50 s.dev t))

/-- `TIME_READ` (R353). TIME_READ returns Ialos time and synchronisation state. -/
def execTimeRead (req : Req) (t : Nat) (s : State) :
    Host.Outcome State Fault Refusal :=
  done s (execute opTimeRead 0x0900 req t (at50 s.dev t))

/-- `TIME_SET` (R353). TIME_SET sets the counter before the first synchronisation. -/
def execTimeSet (req : Req) (t : Nat) (s : State) :
    Host.Outcome State Fault Refusal :=
  done s (execute opTimeSet 0x0901 req t (at50 s.dev t))

/-- `PAIR_STATUS` (R353). PAIR_STATUS returns the pair role and synchronisation state. -/
def execPairStatus (req : Req) (t : Nat) (s : State) :
    Host.Outcome State Fault Refusal :=
  done s (execute opPairStatus 0x0A00 req t (at50 s.dev t))

/-- `PAIR_YIELD` (R353). PAIR_YIELD makes the active unit give up control to a synchronised standby. -/
def execPairYield (req : Req) (t : Nat) (s : State) :
    Host.Outcome State Fault Refusal :=
  done s (execute opPairYield 0x0A01 req t (at50 s.dev t))

/-- `PAIR_TAKEBACK` (R353). PAIR_TAKEBACK inhibits or allows the preferred unit's takeback. -/
def execPairTakeback (req : Req) (t : Nat) (s : State) :
    Host.Outcome State Fault Refusal :=
  done s (execute opPairTakeback 0x0A02 req t (at50 s.dev t))

/-- `EVENT_READ` (R353). EVENT_READ returns event records. -/
def execEventRead (req : Req) (t : Nat) (s : State) :
    Host.Outcome State Fault Refusal :=
  done s (execute opEventRead 0x0B00 req t (at50 s.dev t))

/-- `LOGBOOK_READ` (R353). LOGBOOK_READ returns logbook entries. -/
def execLogbookRead (req : Req) (t : Nat) (s : State) :
    Host.Outcome State Fault Refusal :=
  done s (execute opLogbookRead 0x0B01 req t (at50 s.dev t))

/-- `THERMAL_READ` (R353). THERMAL_READ returns the home thermal record. -/
def execThermalRead (req : Req) (t : Nat) (s : State) :
    Host.Outcome State Fault Refusal :=
  done s (execute opThermalRead 0x0B02 req t (at50 s.dev t))

end Sys2Proof.Machine
end

