-- ==== Sys2Proof/Machine/Dispatch.lean ====
section
/-! DEFINITION. The command that each row of the table is: one arm, one meaning. -/

namespace Sys2Proof.Machine

open Sys2Proof

/-- The effect of a command on everything but the queue. -/
def exec (i : Instr) (s : State) : Host.Outcome State Fault Refusal :=
  match i with
  | .registerWrite ix op width a v t => Sys2Proof.Machine.execRegisterWrite ix op width a v t s
  | .rcFieldRead ix width a t => Sys2Proof.Machine.execRcFieldRead ix width a t s
  | .lowWordRead ix width a t => Sys2Proof.Machine.execLowWordRead ix width a t s
  | .targetNoResponse ix write a t => Sys2Proof.Machine.execTargetNoResponse ix write a t s
  | .sramScrubPass single double t => Sys2Proof.Machine.execSramScrubPass single double t s
  | .cfgApplyWrite v t => Sys2Proof.Machine.execCfgApplyWrite v t s
  | .t0Deadline t => Sys2Proof.Machine.execT0Deadline t s
  | .taskRelease task core t => Sys2Proof.Machine.execTaskRelease task core t s
  | .gateIslandLinkTimeout c t => Sys2Proof.Machine.execGateIslandLinkTimeout c t s
  | .islandEntryHizTimeout c t => Sys2Proof.Machine.execIslandEntryHizTimeout c t s
  | .fastWordsMissing c t => Sys2Proof.Machine.execFastWordsMissing c t s
  | .ledgerInterruption m t => Sys2Proof.Machine.execLedgerInterruption m t s
  | .modOverloadOnset c t => Sys2Proof.Machine.execModOverloadOnset c t s
  | .stuckBitstream c t => Sys2Proof.Machine.execStuckBitstream c t s
  | .stuckRecovery c first t => Sys2Proof.Machine.execStuckRecovery c first t s
  | .islandLoss current powerGood t => Sys2Proof.Machine.execIslandLoss current powerGood t s
  | .islandRecovery current t => Sys2Proof.Machine.execIslandRecovery current t s
  | .fastPathWord c bits t => Sys2Proof.Machine.execFastPathWord c bits t s
  | .mediumPathWord c t => Sys2Proof.Machine.execMediumPathWord c t s
  | .precisionPathWord c t => Sys2Proof.Machine.execPrecisionPathWord c t s
  | .decomposerUnsEnd k t => Sys2Proof.Machine.execDecomposerUnsEnd k t s
  | .resamplerOutput t => Sys2Proof.Machine.execResamplerOutput t s
  | .resamplerPauseEnd t => Sys2Proof.Machine.execResamplerPauseEnd t s
  | .rsmSourceHold t => Sys2Proof.Machine.execRsmSourceHold t s
  | .rsmSwitchWrite t => Sys2Proof.Machine.execRsmSwitchWrite t s
  | .rsmXfadeEnd t => Sys2Proof.Machine.execRsmXfadeEnd t s
  | .shedTap n t => Sys2Proof.Machine.execShedTap n t s
  | .deadTimeTurnOn c t => Sys2Proof.Machine.execDeadTimeTurnOn c t s
  | .shedRefPop n t => Sys2Proof.Machine.execShedRefPop n t s
  | .shedFifoWrite n v t => Sys2Proof.Machine.execShedFifoWrite n v t s
  | .shedEdgeWrite n v t => Sys2Proof.Machine.execShedEdgeWrite n v t s
  | .edgeListEntry n t => Sys2Proof.Machine.execEdgeListEntry n t s
  | .shedStartStep n t => Sys2Proof.Machine.execShedStartStep n t s
  | .setpRisingEdge high t => Sys2Proof.Machine.execSetpRisingEdge high t s
  | .setpointLoss seta t => Sys2Proof.Machine.execSetpointLoss seta t s
  | .chirpEnd j t => Sys2Proof.Machine.execChirpEnd j t s
  | .cordicCmdWrite c cmd t => Sys2Proof.Machine.execCordicCmdWrite c cmd t s
  | .cordicDone c t => Sys2Proof.Machine.execCordicDone c t s
  | .gateOwnWrite mode t => Sys2Proof.Machine.execGateOwnWrite mode t s
  | .gateOwnChangeDone t => Sys2Proof.Machine.execGateOwnChangeDone t s
  | .uvloTrip c vn dead t => Sys2Proof.Machine.execUvloTrip c vn dead t s
  | .uvloRelease c vn t => Sys2Proof.Machine.execUvloRelease c vn t s
  | .blankingEnd c t => Sys2Proof.Machine.execBlankingEnd c t s
  | .desatTrip c stamp t => Sys2Proof.Machine.execDesatTrip c stamp t s
  | .softTimeEnd c t => Sys2Proof.Machine.execSoftTimeEnd c t s
  | .millerClampEnable c t => Sys2Proof.Machine.execMillerClampEnable c t s
  | .selvedgeEntry h cause t => Sys2Proof.Machine.execSelvedgeEntry h cause t s
  | .selvedgeSequenceStep h t => Sys2Proof.Machine.execSelvedgeSequenceStep h t s
  | .selvedgeHizDelay c t => Sys2Proof.Machine.execSelvedgeHizDelay c t s
  | .selvedgeTableReload t => Sys2Proof.Machine.execSelvedgeTableReload t s
  | .releaseHoldoffEnd h t => Sys2Proof.Machine.execReleaseHoldoffEnd h t s
  | .retryWaitExpiry h leg t => Sys2Proof.Machine.execRetryWaitExpiry h leg t s
  | .retryForgetExpiry h t => Sys2Proof.Machine.execRetryForgetExpiry h t s
  | .gateClearWrite mask t => Sys2Proof.Machine.execGateClearWrite mask t s
  | .gateTestCmdWrite v t => Sys2Proof.Machine.execGateTestCmdWrite v t s
  | .gateTestDone trip t => Sys2Proof.Machine.execGateTestDone trip t s
  | .gfkInit ctx t => Sys2Proof.Machine.execGfkInit ctx t s
  | .gfkStep ctx inp out t => Sys2Proof.Machine.execGfkStep ctx inp out t s
  | .gfkCmdStart ctx inp out t => Sys2Proof.Machine.execGfkCmdStart ctx inp out t s
  | .gfkCmdStop ctx inp out t => Sys2Proof.Machine.execGfkCmdStop ctx inp out t s
  | .gfkCmdReset ctx inp out t => Sys2Proof.Machine.execGfkCmdReset ctx inp out t s
  | .gfkCmdReconOn ctx inp out t => Sys2Proof.Machine.execGfkCmdReconOn ctx inp out t s
  | .gfkCmdReconOff ctx inp out t => Sys2Proof.Machine.execGfkCmdReconOff ctx inp out t s
  | .deadBusTimerExpiry ctx inp out t => Sys2Proof.Machine.execDeadBusTimerExpiry ctx inp out t s
  | .liveBusTimerExpiry ctx inp out t => Sys2Proof.Machine.execLiveBusTimerExpiry ctx inp out t s
  | .syncHoldExpiry ctx inp out t => Sys2Proof.Machine.execSyncHoldExpiry ctx inp out t s
  | .closeTimeout ctx inp out t => Sys2Proof.Machine.execCloseTimeout ctx inp out t s
  | .syncTimeout ctx inp out t => Sys2Proof.Machine.execSyncTimeout ctx inp out t s
  | .rampComplete ctx inp out t => Sys2Proof.Machine.execRampComplete ctx inp out t s
  | .frtRecoverExpiry ctx inp out t => Sys2Proof.Machine.execFrtRecoverExpiry ctx inp out t s
  | .currentLimitHoldExit ctx inp out t => Sys2Proof.Machine.execCurrentLimitHoldExit ctx inp out t s
  | .reconDelayExpiry ctx inp out t => Sys2Proof.Machine.execReconDelayExpiry ctx inp out t s
  | .loomDoneWrite core task t => Sys2Proof.Machine.execLoomDoneWrite core task t s
  | .loomCbAppend core task a v t => Sys2Proof.Machine.execLoomCbAppend core task a v t s
  | .loomCbFlush3 t => Sys2Proof.Machine.execLoomCbFlush3 t s
  | .loomKick t => Sys2Proof.Machine.execLoomKick t s
  | .t3WatchdogExpiry t => Sys2Proof.Machine.execT3WatchdogExpiry t s
  | .loomIpiWrite v t => Sys2Proof.Machine.execLoomIpiWrite v t s
  | .loomOverrun task t => Sys2Proof.Machine.execLoomOverrun task t s
  | .overrunEndStop t => Sys2Proof.Machine.execOverrunEndStop t s
  | .loomFaultStop core mcause mepc mtval ecc t => Sys2Proof.Machine.execLoomFaultStop core mcause mepc mtval ecc t s
  | .loomAutorun t => Sys2Proof.Machine.execLoomAutorun t s
  | .loomCtrlRun t => Sys2Proof.Machine.execLoomCtrlRun t s
  | .loomRunEntry t => Sys2Proof.Machine.execLoomRunEntry t s
  | .loomCtrlStop t => Sys2Proof.Machine.execLoomCtrlStop t s
  | .loomCtrlHold t => Sys2Proof.Machine.execLoomCtrlHold t s
  | .loomCtrlResume t => Sys2Proof.Machine.execLoomCtrlResume t s
  | .debugHaltRequest t => Sys2Proof.Machine.execDebugHaltRequest t s
  | .debugBreak core pc t => Sys2Proof.Machine.execDebugBreak core pc t s
  | .overlayLegWrite n code t => Sys2Proof.Machine.execOverlayLegWrite n code t s
  | .overlayLapse h t => Sys2Proof.Machine.execOverlayLapse h t s
  | .timerPresetWrite ix v t => Sys2Proof.Machine.execTimerPresetWrite ix v t s
  | .timerExpiry ix t => Sys2Proof.Machine.execTimerExpiry ix t s
  | .stationFrameRx transport src bytes t => Sys2Proof.Machine.execStationFrameRx transport src bytes t s
  | .stationTimeout k t => Sys2Proof.Machine.execStationTimeout k t s
  | .xchgSwitch t => Sys2Proof.Machine.execXchgSwitch t s
  | .timeLreqGoWrite t => Sys2Proof.Machine.execTimeLreqGoWrite t s
  | .ialosMsBoundary t => Sys2Proof.Machine.execIalosMsBoundary t s
  | .lreqOpen seq mp sid t => Sys2Proof.Machine.execLreqOpen seq mp sid t s
  | .lreqClose seq mp t => Sys2Proof.Machine.execLreqClose seq mp t s
  | .lreqAckRecords seq upto t => Sys2Proof.Machine.execLreqAckRecords seq upto t s
  | .lreqSetField seq mp id v t => Sys2Proof.Machine.execLreqSetField seq mp id v t s
  | .lreqClearCounters seq mask t => Sys2Proof.Machine.execLreqClearCounters seq mask t s
  | .lreqCalBegin seq c t => Sys2Proof.Machine.execLreqCalBegin seq c t s
  | .lreqCalEnd seq c t => Sys2Proof.Machine.execLreqCalEnd seq c t s
  | .energySave t => Sys2Proof.Machine.execEnergySave t s
  | .ledgerReady t => Sys2Proof.Machine.execLedgerReady t s
  | .sealMeasurement n ohms t => Sys2Proof.Machine.execSealMeasurement n ohms t s
  | .bridleInputChange ix r t => Sys2Proof.Machine.execBridleInputChange ix r t s
  | .saDiscTimeout p t => Sys2Proof.Machine.execSaDiscTimeout p t s
  | .stop1DelayExpiry p t => Sys2Proof.Machine.execStop1DelayExpiry p t s
  | .imdFault t => Sys2Proof.Machine.execImdFault t s
  | .imdBlankEnd t => Sys2Proof.Machine.execImdBlankEnd t s
  | .senTestPulse low t => Sys2Proof.Machine.execSenTestPulse low t s
  | .bridleReset low high t => Sys2Proof.Machine.execBridleReset low high t s
  | .sresStuck low t => Sys2Proof.Machine.execSresStuck low t s
  | .kfCheckExpiry n t => Sys2Proof.Machine.execKfCheckExpiry n t s
  | .ckfSupervisionWindow cycles t => Sys2Proof.Machine.execCkfSupervisionWindow cycles t s
  | .bridleFault t => Sys2Proof.Machine.execBridleFault t s
  | .degradedModeExpiry t => Sys2Proof.Machine.execDegradedModeExpiry t s
  | .powerAbsentPermit t => Sys2Proof.Machine.execPowerAbsentPermit t s
  | .bridleCfgWrite offset v t => Sys2Proof.Machine.execBridleCfgWrite offset v t s
  | .bridleCfgCheck t => Sys2Proof.Machine.execBridleCfgCheck t s
  | .recArm e t => Sys2Proof.Machine.execRecArm e t s
  | .recStop e t => Sys2Proof.Machine.execRecStop e t s
  | .recForceTrigger e t => Sys2Proof.Machine.execRecForceTrigger e t s
  | .recFrame e t => Sys2Proof.Machine.execRecFrame e t s
  | .rtrigEdge t => Sys2Proof.Machine.execRtrigEdge t s
  | .recPostEnd e t => Sys2Proof.Machine.execRecPostEnd e t s
  | .recFlushExpiry e t => Sys2Proof.Machine.execRecFlushExpiry e t s
  | .historyDrained e t => Sys2Proof.Machine.execHistoryDrained e t s
  | .bobDoorbell b t => Sys2Proof.Machine.execBobDoorbell b t s
  | .bobResume b t => Sys2Proof.Machine.execBobResume b t s
  | .bobRestart b t => Sys2Proof.Machine.execBobRestart b t s
  | .bobRefetch b t => Sys2Proof.Machine.execBobRefetch b t s
  | .descriptorComplete b bad late backFail t => Sys2Proof.Machine.execDescriptorComplete b bad late backFail t s
  | .hkConversionDone raw t => Sys2Proof.Machine.execHkConversionDone raw t s
  | .hkRoundTick t => Sys2Proof.Machine.execHkRoundTick t s
  | .hkRoundEnd t => Sys2Proof.Machine.execHkRoundEnd t s
  | .hkInjectedTrigger source t => Sys2Proof.Machine.execHkInjectedTrigger source t s
  | .hkResultStale ix t => Sys2Proof.Machine.execHkResultStale ix t s
  | .calStart entry t => Sys2Proof.Machine.execCalStart entry t s
  | .calZero t => Sys2Proof.Machine.execCalZero t s
  | .calFull t => Sys2Proof.Machine.execCalFull t s
  | .calCommit t => Sys2Proof.Machine.execCalCommit t s
  | .calAbort t => Sys2Proof.Machine.execCalAbort t s
  | .calEngineRestore t => Sys2Proof.Machine.execCalEngineRestore t s
  | .calSettleExpiry t => Sys2Proof.Machine.execCalSettleExpiry t s
  | .calAveragingDone t => Sys2Proof.Machine.execCalAveragingDone t s
  | .calFlaggedReading t => Sys2Proof.Machine.execCalFlaggedReading t s
  | .calTimeout t => Sys2Proof.Machine.execCalTimeout t s
  | .calCommitDone t => Sys2Proof.Machine.execCalCommitDone t s
  | .thermalTick t => Sys2Proof.Machine.execThermalTick t s
  | .thermalRecordWrite t => Sys2Proof.Machine.execThermalRecordWrite t s
  | .thRestartWrite mask t => Sys2Proof.Machine.execThRestartWrite mask t s
  | .mramOperationDone t => Sys2Proof.Machine.execMramOperationDone t s
  | .stackResolved t => Sys2Proof.Machine.execStackResolved t s
  | .tomusPacketRx transport peer bytes t => Sys2Proof.Machine.execTomusPacketRx transport peer bytes t s
  | .spiFrame bytes bits t => Sys2Proof.Machine.execSpiFrame bytes bits t s
  | .sessionProveTimeout t => Sys2Proof.Machine.execSessionProveTimeout t s
  | .sessionIdleTimeout peer t => Sys2Proof.Machine.execSessionIdleTimeout peer t s
  | .opResultExpiry t => Sys2Proof.Machine.execOpResultExpiry t s
  | .lOperationDone opcode result t => Sys2Proof.Machine.execLOperationDone opcode result t s
  | .ping req t => Sys2Proof.Machine.execPing req t s
  | .identity req t => Sys2Proof.Machine.execIdentity req t s
  | .deviceKey req t => Sys2Proof.Machine.execDeviceKey req t s
  | .opStatus req t => Sys2Proof.Machine.execOpStatus req t s
  | .stats req t => Sys2Proof.Machine.execStats req t s
  | .sessionHello req t => Sys2Proof.Machine.execSessionHello req t s
  | .sessionProve req t => Sys2Proof.Machine.execSessionProve req t s
  | .sessionClose req t => Sys2Proof.Machine.execSessionClose req t s
  | .hostkeySet req t => Sys2Proof.Machine.execHostkeySet req t s
  | .hostkeyClear req t => Sys2Proof.Machine.execHostkeyClear req t s
  | .hostkeyList req t => Sys2Proof.Machine.execHostkeyList req t s
  | .cfgStatus req t => Sys2Proof.Machine.execCfgStatus req t s
  | .stageWrite req t => Sys2Proof.Machine.execStageWrite req t s
  | .saddleStore req t => Sys2Proof.Machine.execSaddleStore req t s
  | .tackStore req t => Sys2Proof.Machine.execTackStore req t s
  | .stackSelect req t => Sys2Proof.Machine.execStackSelect req t s
  | .saddleAck req t => Sys2Proof.Machine.execSaddleAck req t s
  | .fieldRead req t => Sys2Proof.Machine.execFieldRead req t s
  | .storeRead req t => Sys2Proof.Machine.execStoreRead req t s
  | .imgBegin req t => Sys2Proof.Machine.execImgBegin req t s
  | .imgWrite req t => Sys2Proof.Machine.execImgWrite req t s
  | .imgVerify req t => Sys2Proof.Machine.execImgVerify req t s
  | .imgActivate req t => Sys2Proof.Machine.execImgActivate req t s
  | .xchgArm req t => Sys2Proof.Machine.execXchgArm req t s
  | .xchgCancel req t => Sys2Proof.Machine.execXchgCancel req t s
  | .imgStatus req t => Sys2Proof.Machine.execImgStatus req t s
  | .loomkeySet req t => Sys2Proof.Machine.execLoomkeySet req t s
  | .runStatus req t => Sys2Proof.Machine.execRunStatus req t s
  | .loomRun req t => Sys2Proof.Machine.execLoomRun req t s
  | .loomStop req t => Sys2Proof.Machine.execLoomStop req t s
  | .loomHold req t => Sys2Proof.Machine.execLoomHold req t s
  | .loomResume req t => Sys2Proof.Machine.execLoomResume req t s
  | .kernelCmd req t => Sys2Proof.Machine.execKernelCmd req t s
  | .faultClear req t => Sys2Proof.Machine.execFaultClear req t s
  | .thermalRestart req t => Sys2Proof.Machine.execThermalRestart req t s
  | .memRead req t => Sys2Proof.Machine.execMemRead req t s
  | .memWrite req t => Sys2Proof.Machine.execMemWrite req t s
  | .mtrOpen req t => Sys2Proof.Machine.execMtrOpen req t s
  | .mtrClose req t => Sys2Proof.Machine.execMtrClose req t s
  | .mtrAckRecords req t => Sys2Proof.Machine.execMtrAckRecords req t s
  | .mtrClearCounters req t => Sys2Proof.Machine.execMtrClearCounters req t s
  | .mtrRead req t => Sys2Proof.Machine.execMtrRead req t s
  | .mtrRecord req t => Sys2Proof.Machine.execMtrRecord req t s
  | .mtrKeys req t => Sys2Proof.Machine.execMtrKeys req t s
  | .recCmd req t => Sys2Proof.Machine.execRecCmd req t s
  | .recStatus req t => Sys2Proof.Machine.execRecStatus req t s
  | .recBlockRead req t => Sys2Proof.Machine.execRecBlockRead req t s
  | .recBlockRelease req t => Sys2Proof.Machine.execRecBlockRelease req t s
  | .gateTest req t => Sys2Proof.Machine.execGateTest req t s
  | .selftest req t => Sys2Proof.Machine.execSelftest req t s
  | .calCmd req t => Sys2Proof.Machine.execCalCmd req t s
  | .calExport req t => Sys2Proof.Machine.execCalExport req t s
  | .calRestore req t => Sys2Proof.Machine.execCalRestore req t s
  | .rsmCoefWrite req t => Sys2Proof.Machine.execRsmCoefWrite req t s
  | .rsmSwitch req t => Sys2Proof.Machine.execRsmSwitch req t s
  | .timeRead req t => Sys2Proof.Machine.execTimeRead req t s
  | .timeSet req t => Sys2Proof.Machine.execTimeSet req t s
  | .pairStatus req t => Sys2Proof.Machine.execPairStatus req t s
  | .pairYield req t => Sys2Proof.Machine.execPairYield req t s
  | .pairTakeback req t => Sys2Proof.Machine.execPairTakeback req t s
  | .eventRead req t => Sys2Proof.Machine.execEventRead req t s
  | .logbookRead req t => Sys2Proof.Machine.execLogbookRead req t s
  | .thermalRead req t => Sys2Proof.Machine.execThermalRead req t s
  | .ethFrameRx n frame ts tx t => Sys2Proof.Machine.execEthFrameRx n frame ts tx t s
  | .prpSupervisionTx t => Sys2Proof.Machine.execPrpSupervisionTx t s
  | .canFrameRx c ident ext fd room bytes t => Sys2Proof.Machine.execCanFrameRx c ident ext fd room bytes t s
  | .canBusOff c t => Sys2Proof.Machine.execCanBusOff c t s
  | .canBusOffRecovery c t => Sys2Proof.Machine.execCanBusOffRecovery c t s
  | .ptpSyncRx n msg ts t => Sys2Proof.Machine.execPtpSyncRx n msg ts t s
  | .ptpAnnounceRx n msg t => Sys2Proof.Machine.execPtpAnnounceRx n msg t s
  | .ptpPdelayRx n msg ts tx t => Sys2Proof.Machine.execPtpPdelayRx n msg ts tx t s
  | .ptpIntervalTx n tsSync tsReq t => Sys2Proof.Machine.execPtpIntervalTx n tsSync tsReq t s
  | .ptpSyncTimeout t => Sys2Proof.Machine.execPtpSyncTimeout t s
  | .holdoverExpiry t => Sys2Proof.Machine.execHoldoverExpiry t s
  | .ialosSecondBoundary t => Sys2Proof.Machine.execIalosSecondBoundary t s
  | .tppsFall t => Sys2Proof.Machine.execTppsFall t s
  | .filutFrameRx bytes start t => Sys2Proof.Machine.execFilutFrameRx bytes start t s
  | .filutLinkDown t => Sys2Proof.Machine.execFilutLinkDown t s
  | .filutSegmentTx t => Sys2Proof.Machine.execFilutSegmentTx t s
  | .phandNFall t => Sys2Proof.Machine.execPhandNFall t s
  | .pownNRise t => Sys2Proof.Machine.execPownNRise t s
  | .handoverTimeout t => Sys2Proof.Machine.execHandoverTimeout t s
  | .silentTakeover t => Sys2Proof.Machine.execSilentTakeover t s
  | .takeoverBoundary t => Sys2Proof.Machine.execTakeoverBoundary t s
  | .takebackRequest t => Sys2Proof.Machine.execTakebackRequest t s
  | .pairStart low lowThen t => Sys2Proof.Machine.execPairStart low lowThen t s
  | .redCtrlYield t => Sys2Proof.Machine.execRedCtrlYield t s
  | .redCtrlInhibit t => Sys2Proof.Machine.execRedCtrlInhibit t s
  | .redCtrlAllow t => Sys2Proof.Machine.execRedCtrlAllow t s
  | .vinValid t => Sys2Proof.Machine.execVinValid t s
  | .vinfDeclared t => Sys2Proof.Machine.execVinfDeclared t s
  | .vinfClear t => Sys2Proof.Machine.execVinfClear t s
  | .vinfGraceExpiry t => Sys2Proof.Machine.execVinfGraceExpiry t s
  | .vinfShedTimeout t => Sys2Proof.Machine.execVinfShedTimeout t s
  | .powerFailFinalWrite mv t => Sys2Proof.Machine.execPowerFailFinalWrite mv t s
  | .holdup12v t => Sys2Proof.Machine.execHoldup12v t s
  | .holdupFull t => Sys2Proof.Machine.execHoldupFull t s
  | .vbakLoss t => Sys2Proof.Machine.execVbakLoss t s
  | .pwrDomainOn n t => Sys2Proof.Machine.execPwrDomainOn n t s
  | .pwrDomainOff n steward t => Sys2Proof.Machine.execPwrDomainOff n steward t s
  | .pwrDomainCycle n steward t => Sys2Proof.Machine.execPwrDomainCycle n steward t s
  | .pd11CycleRestart t => Sys2Proof.Machine.execPd11CycleRestart t s
  | .pwrSleepLevel1 t => Sys2Proof.Machine.execPwrSleepLevel1 t s
  | .pwrSleepLevel2 t => Sys2Proof.Machine.execPwrSleepLevel2 t s
  | .pwrSleepExit t => Sys2Proof.Machine.execPwrSleepExit t s
  | .wakeNLow low t => Sys2Proof.Machine.execWakeNLow low t s
  | .rtcAlarm t => Sys2Proof.Machine.execRtcAlarm t s
  | .pinReset low t => Sys2Proof.Machine.execPinReset low t s
  | .stewardWatchdogExpiry idle t => Sys2Proof.Machine.execStewardWatchdogExpiry idle t s
  | .softwareReset v t => Sys2Proof.Machine.execSoftwareReset v t s
  | .coreSupervisorReset low t => Sys2Proof.Machine.execCoreSupervisorReset low t s
  | .startupStep t => Sys2Proof.Machine.execStartupStep t s
  | .unitReady t => Sys2Proof.Machine.execUnitReady t s
  | .lockDeclared mv t => Sys2Proof.Machine.execLockDeclared mv t s
  | .lossOfLock digital mv held t => Sys2Proof.Machine.execLossOfLock digital mv held t s
  | .lossOfReference t => Sys2Proof.Machine.execLossOfReference t s
  | .lockfFilterFault mv t => Sys2Proof.Machine.execLockfFilterFault mv t s
  | .referenceRecovered t => Sys2Proof.Machine.execReferenceRecovered t s
  | .relockHoldExpiry t => Sys2Proof.Machine.execRelockHoldExpiry t s
  | .gateIslandLinkLost c t => Sys2Proof.Machine.execGateIslandLinkLost c t s
  | .gateIslandSupplyUp c t => Sys2Proof.Machine.execGateIslandSupplyUp c t s
  | .ethLinkChange n up speed t => Sys2Proof.Machine.execEthLinkChange n up speed t s
  | .ptpAnnounceTimeout n t => Sys2Proof.Machine.execPtpAnnounceTimeout n t s
  | .redStartWaitExpiry low lowThen t => Sys2Proof.Machine.execRedStartWaitExpiry low lowThen t s
  | .filtFltClear mv t => Sys2Proof.Machine.execFiltFltClear mv t s

end Sys2Proof.Machine
end

