-- ==== Sys2Proof/Safety.lean ====
section
/-! DEFINITION. What holds of every state that a run reaches, in the terms that claims use: the canonical forms of the
register file, of the memories and of what waits to be transferred; and how a command completes. -/

namespace Sys2Proof.Machine

open Sys2Proof

/-- The register file in its canonical form (R6): addresses strictly rising, and no register listed at its reset
value. -/
def Registers.wf (l : List (Nat × Word)) : Bool := Sparse.wf RegMap.resetValue l

/-- The sparse data of a unit in their canonical forms: registers, memory, field values, and the shadows with addresses
strictly rising. -/
def Device.canonical (d : Device) : Bool :=
  Registers.wf d.regs && Memory.wf d.mem && Sparse.wf FieldMap.defaultOf d.fields && Sparse.rising d.shadow

/-- A command completes: it answers a next state, in which the queue is as it was and the unit is as `P` says. -/
def Completes (i : Instr) (s : State) (P : Device → Prop) : Prop :=
  ∃ d, exec i s = .next { s with dev := d } ∧ P d

/-! ### A Tomus request that is executed (R327 to R343) -/

/-- The unit with a request taken from the front of B0, where it waits there. -/
def taken (r : Req) (d : Device) : Device :=
  if d.tomus.b0.head? = some r then updTomus d (fun s => { s with b0 := s.b0.drop 1 }) else d

/-- The unit in which the opcode of a request executes: a request of a session is first counted as its last (R339,
R340). -/
def served (r : Req) (under : Option Session') (t : Nat) (d : Device) : Device :=
  match under with
  | none => d
  | some _ => updSession d r.peer (fun s =>
      { s with seq := r.seq, opcode := r.opcode, reply := [], count := s.count + 1, lastAt := t, bad := 0 })

/-- The conditions under which a request is neither a repeat nor refused: the server is up, the version is 1, it comes
without a session or under the next number and the tag of its own, and no check of R330 to R342 refuses it. -/
def Accepts (d : Device) (r : Req) (under : Option Session') (t : Nat) : Prop :=
  tomusUp d r.transport = true ∧ r.retry = false ∧ r.version = 1 ∧ isRepeat d r = false ∧
  (match under with
    | none => r.auth = false
    | some s => r.auth = true ∧ r.transport ≤ 2 ∧ sessionOf d r.peer = some s ∧ r.tag = tagOf s r.head ∧
        ¬ (r.seq = s.seq ∧ r.opcode = s.opcode) ∧ r.seq = (s.seq + 1) % 65536) ∧
  refusal (served r under t d) r = 0

/-- Whether a reply with so many bytes of data goes into one packet of the transport (R331). -/
def Fits (r : Req) (under : Option Session') (n : Nat) : Prop := replyLength under n ≤ packetLimit r.transport

/-- The unit after an answer: the reply is sent and kept, or waits; a session that has executed its last request ends; and
the server answers alone what it can of B0 (R334, R340). -/
def answered (r : Req) (under : Option Session') (t : Nat) (a : Answer) : Device :=
  let d := match a.wait with
    | some k => updTomus a.dev (fun s => { s with waits := s.waits ++ [⟨r, k⟩] })
    | none => reply r under a.status a.data a.dev
  drain t 16 (match under with
    | none => d
    | some _ => sessionSpent r.peer d)

/-- A command of the Tomus server completes: every request of its opcode that the server accepts, that meets `pre`, and
whose answer goes into one packet, is answered with `answer`. -/
def Serves (i : Req → Nat → Instr) (opcode : Nat) (pre : Req → Nat → Device → Prop) (answer : Req → Nat → Device → Answer) :
    Prop :=
  ∀ (s : State) (t : Nat) (req r : Req) (under : Option Session') (d e : Device),
    r = { req with opcode := opcode } → d = taken r (at50 s.dev t) → Accepts d r under t → e = served r under t d →
    pre r t e → Fits r under (answer r t e).data.length →
    exec (i req t) s = .next { s with dev := answered r under t (answer r t e) }

/-- The same of a command after which the server settles what waits for another block. -/
def ServesAndSettles (i : Req → Nat → Instr) (opcode : Nat) (pre : Req → Nat → Device → Prop)
    (answer : Req → Nat → Device → Answer) : Prop :=
  ∀ (s : State) (t : Nat) (req r : Req) (under : Option Session') (d e : Device),
    r = { req with opcode := opcode } → d = taken r (at50 s.dev t) → Accepts d r under t → e = served r under t d →
    pre r t e → Fits r under (answer r t e).data.length →
    exec (i req t) s = .next { s with dev := settle t (answered r under t (answer r t e)) }

end Sys2Proof.Machine
end

