-- ==== Sys2Proof/Certificates/Slice0/Obligations.lean ====
section
/-! DEFINITION. The statements for the provers. Those about a command's effect conclude with the whole next state, so that
what it leaves unchanged is stated with what it changes. -/

open Sys2Proof Sys2Proof.Machine

/-- A step with a command at the front of the queue is that command's effect on the state with the rest of the queue; on
an empty queue the unit idles (log 2, the model's choice). -/
def Obligations.StepRunsTheFrontCommand : Prop :=
  (∀ (c : Instr) (s : State) (rest : List Instr), s.pending = c :: rest → step s = exec c { s with pending := rest }) ∧
  (∀ s : State, s.pending = [] → step s = .next s)

/-- Every command completes in every state, and leaves the queue as it was: no command ends in a fault or a refusal. -/
def Obligations.EveryCommandCompletes : Prop :=
  ∀ (i : Instr) (s : State), ∃ d, exec i s = .next { s with dev := d }

/-- A queue of waiting commands is served to its end, in order: after as many steps as commands wait none waits, and after
fewer steps the rest of the queue waits. The commands are those of any sender, and the state any state. -/
def Obligations.EveryWaitingQueueIsServed : Prop :=
  ∀ (s : State) (k : Nat), ∃ d, Sys2Proof.core.run k s = .next { dev := d, pending := s.pending.drop k }

/-- From every state whose register file, memory, field values and shadows are in canonical form, every step leads to such
a state (R6; that the sparse data has one form is the model's own). -/
def Obligations.EveryStepKeepsTheCanonicalForm : Prop :=
  ∀ s s' : State, s.dev.canonical = true → step s = .next s' → s'.dev.canonical = true

/-- Reset (R94, R153, R194, R287): nothing waits and the sparse data is canonical; the loom is in STOP, `GATE_OWN.MODE` is
0, every channel of the gate block is HIZ, every engine is IDLE and every bobbin DISABLED, and no register differs from its
reset value. -/
def Obligations.ResetIsCanonical : Prop :=
  State.reset.pending = [] ∧ State.reset.dev.canonical = true ∧ loomMode State.reset.dev = .stop ∧
  rdF State.reset.dev Addr.GATE_OWN 0 2 = 0 ∧ (∀ a, rd State.reset.dev a = RegMap.resetValue a) ∧
  (∀ b : Fin 16, bobState State.reset.dev b.1 = 0) ∧ (∀ e : Fin 4, recState State.reset.dev e.1 = 0)

/-- R13. A read of the high word of a 64-bit register, whatever came before, answers the initiator's own shadow; only a
read of a low word latches, and only into the shadow of the initiator that reads; so a register written since leaves the
shadow as it was latched, and the word may be stale. -/
def Obligations.AHighWordComesFromTheShadow : Prop :=
  (∀ (s : State) (t : Nat) (d : Device) (i : Fin 9) (a b : Nat),
    d = at50 s.dev t → target a = .block b → isHigh a = true → accessCause d i false 4 a = 0 →
    Completes (.lowWordRead i 4 a t) s (fun e => e.busData = BitVec.ofNat 64 (d.hiShadow[i.1]).toNat)) ∧
  (∀ (d : Device) (i j : Fin 9) (a t : Nat),
    (regRead i a t d).2.hiShadow[j.1] =
      if isLow a = true ∧ j = i then shown d (a + 4) t else d.hiShadow[j.1]) ∧
  (∀ (d : Device) (a : Nat) (v : Word), (wr d a v).hiShadow = d.hiShadow)

/-- R30. Atomic operations run on shared SRAM and on a core's own DTCM: the old word is answered and the new one stored; a
load-reserve takes the one reservation of its core, on the 8-byte granule; a store-conditional stores only under it; and a
write clears the reservations that other initiators hold on the granules it touches, and no others. -/
def Obligations.ReservationsAndAtomics : Prop :=
  (∀ i : Fin 9, i.1 < 5 → amoTarget i .sram = true) ∧
  (∀ (i : Fin 9) (n : Nat), amoTarget i (.dtcm n) = (i.1 == n)) ∧
  (∀ (s : State) (t : Nat) (d : Device) (i : Fin 9) (op : BusOp) (a : Nat) (v : DWord),
    d = at50 s.dev t → op ≠ .store → op ≠ .lr → op ≠ .sc → i.1 < 5 → amoTarget i (target a) = true →
    accessCause d i true 4 a = 0 →
    exec (.registerWrite i op 4 a v t) s = .next { s with dev := (
      { breakResv (resvOf i) a 4 (putBytes d a (bytesLE 4 (amoValue op (word (memNat d a 4)) (v.setWidth 32)).toNat)) with
        busData := (word (memNat d a 4)).setWidth 64 }) }) ∧
  (∀ (s : State) (t : Nat) (d : Device) (i : Fin 9) (k : Fin 5) (a : Nat) (v : DWord),
    d = at50 s.dev t → i.1 = k.1 → amoTarget i (target a) = true → accessCause d i false 4 a = 0 →
    exec (.registerWrite i .lr 4 a v t) s = .next { s with dev := (
      { d with resv := d.resv.set k.1 (some (a / 8)), busData := (word (memNat d a 4)).setWidth 64 }) }) ∧
  (∀ (s : State) (t : Nat) (d : Device) (i : Fin 9) (k : Fin 5) (a : Nat) (v : DWord),
    d = at50 s.dev t → i.1 = k.1 → amoTarget i (target a) = true → accessCause d i true 4 a = 0 →
    exec (.registerWrite i .sc 4 a v t) s = .next { s with dev := (
      let e := { d with resv := d.resv.set k.1 none }
      if d.resv[k.1] = some (a / 8) then
        { breakResv (resvOf i) a 4 (putBytes e a (bytesLE 4 (v.setWidth 32).toNat)) with busData := 0 }
      else { e with busData := 1 }) }) ∧
  (∀ (d : Device) (own : Option (Fin 5)) (a n g : Nat) (c : Fin 5), 0 < n → d.resv[c.1] = some g →
    (own ≠ some c ∧ (∃ x, a ≤ x ∧ x < a + n ∧ x / 8 = g) → (breakResv own a n d).resv[c.1] = none) ∧
    (own = some c ∨ (∀ x, a ≤ x → x < a + n → x / 8 ≠ g) → (breakResv own a n d).resv[c.1] = some g)) ∧
  (∀ (s : State) (t : Nat) (d : Device) (i : Fin 9) (width a : Nat) (v : DWord),
    d = at50 s.dev t → target a ≠ .mram → (∀ b, target a ≠ .block b) → accessCause d i true width a = 0 →
    exec (.registerWrite i .store width a v t) s = .next { s with dev := (
      breakResv (resvOf i) a width (putBytes d a (bytesLE width v.toNat))) }) ∧
  (∀ (d : Device) (a : Nat) (bs : List Byte), dmaPut d a bs = breakResv none a bs.length (putBytes d a bs))

/-- R297. Every thermal tick judges every leg that belongs to a harness: a junction above `TH_TJ_WARN` of the harness sets
the bit of the leg, with an event and the pre-warning trigger, once; the bit clears at 2 °C below the limit. -/
def Obligations.TheThermalWarning : Prop :=
  (∀ (d : Device) (n : Fin 24) (h : Nat), legHarness d n.1 = some h → rdB d Addr.TH_WARN n.1 = false →
    (rdF d (Addr.TH_TJLIM h) 0 16 : Int) * sixteenth < junction d n →
    legWarn d n = hkTrigger (raise (wrB d Addr.TH_WARN n.1 true) .thermalWarning n.1) 1) ∧
  (∀ (d : Device) (n : Fin 24) (h : Nat), legHarness d n.1 = some h → rdB d Addr.TH_WARN n.1 = false →
    junction d n ≤ (rdF d (Addr.TH_TJLIM h) 0 16 : Int) * sixteenth → legWarn d n = d) ∧
  (∀ (d : Device) (n : Fin 24) (h : Nat), legHarness d n.1 = some h → rdB d Addr.TH_WARN n.1 = true →
    junction d n ≤ ((rdF d (Addr.TH_TJLIM h) 0 16 : Int) - 2 * 16) * sixteenth →
    legWarn d n = wrB d Addr.TH_WARN n.1 false) ∧
  (∀ (d : Device) (n : Fin 24) (h : Nat), legHarness d n.1 = some h → rdB d Addr.TH_WARN n.1 = true →
    ((rdF d (Addr.TH_TJLIM h) 0 16 : Int) - 2 * 16) * sixteenth < junction d n → legWarn d n = d) ∧
  (∀ (s : State) (t : Nat) (d : Device), d = at50 s.dev t → domOn d 1 = true → rdB d Addr.TH_CFG 0 = true →
    ∃ x : Device, (∀ n, rdB x Addr.TH_WARN n = rdB d Addr.TH_WARN n) ∧
      (∀ h, h < 4 → rdF x (Addr.TH_TJLIM h) 0 16 = rdF d (Addr.TH_TJLIM h) 0 16) ∧
      exec (.thermalTick t) s = .next { s with dev := thCompare (each (List.finRange 24) legWarn x) t })

/-- The shared SRAM reads back what was stored (R20, R26): a store by one initiator changes the bytes it names and no other,
and a read of the same width at the same address by any initiator, at any instant after it, answers the stored bytes. -/
def Obligations.TheSramReadsBackWhatWasStored : Prop :=
  (∀ (s s' : State) (t : Nat) (i : Fin 9) (width a x : Nat) (v : DWord),
    target a = .sram → accessCause (at50 s.dev t) i true width a = 0 →
    exec (.registerWrite i .store width a v t) s = .next s' → x < a ∨ a + width ≤ x → memByte s'.dev x = memByte s.dev x) ∧
  (∀ (s s' : State) (t u : Nat) (i j : Fin 9) (width a : Nat) (v : DWord),
    target a = .sram → accessCause (at50 s.dev t) i true width a = 0 →
    exec (.registerWrite i .store width a v t) s = .next s' → accessCause (at50 s'.dev u) j false width a = 0 →
    Completes (.lowWordRead j width a u) s' (fun e => e.busData.toNat = v.toNat % 256 ^ width ∧ e.mem = s'.dev.mem))

/-- Accesses through the fabric (R6, R9, R12, R22, R26, R30): what a carried-out store, a clearing read and a read of a
low word do, and what a failed access leaves. -/
def Obligations.AccessesThroughTheFabric : Prop :=
  (∀ (s : State) (t : Nat) (d : Device) (i : Fin 9) (a b : Nat) (v : DWord) (r : RegRow),
    d = at50 s.dev t → target a = .block b → RegMap.row? a = some r → r.kind ≠ .committed → r.kind ≠ .config →
    accessCause d i true 4 a = 0 → commandWrite i a (v.setWidth 32) t d = none →
    exec (.registerWrite i .store 4 a v t) s = .next { s with dev := (
      wr d a (mergeBits r.rw (rd d a) (v.setWidth 32) &&& ~~~(v.setWidth 32 &&& word r.w1c))) }) ∧
  (∀ (s : State) (t : Nat) (d : Device) (i : Fin 9) (width a : Nat) (v : DWord),
    d = at50 s.dev t → target a = .sram → accessCause d i true width a = 0 →
    exec (.registerWrite i .store width a v t) s = .next { s with dev := (
      breakResv (resvOf i) a (bytesLE width v.toNat).length (putBytes d a (bytesLE width v.toNat))) }) ∧
  (∀ (s : State) (t : Nat) (d : Device) (i : Fin 9) (width a : Nat) (v : DWord),
    d = at50 s.dev t → accessCause d i true width a = 1 →
    exec (.registerWrite i .store width a v t) s = .next { s with dev := (busError i a true 1 d) }) ∧
  (∀ (s : State) (t : Nat) (d : Device) (i : Fin 9) (a b : Nat) (r : RegRow),
    d = at50 s.dev t → target a = .block b → RegMap.row? a = some r → r.rc = true → isLow a = false → isHigh a = false →
    (i = steward ∨ a / 0x10000 ≠ 0x4000) → accessCause d i false 4 a = 0 →
    exec (.rcFieldRead i 4 a t) s = .next { s with dev := (
      { clearCount d a with busData := BitVec.ofNat 64 (shown d a t).toNat }) }) ∧
  (∀ (s : State) (t : Nat) (d : Device) (i : Fin 9) (a b : Nat) (r : RegRow),
    d = at50 s.dev t → target a = .block b → RegMap.row? a = some r → r.rc = false → isLow a = true → isHigh a = false →
    accessCause d i false 4 a = 0 →
    exec (.lowWordRead i 4 a t) s = .next { s with dev := (
      { d with hiShadow := d.hiShadow.set i.1 (shown d (a + 4) t), busData := BitVec.ofNat 64 (shown d a t).toNat }) }) ∧
  (∀ (s : State) (t : Nat) (d : Device) (i : Fin 9) (write : Bool) (a : Nat),
    d = at50 s.dev t → domOn d 1 = true → rdB d Addr.SYS_BUSERR_INFO 31 = false →
    exec (.targetNoResponse i write a t) s = .next { s with dev := (
      wrN (wrN (count d Addr.SYS_BUSERR_CNT) Addr.SYS_BUSERR_ADDR a) Addr.SYS_BUSERR_INFO
        (2 ^ 31 + 256 * 3 + 16 * write.toNat + i.1)) }) ∧
  (∀ (s : State) (t : Nat) (d : Device) (single : Nat),
    d = at50 s.dev t → domOn d 1 = true → 0 < single → single < fieldN d 0x0102 →
    exec (.sramScrubPass single 0 t) s = .next { s with dev := (countBy d Addr.SYS_ECC_CE_CNT single) }) ∧
  (∀ (s : State) (t : Nat) (d : Device) (double : Nat),
    d = at50 s.dev t → domOn d 1 = true → 0 < double → 0 < fieldN d 0x0102 →
    exec (.sramScrubPass 0 double t) s = .next { s with dev := (selfDiag (countBy d Addr.SYS_ECC_UE_CNT double) 3 t) }) ∧
  (∀ (s : State) (t : Nat) (d : Device) (v : Word),
    d = at50 s.dev t → domOn d 1 = true → bit v 0 = true → transferNow d = false →
    exec (.cfgApplyWrite v t) s = .next { s with dev := (
      { wrB d Addr.SYS_CFG_STAT 0 true with cfg := { d.cfg with applyAt := some (d.cfg.applyAt.getD t) } }) }) ∧
  (∀ (s : State) (t : Nat) (d : Device) (v : Word),
    d = at50 s.dev t → domOn d 1 = true → bit v 0 = true → transferNow d = true →
    exec (.cfgApplyWrite v t) s = .next { s with dev := (shadowTransfer t d) })

/-- The tasks of the loom at work (R32, R189 to R193, R197): the deadline, the release of an instance to a core, the
completion word, an append to a commit buffer, T3's flush and kick, and the software interrupts. -/
def Obligations.TheTasksOfTheLoom : Prop :=
  (∀ (s : State) (t : Nat) (d : Device),
    d = at50 s.dev t → domOn d 1 = true → domOn d 5 = true →
    exec (.t0Deadline t) s = .next { s with dev := settle t (forwardedApply t (boundary t d)) }) ∧
  (∀ (s : State) (t : Nat) (d : Device) (task core : Fin 4) (ws : List Word),
    d = at50 s.dev t → domOn d 1 = true →
    d.loom.latched.find? (fun l => l.1 == task.1 && l.2.1 == core.1) = some (task.1, core.1, ws) →
    (ws.getD 1 0).getLsbD 4 = false →
    exec (.taskRelease task core t) s = .next { s with dev := (
      setMip (updTask
        (let e := each ws.zipIdx (fun e w =>
          dmaPutNat e (dtcmBase core.1 + [0, 0x800, 0x1040, 0x1880].getD task.1 0 + 4 * w.2) 4 w.1.toNat) d
        { e with loom := { e.loom with
            latched := e.loom.latched.filter (fun l => !(l.1 == task.1 && l.2.1 == core.1)) } })
        task (fun k => { k with released := k.released ||| 2 ^ core.1 })) core (16 + task.1) true) }) ∧
  (∀ (s : State) (t : Nat) (d : Device) (core task : Fin 4),
    d = at50 s.dev t → domOn d 1 = true → loomMode d ≠ .stop → (d.loom.tasks[task.1]).active = true →
    (taskCores d task.1).testBit core.1 = true → coreHalted d core = false → d.loom.overrun = none →
    exec (.loomDoneWrite core task t) s = .next { s with dev := (
      updTask (setMip d core (16 + task.1) false) task (fun k => { k with done := k.done ||| 2 ^ core.1 })) }) ∧
  (∀ (s : State) (t : Nat) (d : Device) (core task : Fin 4) (a : Nat) (v : Word),
    d = at50 s.dev t → domOn d 1 = true → coreHalted d core = false → loomMode d ≠ .stop → task ≠ 3 →
    (d.loom.tasks[task.1]).active = true → (d.loom.tasks[task.1]).released.testBit core.1 = true →
    (d.loom.tasks[task.1]).done.testBit core.1 = false → committedReg a = true →
    (d.loom.tasks[task.1]).buffer.length < 256 →
    exec (.loomCbAppend core task a v t) s = .next { s with dev := (
      showLevel (updTask (updTask d task (fun k => { k with addr := word a })) task
        (fun k => { k with buffer := k.buffer ++ [⟨a, v⟩] })) task) }) ∧
  (∀ (s : State) (t : Nat) (d : Device),
    d = at50 s.dev t → domOn d 1 = true →
    exec (.loomCbFlush3 t) s = .next { s with dev := { d with loom := { d.loom with flush3 := true } } }) ∧
  (∀ (s : State) (t : Nat) (d : Device),
    d = at50 s.dev t → domOn d 1 = true →
    exec (.loomKick t) s = .next { s with dev := { d with loom := { d.loom with kickAt := t, t3Missed := false } } }) ∧
  (∀ (s : State) (t : Nat) (d : Device) (v : Word),
    d = at50 s.dev t → domOn d 1 = true →
    exec (.loomIpiWrite v t) s = .next { s with dev := (
      each (List.finRange 4) (fun e c => setMip e c 3 (bit v c.1)) (wrN d Addr.LOOM_IPI (field v 0 4))) })

/-- The modes of the loom (R194, R195, R203, R204): how it starts, enters RUN at a boundary, stops, holds and
resumes. -/
def Obligations.TheModesOfTheLoom : Prop :=
  (∀ (s : State) (t : Nat) (d : Device),
    d = at50 s.dev t → domOn d 1 = true → unitReady d = true → rdB d Addr.LOOM_CFG 0 = true → d.cfg.degraded = false →
    d.loom.everRun = false → exec (.loomAutorun t) s = .next { s with dev := runStart 1 t d }) ∧
  (∀ (s : State) (t : Nat) (d : Device),
    d = at50 s.dev t → domOn d 1 = true → loomMode d = .stop → d.loom.change = none → mayRun d = true →
    exec (.loomCtrlRun t) s = .next { s with dev := (
      let code := imageCode d (loomBank d) false
      let i := readImage d (loomBank d)
      if code = 0 then
        let e := showLoaded (loadImage (showImage d 0) i) i
        let e := stationsInit t (objectsInit { e with loom := { e.loom with image := some i } } i)
        { e with loom := { e.loom with change := some ⟨2, true⟩, paramReq := true } }
      else opFinish (showImage d code) [0x0301] (0x8400 + code) 100 t) }) ∧
  (∀ (s : State) (t : Nat) (d : Device) (c : RunChange),
    d = at50 s.dev t → domOn d 1 = true → domOn d 5 = true → d.loom.change = some c → c.loaded = true →
    loomMode d = .stop →
    exec (.loomRunEntry t) s = .next { s with dev := settle t (boundary t d) }) ∧
  (∀ (s : State) (t : Nat) (d : Device),
    d = at50 s.dev t → domOn d 1 = true → loomMode d ≠ .stop →
    exec (.loomCtrlStop t) s = .next { s with dev := settle t (enterStop 3 t d) }) ∧
  (∀ (s : State) (t : Nat) (d : Device) (c : RunChange),
    d = at50 s.dev t → domOn d 1 = true → loomMode d = .stop → d.loom.change = some c →
    exec (.loomCtrlStop t) s = .next { s with dev := (
      settle t (opFinish { d with loom := { d.loom with change := none } } [0x0301] 0x000D 100 t)) }) ∧
  (∀ (s : State) (t : Nat) (d : Device),
    d = at50 s.dev t → domOn d 1 = true → loomMode d = .run → rdB d Addr.LOOM_CFG 1 = true → redState d ≠ 2 →
    exec (.loomCtrlHold t) s = .next { s with dev := settle t (enterHold 6 t d) } ∧
    exec (.debugHaltRequest t) s = .next { s with dev := settle t (enterHold 7 t d) }) ∧
  (∀ (s : State) (t : Nat) (d : Device),
    d = at50 s.dev t → domOn d 1 = true → loomMode d = .hold →
    exec (.loomCtrlResume t) s = .next { s with dev := { d with loom := { d.loom with resume := true } } })

/-- What STOP and HOLD leave (R194, R195, R203): the mode and its cause are those asked for at the moment the mode
changes; after STOP no instance, overrun, change or kernel command is left, and every core is in reset; in HOLD every core is
halted. -/
def Obligations.WhatStopAndHoldLeave : Prop :=
  (∀ (d : Device) (cause t : Nat), d.cfg.applyAt = none →
    let e := enterStop cause t d
    e.loom.change = none ∧ e.loom.overrun = none ∧ e.loom.kernelCmd = none ∧ e.loom.flush3 = false ∧ e.loom.latched = [] ∧
    (∀ k : Fin 4, (e.loom.tasks[k.1]).active = false ∧ (e.loom.tasks[k.1]).released = 0 ∧ (e.loom.tasks[k.1]).buffer = []) ∧
    (∀ c : Fin 4, (e.cores[c.1]).halted = true ∧ (e.cores[c.1]).mip = 0)) ∧
  (∀ (d : Device) (cause : Nat), cause < 256 →
    rdF (setMode d 0 cause) Addr.LOOM_MODE 0 2 = 0 ∧ rdF (setMode d 0 cause) Addr.LOOM_MODE 8 8 = cause ∧
    loomMode (setMode d 0 cause) = .stop ∧ loomMode (setMode d 1 cause) = .run ∧ loomMode (setMode d 2 cause) = .hold) ∧
  (∀ (d : Device) (cause t : Nat), loomMode d = .run → rdB d Addr.LOOM_CFG 1 = true → redState d ≠ 2 →
    let e := enterHold cause t d
    e.loom.overrun = none ∧ e.loom.kernelCmd = none ∧ e.loom.latched = [] ∧ (∀ c : Fin 4, (e.cores[c.1]).halted = true))

/-- Overruns, faults and breaks of a program (R187, R196, R197, R203). -/
def Obligations.OverrunsFaultsAndBreaks : Prop :=
  (∀ (s : State) (t : Nat) (d : Device) (i : LoomImage),
    d = at50 s.dev t → domOn d 1 = true → d.loom.image = some i → i.t3Wdog ≠ 0 → loomMode d = .run →
    d.loom.overrun = none → d.loom.kickAt + us i.t3Wdog ≤ t →
    (∀ k : Fin 4, (d.loom.tasks[k.1]).active = false) → bitsOf 4 (taskCores d 3) ≠ [] →
    (d.loom.tasks[3]).tolOk = true → d.loom.t3Missed = false →
    exec (.t3WatchdogExpiry t) s = .next { s with dev := (
      count { d with loom := { d.loom with t3Missed := true, kickAt := d.loom.kickAt + us i.t3Wdog } } Addr.LOOM_TOL_CNT) }) ∧
  (∀ (s : State) (t : Nat) (d : Device) (i : LoomImage),
    d = at50 s.dev t → domOn d 1 = true → d.loom.image = some i → i.t3Wdog ≠ 0 → loomMode d = .run →
    d.loom.overrun = none → d.loom.kickAt + us i.t3Wdog ≤ t →
    (∀ k : Fin 4, (d.loom.tasks[k.1]).active = false) → bitsOf 4 (taskCores d 3) ≠ [] →
    ((d.loom.tasks[3]).tolOk = false ∨ d.loom.t3Missed = true) →
    exec (.t3WatchdogExpiry t) s = .next { s with dev := overrunBegin 3 t d }) ∧
  (∀ (s : State) (t : Nat) (d : Device),
    d = at50 s.dev t → domOn d 1 = true → loomMode d = .run → d.loom.overrun = none →
    (d.loom.tasks[2]).active = true → taskComplete d 2 = false → doneLimit (taskDeadline d 2) ≤ t →
    (d.loom.tasks[2]).extended = false → (d.loom.tasks[2]).tolOk = true → (d.loom.tasks[2]).tolUsed = false →
    exec (.loomOverrun 2 t) s = .next { s with dev := (
      count (updTask d 2 (fun k => { k with extended := true, tolUsed := true })) Addr.LOOM_TOL_CNT) }) ∧
  (∀ (s : State) (t : Nat) (d : Device) (task : Fin 4),
    d = at50 s.dev t → domOn d 1 = true → loomMode d = .run → d.loom.overrun = none → task.1 < 2 →
    (d.loom.tasks[task.1]).active = true → taskComplete d task = false → doneLimit (taskDeadline d task) ≤ t →
    (d.loom.tasks[task.1]).extended = false →
    exec (.loomOverrun task t) s = .next { s with dev := overrunBegin task t d }) ∧
  (∀ (s : State) (t : Nat) (d : Device) (o : Overrun),
    d = at50 s.dev t → domOn d 1 = true → d.loom.overrun = some o → o.finished = true →
    exec (.overrunEndStop t) s = .next { s with dev := settle t (enterStop 4 t d) }) ∧
  (∀ (s : State) (t : Nat) (d : Device) (core : Fin 4) (mcause mepc mtval : Word),
    d = at50 s.dev t → domOn d 1 = true → loomMode d ≠ .stop →
    exec (.loomFaultStop core mcause mepc mtval false t) s = .next { s with dev := (
      settle t (selfDiag (enterStop 5 t (
        let e := updCore (wr (wr (wr d Addr.LOOM_EXC_CAUSE (setField mcause 30 2 core.1)) Addr.LOOM_EXC_PC mepc)
          Addr.LOOM_EXC_TVAL mtval) core (fun x => { x with mcause := mcause, mepc := mepc, mtval := mtval })
        raise { e with loom := { e.loom with suppress := true } } .faultStop core.1)) 1 t)) }) ∧
  (∀ (s : State) (t : Nat) (d : Device) (core : Fin 4) (pc : Word),
    d = at50 s.dev t → domOn d 1 = true → loomMode d = .run → rdB d Addr.LOOM_CFG 1 = true →
    rdB d Addr.LOOM_CFG 2 = true →
    exec (.debugBreak core pc t) s = .next { s with dev := (
      settle t (enterHold 8 t (updCore d core (fun x => { x with pc := pc })))) }) ∧
  (∀ (s : State) (t : Nat) (d : Device) (core : Fin 4) (pc : Word),
    d = at50 s.dev t → domOn d 1 = true → loomMode d = .run → rdB d Addr.LOOM_CFG 2 = false →
    exec (.debugBreak core pc t) s = .next { s with dev := settle t (faultStop core 3 pc 0 false t d) })

/-- The objects of a program and its surroundings (R198, R199, R201, R202, R204, R208, R361, R362): timers, the debug
overlay, the exchange and the stations. -/
def Obligations.TimersOverlaysStationsAndExchange : Prop :=
  (∀ (s : State) (t : Nat) (d : Device) (n : Fin 24) (code : Nat) (h : Fin 4),
    d = at50 s.dev t → domOn d 1 = true → harOf d n.1 = some h → loomMode d = .hold → d.loom.overlay[h.1] = true →
    exec (.overlayLegWrite n code t) s = .next { s with dev := legCommand d t n (code % 4) }) ∧
  (∀ (s : State) (t : Nat) (d : Device) (h : Fin 4),
    d = at50 s.dev t → domOn d 1 = true → d.loom.overlay[h.1] = true → overlayOk d h.1 = false →
    exec (.overlayLapse h t) s = .next { s with dev := (
      selvedge { d with loom := { d.loom with overlay := upd d.loom.overlay h (fun _ => false) } } h t 0x0A) }) ∧
  (∀ (s : State) (t : Nat) (d : Device) (i : Fin 64) (v : Word),
    d = at50 s.dev t → domOn d 1 = true → (d.loom.timers[i.1]).runFrom = none →
    exec (.timerPresetWrite i v t) s = .next { s with dev := (
      let e := tmrSettle d i t
      wr { e with loom := { e.loom with timers := upd e.loom.timers i (fun m =>
        { m with presetWas := tmrPreset d i t, presetAt := t + us 1 }) } } (Addr.LOOM_TMR_PRESET i.1) v) }) ∧
  (∀ (s : State) (t : Nat) (d : Device) (i : Fin 64),
    d = at50 s.dev t → domOn d 1 = true → tmrPreset d i t ≤ tmrElapsed d i t →
    exec (.timerExpiry i t) s = .next { s with dev := (
      let e := wrB (wrN d (Addr.LOOM_TMR_ELAP i.1) (tmrElapsed d i t)) (Addr.LOOM_TMR_STAT i.1) 0 (tmrQ d i t)
      { e with loom := { e.loom with timers := upd e.loom.timers i (fun m =>
        { m with base := tmrElapsed d i t, runFrom := m.runFrom.map (fun s => s + (t - s) / us 1 * us 1) }) } }) }) ∧
  (∀ (s : State) (t : Nat) (d : Device),
    d = at50 s.dev t → domOn d 1 = true → domOn d 5 = true → xchgState d = 4 → bothEnd d = true →
    exec (.xchgSwitch t) s = .next { s with dev := settle t (boundary t d) }) ∧
  (∀ (s : State) (t : Nat) (d : Device) (src : Nat) (bs : List Byte) (k : Fin 16) (e : StationEntry),
    d = at50 s.dev t → domOn d 1 = true → domOn d 6 = true → fin? 16 (sliceLE bs 3 1) = some k →
    stationEntry d k.1 = some e → e.transport = 3 → sliceLE bs 16 1 = e.inWords →
    24 + 4 * e.inWords = bs.length → sliceLE bs (20 + 4 * e.inWords) 4 = crc32c (bs.take (20 + 4 * e.inWords)) →
    sliceLE bs 0 2 = 0x4657 → sliceLE bs 2 1 = 1 → src / 2 = e.address / 2 →
    laterSeq 32 (d.loom.stations[k.1]).seqIn (sliceLE bs 4 4) = true →
    exec (.stationFrameRx 3 src bs t) s = .next { s with dev := (
      showLost (updStation
        (each (List.range e.inWords) (fun x w => wrN x (Addr.LOOM_STIN k.1 w) (sliceLE (bs.drop 20) (4 * w) 4)) d) k
        (fun x => { x with lastRx := some t, timedOut := false, fresh := true, seqIn := some (sliceLE bs 4 4) })) k) }) ∧
  (∀ (s : State) (t : Nat) (d : Device) (k : Fin 16) (e : StationEntry),
    d = at50 s.dev t → domOn d 1 = true → stationEntry d k.1 = some e →
    (d.loom.stations[k.1]).lastRx.getD 0 + us e.timeout ≤ t →
    exec (.stationTimeout k t) s = .next { s with dev := (
      showLost (updStation d k (fun x => { x with timedOut := true })) k) })

/-- Gate ownership and the islands on their own (R16, R132, R133, R143, R392). -/
def Obligations.OwnershipAndIslands : Prop :=
  (∀ (s : State) (t : Nat) (d : Device) (mode : Fin 4),
    d = at50 s.dev t → domOn d 1 = true → rdB d Addr.GATE_OWN_STAT 3 = false →
    (mode.1 = 1 ∧ ownMode d = 0 ∨ mode.1 = 0 ∧ ownMode d = 1 ∨ mode.1 = 2 ∧ ownMode d = 1) →
    exec (.gateOwnWrite mode t) s = .next { s with dev := ownForce (wrB d Addr.GATE_OWN_STAT 2 false) mode.1 t }) ∧
  (∀ (s : State) (t : Nat) (d : Device),
    d = at50 s.dev t → domOn d 1 = true → rdB d Addr.GATE_OWN_STAT 3 = false → ownMode d = 2 →
    exec (.gateOwnWrite 1 t) s = .next { s with dev := (
      selvedgeAll (wrB (wrB d Addr.GATE_OWN_STAT 2 false) Addr.GATE_OWN_STAT 3 true) t 0x0F) } ∧
    exec (.gateOwnWrite 0 t) s = .next { s with dev := wrB d Addr.GATE_OWN_STAT 2 true }) ∧
  (∀ (s : State) (t : Nat) (d : Device) (mode : Fin 4),
    d = at50 s.dev t → domOn d 1 = true → rdB d Addr.GATE_OWN_STAT 3 = true →
    exec (.gateOwnWrite mode t) s = .next { s with dev := wrB d Addr.GATE_OWN_STAT 2 true }) ∧
  (∀ (s : State) (t : Nat) (d : Device),
    d = at50 s.dev t → domOn d 1 = true → rdB d Addr.GATE_OWN_STAT 3 = true → allGatesOut d = true →
    redState (ownForce d 1 t) ≠ 4 → (ownForce d 1 t).red.dropOwn = false →
    exec (.gateOwnChangeDone t) s = .next { s with dev := sleepGo t (ownForce d 1 t) }) ∧
  (∀ (s : State) (t : Nat) (d : Device) (c : Fin 48),
    d = at50 s.dev t → (d.gchan[c.1]).supplyUp = true → (d.gchan[c.1]).entry = .none →
    exec (.gateIslandLinkTimeout c t) s = .next { s with dev := (
      let e := turnOff d t false c
      setCstate { e with gchan := upd e.gchan c (fun g => { g with entryAt := some t }) } c.1 .hiz) }) ∧
  (∀ (s : State) (t : Nat) (d : Device) (c : Fin 48) (at' : Nat),
    d = at50 s.dev t → (d.gchan[c.1]).entryAt = some at' → paired d = true → at' + us 18 ≤ t →
    exec (.islandEntryHizTimeout c t) s = .next { s with dev := (
      setCstate { d with gchan := upd d.gchan c (fun g => { g with hizAt := none, softFrom := none }) } c.1 .hiz) }) ∧
  (∀ (s : State) (t : Nat) (d : Device) (c : Fin 48) (h : Fin 4),
    d = at50 s.dev t → domOn d 1 = true →
    chanHar (raise (wrB d (Addr.GATE_CSTAT c.1) 7 false) .gateLink c.1) c.1 = some h →
    exec (.gateIslandLinkLost c t) s = .next { s with dev := (
      selfDiag (selvedge (raise (wrB d (Addr.GATE_CSTAT c.1) 7 false) .gateLink c.1) h t 8) 4 t) }) ∧
  (∀ (s : State) (t : Nat) (d : Device) (c : Fin 48),
    d = at50 s.dev t → chanHar d c.1 = none →
    exec (.gateIslandSupplyUp c t) s = .next { s with dev := (
      let e := wrB (wrB (wrB (setCstate d c.1 .hiz) (Addr.GATE_CSTAT c.1) 5 true) (Addr.GATE_CSTAT c.1) 6 false)
        (Addr.GATE_CSTAT c.1) 7 true
      { e with gchan := upd e.gchan c (fun g =>
          { g with supplyUp := true, entry := .none, sensing := false, onAt := none, softFrom := none, hizAt := none,
                   entryAt := none }) }) })

/-- The protections of a gate channel (R135, R136, R139, R140): undervoltage and its release, blanking, desaturation,
the soft turn-off and the clamp. -/
def Obligations.TheProtectionsOfAGateChannel : Prop :=
  (∀ (s : State) (t : Nat) (d : Device) (c : Fin 48),
    d = at50 s.dev t → d.gtest = none → rdB d (Addr.GATE_CSTAT c.1) 5 = true → cstate d c.1 = .off →
    exec (.uvloTrip c false true t) s = .next { s with dev := (
      let e := wrB d (Addr.GATE_CSTAT c.1) 5 true
      setCstate { e with gchan := upd e.gchan c (fun g =>
        { g with supplyUp := false, entry := .none, softFrom := none, hizAt := none }) } c.1 .hiz) }) ∧
  (∀ (s : State) (t : Nat) (d : Device) (c : Fin 48),
    d = at50 s.dev t → d.gtest = none → rdB d (Addr.GATE_CSTAT c.1) 5 = false → cstate d c.1 ≠ .on →
    exec (.uvloTrip c false false t) s = .next { s with dev := (
      onLeg c (fun n e => legFault e n t t 4) (count (wrB d (Addr.GATE_CSTAT c.1) 5 true) (Addr.GATE_UV_CNT c.1))) }) ∧
  (∀ (s : State) (t : Nat) (d : Device) (c : Fin 48),
    d = at50 s.dev t → (d.gchan[c.1]).supplyUp = true → (d.gchan[c.1]).entry ≠ .none → chanHar d c.1 = none →
    exec (.uvloRelease c false t) s = .next { s with dev := wrB d (Addr.GATE_CSTAT c.1) 5 false } ∧
    exec (.uvloRelease c true t) s = .next { s with dev := wrB d (Addr.GATE_CSTAT c.1) 6 false }) ∧
  (∀ (s : State) (t : Nat) (d : Device) (c : Fin 48),
    d = at50 s.dev t → cstate d c.1 = .on →
    (d.gchan[c.1]).lastOn + ns (50 * rdF d (Addr.GATE_BLANK (legOf c.1)) 0 6) ≤ t →
    exec (.blankingEnd c t) s = .next { s with dev := (
      { d with gchan := upd d.gchan c (fun g => { g with sensing := true }) }) }) ∧
  (∀ (s : State) (t : Nat) (d : Device) (c : Fin 48) (stamp : Nat),
    d = at50 s.dev t → cstate d c.1 = .on → (d.gchan[c.1]).sensing = true → desatEnabled d c.1 = true → d.gtest = none →
    exec (.desatTrip c stamp t) s = .next { s with dev := (
      let e := turnOff d stamp true c
      let e := { e with gchan := upd e.gchan c (fun g => { g with softFrom := some (stamp + ns 40) }) }
      let e := count (wrB e (Addr.GATE_CSTAT c.1) 3 true) (Addr.GATE_DESAT_CNT c.1)
      onLeg c (fun n e => legFault e n stamp t 1) (recEvent 4 e 0x21 t)) }) ∧
  (∀ (s : State) (t : Nat) (d : Device) (c : Fin 48) (at' : Nat),
    d = at50 s.dev t → chanHar d c.1 = none → (d.gchan[c.1]).softFrom = some at' → cstate d c.1 = .soft →
    at' + ns (50 * rdF d (Addr.GATE_HCFG 0) 16 8) ≤ t → (d.gchan[c.1]).entryAt = none →
    Completes (.softTimeEnd c t) s (fun e => cstate e c.1 = .off ∧ (e.gchan[c.1]).lastOff = t ∧
      (e.gchan[c.1]).softFrom = none)) ∧
  (∀ (s : State) (t : Nat) (d : Device) (c : Fin 48),
    d = at50 s.dev t → cstate d c.1 = .off →
    exec (.millerClampEnable c t) s = .next { s with dev := wrB d (Addr.GATE_CSTAT c.1) 4 true })

/-- The selvedge (R143 to R149): entry by the harness's state, the steps of a sequence, HIZ, the table, and what follows
a fault. -/
def Obligations.TheSelvedgeOfAHarness : Prop :=
  (∀ (s : State) (t : Nat) (d : Device) (h : Fin 4) (cause : Fin 16),
    d = at50 s.dev t → domOn d 1 = true → hstate (addCause d h.1 cause.1) h.1 = .ready →
    exec (.selvedgeEntry h cause t) s = .next { s with dev := (
      selvGates (setHstate (addCause d h.1 cause.1) h.1 .selvedge) h t cause.1) }) ∧
  (∀ (s : State) (t : Nat) (d : Device) (h : Fin 4) (cause : Fin 16),
    d = at50 s.dev t → domOn d 1 = true → 7 < cause.1 → hstate (addCause d h.1 cause.1) h.1 = .running →
    exec (.selvedgeEntry h cause t) s = .next { s with dev := (
      selvGates (setHstate (addCause d h.1 cause.1) h.1 .selvedge) h t cause.1) }) ∧
  (∀ (s : State) (t : Nat) (d : Device) (h : Fin 4) (cause : Fin 16),
    d = at50 s.dev t → domOn d 1 = true → cause.1 ≤ 7 → hstate (addCause d h.1 cause.1) h.1 = .running →
    retryTries (addCause d h.1 cause.1) h.1 < nextTry (addCause d h.1 cause.1) h t →
    exec (.selvedgeEntry h cause t) s = .next { s with dev := (
      selvGates (setHstate (addCause d h.1 cause.1) h.1 .latched) h t cause.1) }) ∧
  (∀ (s : State) (t : Nat) (d : Device) (h : Fin 4) (n : Fin 24) (due : Nat),
    d = at50 s.dev t → domOn d 1 = true → legsOf d h.1 = [n] → (d.legs[n.1]).leaveAt = some due → due ≤ t →
    exec (.selvedgeSequenceStep h t) s = .next { s with dev := legOut d due (d.legs[n.1]).leaveSoft n }) ∧
  (∀ (s : State) (t : Nat) (d : Device) (c : Fin 48) (x : Nat),
    d = at50 s.dev t → (d.gchan[c.1]).hizAt = some x → x ≤ t → cstate d c.1 = .off →
    exec (.selvedgeHizDelay c t) s = .next { s with dev := (
      setCstate { d with gchan := upd d.gchan c (fun g => { g with hizAt := none }) } c.1 .hiz) }) ∧
  (∀ (s : State) (t : Nat) (d : Device),
    d = at50 s.dev t → domOn d 1 = true → d.selvNext = true →
    Completes (.selvedgeTableReload t) s (fun e => e.selv = selvTable d ∧ e.selvNext = false ∧ e.regs = d.regs ∧
      (∀ c : Fin 48, (d.gchan[c.1]).supplyUp = false → e.gchan[c.1] = d.gchan[c.1]))) ∧
  (∀ (s : State) (t : Nat) (d : Device) (h : Fin 4),
    d = at50 s.dev t → domOn d 1 = true → legsOf d h.1 = [] → hstate d h.1 = .selvedge → (d.har[h.1]).selvAt + us 20 ≤ t →
    exec (.releaseHoldoffEnd h t) s = .next { s with dev := (
      tryRelease { d with har := upd d.har h (fun a => { a with offDone := true }) } h t) }) ∧
  (∀ (s : State) (t : Nat) (d : Device) (h : Fin 4) (w : Nat),
    d = at50 s.dev t → domOn d 1 = true → rdB d (Addr.GATE_HCFG h.1) 0 = true → hstate d h.1 = .selvedge →
    (d.har[h.1]).waitFrom = some w → w + ms (rdF d (Addr.GATE_RWAIT h.1) 0 14) ≤ t →
    causes (refreshCauses d h) h.1 = 0 → ((refreshCauses d h).har[h.1]).offDone = true →
    exec (.retryWaitExpiry h none t) s = .next { s with dev := releaseHarness (refreshCauses d h) h t }) ∧
  (∀ (s : State) (t : Nat) (d : Device) (h : Fin 4),
    d = at50 s.dev t → domOn d 1 = true → hstate d h.1 = .running →
    (legsOf d h.1).foldl (fun x n => max x (d.legs[n.1]).heldAt) (max (d.har[h.1]).runAt (d.har[h.1]).faultAt)
      + sec (rdF d (Addr.GATE_RFORGET h.1) 0 12) ≤ t →
    exec (.retryForgetExpiry h t) s = .next { s with dev := wrF d (Addr.GATE_HSTAT h.1) 4 4 0 })

/-- Clearing and the off-state self-test (R149, R150). -/
def Obligations.ClearingAndTheSelfTest : Prop :=
  (∀ (s : State) (t : Nat) (d : Device) (mask : Fin 16),
    d = at50 s.dev t → domOn d 1 = true →
    exec (.gateClearWrite mask t) s = .next { s with dev := (
      each (List.finRange 4) (fun e h =>
        if mask.1.testBit h.1 then
          let e := wrF e (Addr.GATE_HSTAT h.1) 4 4 0
          tryRelease { e with har := upd e.har h (fun a =>
            { a with lastRelease := none, cleared := hstate e h.1 == .latched }) } h t
        else e) d) }) ∧
  (∀ (s : State) (t : Nat) (d : Device) (v : Word),
    d = at50 s.dev t → domOn d 1 = true → d.gtest = none → testAllowed d (field v 8 3) (field v 0 6) = true →
    exec (.gateTestCmdWrite v t) s = .next { s with dev := (
      wrN { d with gtest := some { kind := field v 8 3, target := field v 0 6, since := t } }
        Addr.GATE_TEST_STAT (2 ^ 31)) }) ∧
  (∀ (s : State) (t : Nat) (d : Device) (v : Word),
    d = at50 s.dev t → domOn d 1 = true → d.gtest = none → testAllowed d (field v 8 3) (field v 0 6) = false →
    exec (.gateTestCmdWrite v t) s = .next { s with dev := wrN d Addr.GATE_TEST_STAT (3 * 2 ^ 28) }) ∧
  (∀ (s : State) (t : Nat) (d : Device) (g : GateTest) (n : Nat),
    d = at50 s.dev t → domOn d 1 = true → d.gtest = some g → n ≤ testLimit g.kind → n < 2 ^ 16 →
    exec (.gateTestDone (some n) t) s = .next { s with dev := (
      settle t (wrN { d with gtest := none } Addr.GATE_TEST_STAT (2 ^ 28 + n))) }) ∧
  (∀ (s : State) (t : Nat) (d : Device) (g : GateTest) (n : Nat),
    d = at50 s.dev t → domOn d 1 = true → d.gtest = some g → testLimit g.kind < n → n < 2 ^ 16 →
    exec (.gateTestDone (some n) t) s = .next { s with dev := (
      settle t (wrN { d with gtest := none } Addr.GATE_TEST_STAT (2 * 2 ^ 28 + n))) })

/-- The validity of the channels and their islands (R47 to R50, R143). -/
def Obligations.TheValidityOfTheChannels : Prop :=
  (∀ (s : State) (t : Nat) (d : Device) (c : Fin 32),
    d = at50 s.dev t → domOn d 1 = true → wordsGone d c t = true →
    exec (.fastWordsMissing c t) s = .next { s with dev := (
      each (List.finRange 4) (fun e h => if (wordChannels e h.1).contains c.1 then selvedge e h t 7 else e)
        { d with chans := upd d.chans c (fun h => { h with good := 0 }) }) }) ∧
  (∀ (s : State) (t : Nat) (d : Device) (c : Fin 32),
    d = at50 s.dev t → domOn d 1 = true →
    exec (.modOverloadOnset c t) s = .next { s with dev := count (wrB d Addr.MOD_OVL c.1 true) Addr.MOD_OVL_CNT }) ∧
  (∀ (s : State) (t : Nat) (d : Device) (c : Fin 32),
    d = at50 s.dev t → domOn d 1 = true → external d c.1 = true →
    exec (.stuckBitstream c t) s = .next { s with dev := (
      let e := wrB (count (wrB d Addr.MOD_FAULT c.1 true) Addr.MOD_FAULT_CNT) Addr.MOD_VALID c.1 false
      { e with chans := upd e.chans c (fun h => { h with stuckAt := some t }) }) }) ∧
  (∀ (s : State) (t : Nat) (d : Device) (c : Fin 32) (at' first : Nat),
    d = at50 s.dev t → domOn d 1 = true → (d.chans[c.1]).stuckAt = some at' → at' ≤ first →
    first + max 256 (2 * rdF d Addr.MOD_DET_CFG 16 10) * ckm ≤ t →
    exec (.stuckRecovery c first t) s = .next { s with dev := (
      revalidate { d with chans := upd d.chans c (fun h => { h with stuckAt := none }) } c) }) ∧
  (∀ (s : State) (t : Nat) (d : Device) (powerGood : Bool),
    d = at50 s.dev t → domOn d 1 = true → rdB d Addr.MOD_ISL_STAT 0 = true → rdB d Addr.MOD_ISL_STAT 1 = true →
    exec (.islandLoss false powerGood t) s = .next { s with dev := (
      each (List.finRange 32) (fun e c => if currentIsland c.1 == false then wrB e Addr.MOD_VALID c.1 false else e)
        (count (wrB d Addr.MOD_ISL_STAT (if powerGood then 0 else 1) false) Addr.MOD_ISL_LOSS_CNT)) }) ∧
  (∀ (s : State) (t : Nat) (d : Device) (powerGood : Bool),
    d = at50 s.dev t → domOn d 1 = true → rdB d Addr.MOD_ISL_STAT 3 = true → rdB d Addr.MOD_ISL_STAT 4 = true →
    exec (.islandLoss true powerGood t) s = .next { s with dev := (
      each (List.finRange 32) (fun e c => if currentIsland c.1 == true then wrB e Addr.MOD_VALID c.1 false else e)
        (count (wrB d Addr.MOD_ISL_STAT (if powerGood then 3 else 4) false) Addr.MOD_ISL_LOSS_CNT)) }) ∧
  (∀ (s : State) (t : Nat) (d : Device) (current : Bool),
    d = at50 s.dev t → domOn d 1 = true →
    exec (.islandRecovery current t) s = .next { s with dev := (
      let b := if current then 3 else 0
      each (List.finRange 32) (fun e c => if currentIsland c.1 == current then revalidate e c else e)
        (wrB (wrB (wrB d Addr.MOD_ISL_STAT b true) Addr.MOD_ISL_STAT (b + 1) true) Addr.MOD_ISL_STAT (b + 2) true)) })

/-- The words of the paths (R72 to R78, R120, R137): what a fast, a medium and a precision word of a valid channel
deliver, and the end of a decomposer's unsettled time. -/
def Obligations.TheWordsOfThePaths : Prop :=
  (∀ (s : State) (t : Nat) (d e f : Device) (c : Fin 32) (bits : Nat) (h : Channel) (w : Word),
    d = at50 s.dev t → domOn d 1 = true → domOn d 5 = true → chanValid d c.1 = true → h = takeBits (d.chans[c.1]) bits →
    f = { d with chans := upd d.chans c (fun _ => h) } →
    clampI (-dataMax) dataMax (scaled f c (sinc3 h 8) 512 256) = scaled f c (sinc3 h 8) 512 256 →
    w = formatWord false (windowOverload h (rdF d Addr.MOD_DET_CFG 0 7) 22 0) (decide (h.since < 22)) false
      (pathIndex d fastPeriod t) (scaled f c (sinc3 h 8) 512 256) →
    bit w 31 = false → c.1 ≠ 31 →
    e = { wr f (Addr.DEC_FAST c.1) w with chans := upd f.chans c (fun h =>
      { h with good := if bit w 29 then 0 else h.good + 1, lastFast := some t, goodFast := w }) } →
    legsOnChannel e c.1 = [] → (∀ h : Fin 4, rdB e (Addr.GATE_HSTAT h.1) (causeBit 7) = false) →
    exec (.fastPathWord c bits t) s = .next { s with dev := e }) ∧
  (∀ (s : State) (t : Nat) (d e : Device) (c : Fin 32) (w : Word),
    d = at50 s.dev t → domOn d 1 = true → domOn d 5 = true → chanValid d c.1 = true →
    clampI (-dataMax) dataMax (scaled d c (sinc3 (d.chans[c.1]) 32) 32768 16)
      = scaled d c (sinc3 (d.chans[c.1]) 32) 32768 16 →
    w = formatWord false (windowOverload (d.chans[c.1]) (rdF d Addr.MOD_DET_CFG 0 7) 94 0)
      (decide ((d.chans[c.1]).since < 94)) false (pathIndex d mediumPeriod t)
      (scaled d c (sinc3 (d.chans[c.1]) 32) 32768 16) →
    e = { wr d (Addr.DEC_MED c.1) w with chans := upd d.chans c (fun h =>
      { h with medIndex := some (pathIndex d mediumPeriod t), goodMed := if bit w 31 then h.goodMed else w }) } →
    (∀ q : Fin 4, rdB e (Addr.DCMP_CFG q.1) 31 = false) →
    exec (.mediumPathWord c t) s = .next { s with dev := conduction e c.1 }) ∧
  (∀ (s : State) (t : Nat) (d e : Device) (c : Fin 32) (w : Word) (raw : Int),
    d = at50 s.dev t → domOn d 1 = true → domOn d 5 = true → precisionPath c t d = (w, raw, e) →
    exec (.precisionPathWord c t) s = .next { s with dev := (
      calTake (rsmTake (ledgerWord e c (pathIndex e precisionPeriod t) t) c (pathIndex e precisionPeriod t) w) c.1 raw
        (bit w 31 || bit w 30) (bit w 29)) }) ∧
  (∀ (s : State) (t : Nat) (d : Device) (k : Fin 4),
    d = at50 s.dev t → domOn d 1 = true → (d.dcmp[k.1]).unsTill ≤ t →
    exec (.decomposerUnsEnd k t) s = .next { s with dev := wrB d (Addr.DCMP_STAT k.1) 0 false })

/-- The resampler (R82 to R87, R91): an output, the boundary of a cycle, the end of a pause, a held source and the
coefficient banks. -/
def Obligations.TheResampler : Prop :=
  (∀ (s : State) (t : Nat) (d : Device),
    d = at50 s.dev t → domOn d 1 = true → domOn d 5 = true → rdB d Addr.RSM_CFG 0 = true → d.rsm.paused = false →
    rsmNeeds d.rsm.pos ≤ d.rsm.newest → d.rsm.index ≠ 0 →
    exec (.resamplerOutput t) s = .next { s with dev := (
      let e := countWrap (each (List.finRange 12) (fun e l => rsmLaneOut e l false) d) Addr.RSM_OUT_CNT Addr.RSM_OUT_WRAP
      { e with rsm := { e.rsm with
          pos := e.rsm.pos + e.rsm.ratio, index := (e.rsm.index + 1) % 512, fadeLeft := e.rsm.fadeLeft - 1 } }) }) ∧
  (∀ (s : State) (t : Nat) (d : Device),
    d = at50 s.dev t → domOn d 1 = true → domOn d 5 = true → rdB d Addr.RSM_CFG 0 = true → d.rsm.paused = false →
    rsmNeeds d.rsm.pos ≤ d.rsm.newest → d.rsm.index = 0 → d.rsm.srcChange = false → rsmSource d = 0 →
    exec (.resamplerOutput t) s = .next { s with dev := (
      rsmEmit (rsmStart (rsmSetFreq d (rsmLimit (rsmSourceFreq d)) 0)) true) }) ∧
  (∀ (s : State) (t : Nat) (d : Device),
    d = at50 s.dev t → domOn d 1 = true → rdB d Addr.RSM_CFG 0 = true → d.rsm.paused = true →
    rdB d Addr.RSM_STAT 2 = true → rsmNeeds d.rsm.pos ≤ d.rsm.newest →
    exec (.resamplerPauseEnd t) s = .next { s with dev := (
      rsmOutput t (wrB { d with rsm := { d.rsm with paused := false, index := 0 } } Addr.RSM_STAT 3 false)) }) ∧
  (∀ (s : State) (t : Nat) (d : Device) (c : Nat),
    d = at50 s.dev t → domOn d 1 = true → rdB d Addr.RSM_CFG 0 = true → rsmSource d = 1 → d.rsm.kfreqAt = some c →
    c + rsmTwoCycles d ≤ t →
    exec (.rsmSourceHold t) s = .next { s with dev := (
      wrB (wrB { d with rsm := { d.rsm with goodCycles := 0 } } Addr.RSM_STAT 2 true) Addr.RSM_STAT 0 false) }) ∧
  (∀ (s : State) (t : Nat) (d : Device),
    d = at50 s.dev t → domOn d 1 = true → rdB d Addr.RSM_COEF_CTRL 1 = false → rdB d Addr.RSM_COEF_CTRL 2 = false →
    rd d Addr.RSM_COEF_CRCB = rd d Addr.RSM_COEF_EXP → loomMode d = .run →
    exec (.rsmSwitchWrite t) s = .next { s with dev := { d with rsm := { d.rsm with switchReq := true } } }) ∧
  (∀ (s : State) (t : Nat) (d : Device),
    d = at50 s.dev t → domOn d 1 = true → rdB d Addr.RSM_COEF_CTRL 1 = true → rdB d Addr.RSM_COEF_CTRL 2 = false →
    rd d Addr.RSM_COEF_CRCA = rd d Addr.RSM_COEF_EXP → loomMode d ≠ .run →
    exec (.rsmSwitchWrite t) s = .next { s with dev := (
      let n := clampN 16 4096 (rdN d Addr.RSM_XFADE)
      rsmUnsettle (wrB { d with rsm := { d.rsm with switchReq := false, fadeLen := n, fadeLeft := n } }
        Addr.RSM_COEF_CTRL 2 true)) }) ∧
  (∀ (s : State) (t : Nat) (d : Device),
    d = at50 s.dev t → domOn d 1 = true → rdB d Addr.RSM_COEF_CTRL 2 = true →
    exec (.rsmSwitchWrite t) s = .next { s with dev := count d Addr.RSM_XF_REFUSED_CNT }) ∧
  (∀ (s : State) (t : Nat) (d : Device),
    d = at50 s.dev t → domOn d 1 = true → rdB d Addr.RSM_COEF_CTRL 2 = true → d.rsm.fadeLeft = 0 →
    exec (.rsmXfadeEnd t) s = .next { s with dev := (
      wrB (wrB d Addr.RSM_COEF_CTRL 2 false) Addr.RSM_COEF_CTRL 1 (!rdB d Addr.RSM_COEF_CTRL 1)) })

/-- The shed units (R99, R103, R107, R109, R110): the streamed writes, the reference generator, the edge list, the start
step, a tap, and a gate whose dead time has passed. -/
def Obligations.TheShedUnits : Prop :=
  (∀ (s : State) (t : Nat) (d : Device) (n : Fin 24) (h : Fin 4) (p : PendingStep),
    d = at50 s.dev t → domOn d 1 = true → harOf d n.1 = some h → (d.shed[n.1]).pending = some p → p.tap ≤ t →
    p.start = false → (d.shed[n.1]).upTap = none → rdB d (Addr.SHED_STAT n.1) 30 = true →
    exec (.shedTap n t) s = .next { s with dev := (
      let row := heddleRow d h.1 p.target p.up
      let e := { d with shed := upd d.shed n (fun u =>
        { u with pending := none, lastUp := some p.up, upTap := if p.up then some p.tap else u.upTap,
                 quiet := (p.tap + p.lat : Nat), lastTap := p.tap, lastOn := lastTurnOn d n.1 row p.tap }) }
      let e := wrF (wrB e (Addr.SHED_STAT n.1) 24 false) (Addr.SHED_STAT n.1) 0 3 p.target
      countTap (rowChange e h n.1 p.tap row) n.1) }) ∧
  (∀ (s : State) (t : Nat) (d : Device) (c : Fin 48) (u : Nat),
    d = at50 s.dev t → domOn d 1 = true → (d.gchan[c.1]).onAt = some u → u ≤ t →
    exec (.deadTimeTurnOn c t) s = .next { s with dev := turnOn d u c }) ∧
  (∀ (s : State) (t : Nat) (d : Device) (n : Fin 24) (h : Fin 4) (v : Int) (rest : List Int),
    d = at50 s.dev t → domOn d 1 = true → harOf d n.1 = some h → (d.shed[n.1]).gen.due = none →
    (d.shed[n.1]).gen.active = true → (d.shed[n.1]).gen.fifo = v :: rest →
    exec (.shedRefPop n t) s = .next { s with dev := (
      let per := max 1 (rdF d (Addr.SHED_REFP h.1) 0 13) * mediumPeriod
      let e := { d with shed := upd d.shed n (fun u => { u with gen :=
        { u.gen with g := v, fromVal := ((d.shed[n.1]).gen).value t, toVal := v, moveFrom := t, moveTo := t + per,
                     moving := true, fifo := rest } }) }
      showLevels (wrB e (Addr.SHED_STAT n.1) 28 false) n) }) ∧
  (∀ (s : State) (t : Nat) (d : Device) (n : Fin 24) (v : Word),
    d = at50 s.dev t → domOn d 1 = true → (d.shed[n.1]).gen.due = none → ((d.shed[n.1]).gen.fifo).length < 64 →
    exec (.shedFifoWrite n v t) s = .next { s with dev := (
      showLevels { d with shed := upd d.shed n (fun u => { u with gen :=
        { u.gen with fifo := u.gen.fifo ++ [dataOf v], active := true } }) } n) }) ∧
  (∀ (s : State) (t : Nat) (d : Device) (n : Fin 24) (v : Word),
    d = at50 s.dev t → domOn d 1 = true → (d.shed[n.1]).gen.due = none → 64 ≤ ((d.shed[n.1]).gen.fifo).length →
    exec (.shedFifoWrite n v t) s = .next { s with dev := count d (Addr.SHED_DROP_CNT n.1) }) ∧
  (∀ (s : State) (t : Nat) (d : Device) (n : Fin 24) (v : Word),
    d = at50 s.dev t → domOn d 1 = true → ((d.shed[n.1]).edges).length < 32 →
    exec (.shedEdgeWrite n v t) s = .next { s with dev := (
      showLevels { d with shed := upd d.shed n (fun u =>
        { u with edges := u.edges ++ [(field v 29 3, nextDeadline d t + field v 0 29)] }) } n) }) ∧
  (∀ (s : State) (t : Nat) (d : Device) (n : Fin 24) (v : Word),
    d = at50 s.dev t → domOn d 1 = true → 32 ≤ ((d.shed[n.1]).edges).length →
    exec (.shedEdgeWrite n v t) s = .next { s with dev := count d (Addr.SHED_DROP_CNT n.1) }) ∧
  (∀ (s : State) (t : Nat) (d : Device) (n : Fin 24) (h : Fin 4) (lvl tm : Nat) (rest : List (Nat × Nat)),
    d = at50 s.dev t → domOn d 1 = true → harOf d n.1 = some h → (d.shed[n.1]).edges = (lvl, tm) :: rest →
    rdB d (Addr.SHED_STAT n.1) 30 = true → shedMode d n.1 = 2 → (d.shed[n.1]).prevEdge ≤ tm → tm ≤ t → t ≤ tm + ckf →
    stepFloor d n h (heddleRow d h.1 lvl (decide (levelOf d n.1 < lvl))) false ≤ tm → lvl ≠ levelOf d n.1 →
    exec (.edgeListEntry n t) s = .next { s with dev := (
      let row := heddleRow d h.1 lvl (decide (levelOf d n.1 < lvl))
      let e := { d with shed := upd d.shed n (fun u =>
        { u with edges := rest, prevEdge := tm, lastTap := tm, lastOn := lastTurnOn d n.1 row tm,
                 lastUp := some (decide (levelOf d n.1 < lvl)) }) }
      let e := wrF (showLevels e n) (Addr.SHED_STAT n.1) 0 3 lvl
      countTap (rowChange (wrB e (Addr.SHED_STAT n.1) 29 true) h n.1 tm row) n.1) }) ∧
  (∀ (s : State) (t : Nat) (d : Device) (n : Fin 24) (h : Fin 4) (from' : Nat),
    d = at50 s.dev t → domOn d 1 = true → harOf d n.1 = some h → (d.shed[n.1]).waitStart = some from' →
    rdB d (Addr.SHED_STAT n.1) 30 = true → shedMode d n.1 = 1 → from' < t →
    bit (rd d (Addr.DEC_FAST (shedChan d n.1))) 31 = false → bit (rd d (Addr.DEC_FAST (shedChan d n.1))) 29 = false →
    exec (.shedStartStep n t) s = .next { s with dev := (
      let e := { d with shed := upd d.shed n (fun u => { u with waitStart := none, lastUp := none, upTap := none }) }
      let e := wrN e (Addr.SHED_HNOW n.1) (rdF e (Addr.SHED_BAND n.1) 0 22)
      place e n h { up := true, target := min (rdF e (Addr.SHED_HCFG h.1) 0 3) (topLevel e h.1),
                    tap := t + 14 * ckf, lat := stepLat e h.1 true, start := true }) })

/-- Set-points, injectors and rotators (R100, R115, R119). -/
def Obligations.SetPointsInjectorsAndRotators : Prop :=
  (∀ (s : State) (t : Nat) (d : Device) (high r : Nat),
    d = at50 s.dev t → domOn d 1 = true → rdF d Addr.SHED_GCFG 0 2 = 1 → d.setp.riseAt = some r →
    us 20 / ckf ≤ (t - r) / ckf →
    exec (.setpRisingEdge high t) s = .next { s with dev := (
      gainSetp { d with setp := { d.setp with riseAt := some t } } false
        (roundDiv ((2 * (high : Int) - ((t - r) / ckf : Nat)) * 4194304) ((t - r) / ckf))) }) ∧
  (∀ (s : State) (t : Nat) (d : Device),
    d = at50 s.dev t → domOn d 1 = true → rdB d Addr.MOD_EXT_CFG 0 = false →
    exec (.setpointLoss true t) s = .next { s with dev := loseSetp d true }) ∧
  (∀ (s : State) (t : Nat) (d : Device),
    d = at50 s.dev t → domOn d 1 = true → rdF d Addr.SHED_GCFG 0 2 = 2 → rdB d (Addr.HK_RESULT 44) 30 = true →
    exec (.setpointLoss false t) s = .next { s with dev := loseSetp d false }) ∧
  (∀ (s : State) (t : Nat) (d : Device) (j : Fin 4) (at' : Nat),
    d = at50 s.dev t → domOn d 1 = true → (d.inj[j.1]).startAt = some at' → rdB d (Addr.INJ_CTRL j.1) 0 = true →
    rdF d (Addr.INJ_CTRL j.1) 1 2 = 1 → rdB d (Addr.INJ_CTRL j.1) 3 = true →
    at' + max 1 (rdN d (Addr.INJ_P2 j.1)) * fastPeriod ≤ t →
    exec (.chirpEnd j t) s = .next { s with dev := (
      { d with inj := upd d.inj j (fun i =>
        { i with startAt := some (at' + max 1 (rdN d (Addr.INJ_P2 j.1)) * fastPeriod) }) }) }) ∧
  (∀ (s : State) (t : Nat) (d : Device) (j : Fin 4) (at' : Nat),
    d = at50 s.dev t → domOn d 1 = true → (d.inj[j.1]).startAt = some at' → rdB d (Addr.INJ_CTRL j.1) 0 = true →
    rdF d (Addr.INJ_CTRL j.1) 1 2 = 1 → rdB d (Addr.INJ_CTRL j.1) 3 = false →
    at' + max 1 (rdN d (Addr.INJ_P2 j.1)) * fastPeriod ≤ t →
    exec (.chirpEnd j t) s = .next { s with dev := (
      wrB { d with inj := upd d.inj j (fun i => { i with startAt := none }) } (Addr.INJ_CTRL j.1) 0 false) }) ∧
  (∀ (s : State) (t : Nat) (d : Device) (c : Fin 8) (cmd : Word),
    d = at50 s.dev t → domOn d 1 = true → (cmd = 1 ∨ cmd = 2) →
    exec (.cordicCmdWrite c cmd t) s = .next { s with dev := (
      wrB { d with cordic := upd d.cordic c (fun _ =>
        { busy := some (cmd.toNat, t), x := rd d (Addr.CRD_X c.1 0), y := rd d (Addr.CRD_X c.1 1),
          ang := rd d (Addr.CRD_X c.1 2) }) } (Addr.CRD_STAT c.1) 0 false) }) ∧
  (∀ (s : State) (t : Nat) (d : Device) (c : Fin 8) (at' : Nat),
    d = at50 s.dev t → domOn d 1 = true → (d.cordic[c.1]).busy = some (1, at') → at' + 24 * ckf ≤ t →
    exec (.cordicDone c t) s = .next { s with dev := (
      let p := Config.cordicRotate (d.cordic[c.1]).x (d.cordic[c.1]).y (d.cordic[c.1]).ang
      wrB (wr (wr { d with cordic := upd d.cordic c (fun r => { r with busy := none }) } (Addr.CRD_RX c.1 0) p.1)
        (Addr.CRD_RX c.1 1) p.2) (Addr.CRD_STAT c.1) 0 true) }) ∧
  (∀ (s : State) (t : Nat) (d : Device) (c : Fin 8) (at' : Nat),
    d = at50 s.dev t → domOn d 1 = true → (d.cordic[c.1]).busy = some (2, at') → at' + 24 * ckf ≤ t →
    exec (.cordicDone c t) s = .next { s with dev := (
      let p := Config.cordicVector (d.cordic[c.1]).x (d.cordic[c.1]).y
      wrB (wr (wr (wr { d with cordic := upd d.cordic c (fun r => { r with busy := none }) } (Addr.CRD_RX c.1 0) p.1)
        (Addr.CRD_RX c.1 1) 0) (Addr.CRD_RX c.1 2) p.2) (Addr.CRD_STAT c.1) 0 true) })

/-- The housekeeping converter (R54 to R59, R63): a conversion of an injected sequence, the rounds, a trigger and a stale
result. -/
def Obligations.TheHousekeepingConverter : Prop :=
  (∀ (s : State) (t : Nat) (d e : Device) (raw j i code next : Nat),
    d = at50 s.dev t → domOn d 1 = true → rdB d Addr.HK_CFG 0 = true → d.hk.injected = some j →
    i = (d.hk.injList[j]?).getD 0 → code = hkCalibrated d i (raw % 2 ^ 20) →
    e = thConvert (wrN d (Addr.HK_INJ_RESULT j) (hkWord d i code)) i code →
    e.hk.calRun = false → e.hk.injList[j + 1]? = some next →
    exec (.hkConversionDone raw t) s = .next { s with dev := (
      settle t (hkBegin { e with hk := { e.hk with injected := some (j + 1) } } 2 next 0x7F)) }) ∧
  (∀ (s : State) (t : Nat) (d e : Device) (raw i code : Nat),
    d = at50 s.dev t → domOn d 1 = true → rdB d Addr.HK_CFG 0 = true → d.hk.injected = none → d.hk.regular = true →
    i = (d.hk.seq[d.hk.slot]?).getD 0 → code = hkCalibrated d i (raw % 2 ^ 20) → i ≠ 44 →
    e = monitor (showStale (thConvert (
      let x := wrN d (Addr.HK_RESULT i) (hkWord d i code)
      { x with hk := { x.hk with lastDone := Sparse.insert i t x.hk.lastDone, regular := false } }) i code)) i →
    exec (.hkConversionDone raw t) s = .next { s with dev := (
      let x := { e with hk := { e.hk with slot := e.hk.slot + 1 } }
      settle t (hkNext (if x.hk.slot < x.hk.seq.length then x else hkRoundComplete x))) }) ∧
  (∀ (s : State) (t : Nat) (d : Device),
    d = at50 s.dev t → domOn d 1 = true → rdB d Addr.HK_CFG 0 = true → d.hk.inRound = false → d.hk.injected = none →
    exec (.hkRoundTick t) s = .next { s with dev := hkNext { d with hk := { d.hk with roundWaits := true } } }) ∧
  (∀ (s : State) (t : Nat) (d : Device),
    d = at50 s.dev t → domOn d 1 = true → rdB d Addr.HK_CFG 0 = true → d.hk.inRound = true →
    exec (.hkRoundTick t) s = .next { s with dev := (
      let e := count d Addr.HK_ROUND_LATE_CNT
      { e with hk := { e.hk with roundWaits := true } }) }) ∧
  (∀ (s : State) (t : Nat) (d e : Device),
    d = at50 s.dev t → domOn d 1 = true → d.therm.roundEnd = true →
    e = ntcSettle (each (List.finRange 16) (ntcCheck { d with therm := { d.therm with roundEnd := false } })
      { d with therm := { d.therm with roundEnd := false } }) →
    e.cfg.loaded = true →
    exec (.hkRoundEnd t) s = .next { s with dev := (
      let x := refRound (xtalRound e)
      if x.hk.recovering && unitReady x then wrB { x with hk := { x.hk with recovering := false } } Addr.HK_CFG 1 false
      else x) }) ∧
  (∀ (s : State) (t : Nat) (d : Device) (source : Nat),
    d = at50 s.dev t → domOn d 1 = true → rdB d Addr.HK_CFG 0 = true → rdB d Addr.HK_INJ_CFG (8 + source) = true →
    rdB d Addr.HK_STAT 7 = false → d.hk.injected = none → d.hk.regular = false →
    exec (.hkInjectedTrigger source t) s = .next { s with dev := hkStartInjected d false (hkInjSequence d) }) ∧
  (∀ (s : State) (t : Nat) (d : Device) (i at' : Nat),
    d = at50 s.dev t → domOn d 1 = true → i < 64 → i ≠ 44 → Sparse.find i d.hk.lastDone = some at' →
    at' + hkTwoRounds d ≤ t → rdB d (Addr.HK_RESULT i) 30 = false →
    thInput (wrB d (Addr.HK_RESULT i) 30 true) i = false →
    exec (.hkResultStale i t) s = .next { s with dev := wrB d (Addr.HK_RESULT i) 30 true })

/-- The commands of the calibration engine (R63, R65 to R67). -/
def Obligations.TheCalibrationEngine : Prop :=
  (∀ (s : State) (t : Nat) (d : Device) (chan : Nat),
    d = at50 s.dev t → domOn d 1 = true → calState d = 0 → 64 ≤ chan → chan < 80 →
    exec (.calStart chan t) s = .next { s with dev := (
      calSet (wrF { d with cal := { d.cal with cmdAt := t } } Addr.CAL_STAT 16 7 chan) 1 0) }) ∧
  (∀ (s : State) (t : Nat) (d : Device),
    d = at50 s.dev t → domOn d 1 = true → calState d = 1 →
    exec (.calZero t) s = .next { s with dev := calMeasure { d with cal := { d.cal with cmdAt := t } } 2 t }) ∧
  (∀ (s : State) (t : Nat) (d : Device),
    d = at50 s.dev t → domOn d 1 = true → calState d ≠ 1 →
    exec (.calZero t) s = .next { s with dev := calRefuse { d with cal := { d.cal with cmdAt := t } } 12 }) ∧
  (∀ (s : State) (t : Nat) (d : Device),
    d = at50 s.dev t → domOn d 1 = true → calState d = 3 → 2 ^ 28 ≤ (rdI d Addr.CAL_REF).natAbs →
    exec (.calFull t) s = .next { s with dev := calMeasure { d with cal := { d.cal with cmdAt := t } } 4 t }) ∧
  (∀ (s : State) (t : Nat) (d : Device),
    d = at50 s.dev t → domOn d 1 = true → calState d = 3 → (rdI d Addr.CAL_REF).natAbs < 2 ^ 28 →
    exec (.calFull t) s = .next { s with dev := calSet { d with cal := { d.cal with cmdAt := t } } 1 8 }) ∧
  (∀ (s : State) (t : Nat) (d : Device),
    d = at50 s.dev t → domOn d 1 = true → calState d = 5 →
    exec (.calCommit t) s = .next { s with dev := calCommitWith { d with cal := { d.cal with cmdAt := t } } 2 }) ∧
  (∀ (s : State) (t : Nat) (d : Device),
    d = at50 s.dev t → domOn d 1 = true → (calState d = 2 ∨ calState d = 4) →
    exec (.calAbort t) s = .next { s with dev := settle t (calIdle { d with cal := { d.cal with cmdAt := t } } 14 t) }) ∧
  (∀ (s : State) (t : Nat) (d : Device),
    d = at50 s.dev t → domOn d 1 = true → calState d = 1 → offsetOk (rdI d Addr.CAL_RST_OFF) = true →
    gainOk (rdN d Addr.CAL_RST_GAIN) = true → 64 ≤ calEntry d →
    exec (.calEngineRestore t) s = .next { s with dev := (
      calCommitWith (wr (wr { d with cal := { d.cal with cmdAt := t } } Addr.CAL_NEW_OFF (rd d Addr.CAL_RST_OFF))
        Addr.CAL_NEW_GAIN (rd d Addr.CAL_RST_GAIN)) 3) })

/-- What the calibration engine does of itself (R63, R64, R67). -/
def Obligations.TheCourseOfACalibration : Prop :=
  (∀ (s : State) (t : Nat) (d : Device) (at' : Nat),
    d = at50 s.dev t → domOn d 1 = true → d.cal.settleTill = some at' → at' ≤ t → calEntry d < 64 →
    exec (.calSettleExpiry t) s = .next { s with dev := (
      { d with cal := { d.cal with settleTill := none, count := 0, sum := 0, wants := false } }) }) ∧
  (∀ (s : State) (t : Nat) (d : Device),
    d = at50 s.dev t → domOn d 1 = true → calState d = 2 → d.cal.settleTill = none → d.cal.count = calReadings d →
    calState (wrN d Addr.CAL_SPREAD
      (roundDiv ((d.cal.most - d.cal.least).toNat * 1000000 : Nat) (2 ^ 30)).toNat) = 2 →
    exec (.calAveragingDone t) s = .next { s with dev := (
      let spread := (d.cal.most - d.cal.least).toNat
      let e := wrN d Addr.CAL_SPREAD (roundDiv (spread * 1000000 : Nat) (2 ^ 30)).toNat
      settle t (calSet (wrI { e with cal := { e.cal with zeroSpread := spread } } Addr.CAL_ZERO_MEAS
        (roundDiv d.cal.sum (calReadings d))) 3 0)) }) ∧
  (∀ (s : State) (t : Nat) (d : Device),
    d = at50 s.dev t → domOn d 1 = true → (calState d = 2 ∨ calState d = 4) → d.cal.settleTill = none →
    exec (.calFlaggedReading t) s = .next { s with dev := (
      settle t (calSet { d with cal := { d.cal with wants := false } } 1 11)) }) ∧
  (∀ (s : State) (t : Nat) (d : Device),
    d = at50 s.dev t → domOn d 1 = true → calState d ≠ 0 → calState d ≠ 6 →
    d.cal.cmdAt + sec (fieldN d 0x02B3) ≤ t →
    exec (.calTimeout t) s = .next { s with dev := settle t (calIdle d 10 t) }) ∧
  (∀ (s : State) (t : Nat) (d : Device) (p : CalPass),
    d = at50 s.dev t → domOn d 1 = true → calState d = 6 → d.cal.written = true → loomMode d = .run →
    calMeter d = false →
    p = { entry := calEntry d, offset := rd d Addr.CAL_NEW_OFF, gain := rd d Addr.CAL_NEW_GAIN,
          info := word (d.cal.origin * 2 ^ 24 + memNat d (calAddr (calEntry d) + 9) 1 / 2 * 2 ^ 21
            + memNat d (calAddr (calEntry d) + 10) 2) } →
    exec (.calCommitDone t) s = .next { s with dev := (
      settle t (calIdle (raise { d with calPass := d.calPass ++ [p] } .calCommitted (calEntry d)) 0 t)) })

/-- Heat and the slow stores (R290, R299, R302, R316, R323, R419): the thermal tick with the model off and with it on (the
crystal trim moves with the tick: the model's reading, log 80), the shutdown record, the restart, the operations of the MRAM
controller and a resolved stack. -/
def Obligations.HeatAndTheSlowStores : Prop :=
  (∀ (s : State) (t : Nat) (d e : Device),
    d = at50 s.dev t → domOn d 1 = true →
    e = showCorr { d with clock := { d.clock with trimUsed := slewTo d.clock.trimUsed (rdI d Addr.CLK_TRIM) 20 } } →
    rdB d Addr.TH_CFG 0 = false →
    exec (.thermalTick t) s = .next { s with dev := e }) ∧
  (∀ (s : State) (t : Nat) (d e : Device),
    d = at50 s.dev t → domOn d 1 = true →
    e = showCorr { d with clock := { d.clock with trimUsed := slewTo d.clock.trimUsed (rdI d Addr.CLK_TRIM) 20 } } →
    rdB d Addr.TH_CFG 0 = true →
    exec (.thermalTick t) s = .next { s with dev := (
      let e := ntcSettle (modelNtcs (each (List.finRange 24) legStep e))
      let e := each (List.finRange 24) (fun e n =>
        wrN e (Addr.TH_TJ n.1) (tempWord (roundDiv (junction e n) 62500000))) e
      thCompare (each (List.finRange 24) legWarn e) t) }) ∧
  (∀ (s : State) (t : Nat) (d : Device) (r : List Byte),
    d = at50 s.dev t → domOn d 1 = true → d.therm.record = some r → d.mram.any (·.running) = false →
    exec (.thermalRecordWrite t) s = .next { s with dev := (
      thermalPut { d with therm := { d.therm with record := none } } r) }) ∧
  (∀ (s : State) (t : Nat) (d e : Device) (mask : Fin 16),
    d = at50 s.dev t → domOn d 1 = true →
    e = each (List.finRange 4) (fun e h =>
      if mask.1.testBit h.1 && rdB e Addr.TH_STAT h.1 then
        match restartFails e h.1 with
        | 0 => tryRelease (dropCause (wrB e Addr.TH_STAT h.1 false) h.1 12) h t
        | r => if e.therm.refused = 0 then { e with therm := { e.therm with refused := r } } else e
      else e) { d with therm := { d.therm with refused := 0 } } →
    rdF e Addr.TH_STAT 0 4 ≠ 0 →
    exec (.thRestartWrite mask t) s = .next { s with dev := e }) ∧
  (∀ (s : State) (t : Nat) (d : Device) (i : Nat) (x : MramTx) (op next : MramOp) (ops : List MramOp),
    d = at50 s.dev t → domOn d 1 = true → d.mram.findIdx? (·.running) = some i → d.mram[i]? = some x →
    x.ops = op :: next :: ops →
    exec (.mramOperationDone t) s = .next { s with dev := (
      let e := mramApply d op
      settle t (sleepGo t (mramKick { e with mram := (e.mram.set i
        { x with running := false, ops := next :: ops,
                 committed := x.committed || op == .commit || x.writer == 0 }) }))) }) ∧
  (∀ (s : State) (t : Nat) (d : Device) (i : Nat) (x : MramTx) (op : MramOp),
    d = at50 s.dev t → domOn d 1 = true → d.mram.findIdx? (·.running) = some i → d.mram[i]? = some x → x.ops = [op] →
    exec (.mramOperationDone t) s = .next { s with dev := (
      let e := mramApply d op
      settle t (sleepGo t (mramKick (txDone x.note t { e with mram := e.mram.eraseIdx i })))) }) ∧
  (∀ (s : State) (t : Nat) (d : Device) (c : CfgChange),
    d = at50 s.dev t → domOn d 1 = true → redState d = 0 → d.cfg.change = some c → c.resolved = false →
    exec (.stackResolved t) s = .next { s with dev := (
      cfgApply 1 t { d with cfg := { d.cfg with change := some (resolveChange d c) } }) })

/-- The supplies (R401, R404, R408, R413): `VIN`, the power-fail sequence and the hold-up store. -/
def Obligations.SuppliesAndPowerFailure : Prop :=
  (∀ (s : State) (t : Nat) (d : Device),
    d = at50 s.dev t → d.power.vinValid = false → d.power.storeEmpty = true → d.power.vbakLost = false →
    exec (.vinValid t) s = .next { s with dev := (
      let e := restart 2 0 d
      setDom { e with power := { e.power with vinValid := true, startAt := t, storeEmpty := false } } 0 true) }) ∧
  (∀ (s : State) (t : Nat) (d : Device),
    d = at50 s.dev t → d.power.vinValid = false → d.power.storeEmpty = true → d.power.vbakLost = true →
    exec (.vinValid t) s = .next { s with dev := (
      let e := restart 1 0 d
      setDom { e with power := { e.power with
        vinValid := true, startAt := t, storeEmpty := false, rtcSeconds := 0, rtcNanos := 0, rtcAt := t } } 0 true) }) ∧
  (∀ (s : State) (t : Nat) (d e : Device),
    d = at50 s.dev t → d.power.vinValid = true → d.power.vinfAt = none →
    e = count (wrB (wrB d Addr.PWR_STAT 21 true) Addr.PWR_STAT 22 false) Addr.PWR_VINF_CNT → e.power = d.power →
    exec (.vinfDeclared t) s = .next { s with dev := (
      let e := wrB { e with power := { d.power with vinValid := false, vinBack := false } } Addr.PWR_STAT 17 true
      let e := { e with power := { e.power with vinfAt := some t, resetReq := none, sleepEntry := none } }
      ledgerSave (if domOn e 1 then hkTrigger e 2 else e)) }) ∧
  (∀ (s : State) (t : Nat) (d : Device),
    d = at50 s.dev t → d.power.vinValid = false → d.power.vinfAt.isSome = true → d.power.graceDone = false →
    exec (.vinfClear t) s = .next { s with dev := (
      let e := wrB { d with power := { d.power with vinValid := true } } Addr.PWR_STAT 21 false
      wrB { e with power := { e.power with vinfAt := none } } Addr.PWR_STAT 17 false) }) ∧
  (∀ (s : State) (t : Nat) (d : Device) (at' : Nat),
    d = at50 s.dev t → d.power.vinfAt = some at' → d.power.graceDone = false → at' + vinfGrace d ≤ t →
    exec (.vinfGraceExpiry t) s = .next { s with dev := (
      domSwitchOff 3 t (domSwitchOff 2 t { d with power := { d.power with graceDone := true } })) }) ∧
  (∀ (s : State) (t : Nat) (d : Device) (at' : Nat),
    d = at50 s.dev t → d.power.vinfAt = some at' → d.power.graceDone = true → d.power.shedDone = false →
    (ownMode d = 0 ∨ at' + vinfGrace d + us 200 ≤ t) →
    exec (.vinfShedTimeout t) s = .next { s with dev := (
      each [6, 7, 8, 9, 10] (fun e n => domSwitchOff n t e) { d with power := { d.power with shedDone := true } }) }) ∧
  (∀ (s : State) (t : Nat) (d : Device) (mv : Nat),
    d = at50 s.dev t → d.power.shedDone = true → d.power.finalDone = false → mv ≤ 14000 →
    (each [4, 1, 5] (fun e n => domSwitchOff n t e) (mramHalt d)).power.vinBack = false →
    exec (.powerFailFinalWrite mv t) s = .next { s with dev := (
      let e := each [4, 1, 5] (fun e n => domSwitchOff n t e) (mramHalt d)
      wrB { e with power := { e.power with finalDone := true, starting := false } } Addr.PWR_STAT 20 false) }) ∧
  (∀ (s : State) (t : Nat) (d : Device),
    d = at50 s.dev t → d.power.finalDone = true → d.power.vinValid = false →
    exec (.holdup12v t) s = .next { s with dev := (
      wrB (wrB (domSwitchOff 11 t { d with power := { d.power with storeEmpty := true, vinfAt := none } })
        Addr.PWR_STAT 16 true) Addr.PWR_STAT 17 false) }) ∧
  (∀ (s : State) (t : Nat) (d : Device),
    d = at50 s.dev t → d.power.vinValid = true →
    exec (.holdupFull t) s = .next { s with dev := wrB d Addr.PWR_STAT 22 true }) ∧
  (∀ (s : State) (t : Nat) (d : Device),
    d = at50 s.dev t → rdB d Addr.PWR_STAT 16 = true →
    exec (.vbakLoss t) s = .next { s with dev := (
      { d with power := { d.power with vbakLost := true }, seals := d.seals.map (fun x => { x with latch := false }) }) })

/-- The requests to the power domains and to sleep (R406, R407, R414). -/
def Obligations.DomainsAndSleep : Prop :=
  (∀ (s : State) (t : Nat) (d : Device) (n : Fin 12),
    d = at50 s.dev t → domOn d 1 = true → powerBusy d = false → n.1 ≠ 0 → n.1 ≠ 1 → n.1 ≠ 5 → n.1 < 11 →
    exec (.pwrDomainOn n t) s = .next { s with dev := domSwitchOn n.1 d }) ∧
  (∀ (s : State) (t : Nat) (d : Device) (n : Fin 12),
    d = at50 s.dev t → domOn d 1 = true → powerBusy d = true →
    exec (.pwrDomainOn n t) s = .next { s with dev := (
      count (wrF (wrF d Addr.PWR_REFUSED 0 8 6) Addr.PWR_REFUSED 8 4 n.1) Addr.PWR_REFUSED_CNT) }) ∧
  (∀ (s : State) (t : Nat) (d : Device) (n : Fin 12) (steward : Bool),
    d = at50 s.dev t → domOn d 1 = true → offCode d n.1 steward = 0 →
    exec (.pwrDomainOff n steward t) s = .next { s with dev := domSwitchOff n.1 t d }) ∧
  (∀ (s : State) (t : Nat) (d : Device) (n : Fin 12) (steward : Bool),
    d = at50 s.dev t → domOn d 1 = true → offCode d n.1 steward ≠ 0 →
    exec (.pwrDomainOff n steward t) s = .next { s with dev := refuseRequest (offCode d n.1 steward) n.1 d }) ∧
  (∀ (s : State) (t : Nat) (d : Device) (steward : Bool),
    d = at50 s.dev t → domOn d 1 = true → cycleCode d 11 steward = 0 →
    exec (.pwrDomainCycle 11 steward t) s = .next { s with dev := (
      { domSwitchOff 11 t d with power := { (domSwitchOff 11 t d).power with pd11OffAt := some t } }) }) ∧
  (∀ (s : State) (t : Nat) (d : Device) (at' : Nat),
    d = at50 s.dev t → d.power.pd11OffAt = some at' → at' + ms 100 ≤ t →
    exec (.pd11CycleRestart t) s = .next { s with dev := (
      domSwitchOn 11 { d with power := { d.power with pd11OffAt := none } }) }) ∧
  (∀ (s : State) (t : Nat) (d : Device),
    d = at50 s.dev t → domOn d 1 = true → sleepCode d = 0 → ownMode d = 0 →
    exec (.pwrSleepLevel1 t) s = .next { s with dev := (
      sleepGo t { d with power := { d.power with sleepEntry := some 1, wakePending := false } }) } ∧
    exec (.pwrSleepLevel2 t) s = .next { s with dev := (
      sleepGo t (ledgerSave { d with power := { d.power with sleepEntry := some 2, wakePending := false } })) }) ∧
  (∀ (s : State) (t : Nat) (d : Device),
    d = at50 s.dev t → domOn d 1 = true → sleepCode d ≠ 0 →
    exec (.pwrSleepLevel1 t) s = .next { s with dev := refuseRequest (sleepCode d) 0 d } ∧
    exec (.pwrSleepLevel2 t) s = .next { s with dev := refuseRequest (sleepCode d) 0 d }) ∧
  (∀ (s : State) (t : Nat) (d : Device),
    d = at50 s.dev t → domOn d 1 = true → rdF d Addr.PWR_STAT 18 2 = 1 → d.power.sleepEntry = none →
    exec (.pwrSleepExit t) s = .next { s with dev := wake d }) ∧
  (∀ (s : State) (t : Nat) (d : Device) (low : Nat),
    d = at50 s.dev t → domOn d 0 = true → 100 ≤ low → rdB d Addr.PWR_WAKE_MASK 0 = true → d.power.sleepEntry = none →
    exec (.wakeNLow low t) s = .next { s with dev := wake d }) ∧
  (∀ (s : State) (t : Nat) (d : Device),
    d = at50 s.dev t → domOn d 0 = true → rdN d Addr.PWR_RTC_ALARM ≠ 0 → rdN d Addr.PWR_RTC_ALARM ≤ rtcNow t d →
    rdB d Addr.PWR_WAKE_MASK 1 = true → d.power.sleepEntry = none →
    exec (.rtcAlarm t) s = .next { s with dev := wake d })

/-- Resets, start-up and ready (R408 to R411). -/
def Obligations.ResetsAndStartUp : Prop :=
  (∀ (s : State) (t : Nat) (d : Device) (low : Nat),
    d = at50 s.dev t → 10000 ≤ low →
    exec (.pinReset low t) s = .next { s with dev := resetBegin 4 t d }) ∧
  (∀ (s : State) (t : Nat) (d : Device) (low : Nat),
    d = at50 s.dev t → low < 2000 →
    exec (.pinReset low t) s = .next { s with dev := d }) ∧
  (∀ (s : State) (t : Nat) (d : Device) (idle : Nat),
    d = at50 s.dev t → domOn d 1 = true → 105000 ≤ idle →
    exec (.stewardWatchdogExpiry idle t) s = .next { s with dev := resetBegin 5 t d }) ∧
  (∀ (s : State) (t : Nat) (d : Device),
    d = at50 s.dev t → domOn d 1 = true →
    exec (.softwareReset 0xA5C3 t) s = .next { s with dev := resetBegin 6 t d }) ∧
  (∀ (s : State) (t : Nat) (d : Device) (v : Word),
    d = at50 s.dev t → domOn d 1 = true → v ≠ 0xA5C3 →
    exec (.softwareReset v t) s = .next { s with dev := d }) ∧
  (∀ (s : State) (t : Nat) (d : Device) (low : Nat),
    d = at50 s.dev t → domOn d 1 = true → 1000 ≤ low →
    exec (.coreSupervisorReset low t) s = .next { s with dev := resetBegin 7 t d }) ∧
  (∀ (d : Device) (kind t : Nat),
    d.power.vinfAt = none → d.power.resetReq = none → domOn d 5 = true → domOn d 1 = true → kind ≠ 7 →
    resetBegin kind t d = (
      let e := each (List.finRange 4) coreReset (selvedgeAll d t 0x0A)
      ledgerSave { e with power := { e.power with resetReq := some (kind, t), starting := true } })) ∧
  (∀ (s : State) (t : Nat) (d : Device),
    d = at50 s.dev t → d.power.resetReq = none → d.power.starting = true → d.power.vinfAt = none →
    stepComplete d (rdF d Addr.PWR_STEP 0 4) = true →
    exec (.startupStep t) s = .next { s with dev := stepBegin (rdF d Addr.PWR_STEP 0 4 + 1) t d }) ∧
  (∀ (s : State) (t : Nat) (d : Device) (kind at' : Nat),
    d = at50 s.dev t → d.power.resetReq = some (kind, at') → at' + ms 2 ≤ t →
    exec (.startupStep t) s = .next { s with dev := resetHold kind t d }) ∧
  (∀ (s : State) (t : Nat) (d : Device),
    d = at50 s.dev t → d.power.resetReq = none → d.power.starting = true → d.power.vinfAt = none → notReady d ≠ 0 →
    exec (.unitReady t) s = .next { s with dev := wrN d Addr.PWR_NOT_READY (notReady d) }) ∧
  (∀ (s : State) (t : Nat) (d e : Device),
    d = at50 s.dev t → d.power.resetReq = none → d.power.starting = true → d.power.vinfAt = none → notReady d = 0 →
    e = wrB (wrB (wrF (wrN d Addr.PWR_NOT_READY 0) Addr.PWR_STEP 0 4 11) Addr.PWR_STAT 20 true) Addr.HK_CFG 1 false →
    exec (.unitReady t) s = .next { s with dev := (
      let e := if rdN e Addr.PWR_START_TIME = 0 then wrN e Addr.PWR_START_TIME ((t - e.power.startAt) / ms 1) else e
      let e := { e with power := { e.power with starting := false }, red := { e.red with readyAt := some t } }
      let e := if loomMode e = .stop then selvedgeAll e t 0x0A else e
      if paired e then e
      else if (ownWrite 1 t e).cfg.degraded then ownWrite 1 t e
      else ownWrite 2 t (ownWrite 1 t e)) })

/-- The MDLL: lock, loss and recovery (R423 to R427, R430). -/
def Obligations.LockAndCoast : Prop :=
  (∀ (s : State) (t : Nat) (d : Device) (mv : Nat),
    d = at50 s.dev t → domOn d 5 = true → rdB d Addr.CLK_STAT 0 = false → d.clock.acquiring = true →
    lockfInside d mv = true → coasting d = false →
    exec (.lockDeclared mv t) s = .next { s with dev := (
      { wrF (wrB (wrB (wrF d Addr.CLK_LOCKF_MV 0 12 mv) Addr.CLK_STAT 0 true) Addr.CLK_STAT 1 true)
          Addr.CLK_CTRL_VAL 0 16 (Config.freeWord d.freeCtr).toNat with
        freeCtr := d.freeCtr + 1,
        clock := { d.clock with acquiring := false, firstLock := some (d.clock.firstLock.getD t) } }) }) ∧
  (∀ (s : State) (t : Nat) (d : Device) (mv : Nat),
    d = at50 s.dev t → domOn d 5 = true → rdB d Addr.CLK_STAT 0 = false → d.clock.acquiring = true →
    lockfInside d mv = true → coasting d = true →
    exec (.lockDeclared mv t) s = .next { s with dev := (
      wrB { wrF (wrB (wrB (wrF d Addr.CLK_LOCKF_MV 0 12 mv) Addr.CLK_STAT 0 true) Addr.CLK_STAT 1 true)
          Addr.CLK_CTRL_VAL 0 16 (Config.freeWord d.freeCtr).toNat with
        freeCtr := d.freeCtr + 1,
        clock := { d.clock with
          acquiring := false, firstLock := some (d.clock.firstLock.getD t), holdFrom := some t } }
        Addr.CLK_STAT 2 true) }) ∧
  (∀ (s : State) (t : Nat) (d : Device) (mv held : Nat),
    d = at50 s.dev t → domOn d 5 = true → rdB d Addr.CLK_STAT 0 = true →
    exec (.lossOfLock true mv held t) s = .next { s with dev := (
      clockLoss false t { d with clock := { d.clock with acquiring := rdB d Addr.CLK_STAT 1 } }) }) ∧
  (∀ (s : State) (t : Nat) (d e : Device) (mv held : Nat),
    d = at50 s.dev t → domOn d 5 = true → rdB d Addr.CLK_STAT 0 = true →
    rdF d Addr.CLK_LOCKF 16 16 < mv → rdF d Addr.CLK_LOCKF_T 0 14 ≤ held → e = wrF d Addr.CLK_LOCKF_MV 0 12 mv →
    exec (.lossOfLock false mv held t) s = .next { s with dev := (
      clockLoss false t { e with clock := { d.clock with acquiring := rdB d Addr.CLK_STAT 1 } }) }) ∧
  (∀ (s : State) (t : Nat) (d : Device),
    d = at50 s.dev t → domOn d 5 = true → rdB d Addr.CLK_STAT 1 = true → d.clock.firstLock.isSome = true →
    exec (.lossOfReference t) s = .next { s with dev := (
      clockLoss true t (wrB { d with clock := { d.clock with acquiring := false } } Addr.CLK_STAT 1 false)) }) ∧
  (∀ (d : Device) (t : Nat), coasting d = false → redState d ≠ 3 →
    clockLoss false t d = (
      let e := wrB (wrB d Addr.CLK_STAT 0 false) Addr.CLK_STAT 2 false
      let e := wrB (wrB (wrB e Addr.CLK_STAT 3 true) Addr.CLK_STAT 4 true) Addr.CLK_STAT 5 true
      let e := wr64 (count e Addr.CLK_LOL_CNT) Addr.CLK_LOSS_TIME_LO (d.time.read (nextCkf d t))
      let e := { e with clock := { d.clock with holdFrom := none, lossAt := some (nextCkf d t) } }
      selfDiag (cutFrame (selvedgeAll e (nextCkf d t) 0x0D) (nextCkf d t)) 2 (nextCkf d t))) ∧
  (∀ (s : State) (t : Nat) (d : Device) (mv : Nat),
    d = at50 s.dev t → domOn d 5 = true → rdB d Addr.CLK_STAT 0 = true → rdB d Addr.CLK_STAT 6 = false →
    mv < rdF d Addr.CLK_LOCKF 0 16 →
    exec (.lockfFilterFault mv t) s = .next { s with dev := (
      raise (count (wrB (wrF d Addr.CLK_LOCKF_MV 0 12 mv) Addr.CLK_STAT 6 true) Addr.CLK_FILT_CNT) .clockFilter mv) }) ∧
  (∀ (s : State) (t : Nat) (d : Device) (mv : Nat),
    d = at50 s.dev t → domOn d 5 = true → rdB d Addr.CLK_STAT 6 = true → lockfInside d mv = true →
    exec (.filtFltClear mv t) s = .next { s with dev := (
      wrB (wrF d Addr.CLK_LOCKF_MV 0 12 mv) Addr.CLK_STAT 6 false) }) ∧
  (∀ (s : State) (t : Nat) (d : Device),
    d = at50 s.dev t → domOn d 5 = true → rdB d Addr.CLK_STAT 0 = false →
    exec (.referenceRecovered t) s = .next { s with dev := (
      { wrB (wrB d Addr.CLK_STAT 1 true) Addr.CLK_STAT 7 false with clock := { d.clock with acquiring := true } }) }) ∧
  (∀ (s : State) (t : Nat) (d : Device) (h at' : Nat),
    d = at50 s.dev t → domOn d 5 = true → d.clock.holdFrom = some h → rdB d Addr.CLK_STAT 2 = true →
    h + ms (rdF d Addr.CLK_CFG 0 10) ≤ t → d.clock.lossAt = some at' →
    exec (.relockHoldExpiry t) s = .next { s with dev := (
      let e := wrN (wrF d Addr.CLK_STAT 2 4 0) Addr.CLK_COAST_LAST (min ((t - at') / us 1) 0xFFFFFFFF)
      let e := { e with clock := { d.clock with holdFrom := none, lossAt := none } }
      hkRecover (each (List.finRange 4) (fun e h => ownerRelease e h t 0x0D) e)) })

/-- The handover of control and what starts it (R391, R394, R395, R399). -/
def Obligations.TheHandover : Prop :=
  (∀ (s : State) (t : Nat) (d : Device),
    d = at50 s.dev t → domOn d 1 = true → domOn d 6 = true → paired d = true → redState d = 2 → pairSync d = true →
    Completes (.redCtrlYield t) s (fun e => ∃ c, c = yieldStart (controlFrame d 2 5 [0x10]) 0x10 t ∧
      e = (if loomMode c = .stop then c else enterStop 3 t c))) ∧
  (∀ (s : State) (t : Nat) (d : Device),
    d = at50 s.dev t → domOn d 1 = true → domOn d 6 = true →
    exec (.redCtrlInhibit t) s = .next { s with dev := wrB d Addr.RED_STAT 14 true } ∧
    exec (.redCtrlAllow t) s = .next { s with dev := wrB d Addr.RED_STAT 14 false }) ∧
  (∀ (s : State) (t : Nat) (d e : Device),
    d = at50 s.dev t → domOn d 1 = true → paired d = true → redState d = 3 → e = wrB d Addr.RED_STAT 11 true →
    stateStale t d = false →
    exec (.phandNFall t) s = .next { s with dev := (
      setHand (ownWrite 1 t (setRedState { e with red := { e.red with takeFrom := some t } } 5)) true (t + 952)) }) ∧
  (∀ (s : State) (t : Nat) (d : Device),
    d = at50 s.dev t → domOn d 1 = true → paired d = true → redState d = 3 → stateStale t d = true →
    exec (.phandNFall t) s = .next { s with dev := (
      raise (wrB (wrB d Addr.RED_STAT 11 true) Addr.RED_STAT 13 true) .takeoverStale 0) }) ∧
  (∀ (s : State) (t : Nat) (d : Device),
    d = at50 s.dev t → domOn d 1 = true → paired d = true → redState d = 4 → ownMode d = 1 →
    exec (.phandNFall t) s = .next { s with dev := (yieldEnd t (wrB d Addr.RED_STAT 11 true)) }) ∧
  (∀ (s : State) (t : Nat) (d : Device),
    d = at50 s.dev t → domOn d 1 = true → redState d = 5 → ownMode d = 1 →
    exec (.pownNRise t) s = .next { s with dev := (
      ownWrite 2 t (wrB (wrB { d with red := { d.red with pownHighAt := some t } } Addr.RED_STAT 10 false)
        Addr.RED_STAT 11 false)) }) ∧
  (∀ (s : State) (t : Nat) (d : Device),
    d = at50 s.dev t → domOn d 1 = true → redState d ≠ 5 →
    exec (.pownNRise t) s = .next { s with dev := (
      wrB (wrB { d with red := { d.red with pownHighAt := some t } } Addr.RED_STAT 10 false)
        Addr.RED_STAT 11 false) }) ∧
  (∀ (s : State) (t : Nat) (d : Device) (h : Nat),
    d = at50 s.dev t → domOn d 1 = true → d.red.handAt = some h → redState d = 4 → ownMode d = 1 → h + us 50 ≤ t →
    exec (.handoverTimeout t) s = .next { s with dev := setRedState d 6 }) ∧
  (∀ (s : State) (t : Nat) (d : Device) (r f : Nat),
    d = at50 s.dev t → domOn d 1 = true → redState d = 3 → d.red.lastRx = some r → r + 2 * t0Time d ≤ t →
    d.red.pownHighAt = some f → f + us 25 ≤ t → stateStale t d = false →
    exec (.silentTakeover t) s = .next { s with dev := (
      ownWrite 2 t (ownWrite 1 t (setRedState { d with red := { d.red with takeFrom := some t } } 5))) }) ∧
  (∀ (s : State) (t : Nat) (d : Device) (r f : Nat),
    d = at50 s.dev t → domOn d 1 = true → redState d = 3 → d.red.lastRx = some r → r + 2 * t0Time d ≤ t →
    d.red.pownHighAt = some f → f + us 25 ≤ t → stateStale t d = true →
    exec (.silentTakeover t) s = .next { s with dev := (
      raise (wrB d Addr.RED_STAT 13 true) .takeoverStale 0) })

/-- The takeover boundary, takeback and the start of a pair (R393, R396, R397, R414). -/
def Obligations.TakingControl : Prop :=
  (∀ (s : State) (t : Nat) (d : Device) (f cycle : Nat) (bs : List Byte),
    d = at50 s.dev t → domOn d 1 = true → d.red.takeFrom = some f → d.red.image = some (cycle, bs) → redState d = 5 →
    ownMode d = 2 → f + us 9 ≤ t →
    Completes (.takeoverBoundary t) s (fun e => ∃ (x : Device) (cs : List CommitEntry),
      redState x = 2 ∧ rdB x Addr.RED_STAT 13 = false ∧ rdB x Addr.RED_STAT 12 = false ∧
      x.red.takeFrom = none ∧ x.red.mirrorDue = true ∧ x.tomus.sessions = [] ∧
      e = imageSend cs false true t (latchTasks (startingTasks x) (t + 2 * ckf) x))) ∧
  (∀ (s : State) (t : Nat) (d : Device) (at' : Nat),
    d = at50 s.dev t → domOn d 1 = true → domOn d 6 = true → paired d = true → unitB d = false → redState d = 3 →
    pairSync d = true → d.red.syncAt = some at' → at' + sec (rdF d Addr.RED_TIMES 16 12) ≤ t →
    1000 ≤ rdN d Addr.RED_MATCH → rdB d Addr.RED_STAT 7 = false → rdB d Addr.RED_STAT 8 = false →
    (rdI d Addr.RED_OFFSET).natAbs < 1000 → rdB d Addr.RED_STAT 14 = false →
    (rdF d Addr.RED_CFG 1 2 = 1 ∨ rdF d Addr.RED_CFG 1 2 = 2 ∧ partnerDisabled d = true) →
    exec (.takebackRequest t) s = .next { s with dev := controlFrame d 0 1 [] }) ∧
  (∀ (s : State) (t : Nat) (d e : Device) (lowThen : Bool),
    d = at50 s.dev t → domOn d 1 = true → paired d = true → redState d = 1 → Machine.unitReady d = true →
    e = pownRead true t d →
    exec (.pairStart true lowThen t) s = .next { s with dev := standbyEnter t e }) ∧
  (∀ (s : State) (t : Nat) (d e : Device) (lowThen : Bool),
    d = at50 s.dev t → domOn d 1 = true → paired d = true → redState d = 1 → Machine.unitReady d = true →
    unitB d = false → d.red.partner ≠ 2 → rdF d Addr.PWR_RST_CAUSE 0 8 ≠ 8 → e = pownRead false t d →
    exec (.pairStart false lowThen t) s = .next { s with dev := tryActive (!lowThen) t e }) ∧
  (∀ (s : State) (t : Nat) (d e : Device) (lowThen : Bool),
    d = at50 s.dev t → domOn d 1 = true → paired d = true → redState d = 1 → Machine.unitReady d = true →
    d.red.partner = 2 ∨ rdF d Addr.PWR_RST_CAUSE 0 8 = 8 → e = pownRead false t d →
    exec (.pairStart false lowThen t) s = .next { s with dev := standbyEnter t e }) ∧
  (∀ (s : State) (t : Nat) (d e : Device) (r : Nat) (low lowThen : Bool),
    d = at50 s.dev t → domOn d 1 = true → d.red.readyAt = some r → d.red.lastRx = none → paired d = true →
    redState d = 1 → unitB d = true → r + ms (rdF d Addr.RED_TIMES 0 14) ≤ t → e = pownRead low t d →
    exec (.redStartWaitExpiry low lowThen t) s = .next { s with dev := (
      if low then standbyEnter t e else tryActive (!lowThen) t e) }) ∧
  (∀ (t : Nat) (d : Device), tryActive true t d = setRedState (ownWrite 2 t (ownWrite 1 t d)) 2)

/-- Frames over the Filut link (R380, R383, R386). -/
def Obligations.TheFilutLink : Prop :=
  (∀ (s : State) (t : Nat) (d : Device) (start : Nat) (bs : List Byte),
    d = at50 s.dev t → domOn d 1 = true → domOn d 6 = true → filutRuns d = true →
    crc32c (bs.take (bs.length - 4)) ≠ sliceLE bs (bs.length - 4) 4 →
    exec (.filutFrameRx bs start t) s = .next { s with dev := (
      { count d Addr.RED_CRC_CNT with red := { (count d Addr.RED_CRC_CNT).red with rxRun := 0 } }) }) ∧
  (∀ (s : State) (t : Nat) (d : Device) (start : Nat) (bs : List Byte),
    d = at50 s.dev t → domOn d 1 = true → domOn d 6 = true → filutRuns d = true →
    36 ≤ bs.length → crc32c (bs.take (bs.length - 4)) = sliceLE bs (bs.length - 4) 4 → sliceLE bs 0 2 = 0x5057 →
    sliceLE bs 2 1 = 4 → bs.length = sliceLE bs 28 2 + 36 →
    d.red.rxSeq[4]? = some none →
    exec (.filutFrameRx bs start t) s = .next { s with dev := (
      showLink (statusTake ((bs.drop 32).take (sliceLE bs 28 2)) { d with red := { d.red with
        rxSeq := d.red.rxSeq.set! 4 (some (sliceLE bs 4 4)), rxRun := d.red.rxRun + 1, lastRx := some t } })) }) ∧
  (∀ (s : State) (t : Nat) (d : Device) (r : Nat),
    d = at50 s.dev t → domOn d 1 = true → domOn d 6 = true → d.red.lastRx = some r → r + 2 * t0Time d ≤ t →
    redState d ≠ 2 →
    exec (.filutLinkDown t) s = .next { s with dev := (
      wrB { d with red := { d.red with rxRun := 0, peerUp := false } } Addr.RED_STAT 6 false) }) ∧
  (∀ (s : State) (t : Nat) (d e : Device) (r : Nat),
    d = at50 s.dev t → domOn d 1 = true → domOn d 6 = true → d.red.lastRx = some r → r + 2 * t0Time d ≤ t →
    redState d = 2 → e = wrB { d with red := { d.red with rxRun := 0, peerUp := false } } Addr.RED_STAT 6 false →
    exec (.filutLinkDown t) s = .next { s with dev := wrB e Addr.RED_STAT 5 false }) ∧
  (∀ (s : State) (t : Nat) (d : Device),
    d = at50 s.dev t → domOn d 1 = true → domOn d 6 = true → redState d = 2 → d.red.stopTx = false →
    filutRuns d = true → d.red.mirrorDue = false → d.red.mirrorTx = [] → d.red.t1Tx ≠ [] →
    0 < segmentRoom d (max t d.red.txEnd) →
    exec (.filutSegmentTx t) s = .next { s with dev := (
      let start := max t d.red.txEnd
      let bs := d.red.t1Tx.take (min 4088 (segmentRoom d start))
      let e := filutSend d 2 0 d.red.t1TxAt (ialos d) (bytesLE 4 d.red.t1TxOff ++ bytesLE 4 d.red.t1TxAt ++ bs)
      { e with red := { e.red with
        t1Tx := e.red.t1Tx.drop (min 4088 (segmentRoom d start)), t1TxOff := e.red.t1TxOff + bs.length,
        txEnd := start + linkTime (bs.length + 52) } }) }) ∧
  (∀ (d : Device) (type flags cycle time : Nat) (payload : List Byte), filutRuns d = true →
    filutSend d type flags cycle time payload = (
      let seq := (d.red.txSeq[type]?).getD 0
      let body := filutHeader d type flags seq cycle time payload.length ++ payload
      let e := countWrap d Addr.RED_TX_CNT Addr.RED_TX_WRAP
      { e with red := { e.red with txSeq := e.red.txSeq.set! type ((seq + 1) % 2 ^ 32) },
               out := e.out ++ [(.filut, body ++ bytesLE 4 (crc32c body))] }))

/-- Ethernet and PRP (R355 to R358). -/
def Obligations.EthernetAndPrp : Prop :=
  (∀ (s : State) (t : Nat) (d : Device) (n : Fin 2) (f : List Byte) (ts tx : Nat),
    d = at50 s.dev t → domOn d 1 = true → domOn d 6 = true → ethOn d n.1 = true → macTakes d f = false →
    exec (.ethFrameRx n f ts tx t) s = .next { s with dev := count d (Addr.ETH_RXDROP_CNT n.1) }) ∧
  (∀ (s : State) (t : Nat) (d : Device) (n : Fin 2) (f : List Byte) (ts tx : Nat),
    d = at50 s.dev t → domOn d 1 = true → domOn d 6 = true → ethOn d n.1 = true → macTakes d f = true →
    (frameBody f).1 = 0x88F7 →
    exec (.ethFrameRx n f ts tx t) s = .next { s with dev := ptpRx n (frameBody f).2 ts tx t d }) ∧
  (∀ (s : State) (t : Nat) (d : Device) (n : Fin 2) (f : List Byte) (ts tx : Nat),
    d = at50 s.dev t → domOn d 1 = true → domOn d 6 = true → ethOn d n.1 = true → macTakes d f = true →
    (frameBody f).1 = 0x0806 → prpOn d = false →
    exec (.ethFrameRx n f ts tx t) s = .next { s with dev := arpRx n.1 (frameBody f).2 d }) ∧
  (∀ (s : State) (t : Nat) (d : Device) (n : Fin 2) (f : List Byte) (ts tx : Nat),
    d = at50 s.dev t → domOn d 1 = true → domOn d 6 = true → ethOn d n.1 = true → macTakes d f = true →
    (frameBody f).1 = 0x0800 → prpOn d = false →
    exec (.ethFrameRx n f ts tx t) s = .next { s with dev := ipRx n.1 ((f.drop 6).take 6) (frameBody f).2 t d }) ∧
  (∀ (s : State) (t : Nat) (d : Device) (n : Fin 2) (f : List Byte) (ts tx seq : Nat),
    d = at50 s.dev t → domOn d 1 = true → domOn d 6 = true → ethOn d n.1 = true → macTakes d f = true →
    (frameBody f).1 ≠ 0x88F7 → prpOn d = true → prpSeq? f = some seq →
    (prpSee (natBE ((f.drop 6).take 6)) seq n.1 t d).1 = true →
    exec (.ethFrameRx n f ts tx t) s = .next { s with dev := (prpSee (natBE ((f.drop 6).take 6)) seq n.1 t d).2 }) ∧
  (∀ (s : State) (t : Nat) (d e : Device) (n : Fin 2) (speed : Nat),
    d = at50 s.dev t → domOn d 1 = true → domOn d 6 = true → rdF d Addr.NET_CFG (4 + 2 * n.1) 2 = 0 →
    e = wrF (wrB d Addr.ETH_LINK n.1 true) Addr.ETH_LINK (2 + 2 * n.1) 2 (speed % 4) →
    Completes (.ethLinkChange n true speed t) s (fun x => ∃ y : Device,
      y = stationsFollow (elect false (updPort e n (fun p => { p with heardAt := t }))) ∧
      x = (if rdF y Addr.ETH_LINK 0 2 = 0 then timeHoldover t y else y))) ∧
  (∀ (s : State) (t : Nat) (d : Device), d = at50 s.dev t → domOn d 1 = true → domOn d 6 = true → prpOn d = true →
    exec (.prpSupervisionTx t) s = .next { s with dev := (
      let e := prpAge t d
      let body := bytesBE 2 0x0001 ++ bytesBE 2 e.net.prpSeq ++ [20, 6] ++ macBytes e ++ [0, 0]
      ethOut 0 (ethFrame e [0x01, 0x15, 0x4E, 0x00, 0x01, 0x00] 0x88FB body) e) }) ∧
  (∀ (d : Device) (n : Nat) (f : List Byte), prpOn d = false → ethOn d n = true →
    ethOut n f d = { d with out := d.out ++ [(.eth n, f)] })

/-- CAN FD (R359). -/
def Obligations.CanFd : Prop :=
  (∀ (s : State) (t : Nat) (d : Device) (c : Fin 2) (ident : Nat) (ext room : Bool) (bs : List Byte),
    d = at50 s.dev t → domOn d 1 = true → domOn d 6 = true →
    exec (.canFrameRx c ident ext false room bs t) s = .next { s with dev := d }) ∧
  (∀ (s : State) (t : Nat) (d : Device) (c : Fin 2) (ident : Nat) (ext : Bool) (bs : List Byte),
    d = at50 s.dev t → domOn d 1 = true → domOn d 6 = true → canOn d c.1 = true →
    exec (.canFrameRx c ident ext true false bs t) s = .next { s with dev := count d (Addr.CAN_RXLOST_CNT c.1) }) ∧
  (∀ (s : State) (t : Nat) (d : Device) (c : Fin 2) (ident : Nat) (ext : Bool) (bs : List Byte),
    d = at50 s.dev t → domOn d 1 = true → domOn d 6 = true → canOn d c.1 = true → ext = rdB d (Addr.CAN_CFG c.1) 1 →
    ident = rdF d (Addr.CAN_TRXID c.1) 0 29 →
    exec (.canFrameRx c ident ext true true bs t) s = .next { s with dev := packetRx (3 + c.1) (.can c.1) bs t d }) ∧
  (∀ (s : State) (t : Nat) (d : Device) (c : Fin 2) (ident : Nat) (ext : Bool) (bs : List Byte),
    d = at50 s.dev t → domOn d 1 = true → domOn d 6 = true → canOn d c.1 = true → ext = rdB d (Addr.CAN_CFG c.1) 1 →
    ident ≠ rdF d (Addr.CAN_TRXID c.1) 0 29 →
    exec (.canFrameRx c ident ext true true bs t) s = .next { s with dev := stationFrame (1 + c.1) ident bs t d }) ∧
  (∀ (s : State) (t : Nat) (d : Device) (c : Fin 2),
    d = at50 s.dev t → domOn d 1 = true → domOn d 6 = true → canOn d c.1 = true →
    exec (.canBusOff c t) s = .next { s with dev := (
      stationsFollow (count (wrF d (Addr.CAN_STAT c.1) 0 2 2) (Addr.CAN_BUSOFF_CNT c.1))) }) ∧
  (∀ (s : State) (t : Nat) (d : Device) (c : Fin 2),
    d = at50 s.dev t → domOn d 1 = true → domOn d 6 = true → rdF d (Addr.CAN_STAT c.1) 0 2 = 2 →
    exec (.canBusOffRecovery c t) s = .next { s with dev := stationsFollow (wrN d (Addr.CAN_STAT c.1) 0) })

/-- The messages of PTP (R365, R366, R368, R369). -/
def Obligations.ThePtpMessages : Prop :=
  (∀ (s : State) (t : Nat) (d : Device) (n : Fin 2) (m : List Byte) (ts src : Nat) (a : Announce),
    d = at50 s.dev t → domOn d 1 = true → domOn d 6 = true → ptpOn d n.1 = true → ptpValid d m = true →
    (d.net.ports[n.1]).role = .slave → (d.net.ports[n.1]).best = some (src, a) → src = ptpSource m → 44 ≤ m.length →
    ptpType m = 0 → ptpTwoStep m = false →
    exec (.ptpSyncRx n m ts t) s = .next { s with dev := (
      timeOffset (rxStamp d n.1 ts - ptpTime m 34 - roundDiv (ptpCorrection m) 65536 - rdN d (Addr.TIME_PDELAY n.1)) t d) }) ∧
  (∀ (s : State) (t : Nat) (d : Device) (n : Fin 2) (m : List Byte) (ts src : Nat) (a : Announce),
    d = at50 s.dev t → domOn d 1 = true → domOn d 6 = true → ptpOn d n.1 = true → ptpValid d m = true →
    (d.net.ports[n.1]).role = .slave → (d.net.ports[n.1]).best = some (src, a) → src = ptpSource m → 44 ≤ m.length →
    ptpType m = 0 → ptpTwoStep m = true →
    exec (.ptpSyncRx n m ts t) s = .next { s with dev := (
      updPort d n (fun p => { p with sync := some (ptpSeq m, rxStamp d n.1 ts, ptpCorrection m) })) }) ∧
  (∀ (s : State) (t : Nat) (d : Device) (n : Fin 2) (m : List Byte),
    d = at50 s.dev t → domOn d 1 = true → domOn d 6 = true → ptpOn d n.1 = true → ptpValid d m = true →
    ptpType m = 11 → 64 ≤ m.length → (readAnnounce m).identity ≠ natBE (clockIdentity d) → (readAnnounce m).steps < 255 →
    keepOffer (d.net.ports[n.1]).best (ptpSource m) (readAnnounce m) = true →
    exec (.ptpAnnounceRx n m t) s = .next { s with dev := (
      elect false (updPort d n (fun p => { p with best := some (ptpSource m, readAnnounce m), heardAt := t }))) }) ∧
  (∀ (s : State) (t : Nat) (d : Device) (n : Fin 2),
    d = at50 s.dev t → domOn d 1 = true → domOn d 6 = true → ptpOn d n.1 = true →
    (d.net.ports[n.1]).heardAt + sec 3 ≤ t →
    exec (.ptpAnnounceTimeout n t) s = .next { s with dev := (
      elect true (updPort d n (fun p => { p with best := none, sync := none }))) }) ∧
  (∀ (s : State) (t : Nat) (d : Device) (n : Fin 2) (m : List Byte) (ts tx : Nat),
    d = at50 s.dev t → domOn d 1 = true → domOn d 6 = true → ptpOn d n.1 = true → ptpValid d m = true →
    54 ≤ m.length → ptpType m = 2 →
    exec (.ptpPdelayRx n m ts tx t) s = .next { s with dev := (
      ptpSend n.1 true (ptpMessage d n.1 3 (ptpSeq m)
        (ptpCorrection m + (txStamp d n.1 tx - rxStamp d n.1 ts) * 65536) 5 0x7F
        (zeros 10 ++ bytesBE 10 (ptpSource m))) d) }) ∧
  (∀ (s : State) (t : Nat) (d : Device) (n : Fin 2) (m : List Byte) (ts tx : Nat) (left : Int),
    d = at50 s.dev t → domOn d 1 = true → domOn d 6 = true → ptpOn d n.1 = true → ptpValid d m = true →
    54 ≤ m.length → ptpType m = 3 → (d.net.ports[n.1]).pdelayAt = some left →
    (m.drop 44).take 10 = portIdentity d n.1 → ptpSeq m = (d.net.ports[n.1]).seq → ptpTwoStep m = false →
    exec (.ptpPdelayRx n m ts tx t) s = .next { s with dev := (
      showPdelay n.1 ((rxStamp d n.1 ts - left) * 65536 - ptpCorrection m) d) }) ∧
  (∀ (s : State) (t : Nat) (d : Device) (n : Fin 2) (tsSync tsReq : Nat),
    d = at50 s.dev t → domOn d 1 = true → domOn d 6 = true → ptpOn d n.1 = true →
    (d.net.ports[n.1]).role ≠ .master →
    exec (.ptpIntervalTx n tsSync tsReq t) s = .next { s with dev := (
      let seq := ((d.net.ports[n.1]).seq + 1) % 65536
      let e := ptpSend n.1 true (ptpMessage d n.1 2 seq 0 5 0 (zeros 20)) d
      updPort e n (fun p => { p with seq := seq, pdelayAt := some (txStamp e n.1 tsReq), resp := none })) })

/-- The states of the timebase and what an Ialos second does (R363 to R367, R371, R372). -/
def Obligations.TheTimebase : Prop :=
  (∀ (s : State) (t : Nat) (d : Device),
    d = at50 s.dev t → domOn d 1 = true → d.net.syncAt + sec 3 ≤ t → timeState d = 2 ∨ timeState d = 3 →
    exec (.ptpSyncTimeout t) s = .next { s with dev := (
      updNet (setTimeState 4 d) (fun x => { x with holdFrom := some t, runIn := 0, runOut := 0 })) }) ∧
  (∀ (s : State) (t : Nat) (d : Device) (at' : Nat),
    d = at50 s.dev t → domOn d 1 = true → d.net.holdFrom = some at' → timeState d = 4 →
    at' + sec (rdF d Addr.TIME_LIMS 20 12) ≤ t →
    exec (.holdoverExpiry t) s = .next { s with dev := wrB d Addr.TIME_STAT 3 true }) ∧
  (∀ (s : State) (t : Nat) (d e : Device),
    d = at50 s.dev t → domOn d 1 = true → d.time.tickRead t / 1000000000 ≠ d.net.lastSec → d.time.total t < 2 ^ 64 →
    d.time.read t / 1000000000 = d.time.tickRead t / 1000000000 → timeState d = 3 →
    e = wr64 (wr64 d (Addr.TIME_XCAP_IALOS_LO 0) (d.time.read t)) (Addr.TIME_XCAP_EDGE_LO 0) (edgeNow d t) →
    exec (.ialosSecondBoundary t) s = .next { s with dev := (
      updNet { e with power := { e.power with
          rtcSeconds := d.time.read t / 1000000000, rtcNanos := d.time.read t % 1000000000, rtcAt := t, vbakLost := false } }
        (fun x => { x with lastSec := d.time.tickRead t / 1000000000, tpps := if rdB d Addr.NET_CFG 3 then some t else x.tpps })) }) ∧
  (∀ (s : State) (t : Nat) (d : Device) (at' : Nat),
    d = at50 s.dev t → domOn d 1 = true → d.net.tpps = some at' → at' + ms 100 ≤ t →
    exec (.tppsFall t) s = .next { s with dev := updNet d (fun x => { x with tpps := none }) }) ∧
  (∀ (offset : Int) (t : Nat) (d : Device), rdB d Addr.TIME_STAT 4 = false →
    timeOffset offset t d = (
      let e := wrI d Addr.TIME_OFFSET (clampI (-(2 ^ 31 - 1)) (2 ^ 31 - 1) offset)
      updNet (timeStep offset t (updNet e (fun x => { x with syncAt := t })))
        (fun x => { x with runIn := 0, runOut := 0, integral := 0 }))) ∧
  (∀ (offset : Int) (t : Nat) (d : Device),
    (timeStep offset t d).time = { d.time with
      ns := (Int.emod ((d.time.read (nextTick t) : Int) - offset) (2 ^ 64)).toNat, frac := 0, at50 := nextTick t }) ∧
  (∀ (b : TimeBase) (t : Nat), b.at50 ≤ t →
    (b.settle t).at50 ≤ t ∧ (b.settle t).frac < 2 ^ 33 ∧ (b.settle t).ns < 2 ^ 64 ∧
    (∀ u, t ≤ u → (b.settle t).read u = b.read u))

/-- The calls of the grid-forming kernel (R154, R163, R174, R348): `gfk_init`, and `gfk_step` with the command of its
input block or with one that the steward has placed. -/
def Obligations.TheCallsOfTheKernel : Prop :=
  (∀ (s : State) (t : Nat) (d : Device) (ctx : Nat),
    d = at50 s.dev t → (domOn d 2 || domOn d 3) = true →
    exec (.gfkInit ctx t) s = .next { s with dev := Machine.gfkInit ctx d }) ∧
  (∀ (s : State) (t : Nat) (d : Device) (ctx inp out : Nat),
    d = at50 s.dev t → (domOn d 2 || domOn d 3) = true → memNat d (inp + 4) 4 ≠ 0 →
    exec (.gfkStep ctx inp out t) s = .next { s with dev := gfkCall ctx inp out (memNat d (inp + 4) 4) d }) ∧
  (∀ (s : State) (t : Nat) (d : Device) (ctx inp out k : Nat) (i : LoomImage),
    d = at50 s.dev t → (domOn d 2 || domOn d 3) = true → memNat d (inp + 4) 4 = 0 → d.loom.kernelNow = some k →
    d.loom.image = some i → i.kctx = ctx →
    exec (.gfkStep ctx inp out t) s = .next { s with dev := gfkCall ctx inp out k d }) ∧
  (∀ (s : State) (t : Nat) (d : Device) (ctx inp out : Nat),
    d = at50 s.dev t → (domOn d 2 || domOn d 3) = true → (∀ k < 4, loomReserved (inp + 4 + k) = false) →
    exec (.gfkCmdStart ctx inp out t) s = .next { s with dev := gfkCall ctx inp out 1 (putNat d (inp + 4) 4 1) } ∧
    exec (.gfkCmdStop ctx inp out t) s = .next { s with dev := gfkCall ctx inp out 2 (putNat d (inp + 4) 4 2) } ∧
    exec (.gfkCmdReset ctx inp out t) s = .next { s with dev := gfkCall ctx inp out 3 (putNat d (inp + 4) 4 3) } ∧
    exec (.gfkCmdReconOn ctx inp out t) s = .next { s with dev := gfkCall ctx inp out 4 (putNat d (inp + 4) 4 4) } ∧
    exec (.gfkCmdReconOff ctx inp out t) s = .next { s with dev := gfkCall ctx inp out 5 (putNat d (inp + 4) 4 5) })

/-- The calls at which a timer of the kernel reaches its limit (R168, R169, R172, R175 to R178). -/
def Obligations.TheTimersOfTheKernel : Prop :=
  ∀ (s : State) (t : Nat) (d : Device) (ctx inp out : Nat),
    d = at50 s.dev t → (domOn d 2 || domOn d 3) = true →
    (kstate d ctx = 1 →
      exec (.deadBusTimerExpiry ctx inp out t) s = .next { s with dev := (
        gfkStep ctx inp out (ksetN d ctx .deadNs
          (1000000 * (kparN d ctx 0x63D + kparN d ctx 0x639 * kparN d ctx 0x63A)))) } ∧
      exec (.liveBusTimerExpiry ctx inp out t) s = .next { s with dev := (
        gfkStep ctx inp out (ksetN d ctx .liveNs (kms d ctx 0x63F))) }) ∧
    (kstate d ctx = 4 →
      exec (.syncHoldExpiry ctx inp out t) s = .next { s with dev := (
        gfkStep ctx inp out (ksetN d ctx .syncNs (kms d ctx 0x663))) } ∧
      exec (.syncTimeout ctx inp out t) s = .next { s with dev := (
        gfkStep ctx inp out (ksetN d ctx .stateNs (1000 * kms d ctx 0x667))) }) ∧
    (kstate d ctx = 6 → kb d ctx .recon = true →
      exec (.syncHoldExpiry ctx inp out t) s = .next { s with dev := (
        gfkStep ctx inp out (ksetN d ctx .syncNs (kms d ctx 0x663))) }) ∧
    (kstate d ctx = 2 ∨ kstate d ctx = 5 →
      exec (.closeTimeout ctx inp out t) s = .next { s with dev := (
        gfkStep ctx inp out (ksetN d ctx .stateNs (kms d ctx 0x668))) }) ∧
    (kstate d ctx = 3 →
      exec (.rampComplete ctx inp out t) s = .next { s with dev := (
        gfkStep ctx inp out (ksetN d ctx .ramp (F32.ofInt 1).toNat)) }) ∧
    (kb d ctx .frt = true →
      exec (.frtRecoverExpiry ctx inp out t) s = .next { s with dev := (
        gfkStep ctx inp out (ksetN d ctx .frtIn (kms d ctx 0x632))) }) ∧
    (kb d ctx .hold = true →
      exec (.currentLimitHoldExit ctx inp out t) s = .next { s with dev := (
        gfkStep ctx inp out (ksetN d ctx .holdCalls (1000000000 / (gfkT0 d inp * gfkFnom d ctx) + 1))) }) ∧
    (kb d ctx .recon = true →
      exec (.reconDelayExpiry ctx inp out t) s = .next { s with dev := (
        gfkStep ctx inp out (ksetN d ctx .reconNs (1000 * kms d ctx 0x669))) })

/-- The transitions of the kernel by command, confirmation and bus (R172, R174, R178). -/
def Obligations.TheTransitionsOfTheKernel : Prop :=
  ∀ (d : Device) (ctx inp : Nat),
    (kstate d ctx = 0 → kn d ctx .harness = 15 → kcommand ctx inp 1 d = kreason ctx 11 d) ∧
    (kstate d ctx = 0 → kn d ctx .harness ≠ 15 → kfOwn d inp = false →
      kcommand ctx inp 1 d = ksetB (kWait ctx d) ctx .open_ false) ∧
    (kstate d ctx ≠ 0 → kstate d ctx ≠ 7 → kcommand ctx inp 2 d = ksetB (kOff ctx 10 d) ctx .open_ true) ∧
    (kstate d ctx = 7 → kcommand ctx inp 3 d = ksetB (kgo ctx 0 d) ctx .selv false) ∧
    (kstate d ctx ≠ 7 → kcommand ctx inp 3 d = d) ∧
    (kstate d ctx = 6 → kn d ctx .vrCh ≠ 255 →
      kcommand ctx inp 4 d = ksetN (ksetB d ctx .recon true) ctx .reconNs 0) ∧
    (kstate d ctx ≠ 6 → kcommand ctx inp 4 d = kreason ctx 13 d) ∧
    kcommand ctx inp 5 d = ksetB (ksetB d ctx .recon false) ctx .reconClose false ∧
    (kstate d ctx = 3 → kfOwn d inp = true → kmove ctx inp d = d) ∧
    (kstate d ctx = 3 → kfOwn d inp = false → kmove ctx inp d = kOff ctx 6 d) ∧
    (kstate d ctx = 6 → kfOwn d inp = true → kmove ctx inp d = d) ∧
    (kstate d ctx = 6 → kfOwn d inp = false → kparN d ctx 0x66A = 1 → kmove ctx inp d = kSync ctx d) ∧
    (kstate d ctx = 6 → kfOwn d inp = false → kparN d ctx 0x66A ≠ 1 → kmove ctx inp d = kOff ctx 6 d) ∧
    (∀ e : Device, kstate d ctx = 2 → kfOwn d inp = true → e = krun ctx .stateNs true (gfkT0 d inp) d →
      kmove ctx inp d = (if busDead e ctx inp then kRamp ctx e else kTrip ctx 5 e)) ∧
    (∀ e : Device, kstate d ctx = 2 → kfOwn d inp = false → e = krun ctx .stateNs true (gfkT0 d inp) d →
      busDead e ctx inp = false → kmove ctx inp d = kWait ctx e) ∧
    (∀ e : Device, kstate d ctx = 2 → kfOwn d inp = false → e = krun ctx .stateNs true (gfkT0 d inp) d →
      busDead e ctx inp = true → kms e ctx 0x668 ≤ kn e ctx .stateNs → kmove ctx inp d = kOff ctx 8 e) ∧
    (kstate d ctx = 0 ∨ kstate d ctx = 7 → kmove ctx inp d = d)

/-- What a call of the kernel may touch (R154, R156, R159): its variables in the state part of the context and the output
block; no register, and nothing of the unit beside memory and the result of the call. -/
def Obligations.AKernelCallWritesItsOwnBlocks : Prop :=
  ∀ (d : Device) (ctx inp out cmd : Nat),
    gfkCall ctx inp out cmd d = { d with
      mem := (gfkCall ctx inp out cmd d).mem, busData := (gfkCall ctx inp out cmd d).busData } ∧
    (∀ a, (a < ctx + 0x1C0 ∨ ctx + 0x3C0 ≤ a) → (a < out ∨ out + 60 ≤ a) →
      memByte (gfkCall ctx inp out cmd d) a = memByte d a)

/-- `gfk_init` leaves the kernel in OFF with no request (R155), and refuses a configuration without a harness with
code 1. -/
def Obligations.TheKernelAfterInit : Prop :=
  ∀ (d : Device) (ctx : Nat), (∀ k < 0x200, loomReserved (ctx + 0x1C0 + k) = false) →
    kstate (Machine.gfkInit ctx d) ctx = 0 ∧ gfkReq (Machine.gfkInit ctx d) ctx = 0 ∧
    (kparN d ctx 0x600 = 15 → (Machine.gfkInit ctx d).busData = 1)

/-- The request frames of the ledger (R213, R214, R240). -/
def Obligations.TheRequestFrames : Prop :=
  ∀ (s : State) (t : Nat) (d : Device) (seq time : Nat),
    d = at50 s.dev t → domOn d 4 = true → seq < 65536 → time = d.time.tickRead t / 1000000 * 1000000 →
    (d.meter.ready = true →
      (∀ (mp : Nat) (sid : List Byte), mp < 256 → sid.length = 24 →
        exec (.lreqOpen seq mp sid t) s = .next { s with dev := lreqAnswer seq (lreqOpen mp sid time d) }) ∧
      (∀ mp : Nat, mp < 256 →
        exec (.lreqClose seq mp t) s = .next { s with dev := lreqAnswer seq (lreqClose mp time d) }) ∧
      (∀ upto : Nat, upto < 2 ^ 64 →
        exec (.lreqAckRecords seq upto t) s = .next { s with dev := lreqAnswer seq (lreqAck upto d) }) ∧
      (∀ (mp id : Nat) (v : Word), mp < 256 → id < 65536 → (lreqSetField id v d).1 ≠ 3 →
        exec (.lreqSetField seq mp id v t) s = .next { s with dev := lreqAnswer seq (lreqSetField id v d) }) ∧
      (∀ (mp id : Nat) (v : Word), mp < 256 → id < 65536 → (lreqSetField id v d).1 = 3 →
        exec (.lreqSetField seq mp id v t) s = .next { s with dev := (
          sealRefused (lreqAnswer seq (lreqSetField id v d)) 0) }) ∧
      (∀ mask : Word,
        exec (.lreqClearCounters seq mask t) s = .next { s with dev := lreqAnswer seq (lreqClear mask.toNat d) }) ∧
      (∀ c : Fin 32,
        exec (.lreqCalBegin seq c t) s = .next { s with dev := lreqAnswer seq (lreqCal true c.1 d) } ∧
        exec (.lreqCalEnd seq c t) s = .next { s with dev := lreqAnswer seq (lreqCal false c.1 d) })) ∧
    (d.meter.ready = false →
      (∀ (mp : Nat) (sid : List Byte), exec (.lreqOpen seq mp sid t) s = .next { s with dev := lreqAnswer seq (2, d) }) ∧
      (∀ mp : Nat, exec (.lreqClose seq mp t) s = .next { s with dev := d }))

/-- What the ledger does with a request (R214, R218, R226, R227): each refusal by its code, in its order, and what is done. -/
def Obligations.WhatARequestDoes : Prop :=
  (∀ (d : Device) (m : Fin 4) (sid : List Byte) (time : Nat), d.meter.ready = true →
    (mpOn d m.1 = false → lreqOpen m.1 sid time d = (2, d)) ∧
    (mpOn d m.1 = true → (d.meter.points[m.1]).session.isSome = true → lreqOpen m.1 sid time d = (5, d)) ∧
    (mpOn d m.1 = true → (d.meter.points[m.1]).session = none → (d.meter.points[m.1]).sat = true →
      lreqOpen m.1 sid time d = (6, d)) ∧
    (mpOn d m.1 = true → (d.meter.points[m.1]).session = none → (d.meter.points[m.1]).sat = false → mpUncal d m.1 = true →
      lreqOpen m.1 sid time d = (7, d)) ∧
    (mpOn d m.1 = true → (d.meter.points[m.1]).session = none → (d.meter.points[m.1]).sat = false → mpUncal d m.1 = false →
      mpCal d m.1 = true → lreqOpen m.1 sid time d = (8, d)) ∧
    (mpOn d m.1 = true → (d.meter.points[m.1]).session = none → (d.meter.points[m.1]).sat = false → mpUncal d m.1 = false →
      mpCal d m.1 = false → (freeSlots d).length < 2 → lreqOpen m.1 sid time d = (9, d)) ∧
    (∀ (a b : Nat) (l : List Nat), mpOn d m.1 = true → (d.meter.points[m.1]).session = none →
      (d.meter.points[m.1]).sat = false → mpUncal d m.1 = false → mpCal d m.1 = false → freeSlots d = a :: b :: l →
      d.meter.recSeq + 2 ≤ 2 ^ 64 - 2 →
      (lreqOpen m.1 sid time d).1 = 0 ∧
      (lreqOpen m.1 sid time d).2.meter.recSeq = d.meter.recSeq + 2 ∧
      ((lreqOpen m.1 sid time d).2.meter.points[m.1]).session = some { start := d.meter.recSeq + 1, slot := b, sid := sid } ∧
      (lreqOpen m.1 sid time d).2.meter.slots
        = d.meter.slots ++ [(a, d.meter.recSeq + 1, true), (b, d.meter.recSeq + 2, false)])) ∧
  (∀ (d : Device) (m : Fin 4) (time : Nat), mpSession d m = true →
    lreqClose m.1 time d = (0, closeSession d m 0 time)) ∧
  (∀ (d : Device) (m : Fin 4) (time : Nat), mpSession d m = false → lreqClose m.1 time d = (5, d)) ∧
  (∀ (d : Device) (m : Nat) (sid : List Byte) (time : Nat), 4 ≤ m →
    lreqOpen m sid time d = (1, d) ∧ lreqClose m time d = (1, d)) ∧
  (∀ (d : Device) (id : Nat) (v : Word) (r : FieldRow) (i : Nat), FieldMap.find? id = some (r, i) → 0x0800 ≤ id → id < 0x0900 →
    (sealOpen d 0 = false → lreqSetField id v d = (3, d)) ∧
    (sealOpen d 0 = true → 8192 ≤ d.meter.logUsed → lreqSetField id v d = (4, d)) ∧
    (sealOpen d 0 = true → d.meter.logUsed < 8192 → mpAll.all (fun m => !mpSession d m) = true →
      (lreqSetField id v d).2.meter.sets = d.meter.sets ++ [(id, (firstPass r i v).1)] ∧
      (lreqSetField id v d).2.meter.logUsed = d.meter.logUsed + 1)) ∧
  (∀ (d : Device) (seq code : Nat), code ≠ 0 → code ≠ 10 → d.meter.refused + 1 < 0xFFFFFFFF →
    (lreqAnswer seq (code, d)).meter.ack = seq % 65536 + code * 65536 ∧
    (lreqAnswer seq (code, d)).meter.refused = d.meter.refused + 1)

/-- The ledger's own events (R221, R223, R235, R240, R370, R438). -/
def Obligations.TheLedgerByItself : Prop :=
  (∀ (s : State) (t : Nat) (d : Device),
    d = at50 s.dev t → domOn d 1 = true → rdB d Addr.TIME_LREQ_STAT 0 = false →
    exec (.timeLreqGoWrite t) s = .next { s with dev := (
      wrB { d with meter := { d.meter with goAt := t } } Addr.TIME_LREQ_STAT 0 true) }) ∧
  (∀ (s : State) (t : Nat) (d : Device) (n : Nat),
    d = at50 s.dev t → domOn d 1 = true → n = d.time.tickRead t / 1000000 → n ≠ d.meter.lastMs →
    d.meter.lastMsAt + us 500 ≤ t → rdB d Addr.TIME_LREQ_STAT 0 = false → d.meter.ready = true → domOn d 4 = true →
    exec (.ialosMsBoundary t) s = .next { s with dev := (
      settle t (lreqPlace (ledgerBoundary { d with meter := { d.meter with lastMs := n, lastMsAt := t } } none
        (n * 1000000)) t)) }) ∧
  (∀ (s : State) (t : Nat) (d : Device) (n : Nat),
    d = at50 s.dev t → domOn d 1 = true → n = d.time.tickRead t / 1000000 → n = d.meter.lastMs →
    exec (.ialosMsBoundary t) s = .next { s with dev := settle t d }) ∧
  (∀ (s : State) (t : Nat) (d : Device),
    d = at50 s.dev t → domOn d 4 = true → d.meter.ready = true → d.meter.saveAt + 1000000000 * mtrN d 0x0880 ≤ ialos d →
    exec (.energySave t) s = .next { s with dev := (
      let e := mramPut d 1 .energy [energyTarget d]
      { e with meter := { e.meter with saveAt := ialos e } }) }) ∧
  (∀ (s : State) (t : Nat) (d : Device) (at' : Nat) (m : Fin 4),
    d = at50 s.dev t → domOn d 4 = true → d.meter.ready = true → mpOn d m.1 = true →
    (d.meter.points[m.1]).missing = false → (d.meter.points[m.1]).since = some at' → at' + 2 * 1024 * ckm ≤ t →
    d.meter.intrs + 1 < 0xFFFFFFFF →
    exec (.ledgerInterruption m t) s = .next { s with dev := (
      updMp { d with meter := { d.meter with intrs := d.meter.intrs + 1 } } m
        (fun p => { p with missing := true, msFlags := p.msFlags ||| 8 })) }) ∧
  (∀ (s : State) (t : Nat) (d : Device),
    d = at50 s.dev t → domOn d 4 = true → d.meter.ready = false →
    exec (.ledgerReady t) s = .next { s with dev := ledgerPrune (Machine.ledgerReady t d) }) ∧
  (∀ (s : State) (t : Nat) (d : Device),
    d = at50 s.dev t → domOn d 4 = true → d.meter.ready = true →
    exec (.ledgerReady t) s = .next { s with dev := d }) ∧
  (∀ (s : State) (t : Nat) (d : Device) (ohms : Nat) (n : Fin 4),
    d = at50 s.dev t → domOn d 0 = true → (ohms < 8000 ∨ 12000 < ohms) →
    exec (.sealMeasurement n ohms t) s = .next { s with dev := (
      { d with seals := upd d.seals n (fun _ => { openNow := true, run := 0, latch := true }) }) }) ∧
  (∀ (s : State) (t : Nat) (d : Device) (ohms : Nat) (n : Fin 4),
    d = at50 s.dev t → domOn d 0 = true → 8000 ≤ ohms → ohms ≤ 12000 → 1 ≤ (d.seals[n.1]).run →
    exec (.sealMeasurement n ohms t) s = .next { s with dev := (
      { d with seals := upd d.seals n (fun x => { openNow := false, run := 2, latch := x.latch }) }) }) ∧
  (∀ (p : MeterPoint) (r : Fin 6) (x : Nat), p.energy[r.1] + (p.rem[r.1] + x) / 2 ^ 32 < 2 ^ 64 - 1 →
    ((addEnergy p r x).energy[r.1]) * 2 ^ 32 + (addEnergy p r x).rem[r.1]
      = p.energy[r.1] * 2 ^ 32 + p.rem[r.1] + x) ∧
  (∀ (p : MeterPoint) (r : Fin 6) (x : Nat), 2 ^ 64 - 1 ≤ p.energy[r.1] + (p.rem[r.1] + x) / 2 ^ 32 →
    (addEnergy p r x).energy[r.1] = 2 ^ 64 - 1 ∧ (addEnergy p r x).sat = true)

/-- The inputs of the bridle and its antivalent pairs (R241 to R244). -/
def Obligations.TheBridleInputs : Prop :=
  (∀ (s : State) (t : Nat) (d : Device) (p : Fin 8) (r : Reading),
    d = at50 s.dev t → domOn d 11 = true → d.bridle.started = true →
    exec (.bridleInputChange (2 * p.1) r t) s = .next { s with dev := (
      bridleSettle (pairChange { d with bridle := { d.bridle with
        pairs := upd d.bridle.pairs p (fun a => { a with chA := r }) } } p t) t) } ∧
    exec (.bridleInputChange (2 * p.1 + 1) r t) s = .next { s with dev := (
      bridleSettle (pairChange { d with bridle := { d.bridle with
        pairs := upd d.bridle.pairs p (fun a => { a with chB := r }) } } p t) t) }) ∧
  (∀ (s : State) (t : Nat) (d : Device) (r : Reading),
    d = at50 s.dev t → domOn d 11 = true →
    exec (.bridleInputChange 16 r t) s = .next { s with dev := (
      { d with bridle := { d.bridle with
        imd := r, imdLowAt := if r = .one then none else some (d.bridle.imdLowAt.getD t) } }) } ∧
    exec (.bridleInputChange 17 r t) s = .next { s with dev := (
      bridleSettle (lockFollow { d with bridle := { d.bridle with lock := r } }) t) }) ∧
  (∀ (s : State) (t : Nat) (d e : Device) (n : Fin 4) (r : Reading),
    d = at50 s.dev t → domOn d 11 = true →
    e = { d with bridle := { d.bridle with konts := upd d.bridle.konts n (fun k => { k with feedback := r }) } } →
    (d.bridle.konts[n.1]).checkFrom.isSome = true →
    exec (.bridleInputChange (18 + n.1) r t) s = .next { s with dev := (
      let x := wrB e Addr.BRD_OUT_STAT (8 + n.1) (kfClosed e n)
      bridleSettle { x with bridle := { x.bridle with konts := upd x.bridle.konts n (fun k =>
        { k with openSince := if kfOpen e n then some (k.openSince.getD t) else none }) } } t) }) ∧
  (∀ (s : State) (t : Nat) (d : Device) (p : Fin 8) (c : Nat),
    d = at50 s.dev t → domOn d 11 = true → (d.bridle.pairs[p.1]).changeAt = some c →
    c + ms (rdF d (Addr.BRD_SA_CFG p.1) 0 9) ≤ t → pairBit d p.1 31 = true → pairState d p.1 = 1 →
    exec (.saDiscTimeout p t) s = .next { s with dev := (
      let e := setPairState { d with bridle := { d.bridle with pairs := upd d.bridle.pairs p (fun a =>
        { a with changeAt := none, settled := false, clean := false }) } } p.1 2
      bridleSettle (if pairHeld d p.1 then e else pairReact e p t) t) }) ∧
  (∀ (s : State) (t : Nat) (d : Device) (p : Fin 8) (x : Nat),
    d = at50 s.dev t → domOn d 11 = true → (d.bridle.pairs[p.1]).stop1Till = some x → x ≤ t →
    exec (.stop1DelayExpiry p t) s = .next { s with dev := (
      bridleSettle { d with bridle := { d.bridle with
        pairs := upd d.bridle.pairs p (fun a => { a with stop1Till := none }) } } t) }) ∧
  (∀ (s : State) (t : Nat) (d : Device) (x : Nat),
    d = at50 s.dev t → domOn d 11 = true → d.bridle.imdLowAt = some x → rdB d Addr.BRD_IMD_CFG 31 = true →
    rdB d Addr.BRD_OUT_STAT 24 = false → max x (d.bridle.blankTill.getD 0) + ms (rdF d Addr.BRD_IMD_T 0 11) ≤ t →
    exec (.imdFault t) s = .next { s with dev := bridleSettle (critical (wrB d Addr.BRD_OUT_STAT 24 true) t) t }) ∧
  (∀ (s : State) (t : Nat) (d : Device) (b : Nat),
    d = at50 s.dev t → domOn d 11 = true → d.bridle.blankTill = some b → b ≤ t →
    exec (.imdBlankEnd t) s = .next { s with dev := (
      { d with bridle := { d.bridle with blankTill := none, imdLowAt := d.bridle.imdLowAt.map (max b) } }) }) ∧
  (∀ (settled inTime : Bool) (b : Reading),
    pairNext 0 settled inTime .one .zero = (0, false) ∧ pairNext 0 settled inTime .zero .one = (1, true) ∧
    pairNext 0 settled inTime .lost .zero = (3, false) ∧ pairNext 0 settled inTime .one .lost = (3, false) ∧
    pairNext 0 settled inTime .lost .lost = (4, false) ∧ (pairNext 0 settled inTime b b).1 ≠ 0)

/-- The outputs of the bridle, its faults and its resets (R245 to R251, R253, R254). -/
def Obligations.TheBridleFaults : Prop :=
  (∀ (s : State) (t : Nat) (d : Device),
    d = at50 s.dev t → domOn d 11 = true → bridleFaulty d = false →
    exec (.bridleFault t) s = .next { s with dev := (
      bridleSettle (critical (raise (wrB d Addr.BRD_STAT 2 true) .bridleFault 0) t) t) }) ∧
  (∀ (s : State) (t : Nat) (d : Device) (low : Nat) (i : Fin 2),
    d = at50 s.dev t → domOn d 11 = true → rdB d Addr.BRD_GCFG 9 = true → rdB d Addr.BRD_OUT_STAT i.1 = true →
    low.testBit i.1 = false →
    exec (.senTestPulse low t) s = .next { s with dev := Machine.bridleFault t d }) ∧
  (∀ (s : State) (t : Nat) (d : Device),
    d = at50 s.dev t → domOn d 11 = true →
    exec (.senTestPulse 3 t) s = .next { s with dev := d }) ∧
  (∀ (s : State) (t : Nat) (d : Device) (cycles : Nat),
    d = at50 s.dev t → domOn d 11 = true → cycles < 2875 ∨ 3375 < cycles → supvFault d = false →
    exec (.ckfSupervisionWindow cycles t) s = .next { s with dev := (
      bridleSettle (critical (wrB { d with bridle := { d.bridle with supvGood := none } } Addr.BRD_STAT 3 true) t) t) }) ∧
  (∀ (s : State) (t : Nat) (d : Device) (cycles : Nat),
    d = at50 s.dev t → domOn d 11 = true → 2875 ≤ cycles → cycles ≤ 3375 →
    exec (.ckfSupervisionWindow cycles t) s = .next { s with dev := (
      { d with bridle := { d.bridle with supvGood := some (d.bridle.supvGood.getD t) } }) }) ∧
  (∀ (s : State) (t : Nat) (d : Device) (low high : Nat),
    d = at50 s.dev t → domOn d 11 = true → ms 50 ≤ low → low ≤ sec 5 → rdB d Addr.BRD_STAT 4 = false ∨ ms 50 ≤ high →
    Completes (.bridleReset low high t) s (fun e => ∃ x : Device, e = bridleSettle x t ∧
      rdN x Addr.BRD_RESET_CNT = min (rdN d Addr.BRD_RESET_CNT + 1) 0xFFFFFFFF ∧ rdB x Addr.BRD_STAT 4 = false ∧
      (∀ p : Fin 8, pairState x p.1 = pairState d p.1 ∧ (pairState d p.1 = 0 → pairHeld x p.1 = false) ∧
        (pairState d p.1 ≠ 0 → pairHeld x p.1 = pairHeld d p.1)))) ∧
  (∀ (s : State) (t : Nat) (d : Device) (low high : Nat),
    d = at50 s.dev t → domOn d 11 = true → low < ms 50 →
    exec (.bridleReset low high t) s = .next { s with dev := d }) ∧
  (∀ (s : State) (t : Nat) (d : Device) (low : Nat),
    d = at50 s.dev t → domOn d 11 = true → sec 5 < low →
    exec (.sresStuck low t) s = .next { s with dev := wrB d Addr.BRD_STAT 4 true }) ∧
  (∀ (s : State) (t : Nat) (d : Device) (n : Fin 4) (c : Nat),
    d = at50 s.dev t → domOn d 11 = true → (d.bridle.konts[n.1]).checkFrom = some c →
    c + ms (rdF d (Addr.BRD_K_CFG n.1) 0 9) ≤ t →
    exec (.kfCheckExpiry n t) s = .next { s with dev := (
      bridleSettle (judgeFeedback { d with bridle := { d.bridle with
        konts := upd d.bridle.konts n (fun k => { k with checkFrom := none }) } } n t true) t) }) ∧
  (∀ (s : State) (t : Nat) (d : Device) (p : Fin 8),
    d = at50 s.dev t → domOn d 11 = true → d.bridle.degrPair = some p.1 → degraded d = true → d.bridle.degrTill ≤ t →
    pairHeld d p.1 = false →
    exec (.degradedModeExpiry t) s = .next { s with dev := bridleSettle (pairReact (degradedEnd d) p t) t }) ∧
  (∀ (s : State) (t : Nat) (d : Device),
    d = at50 s.dev t → domOn d 11 = true →
    exec (.powerAbsentPermit t) s = .next { s with dev := drivePermits d t }) ∧
  (∀ (s : State) (t : Nat) (d : Device) (offset : Nat) (v : Word) (r : RegRow),
    d = at50 s.dev t → domOn d 1 = true → domOn d 11 = true → RegMap.row? (0x40800000 + offset) = some r →
    offset < 0x8000 → r.rws ≠ 0 → sealOpen d 1 = true →
    exec (.bridleCfgWrite offset v t) s = .next { s with dev := (
      bridleSettle (lockFollow (pairsFollow (bridleStore
        (wr d (0x40800000 + offset) (BitVec.ofNat 32 (v.toNat &&& r.rws)))) t)) t) }) ∧
  (∀ (s : State) (t : Nat) (d : Device) (offset : Nat) (v : Word) (r : RegRow),
    d = at50 s.dev t → domOn d 1 = true → domOn d 11 = true → RegMap.row? (0x40800000 + offset) = some r →
    offset < 0x8000 → r.rws ≠ 0 → sealOpen d 1 = false →
    exec (.bridleCfgWrite offset v t) s = .next { s with dev := count d (Addr.SYS_SEAL_REF_CNT 1) }) ∧
  (∀ (s : State) (t : Nat) (d : Device),
    d = at50 s.dev t → domOn d 11 = true → d.bridle.started = true →
    exec (.bridleCfgCheck t) s = .next { s with dev := d }) ∧
  (∀ (s : State) (t : Nat) (d : Device),
    d = at50 s.dev t → domOn d 11 = true → d.bridle.started = false →
    Completes (.bridleCfgCheck t) s (fun e =>
      (bridleStored d = none → e = Machine.bridleFault t d) ∧
      (∀ recs, bridleStored d = some recs →
        ∃ x : Device, e = bridleSettle (bridleRole (lockFollow x) t) t ∧ x.bridle.started = true)))

/-- The recorder engines (R263 to R273): arming, stopping, forcing, the frame of a sample instant and the end of a
capture. -/
def Obligations.TheRecorderEngines : Prop :=
  (∀ (s : State) (t : Nat) (d : Device) (e : Fin 4),
    d = at50 s.dev t → domOn d 1 = true → recState d e.1 = 0 →
    exec (.recArm e t) s = .next { s with dev := recFlow (recBegin d e) e t }) ∧
  (∀ (s : State) (t : Nat) (d : Device) (e : Fin 4),
    d = at50 s.dev t → domOn d 1 = true → 1 ≤ recState d e.1 → recState d e.1 ≤ 4 →
    exec (.recArm e t) s = .next { s with dev := recFlow (recBegin (recEnd d e true) e) e t } ∧
    exec (.recStop e t) s = .next { s with dev := recFlow (setRecState (recEnd d e true) e.1 6) e t }) ∧
  (∀ (s : State) (t : Nat) (d : Device) (e : Fin 4),
    d = at50 s.dev t → domOn d 1 = true →
    exec (.recForceTrigger e t) s = .next { s with dev := recForce d e t }) ∧
  (∀ (s : State) (t : Nat) (d : Device),
    d = at50 s.dev t → domOn d 1 = true → rdF d (Addr.REC_TRG 0) 0 2 ≠ 2 → rdF d (Addr.REC_TRG 1) 0 2 ≠ 2 →
    rdF d (Addr.REC_TRG 2) 0 2 ≠ 2 → rdF d (Addr.REC_TRG 3) 0 2 = 2 →
    exec (.rtrigEdge t) s = .next { s with dev := recForce d 3 t }) ∧
  (∀ (s : State) (t : Nat) (d e1 e2 : Device) (e : Fin 4) (f : RecFrame),
    d = at50 s.dev t → domOn d 1 = true → recState d e.1 = 1 ∨ recState d e.1 = 2 → recSources d e.1 ≠ [] →
    rd64 d (Addr.REC_FRAMES_LO e.1 0) + 1 < 2 ^ 64 → rdF d (Addr.REC_TRG e.1) 0 2 ≠ 1 →
    f = { cap := (d.recs[e.1]).cap, index := rd64 d (Addr.REC_FRAMES_LO e.1 0), inst := t, time := recTime d e.1 t,
          words := (recSources d e.1).map (recWord d) } →
    e1 = wr64 d (Addr.REC_FRAMES_LO e.1 0) (rd64 d (Addr.REC_FRAMES_LO e.1 0) + 1) →
    e2 = updRec e1 e (fun r => { r with last := some f }) →
    exec (.recFrame e t) s = .next { s with dev := recRing e2 e f }) ∧
  (∀ (s : State) (t : Nat) (d : Device) (e : Fin 4),
    d = at50 s.dev t → domOn d 1 = true → recState d e.1 = 0 →
    exec (.recFrame e t) s = .next { s with dev := d }) ∧
  (∀ (s : State) (t : Nat) (d : Device) (e : Fin 4),
    d = at50 s.dev t → domOn d 1 = true → recState d e.1 = 3 → (d.recs[e.1]).postLeft = some 0 →
    rdB d (Addr.REC_CFG e.1) 31 = false →
    exec (.recPostEnd e t) s = .next { s with dev := recFlow (setRecState (recEnd d e false) e.1 5) e t }) ∧
  (∀ (s : State) (t : Nat) (d : Device) (e : Fin 4),
    d = at50 s.dev t → domOn d 1 = true → rdF d (Addr.REC_FLUSH e.1) 0 14 ≠ 0 → (d.recs[e.1]).block ≠ [] →
    (d.recs[e.1]).blockAt + ms (rdF d (Addr.REC_FLUSH e.1) 0 14) ≤ t →
    exec (.recFlushExpiry e t) s = .next { s with dev := updRec d e (fun r => { r with closed := true }) }) ∧
  (∀ (s : State) (t : Nat) (d : Device) (e : Fin 4) (g : Gap),
    d = at50 s.dev t → domOn d 1 = true → (d.recs[e.1]).missing = some g →
    (d.recs[e.1]).history.length * (recSources d e.1).length ≤ 4096 →
    exec (.historyDrained e t) s = .next { s with dev := (
      wrB (addGap (updRec d e (fun r => { r with missing := none })) e g) (Addr.REC_STAT e.1) 5 false) }) ∧
  (∀ (d : Device) (e : Fin 4), (recEnd d e true).recs[e.1].history = (d.recs[e.1]).history ++ (d.recs[e.1]).ring ∧
    (recEnd d e true).recs[e.1].ring = [] ∧
    (∀ k : Fin 4, k ≠ e → (recEnd d e true).recs[k.1] = d.recs[k.1]))

/-- The bobbins and their descriptors (R276 to R280). -/
def Obligations.TheBobbins : Prop :=
  (∀ (s : State) (t : Nat) (d : Device) (b : Fin 16),
    d = at50 s.dev t → domOn d 1 = true → bobState d b.1 = 2 →
    exec (.bobDoorbell b t) s = .next { s with dev := (
      bobFlow (bobFetch 65536 d b (rdN d (Addr.BOB_CUR b.1)) (rdF d (Addr.BOB_STAT b.1) 16 16) t) b t) }) ∧
  (∀ (s : State) (t : Nat) (d : Device) (b : Fin 16),
    d = at50 s.dev t → domOn d 1 = true → bobState d b.1 ≠ 2 →
    exec (.bobDoorbell b t) s = .next { s with dev := d } ∧ exec (.bobRefetch b t) s = .next { s with dev := d }) ∧
  (∀ (s : State) (t : Nat) (d : Device) (b : Fin 16),
    d = at50 s.dev t → domOn d 1 = true → bobState d b.1 = 2 → bobHasData d b = true →
    (d.bobs[b.1]).waitFrom + 1024 * ckf ≤ t →
    exec (.bobRefetch b t) s = .next { s with dev := (
      bobFlow (bobFetch 65536 d b (rdN d (Addr.BOB_CUR b.1)) (rdF d (Addr.BOB_STAT b.1) 16 16) t) b t) }) ∧
  (∀ (s : State) (t : Nat) (d : Device) (b : Fin 16),
    d = at50 s.dev t → domOn d 1 = true →
    (bobState d b.1 = 3 → exec (.bobResume b t) s = .next { s with dev := (
      bobFlow (bobFetch 65536 d b (rdN d (Addr.BOB_CUR b.1)) (rdF d (Addr.BOB_STAT b.1) 16 16) t) b t) }) ∧
    (bobState d b.1 = 4 → exec (.bobResume b t) s = .next { s with dev := (
      bobFlow (bobFetch 65536 d b (rdN d (Addr.BOB_CUR b.1)) 0 t) b t) }) ∧
    (bobState d b.1 < 3 → exec (.bobResume b t) s = .next { s with dev := d })) ∧
  (∀ (s : State) (t : Nat) (d : Device) (b : Fin 16),
    d = at50 s.dev t → domOn d 1 = true → bobOn d b.1 = true →
    exec (.bobRestart b t) s = .next { s with dev := (
      let e := updBob d b (fun p => { p with inHand := none, retry := none, stopping := false })
      bobFlow (bobFetch 65536 (wrB e Addr.DMA_INFLIGHT b.1 false) b (rdN d (Addr.BOB_BASE b.1)) 0 t) b t) }) ∧
  (∀ (s : State) (t : Nat) (d : Device) (b : Fin 16) (desc : Nat) (bytes : List Byte),
    d = at50 s.dev t → domOn d 1 = true → (d.bobs[b.1]).inHand = some desc → (d.bobs[b.1]).retry = none →
    bobReads b.1 = false → bobData d b = some bytes → bytes.length ≤ descLen d desc →
    dmaFail d (bobSteward b.1) true (descAddr d desc) (max 1 bytes.length) = none →
    exec (.descriptorComplete b none none none t) s = .next { s with dev := (
      bobFlow (bobReturn (bobTaken (dmaPut d (descAddr d desc) bytes) b none) b
        (retStat false false 0 bytes.length) 0 t) b t) }) ∧
  (∀ (s : State) (t : Nat) (d : Device) (b : Fin 16) (desc : Nat),
    d = at50 s.dev t → domOn d 1 = true → (d.bobs[b.1]).inHand = some desc → (d.bobs[b.1]).retry = none →
    bobReads b.1 = true →
    dmaFail d (bobSteward b.1) false (descAddr d desc) (max 1 (descLen d desc)) = none →
    exec (.descriptorComplete b none none none t) s = .next { s with dev := (
      bobFlow (bobReturn { d with
        out := d.out ++ [(bobPort b.1, memBytes d (descAddr d desc) (descLen d desc))] } b
        (retStat false false 0 (descLen d desc)) 0 t) b t) }) ∧
  (∀ (s : State) (t : Nat) (d : Device) (b : Fin 16) (desc : Nat) (bytes : List Byte),
    d = at50 s.dev t → domOn d 1 = true → (d.bobs[b.1]).inHand = some desc → (d.bobs[b.1]).retry = none →
    bobReads b.1 = false → bobData d b = some bytes → descLen d desc < bytes.length →
    exec (.descriptorComplete b none none none t) s = .next { s with dev := (
      bobFlow (bobReturn d b (retStat true false 9 0) 0 t) b t) }) ∧
  (∀ (s : State) (t : Nat) (d : Device) (b : Fin 16), d = at50 s.dev t → domOn d 1 = true → (d.bobs[b.1]).inHand = none →
    exec (.descriptorComplete b none none none t) s = .next { s with dev := d }) ∧
  (∀ (d : Device) (b : Fin 16) (fuel cur walk t : Nat) (e : Device),
    e = wrF (wrN d (Addr.BOB_CUR b.1) cur) (Addr.BOB_STAT b.1) 16 16 walk →
    (cur % 32 ≠ 0 → bobFetch (fuel + 1) d b cur walk t = bobHalt e b 3 cur 6) ∧
    (cur % 32 = 0 → dmaCause e (bobSteward b.1) false cur ≠ 0 →
      bobFetch (fuel + 1) d b cur walk t = bobHalt e b 3 cur (dmaCause e (bobSteward b.1) false cur)) ∧
    (cur % 32 = 0 → dmaCause e (bobSteward b.1) false cur = 0 → bit (word (memNat d cur 4)) 30 = false →
      bit (word (memNat d cur 4)) 31 = false →
      bobFetch (fuel + 1) d b cur walk t
        = setBobState (updBob e b (fun p => { p with inHand := none, waitFrom := t })) b.1 2) ∧
    (cur % 32 = 0 → dmaCause e (bobSteward b.1) false cur = 0 → bit (word (memNat d cur 4)) 30 = true →
      memNat d (cur + 4) 4 % 32 = 0 → walk + 1 ≤ rdF d (Addr.BOB_LEN b.1) 0 16 →
      bobFetch (fuel + 1) d b cur walk t = bobFetch fuel e b (memNat d (cur + 4) 4) (walk + 1) t))

/-- Packets, frames and ends by time at the Tomus server (R329, R331, R334, R338, R340). -/
def Obligations.ThePacketsOfTheServer : Prop :=
  (∀ (s : State) (t : Nat) (d : Device) (k : Fin 5) (p : Peer) (bs : List Byte),
    d = at50 s.dev t → transportTakes d k.1 = true → rdF d Addr.PWR_STAT 18 2 = 0 → parsePacket k.1 p bs = none →
    exec (.tomusPacketRx k p bs t) s = .next { s with dev := statDiscard (statRx d k.1) k.1 }) ∧
  (∀ (s : State) (t : Nat) (d : Device) (k : Fin 5) (p : Peer) (bs : List Byte) (r : Req),
    d = at50 s.dev t → transportTakes d k.1 = true → rdF d Addr.PWR_STAT 18 2 = 0 → parsePacket k.1 p bs = some r →
    16 ≤ d.tomus.b0.length →
    exec (.tomusPacketRx k p bs t) s = .next { s with dev := statDrop (statRx d k.1) k.1 }) ∧
  (∀ (s : State) (t : Nat) (d : Device) (k : Fin 5) (p : Peer) (bs : List Byte) (r : Req),
    d = at50 s.dev t → transportTakes d k.1 = true → rdF d Addr.PWR_STAT 18 2 = 0 → parsePacket k.1 p bs = some r →
    d.tomus.b0 = [] → quick d r = false →
    exec (.tomusPacketRx k p bs t) s = .next { s with dev := (
      let e := statRx d k.1
      { e with tomus := { e.tomus with b0 := [r] } }) }) ∧
  (∀ (s : State) (t : Nat) (d : Device) (bs : List Byte) (bits : Nat),
    d = at50 s.dev t → bits < 4096 →
    exec (.spiFrame bs bits t) s = .next { s with dev := d }) ∧
  (∀ (s : State) (t : Nat) (d : Device) (bs answer : List Byte) (rest : List (List Byte)) (bits : Nat),
    d = at50 s.dev t → domOn d 1 = true → 4096 ≤ bits → d.tomus.spiOut = answer :: rest → sliceLE bs 0 2 = 0 →
    exec (.spiFrame bs bits t) s = .next { s with dev := (
      { d with out := d.out ++ [(.spi, answer ++ zeros (512 - answer.length))], tomus := { d.tomus with spiOut := rest } }) }) ∧
  (∀ (s : State) (t : Nat) (d : Device),
    d = at50 s.dev t → domOn d 1 = true →
    exec (.sessionProveTimeout t) s = .next { s with dev := (
      { d with tomus := { d.tomus with hands := d.tomus.hands.filter (fun h => decide (t < h.at50 + sec 10)) } }) }) ∧
  (∀ (s : State) (t : Nat) (d : Device) (p : Peer) (x : Session'),
    d = at50 s.dev t → domOn d 1 = true → sessionOf d p = some x → x.lastAt + ms 301000 ≤ t →
    exec (.sessionIdleTimeout p t) s = .next { s with dev := endSession d p }) ∧
  (∀ (s : State) (t : Nat) (d : Device) (p : Peer) (x : Session'),
    d = at50 s.dev t → domOn d 1 = true → sessionOf d p = some x → t < x.lastAt + ms 299000 →
    exec (.sessionIdleTimeout p t) s = .next { s with dev := d }) ∧
  (∀ (s : State) (t : Nat) (d : Device),
    d = at50 s.dev t → domOn d 1 = true →
    exec (.opResultExpiry t) s = .next { s with dev := (
      { d with tomus := { d.tomus with ops := d.tomus.ops.filter (fun o => match o.final with
        | some (_, f) => decide (t < f + sec 60)
        | none => true) } }) }) ∧
  (∀ (s : State) (t : Nat) (d : Device) (o : LongOp),
    d = at50 s.dev t → domOn d 1 = true → opRunning d [0x0701] = some o →
    exec (.lOperationDone 0x0701 0 t) s = .next { s with dev := opFinish d [0x0701] 0 100 t }) ∧
  (∀ (s : State) (t : Nat) (d : Device) (o : LongOp),
    d = at50 s.dev t → domOn d 1 = true → opRunning d [0x0200] = some o →
    exec (.lOperationDone 0x0200 0 t) s = .next { s with dev := (
      opFinish (memForget d (imageBase d (o.req.num 0 1)) 0x1000000) [0x0200] 0 100 t) })

/-- The checks that every request passes before its opcode's own (R327, R330 to R342): what is answered where one of them
stops it, whatever the opcode. -/
def Obligations.TheChecksOfARequest : Prop :=
  ∀ (h : Req → Nat → Device → Answer) (r : Req) (t : Nat) (d : Device), r.retry = false →
    (∀ x : Stored, isRepeat d r = true → storedOf d r.peer = some x →
      serve h r t d = (
        let e := statRepeat d r.transport
        sendPacket r.transport r.peer x.reply (storeReply r x.reply e))) ∧
    (isRepeat d r = false → r.version ≠ 1 → serve h r t d = reply r none 2 [] d) ∧
    (isRepeat d r = false → r.version = 1 → 3 ≤ r.transport → r.auth = true → serve h r t d = reply r none 11 [] d) ∧
    (r.version = 1 → r.transport ≤ 2 → r.auth = true → sessionOf d r.peer = none →
      serve h r t d = reply r none 14 [] d) ∧
    (∀ x : Session', r.version = 1 → r.transport ≤ 2 → r.auth = true → sessionOf d r.peer = some x →
      r.tag ≠ tagOf x r.head → 7 ≤ x.bad →
      serve h r t d = reply r none 7 [] (endSession (statAuth d r.transport) r.peer)) ∧
    (∀ x : Session', r.version = 1 → r.transport ≤ 2 → r.auth = true → sessionOf d r.peer = some x →
      r.tag = tagOf x r.head → r.seq = x.seq → r.opcode = x.opcode → x.reply ≠ [] →
      serve h r t d = sendPacket r.transport r.peer x.reply (statRepeat d r.transport)) ∧
    (∀ x : Session', r.version = 1 → r.transport ≤ 2 → r.auth = true → sessionOf d r.peer = some x →
      r.tag = tagOf x r.head → ¬ (r.seq = x.seq ∧ r.opcode = x.opcode) → r.seq ≠ (x.seq + 1) % 65536 →
      serve h r t d = reply r (some x) 9 [] d) ∧
    (isRepeat d r = false → r.version = 1 → r.auth = false → refusal d r ≠ 0 →
      serve h r t d = reply r none (refusal d r) [] d) ∧
    (opInfo r.opcode = none → refusal d r = 4) ∧
    (∀ i : OpInfo, opInfo r.opcode = some i → 3 ≤ r.transport → i.can = false → refusal d r = 11) ∧
    (∀ i : OpInfo, opInfo r.opcode = some i → r.transport ≤ 2 → Machine.unitReady d = false → 0x100 ≤ r.opcode → i.role ≠ 0 →
      refusal d r = 13) ∧
    (∀ i : OpInfo, opInfo r.opcode = some i → r.transport ≤ 2 → Machine.unitReady d = true → redState d ≠ 3 → i.role ≠ 0 →
      r.opcode ≠ 0x0018 → r.auth = false → refusal d r = 6) ∧
    (∀ i : OpInfo, opInfo r.opcode = some i → r.transport ≤ 2 → Machine.unitReady d = true → redState d ≠ 3 →
      r.auth = true → reqRole d r < i.role → refusal d r = 8)

/-- Group 0x00xx (R338 to R341, R344): identity, counts, sessions and host keys. -/
def Obligations.TheSessionOpcodes : Prop :=
  Serves .ping 0x0000 (fun r _ _ => r.len ≤ 32) (fun r _ e => okWith r.params e) ∧
  Serves .identity 0x0001 (fun r _ _ => r.len = 0) (fun _ t e => okWith
    (bytesLE 4 (shown e Addr.SYS_ID t).toNat ++ serialBytes ++ bytesLE 4 Config.stewardVersion.toNat
      ++ bytesLE 4 (rdN e Addr.MBX_FW_VER) ++ bytesLE 2 (rdF e Addr.NET_SITE 0 9)
      ++ [BitVec.ofNat 8 (if paired e then rdF e Addr.RED_STAT 4 1 else 0xFF),
          BitVec.ofNat 8 (if Machine.unitReady e = false then 0 else if e.cfg.degraded then 2 else 1)]
      ++ bytesLE 4 (rdN e Addr.LOOM_IMG_ID) ++ padTo 4 e.cfg.hash) e) ∧
  Serves .deviceKey 0x0002 (fun r _ _ => r.len = 0) (fun _ _ e => okWith (padTo 64 Config.deviceKey) e) ∧
  (∀ o : LongOp, Serves .opStatus 0x0003 (fun r _ e => r.len = 0 ∧ lastOp e r.peer = some o ∧ o.final = none)
    (fun _ _ e => okWith (bytesLE 2 o.req.opcode ++ bytesLE 2 1 ++ [BitVec.ofNat 8 o.progress]) e)) ∧
  (∀ (o : LongOp) (status f : Nat),
    Serves .opStatus 0x0003 (fun r t e => r.len = 0 ∧ lastOp e r.peer = some o ∧ o.final = some (status, f) ∧ t < f + sec 60)
      (fun _ _ e => okWith (bytesLE 2 o.req.opcode ++ bytesLE 2 status ++ [BitVec.ofNat 8 o.progress]) e)) ∧
  Serves .opStatus 0x0003 (fun r _ e => r.len = 0 ∧ lastOp e r.peer = none) (fun _ _ e => deny 0x10 e) ∧
  Serves .stats 0x0004 (fun r _ _ => r.len = 1 ∧ r.num 0 1 = 0)
    (fun _ _ e => okWith (e.tomus.stats.toList.flatMap (·.bytes)) e) ∧
  Serves .stats 0x0004 (fun r _ e => r.len = 1 ∧ r.num 0 1 = 1 ∧ roleFor e r 1 = 0)
    (fun _ _ e => okWith (e.tomus.stats.toList.flatMap (·.bytes)) { e with tomus := { e.tomus with
      stats := e.tomus.stats.map (fun x => { x with rxWrap := 0, discard := 0, drop := 0, auth := 0, repeats := 0 }) } }) ∧
  Serves .sessionHello 0x0010 (fun r _ e => r.len = 64 ∧ sessionRoom e r.peer = true)
    (fun r t e =>
      let qd := padTo 64 (Config.ephemeralKey e.freeCtr)
      let nd := padTo 16 (Config.nonce e.freeCtr)
      if Config.onCurve r.params = false then deny 5 e
      else okWith (qd ++ nd ++ padTo 64 (Config.deviceSign (Config.sha256 (r.params ++ qd ++ nd))))
        { e with freeCtr := e.freeCtr + 1, tomus := { e.tomus with
          hands := ⟨r.peer, r.params, qd, nd, e.freeCtr, t⟩ :: e.tomus.hands.filter (fun h => h.peer != r.peer) } }) ∧
  (∀ (h : Handshake) (role : Nat) (k : List Byte), Serves .sessionProve 0x0011
    (fun r t e => r.len = 68 ∧ r.num 0 1 < 8 ∧ r.num 1 3 = 0 ∧ sessionRoom e r.peer = true ∧
      e.tomus.hands.find? (fun h => h.peer == r.peer && decide (t < h.at50 + sec 10)) = some h ∧
      (e.tomus.keys[r.num 0 1]?).getD none = some (role, k))
    (fun r t e =>
      let e' := { e with tomus := { e.tomus with hands := e.tomus.hands.filter (fun h => h.peer != r.peer) } }
      if Config.ecdsaVerify k (Config.sha256 (h.qh ++ h.qd ++ h.nd ++ serialBytes)) (r.bytes 4 64) = false then
        deny 7 (statAuth e' r.transport)
      else
        let ident := if Config.sessionIdent e.freeCtr = 0 then 1 else Config.sessionIdent e.freeCtr
        let s : Session' :=
          { peer := r.peer, slot := r.num 0 1, role := role, ident := ident,
            key := sessionKey (Config.ecdhX h.draw h.qh) h.nd ident, seq := r.seq, opcode := r.opcode, reply := [],
            count := 1, lastAt := t, bad := 0 }
        okWith (bytesLE 4 ident.toNat ++ [BitVec.ofNat 8 role, 0, 0, 0] ++ bytesLE 2 300)
          { e' with freeCtr := e.freeCtr + 1, tomus := { e'.tomus with
            sessions := e'.tomus.sessions.filter (fun y => y.peer != r.peer) ++ [s] } })) ∧
  Serves .sessionClose 0x0012 (fun r _ _ => r.len = 0) (fun r _ e => okay (endSession e r.peer)) ∧
  Serves .hostkeySet 0x0018
    (fun r _ _ => r.len = 68 ∧ r.num 0 1 < 8 ∧ 1 ≤ r.num 1 1 ∧ r.num 1 1 ≤ 3 ∧ r.num 2 2 = 0)
    (fun r _ e => if Config.onCurve (r.bytes 4 64) = false then deny 5 e
      else okay (keyChange e (r.num 0 1) (some (r.num 1 1, r.bytes 4 64)))) ∧
  Serves .hostkeyClear 0x0019 (fun r _ _ => r.len = 1 ∧ r.num 0 1 < 8)
    (fun r _ e => okay (keyChange e (r.num 0 1) none)) ∧
  Serves .hostkeyList 0x001A (fun r _ _ => r.len = 0)
    (fun _ _ e => okWith (e.tomus.keys.toList.flatMap (fun k =>
      match k with
      | some (role, key) => BitVec.ofNat 8 role :: padTo 7 (Config.sha256 key)
      | none => zeros 8)) e)

/-- Group 0x01xx (R313 to R317, R321, R345): the staging buffer, the stores, the stack and what is in force. -/
def Obligations.TheConfigurationOpcodes : Prop :=
  Serves .cfgStatus 0x0100 (fun r _ _ => r.len = 1 ∧ r.num 0 1 = 0)
    (fun _ _ e => okWith ((List.range 4).map (fun i => BitVec.ofNat 8 ((e.cfg.stack[i]?).getD 0)) ++ bytesLE 8 (saddleGen e)
      ++ [BitVec.ofNat 8 e.cfg.degraded.toNat, BitVec.ofNat 8 e.cfg.change.isSome.toNat, 0, 0] ++ bytesLE 4 e.cfg.lost
      ++ padTo 32 e.cfg.hash) e) ∧
  Serves .stageWrite 0x0101 (fun r _ _ => 4 ≤ r.len ∧ r.num 0 4 + (r.len - 4) ≤ 0x10000)
    (fun r _ e => okay (stageBytes (r.num 0 4) (r.params.drop 4) e)) ∧
  Serves .stageWrite 0x0101 (fun r _ _ => 4 ≤ r.len ∧ 0x10000 < r.num 0 4 + (r.len - 4)) (fun _ _ e => deny 5 e) ∧
  Serves .saddleStore 0x0102
    (fun r _ e => r.len = 12 ∧ stagedOk e (r.num 0 4) (r.num 8 4) 8188 = true ∧ ∀ i < 4, r.num (4 + i) 1 ≤ 15)
    (fun r _ e => startLong r e (fun x => Machine.saddleStore ((List.range 4).map (fun i => r.num (4 + i) 1))
      (forwardRequest 0x0102 r.params x))) ∧
  Serves .tackStore 0x0103
    (fun r _ e => r.len = 20 ∧ 1 ≤ r.num 0 1 ∧ r.num 0 1 ≤ 15 ∧ r.num 1 1 ≤ 1 ∧ r.num 2 2 = 0 ∧ r.num 11 1 = 0 ∧
      stagedOk e (r.num 12 4) (r.num 16 4) 508 = true)
    (fun r _ e => startLong r e (fun x => Machine.tackStore (r.num 0 1) (r.num 1 1) (r.bytes 4 7)
      (forwardRequest 0x0103 r.params x))) ∧
  (∀ x : Device, Serves .stackSelect 0x0104
    (fun r _ e => r.len = 4 ∧ (∀ i < 4, r.num i 1 ≤ 15) ∧ groupBusy e 0x0104 = false ∧
      Machine.stackSelect ((List.range 4).map (fun i => r.num i 1)) e = (0, x))
    (fun r _ _ => startLong r x (forwardRequest 0x0104 r.params))) ∧
  (∀ (x : Device) (code : Nat), code ≠ 0 → Serves .stackSelect 0x0104
    (fun r _ e => r.len = 4 ∧ (∀ i < 4, r.num i 1 ≤ 15) ∧ groupBusy e 0x0104 = false ∧
      Machine.stackSelect ((List.range 4).map (fun i => r.num i 1)) e = (code, x))
    (fun _ _ _ => deny (0x8300 + code) x)) ∧
  Serves .saddleAck 0x0105 (fun r _ e => r.len = 0 ∧ e.cfg.degraded = true)
    (fun r _ e => startLong r e Machine.saddleAck) ∧
  Serves .fieldRead 0x0106 (fun r _ _ => r.len = 4 ∧ 1 ≤ r.num 2 2 ∧ r.num 2 2 ≤ 64 ∧ r.num 0 2 + r.num 2 2 ≤ 0x10000)
    (fun r _ e => okWith ((List.range (r.num 2 2)).flatMap (fun i =>
      bytesLE 2 (r.num 0 2 + i)
        ++ [BitVec.ofNat 8 (((e.cfg.origins.find? (fun o => o.1 == r.num 0 2 + i)).map (·.2)).getD 0xFF), 0]
        ++ bytesLE 4 (fieldN e (r.num 0 2 + i)))) e) ∧
  (∀ base size : Nat, Serves .storeRead 0x0107
    (fun r _ _ => r.len = 10 ∧ storeArea (r.num 0 1) = some (base, size) ∧ r.num 1 3 = 0 ∧ r.num 4 4 + r.num 8 2 ≤ size)
    (fun r _ e => okWith (memBytes e (base + r.num 4 4) (r.num 8 2)) e))

/-- Group 0x02xx (R205 to R209, R216, R346): images and the exchange. -/
def Obligations.TheImageOpcodes : Prop :=
  Serves .imgBegin 0x0200
    (fun r _ _ => r.len = 8 ∧ r.num 0 1 = 1 ∧ r.num 1 3 = 0 ∧ 1 ≤ r.num 4 4 ∧ r.num 4 4 ≤ 0x1000000)
    (fun r _ e => startLong r e (fun x => { x with tomus := { x.tomus with imgKind := 2 } })) ∧
  Serves .imgBegin 0x0200
    (fun r _ e => r.len = 8 ∧ r.num 0 1 = 0 ∧ r.num 1 3 = 0 ∧ 1 ≤ r.num 4 4 ∧ r.num 4 4 ≤ 0x1000000 ∧ xchgState e ≠ 4)
    (fun r _ e => startLong r e (fun x =>
      let y := setXchg { x with loom := { x.loom with armed := none } } 1 0
      { y with tomus := { y.tomus with imgKind := 1 } })) ∧
  Serves .imgWrite 0x0201
    (fun r _ e => 4 ≤ r.len ∧ r.num 0 4 % 4 = 0 ∧ r.num 0 4 + (r.len - 4) ≤ 0x1000000 ∧ opRunning e [0x0200] = none ∧
      e.tomus.imgKind ≠ 0)
    (fun r _ e => okay (putBytes e (imageBase e (e.tomus.imgKind - 1) + r.num 0 4) (r.params.drop 4))) ∧
  Serves .imgVerify 0x0202 (fun r _ e => r.len = 1 ∧ r.num 0 1 ≤ 2 ∧ e.tomus.imgKind = r.num 0 1 + 1)
    (fun r _ e => startLong r e id) ∧
  Serves .imgActivate 0x0203 (fun r _ e => r.len = 1 ∧ (r.num 0 1 = 0 ∧ loomMode e ≠ .run ∨ r.num 0 1 = 1))
    (fun r _ e => startLong r e id) ∧
  Serves .xchgArm 0x0204 (fun r _ e => r.len = 0 ∧ xchgState e = 2) (fun r _ e => startLong r e id) ∧
  Serves .xchgCancel 0x0205 (fun r _ e => r.len = 0 ∧ xchgState e = 3)
    (fun _ _ e => okay (setXchg { e with loom := { e.loom with armed := none } } 2 0)) ∧
  Serves .imgStatus 0x0206 (fun r _ _ => r.len = 0)
    (fun _ _ e => okWith (bytesLE 4 (rdN e Addr.LOOM_IMG_STAT) ++ bytesLE 4 (rdN e Addr.LOOM_XCHG_STAT)
      ++ [BitVec.ofNat 8 (loomBank e), BitVec.ofNat 8 e.tomus.stewBank, 0, 0] ++ slotHash e 0 ++ slotHash e 1) e) ∧
  Serves .loomkeySet 0x0208 (fun r _ e => r.len = 68 ∧ r.num 0 1 < 4 ∧ r.num 1 3 = 0 ∧ sealOpen e 3 = true)
    (fun r _ e => if Config.onCurve (r.bytes 4 64) = false then deny 5 e
      else okay (raise (mramPut e 4 .plain
        [(loomKeyAddr (r.num 0 1), r.bytes 4 64 ++ bytesLE 4 (crc32c (r.bytes 4 64)))]) .loomKey (r.num 0 1))) ∧
  Serves .loomkeySet 0x0208 (fun r _ e => r.len = 68 ∧ r.num 0 1 < 4 ∧ r.num 1 3 = 0 ∧ sealOpen e 3 = false)
    (fun r _ e => if Config.onCurve (r.bytes 4 64) = false then deny 5 e else deny 12 (sealRefused e 3))

/-- Group 0x03xx (R195, R203, R204, R302, R347, R348): run control. -/
def Obligations.TheRunControlOpcodes : Prop :=
  Serves .runStatus 0x0300 (fun r _ _ => r.len = 0)
    (fun _ t e => okWith (([Addr.LOOM_MODE, Addr.LOOM_CYCLE] ++ (List.range 4).map Addr.GATE_HSTAT
      ++ [Addr.GATE_OWN_STAT, Addr.BRD_STAT, Addr.TH_STAT]).flatMap (fun a => bytesLE 4 (shown e a t).toNat)) e) ∧
  Serves .loomRun 0x0301
    (fun r _ e => r.len = 0 ∧ loomMode e = .stop ∧ e.loom.change = none ∧ mayRun e = true)
    (fun r t e => startLong r e (runStart 2 t)) ∧
  Serves .loomRun 0x0301 (fun r _ e => r.len = 0 ∧ loomMode e ≠ .stop) (fun _ _ e => deny 13 e) ∧
  ServesAndSettles .loomStop 0x0302 (fun r _ e => r.len = 0 ∧ loomMode e ≠ .stop)
    (fun _ t e => okay (enterStop 3 t e)) ∧
  ServesAndSettles .loomHold 0x0303
    (fun r _ e => r.len = 0 ∧ loomMode e = .run ∧ rdB e Addr.LOOM_CFG 1 = true ∧ redState e ≠ 2)
    (fun _ t e => okay (enterHold 6 t e)) ∧
  Serves .loomResume 0x0304 (fun r _ e => r.len = 0 ∧ loomMode e = .hold)
    (fun _ _ e => okay { e with loom := { e.loom with resume := true } }) ∧
  Serves .kernelCmd 0x0305
    (fun r _ e => r.len = 1 ∧ 1 ≤ r.num 0 1 ∧ r.num 0 1 ≤ 5 ∧ loomMode e = .run ∧ e.loom.kernelCmd = none)
    (fun r _ e => waitFor kernelKey { e with loom := { e.loom with kernelCmd := some (r.num 0 1) } }) ∧
  Serves .kernelCmd 0x0305
    (fun r _ e => r.len = 1 ∧ 1 ≤ r.num 0 1 ∧ r.num 0 1 ≤ 5 ∧ loomMode e = .run ∧ e.loom.kernelCmd.isSome = true)
    (fun _ _ e => deny 10 e) ∧
  Serves .faultClear 0x0306 (fun r _ _ => r.len = 1 ∧ r.num 0 1 ≤ 15)
    (fun r t e => okay (gateClear (r.num 0 1) t e)) ∧
  Serves .thermalRestart 0x0307
    (fun r t e => r.len = 1 ∧ r.num 0 1 ≤ 15 ∧ (thRestart (r.num 0 1) t e).therm.refused = 0)
    (fun r t e => okay (thRestart (r.num 0 1) t e)) ∧
  Serves .thermalRestart 0x0307
    (fun r t e => r.len = 1 ∧ r.num 0 1 ≤ 15 ∧ (thRestart (r.num 0 1) t e).therm.refused ≠ 0)
    (fun r t e => deny (0x8600 + (thRestart (r.num 0 1) t e).therm.refused) (thRestart (r.num 0 1) t e))

/-- Groups 0x04xx and 0x05xx (R213, R225, R240, R349, R350): memory access and metrology. -/
def Obligations.TheAccessAndMetrologyOpcodes : Prop :=
  Serves .memRead 0x0400
    (fun r _ _ => r.len = 8 ∧ memHead r = 0 ∧ (elements r).any (readsClear (r.num 4 1)) = false ∧
      32 + r.num 4 1 * r.num 6 2 ≤ packetLimit r.transport)
    (fun r t e =>
      let x := memReads (r.num 4 1) t (elements r) ([], 0, e)
      ⟨x.2.1, x.1, x.2.2, none⟩) ∧
  Serves .memRead 0x0400 (fun r _ _ => r.len = 8 ∧ memHead r ≠ 0) (fun r _ e => deny (memHead r) e) ∧
  Serves .memWrite 0x0401
    (fun r _ e => 8 ≤ r.len ∧ r.len = 8 + r.num 4 1 * r.num 6 2 ∧ memHead r = 0 ∧ loomMode e ≠ .run)
    (fun r t e =>
      let x := memWrites (r.num 4 1) t ((elements r).zipIdx.map (fun y => (y.1, r.num (8 + y.2 * r.num 4 1) (r.num 4 1)))) e
      deny (if x.1 ≠ 0 then x.1 else if sealCounts x.2 ≠ sealCounts e then 12 else 0) x.2) ∧
  Serves .memWrite 0x0401
    (fun r _ e => 8 ≤ r.len ∧ r.len = 8 + r.num 4 1 * r.num 6 2 ∧ memHead r = 0 ∧ loomMode e = .run ∧
      (elements r).any configPage = true)
    (fun _ _ e => deny 13 e) ∧
  Serves .mtrOpen 0x0500 (fun r _ e => r.len = 28 ∧ r.num 1 3 = 0 ∧ domOn e 4 = true ∧ e.meter.ready = true)
    (fun r t e => waitFor (frameKey e.meter.seqNo) (lreqSend e 1 (r.num 0 1) (r.bytes 4 24) t)) ∧
  Serves .mtrOpen 0x0500 (fun r _ e => r.len = 28 ∧ r.num 1 3 = 0 ∧ domOn e 4 = true ∧ e.meter.ready = false)
    (fun _ _ e => deny 0x8202 e) ∧
  Serves .mtrClose 0x0501 (fun r _ e => r.len = 1 ∧ domOn e 4 = true)
    (fun r t e => waitFor (frameKey e.meter.seqNo) (lreqSend e 2 (r.num 0 1) [] t)) ∧
  Serves .mtrAckRecords 0x0502 (fun r _ e => r.len = 8 ∧ domOn e 4 = true)
    (fun r t e => waitFor (frameKey e.meter.seqNo) (lreqSend e 3 0xFF r.params t)) ∧
  Serves .mtrClearCounters 0x0503 (fun r _ e => r.len = 4 ∧ domOn e 4 = true)
    (fun r t e => waitFor (frameKey e.meter.seqNo) (lreqSend e 5 0xFF r.params t)) ∧
  Serves .mtrRead 0x0504 (fun r _ e => r.len = 1 ∧ r.num 0 1 < 4 ∧ domOn e 4 = true)
    (fun r _ e => okWith (bytesLE 4 (rdN e (Addr.MP_STAT (r.num 0 1)))
      ++ (List.range 6).flatMap (fun k => bytesLE 8 (rd64 e (Addr.MP_REGm_r_LO (r.num 0 1) k 0)))
      ++ bytesLE 8 (rd64 e Addr.MBX_TIME_LO)) e) ∧
  (∀ x : Nat × Nat × Bool, Serves .mtrRecord 0x0505
    (fun r _ e => r.len = 9 ∧ r.num 8 1 = 0 ∧ domOn e 4 = true ∧
      e.meter.slots.find? (fun s => s.2.1 == r.num 0 8 && s.2.2) = some x)
    (fun _ _ e => okWith (memBytes e (0x60100000 + 1024 * x.1) 192) e)) ∧
  Serves .mtrRecord 0x0505
    (fun r _ e => r.len = 9 ∧ r.num 8 1 ≤ 1 ∧ domOn e 4 = true ∧
      e.meter.slots.find? (fun s => s.2.1 == r.num 0 8 && s.2.2) = none)
    (fun _ _ e => deny 5 e) ∧
  Serves .mtrKeys 0x0506 (fun r _ e => r.len = 0 ∧ domOn e 4 = true)
    (fun _ _ e => okWith ((List.range 16).flatMap (fun i => bytesLE 4 (rdN e (Addr.MBX_PUBKEY i)))
      ++ (List.range 8).flatMap (fun i => bytesLE 4 (rdN e (Addr.MBX_FW_HASH i)))) e)

/-- Groups 0x06xx to 0x08xx (R69, R87, R150, R351, R352): the recorder, the diagnostics, calibration and coefficients. -/
def Obligations.TheServiceOpcodes : Prop :=
  (∀ k : Fin 4, Serves .recCmd 0x0600
    (fun r _ _ => r.len = 2 ∧ r.num 0 1 = k.1 ∧ 1 ≤ r.num 1 1 ∧ r.num 1 1 ≤ 3)
    (fun r t e => okay (recCommand k (r.num 1 1) t e))) ∧
  Serves .recStatus 0x0601 (fun r _ _ => r.len = 1 ∧ r.num 0 1 < 4)
    (fun r t e =>
      let both (a : Nat) : List Byte := bytesLE 4 (shown e a t).toNat ++ bytesLE 4 (shown e (a + 4) t).toNat
      okWith (bytesLE 4 (rdN e (Addr.REC_STAT (r.num 0 1))) ++ both (Addr.REC_TPOS_LO (r.num 0 1) 0)
        ++ both (Addr.REC_TTIME_LO (r.num 0 1) 0) ++ both (Addr.REC_FRAMES_LO (r.num 0 1) 0)
        ++ bytesLE 4 (rdN e (Addr.REC_GAP_CNT (r.num 0 1))) ++ bytesLE 4 (rdN e (Addr.REC_MISS_CNT (r.num 0 1)))) e) ∧
  (∀ desc : Nat, Serves .recBlockRead 0x0602
    (fun r _ e => r.len = 14 ∧ recDesc e r = some desc ∧ (memNat e desc 4).testBit 31 = false ∧
      r.num 8 4 + r.num 12 2 ≤ descLen e desc)
    (fun r _ e => okWith (memBytes e (descAddr e desc + r.num 8 4) (r.num 12 2)) e)) ∧
  (∀ (desc : Nat) (b : Fin 16), Serves .recBlockRelease 0x0603
    (fun r _ e => r.len = 8 ∧ recDesc e r = some desc ∧ 2 + r.num 0 1 = b.1)
    (fun _ t e => okay (Machine.bobDoorbell b t (memWrite steward desc (bytesLE 4 (memNat e desc 4 ||| 2 ^ 31)) e)))) ∧
  Serves .gateTest 0x0700
    (fun r _ e => r.len = 2 ∧ 1 ≤ r.num 0 1 ∧ r.num 0 1 ≤ 5 ∧ r.num 1 1 < (if r.num 0 1 ≤ 3 then 48 else 24) ∧
      e.gtest = none ∧ testAllowed e (r.num 0 1) (r.num 1 1) = true)
    (fun r t e => waitFor testKey
      (wrN { e with gtest := some { kind := r.num 0 1, target := r.num 1 1, since := t } } Addr.GATE_TEST_STAT (2 ^ 31))) ∧
  Serves .selftest 0x0701 (fun r _ e => r.len = 0 ∧ loomMode e = .stop) (fun r _ e => startLong r e id) ∧
  ServesAndSettles .calCmd 0x0800
    (fun r t e => r.len = 8 ∧ r.num 0 1 = 1 ∧ (r.num 1 1 < 32 ∨ 64 ≤ r.num 1 1 ∧ r.num 1 1 < 128) ∧ r.num 2 2 = 0 ∧
      calState e = 0 ∧ calState (calCommand 1 (r.num 1 1) t e) = 1)
    (fun r t e => okay (settleCal t (calCommand 1 (r.num 1 1) t e))) ∧
  ServesAndSettles .calCmd 0x0800
    (fun r t e => r.len = 8 ∧ (r.num 0 1 = 2 ∨ r.num 0 1 = 4) ∧ (r.num 1 1 < 32 ∨ 64 ≤ r.num 1 1 ∧ r.num 1 1 < 128) ∧
      r.num 2 2 = 0 ∧ r.num 1 1 = calEntry e ∧
      calState (calCommand (r.num 0 1) (r.num 1 1) t e) = calReached (r.num 0 1))
    (fun r t e => startLong r (calCommand (r.num 0 1) (r.num 1 1) t e) id) ∧
  Serves .calExport 0x0801 (fun r _ _ => r.len = 4 ∧ r.num 0 2 + r.num 2 2 ≤ 2320)
    (fun r _ e => okWith (((calImage e).drop (r.num 0 2)).take (r.num 2 2)) e) ∧
  Serves .calRestore 0x0802
    (fun r _ e => r.len = 36 ∧ r.num 1 3 = 0 ∧ calState e = 1 ∧ calEntry e = r.num 0 1 ∧
      sliceLE (r.bytes 12 24) 20 4 = crc32c ((r.bytes 12 24).take 20))
    (fun r t e => if r.bytes 4 8 ≠ serialBytes then deny 15 e
      else startLong r e (fun x => settleCal t (Machine.calRestore t
        (wrN (wrN x Addr.CAL_RST_OFF (sliceLE (r.bytes 12 24) 0 4)) Addr.CAL_RST_GAIN (sliceLE (r.bytes 12 24) 4 4))))) ∧
  Serves .rsmCoefWrite 0x0803
    (fun r _ e => 2 ≤ r.len ∧ r.num 0 2 % 2 = 0 ∧ r.len % 2 = 0 ∧ r.num 0 2 + (r.len - 2) ≤ 8192 ∧
      rsmBankOpen e (!rdB e Addr.RSM_COEF_CTRL 1) = true)
    (fun r _ e =>
      let bankB := !rdB e Addr.RSM_COEF_CTRL 1
      let old := rsmBankBytes e bankB
      let new := old.take (r.num 0 2) ++ r.params.drop 2 ++ old.drop (r.num 0 2 + (r.params.drop 2).length)
      let touched := (List.range 2048).filter
        (fun i => decide (r.num 0 2 < 4 * i + 4 ∧ 4 * i < r.num 0 2 + (r.params.drop 2).length))
      okay (rsmShowCrc (each touched (fun x i =>
        wrN x (if bankB then Addr.RSM_COEF_B i else Addr.RSM_COEF_A i) (sliceLE new (4 * i) 4)) e) bankB)) ∧
  Serves .rsmSwitch 0x0804
    (fun r _ e => r.len = 4 ∧ (Machine.rsmSwitch (wrN e Addr.RSM_COEF_EXP (r.num 0 4))).rsm.switchReq = true)
    (fun r _ e => okay (Machine.rsmSwitch (wrN e Addr.RSM_COEF_EXP (r.num 0 4))))

/-- Groups 0x09xx to 0x0Bxx (R300, R353, R365, R396, R398): time, redundancy and logs. -/
def Obligations.TheTimeAndLogOpcodes : Prop :=
  Serves .timeRead 0x0900 (fun r _ _ => r.len = 0)
    (fun _ t e => okWith (bytesLE 8 (e.time.read t) ++ [BitVec.ofNat 8 (timeState e), 0, 0, 0]
      ++ bytesLE 4 (rdN e Addr.TIME_RATE)) e) ∧
  Serves .timeSet 0x0901 (fun r _ e => r.len = 8 ∧ timeState e < 2 ∧ rdB e Addr.TIME_STAT 4 = false)
    (fun r t e => okay (setTimeState 1 { e with time := { e.time with ns := r.num 0 8, frac := 0, at50 := t } })) ∧
  Serves .timeSet 0x0901 (fun r _ e => r.len = 8 ∧ 2 ≤ timeState e) (fun _ _ e => deny 13 e) ∧
  Serves .pairStatus 0x0A00 (fun r _ _ => r.len = 0)
    (fun _ _ e => okWith
      ([BitVec.ofNat 8 (if paired e = false then 2 else if redState e = 2 then 0 else 1),
        BitVec.ofNat 8 (rdF e Addr.RED_STAT 5 1), 0, 0] ++ bytesLE 4 (rdN e Addr.RED_MATCH)
        ++ [BitVec.ofNat 8 (paired e && !rdB e Addr.RED_STAT 7 && !rdB e Addr.RED_STAT 8).toNat, 0, 0, 0]
        ++ bytesLE 4 (rdN e Addr.RED_OFFSET)) e) ∧
  Serves .pairYield 0x0A01 (fun r _ e => r.len = 0 ∧ paired e = true ∧ redState e = 2 ∧ pairSync e = true)
    (fun _ t e => okay (yieldCommand t e)) ∧
  Serves .pairTakeback 0x0A02 (fun r _ _ => r.len = 1 ∧ r.num 0 1 = 1)
    (fun _ _ e => okay (wrB e Addr.RED_STAT 14 true)) ∧
  Serves .pairTakeback 0x0A02 (fun r _ _ => r.len = 1 ∧ r.num 0 1 = 0)
    (fun _ _ e => okay (wrB e Addr.RED_STAT 14 false)) ∧
  Serves .eventRead 0x0B00 (fun r _ e => r.len = 5 ∧ 1 ≤ r.num 4 1 ∧ r.num 4 1 ≤ 16 ∧ e.events.length ≤ 4096)
    (fun r _ e => okWith (((e.events.zipIdx.drop (r.num 0 4)).take (r.num 4 1)).flatMap (fun x => eventBytes x.1)) e) ∧
  Serves .logbookRead 0x0B01 (fun r _ _ => r.len = 5 ∧ 1 ≤ r.num 4 1 ∧ r.num 4 1 ≤ 16 ∧ r.num 0 4 ≠ 0)
    (fun r _ e => okWith (((List.range (r.num 4 1)).filter (fun i => decide (r.num 0 4 + i ≤ e.meter.logUsed))).flatMap
      (fun i => memBytes e (0x60180000 + 64 * (r.num 0 4 + i - 1)) 64)) e) ∧
  Serves .thermalRead 0x0B02 (fun r _ _ => r.len = 0)
    (fun _ _ e => okWith (memBytes e 0x60031000 128) e)
end

