-- ==== Sys2Proof/Laws/Bits.lean ====
section
/-! SUPPORT. The laws of bit fields: what a field or a bit reads after a field or a bit is written. -/

namespace Sys2Proof.Laws

open Sys2Proof Sys2Proof.Machine

/-- The number of a word with a field replaced: what stands above the field, the field, and what stands below. -/
theorem setField_split (n lo len v : Nat) :
    n - n / 2 ^ lo % 2 ^ len * 2 ^ lo + v % 2 ^ len * 2 ^ lo
      = 2 ^ lo * (2 ^ len * (n / 2 ^ lo / 2 ^ len) + v % 2 ^ len) + n % 2 ^ lo := by
  have h1 := Nat.div_add_mod n (2 ^ lo)
  have h2 := Nat.div_add_mod (n / 2 ^ lo) (2 ^ len)
  have h3 : 2 ^ lo * (n / 2 ^ lo) = 2 ^ lo * (2 ^ len * (n / 2 ^ lo / 2 ^ len)) + n / 2 ^ lo % 2 ^ len * 2 ^ lo := by
    conv_lhs => rw [← h2]
    ring
  have h4 : n = 2 ^ lo * (2 ^ len * (n / 2 ^ lo / 2 ^ len)) + n / 2 ^ lo % 2 ^ len * 2 ^ lo + n % 2 ^ lo := by
    omega
  have h5 : 2 ^ lo * (2 ^ len * (n / 2 ^ lo / 2 ^ len) + v % 2 ^ len)
      = 2 ^ lo * (2 ^ len * (n / 2 ^ lo / 2 ^ len)) + v % 2 ^ len * 2 ^ lo := by ring
  rw [h5]
  generalize 2 ^ lo * (2 ^ len * (n / 2 ^ lo / 2 ^ len)) = a at *
  generalize n / 2 ^ lo % 2 ^ len * 2 ^ lo = b at *
  generalize n % 2 ^ lo = c at *
  omega

/-- A bit of a word whose field has been written. -/
theorem bit_setField (w : Word) (lo len v i : Nat) :
    bit (setField w lo len v) i = if i < 32 ∧ lo ≤ i ∧ i < lo + len then v.testBit (i - lo) else bit w i := by
  unfold bit setField field
  by_cases hi : i < 32
  · rw [BitVec.getLsbD_ofNat, setField_split]
    have e : w.getLsbD i = w.toNat.testBit i := rfl
    rw [e, Nat.testBit_two_pow_mul_add _ (Nat.mod_lt _ (Nat.two_pow_pos lo)), Nat.testBit_mod_two_pow]
    by_cases h1 : i < lo
    · have : ¬ lo ≤ i := by omega
      simp [hi, h1, this]
    · rw [if_neg h1, Nat.testBit_two_pow_mul_add _ (Nat.mod_lt _ (Nat.two_pow_pos len)), Nat.testBit_mod_two_pow]
      have h2 : lo ≤ i := by omega
      by_cases h3 : i < lo + len
      · have : i - lo < len := by omega
        simp [hi, h2, h3, this]
      · have h4 : ¬ i - lo < len := by omega
        rw [if_neg h4, Nat.div_div_eq_div_mul, ← pow_add, ← Nat.shiftRight_eq_div_pow, Nat.testBit_shiftRight]
        have : lo + len + (i - lo - len) = i := by omega
        simp [hi, h3, this]
  · rw [BitVec.getLsbD_of_ge _ _ (by omega), if_neg (by omega), BitVec.getLsbD_of_ge _ _ (by omega)]

/-- A bit of a field. -/
theorem testBit_field (w : Word) (lo len j : Nat) :
    (field w lo len).testBit j = (decide (j < len) && bit w (lo + j)) := by
  unfold field bit
  rw [Nat.testBit_mod_two_pow, ← Nat.shiftRight_eq_div_pow, Nat.testBit_shiftRight]
  rfl

/-- A field that has been written reads the value modulo its width. -/
theorem field_setField_same (w : Word) (lo len v : Nat) (h : lo + len ≤ 32) :
    field (setField w lo len v) lo len = v % 2 ^ len := by
  apply Nat.eq_of_testBit_eq
  intro j
  rw [testBit_field, bit_setField, Nat.testBit_mod_two_pow]
  by_cases hj : j < len
  · have h1 : lo + j < 32 ∧ lo ≤ lo + j ∧ lo + j < lo + len := by omega
    rw [if_pos h1, Nat.add_sub_cancel_left]
  · simp [hj]

/-- A field apart from the written one reads as before. -/
theorem field_setField_ne (w : Word) (lo len v lo' len' : Nat) (h : lo + len ≤ lo' ∨ lo' + len' ≤ lo) :
    field (setField w lo len v) lo' len' = field w lo' len' := by
  apply Nat.eq_of_testBit_eq
  intro j
  rw [testBit_field, testBit_field, bit_setField]
  by_cases hj : j < len'
  · have : ¬ (lo' + j < 32 ∧ lo ≤ lo' + j ∧ lo' + j < lo + len) := by omega
    rw [if_neg this]
  · simp [hj]

/-- A bit outside the written field reads as before. -/
theorem bit_setField_ne (w : Word) (lo len v i : Nat) (h : i < lo ∨ lo + len ≤ i) :
    bit (setField w lo len v) i = bit w i := by
  rw [bit_setField, if_neg (by omega)]

/-- A bit that has been written. -/
theorem bit_setBit_same (w : Word) (i : Nat) (b : Bool) (h : i < 32) : bit (setBit w i b) i = b := by
  rw [setBit, bit_setField, if_pos (by omega), Nat.sub_self]
  cases b <;> rfl

/-- Another bit reads as before. -/
theorem bit_setBit_ne (w : Word) (i j : Nat) (b : Bool) (h : i ≠ j) : bit (setBit w i b) j = bit w j := by
  rw [setBit, bit_setField, if_neg (by omega)]

/-- A field that does not hold the written bit reads as before. -/
theorem field_setBit_ne (w : Word) (i lo len : Nat) (b : Bool) (h : i < lo ∨ lo + len ≤ i) :
    field (setBit w i b) lo len = field w lo len := field_setField_ne w i 1 b.toNat lo len (by omega)

/-- A word with every bit of another is the other. -/
theorem word_ext (v w : Word) (h : ∀ i < 32, bit v i = bit w i) : v = w :=
  BitVec.eq_of_getLsbD_eq h

end Sys2Proof.Laws
end

