-- ==== Sys2Proof/Laws/Sparse.lean ====
section
/-! SUPPORT. The laws of sparse data: a read after a write, what a write leaves alone, and that writing, erasing and
forgetting keep the canonical form. -/

namespace Sys2Proof.Laws

open Sys2Proof.Machine

variable {α : Type}

theorem sparse_find_erase (k j : Nat) (l : List (Nat × α)) :
    Sparse.find j (Sparse.erase k l) = if j = k then none else Sparse.find j l := by
  induction l with
  | nil => simp [Sparse.erase, Sparse.find]
  | cons e l ih =>
    obtain ⟨i, v⟩ := e
    by_cases h : i = k
    · simp only [Sparse.erase, h, if_true, ih, Sparse.find]
      by_cases hj : j = k
      · simp [hj]
      · simp [hj, Ne.symm hj]
    · simp only [Sparse.erase, h, if_false, Sparse.find, ih]
      by_cases hi : i = j
      · subst hi; simp [h]
      · simp [hi]

theorem sparse_find_insert (k j : Nat) (v : α) (l : List (Nat × α)) :
    Sparse.find j (Sparse.insert k v l) = if j = k then some v else Sparse.find j l := by
  induction l with
  | nil => simp [Sparse.insert, Sparse.find, eq_comm]
  | cons e l ih =>
    obtain ⟨i, w⟩ := e
    simp only [Sparse.insert]
    split
    · by_cases hj : j = k
      · simp [Sparse.find, hj]
      · simp [Sparse.find, hj, Ne.symm hj]
    · split
      · rename_i _ h
        subst h
        by_cases hj : j = k
        · simp [Sparse.find, hj]
        · simp [Sparse.find, hj, Ne.symm hj]
      · rename_i h1 h2
        simp only [Sparse.find, ih]
        by_cases hi : i = j
        · have : j ≠ k := by omega
          simp [hi, this]
        · simp [hi]

/-- A read after a write: of the written key the value, of every other key what it read before. -/
theorem sparse_read_write [DecidableEq α] (dflt : Nat → α) (l : List (Nat × α)) (k j : Nat) (v : α) :
    (Sparse.find j (Sparse.write (dflt k) l k v)).getD (dflt j) =
      if j = k then v else (Sparse.find j l).getD (dflt j) := by
  unfold Sparse.write
  split
  · rename_i h
    rw [sparse_find_erase]
    by_cases hj : j = k
    · subst hj; simp [h]
    · simp [hj]
  · rw [sparse_find_insert]
    by_cases hj : j = k
    · simp [hj]
    · simp [hj]

/-- The keys of a list. -/
theorem sparse_rising_iff (l : List (Nat × α)) :
    Sparse.rising l = true ↔ l.Pairwise (fun a b => a.1 < b.1) := by
  induction l with
  | nil => simp [Sparse.rising]
  | cons a l ih =>
    cases l with
    | nil => simp [Sparse.rising]
    | cons b l =>
      obtain ⟨i, x⟩ := a
      obtain ⟨j, y⟩ := b
      simp only [Sparse.rising, Bool.and_eq_true, decide_eq_true_eq, ih, List.pairwise_cons]
      constructor
      · rintro ⟨h, h1, h2⟩
        refine ⟨?_, h1, h2⟩
        intro c hc
        rcases List.mem_cons.1 hc with rfl | hc
        · exact h
        · exact lt_trans h (h1 c hc)
      · rintro ⟨h, h1, h2⟩
        exact ⟨h _ List.mem_cons_self, h1, h2⟩

theorem sparse_wf_iff [DecidableEq α] (dflt : Nat → α) (l : List (Nat × α)) :
    Sparse.wf dflt l = true ↔ l.Pairwise (fun a b => a.1 < b.1) ∧ ∀ e ∈ l, e.2 ≠ dflt e.1 := by
  simp [Sparse.wf, sparse_rising_iff]

theorem sparse_mem_erase {k : Nat} {e : Nat × α} {l : List (Nat × α)} (h : e ∈ Sparse.erase k l) : e ∈ l := by
  induction l with
  | nil => simp [Sparse.erase] at h
  | cons a l ih =>
    obtain ⟨i, w⟩ := a
    simp only [Sparse.erase] at h
    split at h
    · exact List.mem_cons_of_mem _ (ih h)
    · rcases List.mem_cons.1 h with rfl | h
      · exact List.mem_cons_self
      · exact List.mem_cons_of_mem _ (ih h)

theorem sparse_mem_insert {k : Nat} {v : α} {e : Nat × α} {l : List (Nat × α)}
    (h : e ∈ Sparse.insert k v l) : e = (k, v) ∨ e ∈ l := by
  induction l with
  | nil => simpa [Sparse.insert] using h
  | cons a l ih =>
    obtain ⟨i, w⟩ := a
    simp only [Sparse.insert] at h
    split at h
    · simpa using h
    · split at h
      · rcases List.mem_cons.1 h with h | h
        · exact .inl h
        · exact .inr (List.mem_cons_of_mem _ h)
      · rcases List.mem_cons.1 h with h | h
        · exact .inr (h ▸ List.mem_cons_self)
        · rcases ih h with h | h
          · exact .inl h
          · exact .inr (List.mem_cons_of_mem _ h)

theorem sparse_erase_pairwise {k : Nat} {l : List (Nat × α)} (h : l.Pairwise (fun a b => a.1 < b.1)) :
    (Sparse.erase k l).Pairwise (fun a b => a.1 < b.1) := by
  induction l with
  | nil => simp [Sparse.erase]
  | cons a l ih =>
    obtain ⟨i, w⟩ := a
    rw [List.pairwise_cons] at h
    simp only [Sparse.erase]
    split
    · exact ih h.2
    · exact List.pairwise_cons.2 ⟨fun e he => h.1 e (sparse_mem_erase he), ih h.2⟩

theorem sparse_insert_pairwise {k : Nat} {v : α} {l : List (Nat × α)} (h : l.Pairwise (fun a b => a.1 < b.1)) :
    (Sparse.insert k v l).Pairwise (fun a b => a.1 < b.1) := by
  induction l with
  | nil => simp [Sparse.insert]
  | cons a l ih =>
    obtain ⟨i, w⟩ := a
    have h' := h
    rw [List.pairwise_cons] at h
    simp only [Sparse.insert]
    split
    · rename_i hk
      refine List.pairwise_cons.2 ⟨?_, h'⟩
      intro e he
      rcases List.mem_cons.1 he with rfl | he
      · exact hk
      · exact lt_trans hk (h.1 e he)
    · split
      · rename_i hk
        subst hk
        exact List.pairwise_cons.2 ⟨fun e he => h.1 e he, h.2⟩
      · rename_i h1 h2
        refine List.pairwise_cons.2 ⟨?_, ih h.2⟩
        intro e he
        rcases sparse_mem_insert he with rfl | he
        · show i < k
          omega
        · exact h.1 e he

/-- A write keeps the canonical form. -/
theorem sparse_write_wf [DecidableEq α] {dflt : Nat → α} {l : List (Nat × α)} (k : Nat) (v : α)
    (h : Sparse.wf dflt l = true) : Sparse.wf dflt (Sparse.write (dflt k) l k v) = true := by
  rw [sparse_wf_iff] at h ⊢
  unfold Sparse.write
  split
  · exact ⟨sparse_erase_pairwise h.1, fun e he => h.2 e (sparse_mem_erase he)⟩
  · rename_i hv
    refine ⟨sparse_insert_pairwise h.1, fun e he => ?_⟩
    rcases sparse_mem_insert he with rfl | he
    · exact hv
    · exact h.2 e he

/-- Dropping entries keeps the canonical form. -/
theorem sparse_filter_wf [DecidableEq α] {dflt : Nat → α} {l : List (Nat × α)} (p : Nat × α → Bool)
    (h : Sparse.wf dflt l = true) : Sparse.wf dflt (l.filter p) = true := by
  rw [sparse_wf_iff] at h ⊢
  exact ⟨h.1.filter _, fun e he => h.2 e (List.mem_filter.1 he).1⟩

/-- A shadow entry keeps the keys rising. -/
theorem sparse_insert_rising {l : List (Nat × α)} (k : Nat) (v : α) (h : Sparse.rising l = true) :
    Sparse.rising (Sparse.insert k v l) = true :=
  (sparse_rising_iff _).2 (sparse_insert_pairwise ((sparse_rising_iff _).1 h))

end Sys2Proof.Laws
end

