-- ==== Sys2Proof/Laws/State.lean ====
section
/-! SUPPORT. What the primitive updates of the unit leave alone, field by field, and what a register and a byte read
after a write. -/

namespace Sys2Proof.Laws

open Sys2Proof Sys2Proof.Machine

/-! ### A register written -/

@[simp] theorem wr_now (d : Device) (a : Nat) (v : Word) : (wr d a v).now = d.now := rfl
@[simp] theorem wr_shadow (d : Device) (a : Nat) (v : Word) : (wr d a v).shadow = d.shadow := rfl
@[simp] theorem wr_fields (d : Device) (a : Nat) (v : Word) : (wr d a v).fields = d.fields := rfl
@[simp] theorem wr_mem (d : Device) (a : Nat) (v : Word) : (wr d a v).mem = d.mem := rfl
@[simp] theorem wr_hiShadow (d : Device) (a : Nat) (v : Word) : (wr d a v).hiShadow = d.hiShadow := rfl
@[simp] theorem wr_busData (d : Device) (a : Nat) (v : Word) : (wr d a v).busData = d.busData := rfl
@[simp] theorem wr_freeCtr (d : Device) (a : Nat) (v : Word) : (wr d a v).freeCtr = d.freeCtr := rfl
@[simp] theorem wr_resv (d : Device) (a : Nat) (v : Word) : (wr d a v).resv = d.resv := rfl
@[simp] theorem wr_cores (d : Device) (a : Nat) (v : Word) : (wr d a v).cores = d.cores := rfl
@[simp] theorem wr_events (d : Device) (a : Nat) (v : Word) : (wr d a v).events = d.events := rfl
@[simp] theorem wr_power (d : Device) (a : Nat) (v : Word) : (wr d a v).power = d.power := rfl
@[simp] theorem wr_seals (d : Device) (a : Nat) (v : Word) : (wr d a v).seals = d.seals := rfl
@[simp] theorem wr_clock (d : Device) (a : Nat) (v : Word) : (wr d a v).clock = d.clock := rfl
@[simp] theorem wr_time (d : Device) (a : Nat) (v : Word) : (wr d a v).time = d.time := rfl
@[simp] theorem wr_chans (d : Device) (a : Nat) (v : Word) : (wr d a v).chans = d.chans := rfl
@[simp] theorem wr_cal (d : Device) (a : Nat) (v : Word) : (wr d a v).cal = d.cal := rfl
@[simp] theorem wr_calPass (d : Device) (a : Nat) (v : Word) : (wr d a v).calPass = d.calPass := rfl
@[simp] theorem wr_hk (d : Device) (a : Nat) (v : Word) : (wr d a v).hk = d.hk := rfl
@[simp] theorem wr_rsm (d : Device) (a : Nat) (v : Word) : (wr d a v).rsm = d.rsm := rfl
@[simp] theorem wr_shed (d : Device) (a : Nat) (v : Word) : (wr d a v).shed = d.shed := rfl
@[simp] theorem wr_inj (d : Device) (a : Nat) (v : Word) : (wr d a v).inj = d.inj := rfl
@[simp] theorem wr_setp (d : Device) (a : Nat) (v : Word) : (wr d a v).setp = d.setp := rfl
@[simp] theorem wr_ints (d : Device) (a : Nat) (v : Word) : (wr d a v).ints = d.ints := rfl
@[simp] theorem wr_cordic (d : Device) (a : Nat) (v : Word) : (wr d a v).cordic = d.cordic := rfl
@[simp] theorem wr_dcmp (d : Device) (a : Nat) (v : Word) : (wr d a v).dcmp = d.dcmp := rfl
@[simp] theorem wr_gchan (d : Device) (a : Nat) (v : Word) : (wr d a v).gchan = d.gchan := rfl
@[simp] theorem wr_legs (d : Device) (a : Nat) (v : Word) : (wr d a v).legs = d.legs := rfl
@[simp] theorem wr_har (d : Device) (a : Nat) (v : Word) : (wr d a v).har = d.har := rfl
@[simp] theorem wr_selv (d : Device) (a : Nat) (v : Word) : (wr d a v).selv = d.selv := rfl
@[simp] theorem wr_selvNext (d : Device) (a : Nat) (v : Word) : (wr d a v).selvNext = d.selvNext := rfl
@[simp] theorem wr_gtest (d : Device) (a : Nat) (v : Word) : (wr d a v).gtest = d.gtest := rfl
@[simp] theorem wr_bridle (d : Device) (a : Nat) (v : Word) : (wr d a v).bridle = d.bridle := rfl
@[simp] theorem wr_mram (d : Device) (a : Nat) (v : Word) : (wr d a v).mram = d.mram := rfl
@[simp] theorem wr_red (d : Device) (a : Nat) (v : Word) : (wr d a v).red = d.red := rfl
@[simp] theorem wr_out (d : Device) (a : Nat) (v : Word) : (wr d a v).out = d.out := rfl
@[simp] theorem wr_recs (d : Device) (a : Nat) (v : Word) : (wr d a v).recs = d.recs := rfl
@[simp] theorem wr_bobs (d : Device) (a : Nat) (v : Word) : (wr d a v).bobs = d.bobs := rfl
@[simp] theorem wr_loom (d : Device) (a : Nat) (v : Word) : (wr d a v).loom = d.loom := rfl
@[simp] theorem wr_meter (d : Device) (a : Nat) (v : Word) : (wr d a v).meter = d.meter := rfl
@[simp] theorem wr_therm (d : Device) (a : Nat) (v : Word) : (wr d a v).therm = d.therm := rfl
@[simp] theorem wr_cfg (d : Device) (a : Nat) (v : Word) : (wr d a v).cfg = d.cfg := rfl
@[simp] theorem wr_tomus (d : Device) (a : Nat) (v : Word) : (wr d a v).tomus = d.tomus := rfl
@[simp] theorem wr_net (d : Device) (a : Nat) (v : Word) : (wr d a v).net = d.net := rfl

/-- A register read after a register is written. -/
theorem rd_wr (d : Device) (a b : Nat) (v : Word) : rd (wr d a v) b = if b = a then v else rd d b :=
  sparse_read_write RegMap.resetValue d.regs a b v

@[simp] theorem rd_wr_same (d : Device) (a : Nat) (v : Word) : rd (wr d a v) a = v := by simp [rd_wr]

theorem rd_wr_ne (d : Device) {a b : Nat} (v : Word) (h : b ≠ a) : rd (wr d a v) b = rd d b := by simp [rd_wr, h]

@[simp] theorem wr_memByte (d : Device) (a b : Nat) (v : Word) : memByte (wr d a v) b = memByte d b := rfl

/-! ### A byte written -/

@[simp] theorem putByte_now (d : Device) (a : Nat) (b : Byte) : (putByte d a b).now = d.now := rfl
@[simp] theorem putByte_regs (d : Device) (a : Nat) (b : Byte) : (putByte d a b).regs = d.regs := rfl
@[simp] theorem putByte_shadow (d : Device) (a : Nat) (b : Byte) : (putByte d a b).shadow = d.shadow := rfl
@[simp] theorem putByte_fields (d : Device) (a : Nat) (b : Byte) : (putByte d a b).fields = d.fields := rfl
@[simp] theorem putByte_hiShadow (d : Device) (a : Nat) (b : Byte) : (putByte d a b).hiShadow = d.hiShadow := rfl
@[simp] theorem putByte_busData (d : Device) (a : Nat) (b : Byte) : (putByte d a b).busData = d.busData := rfl
@[simp] theorem putByte_freeCtr (d : Device) (a : Nat) (b : Byte) : (putByte d a b).freeCtr = d.freeCtr := rfl
@[simp] theorem putByte_resv (d : Device) (a : Nat) (b : Byte) : (putByte d a b).resv = d.resv := rfl
@[simp] theorem putByte_cores (d : Device) (a : Nat) (b : Byte) : (putByte d a b).cores = d.cores := rfl
@[simp] theorem putByte_events (d : Device) (a : Nat) (b : Byte) : (putByte d a b).events = d.events := rfl
@[simp] theorem putByte_power (d : Device) (a : Nat) (b : Byte) : (putByte d a b).power = d.power := rfl
@[simp] theorem putByte_seals (d : Device) (a : Nat) (b : Byte) : (putByte d a b).seals = d.seals := rfl
@[simp] theorem putByte_clock (d : Device) (a : Nat) (b : Byte) : (putByte d a b).clock = d.clock := rfl
@[simp] theorem putByte_time (d : Device) (a : Nat) (b : Byte) : (putByte d a b).time = d.time := rfl
@[simp] theorem putByte_chans (d : Device) (a : Nat) (b : Byte) : (putByte d a b).chans = d.chans := rfl
@[simp] theorem putByte_cal (d : Device) (a : Nat) (b : Byte) : (putByte d a b).cal = d.cal := rfl
@[simp] theorem putByte_calPass (d : Device) (a : Nat) (b : Byte) : (putByte d a b).calPass = d.calPass := rfl
@[simp] theorem putByte_hk (d : Device) (a : Nat) (b : Byte) : (putByte d a b).hk = d.hk := rfl
@[simp] theorem putByte_rsm (d : Device) (a : Nat) (b : Byte) : (putByte d a b).rsm = d.rsm := rfl
@[simp] theorem putByte_shed (d : Device) (a : Nat) (b : Byte) : (putByte d a b).shed = d.shed := rfl
@[simp] theorem putByte_inj (d : Device) (a : Nat) (b : Byte) : (putByte d a b).inj = d.inj := rfl
@[simp] theorem putByte_setp (d : Device) (a : Nat) (b : Byte) : (putByte d a b).setp = d.setp := rfl
@[simp] theorem putByte_ints (d : Device) (a : Nat) (b : Byte) : (putByte d a b).ints = d.ints := rfl
@[simp] theorem putByte_cordic (d : Device) (a : Nat) (b : Byte) : (putByte d a b).cordic = d.cordic := rfl
@[simp] theorem putByte_dcmp (d : Device) (a : Nat) (b : Byte) : (putByte d a b).dcmp = d.dcmp := rfl
@[simp] theorem putByte_gchan (d : Device) (a : Nat) (b : Byte) : (putByte d a b).gchan = d.gchan := rfl
@[simp] theorem putByte_legs (d : Device) (a : Nat) (b : Byte) : (putByte d a b).legs = d.legs := rfl
@[simp] theorem putByte_har (d : Device) (a : Nat) (b : Byte) : (putByte d a b).har = d.har := rfl
@[simp] theorem putByte_selv (d : Device) (a : Nat) (b : Byte) : (putByte d a b).selv = d.selv := rfl
@[simp] theorem putByte_selvNext (d : Device) (a : Nat) (b : Byte) : (putByte d a b).selvNext = d.selvNext := rfl
@[simp] theorem putByte_gtest (d : Device) (a : Nat) (b : Byte) : (putByte d a b).gtest = d.gtest := rfl
@[simp] theorem putByte_bridle (d : Device) (a : Nat) (b : Byte) : (putByte d a b).bridle = d.bridle := rfl
@[simp] theorem putByte_mram (d : Device) (a : Nat) (b : Byte) : (putByte d a b).mram = d.mram := rfl
@[simp] theorem putByte_red (d : Device) (a : Nat) (b : Byte) : (putByte d a b).red = d.red := rfl
@[simp] theorem putByte_out (d : Device) (a : Nat) (b : Byte) : (putByte d a b).out = d.out := rfl
@[simp] theorem putByte_recs (d : Device) (a : Nat) (b : Byte) : (putByte d a b).recs = d.recs := rfl
@[simp] theorem putByte_bobs (d : Device) (a : Nat) (b : Byte) : (putByte d a b).bobs = d.bobs := rfl
@[simp] theorem putByte_loom (d : Device) (a : Nat) (b : Byte) : (putByte d a b).loom = d.loom := rfl
@[simp] theorem putByte_meter (d : Device) (a : Nat) (b : Byte) : (putByte d a b).meter = d.meter := rfl
@[simp] theorem putByte_therm (d : Device) (a : Nat) (b : Byte) : (putByte d a b).therm = d.therm := rfl
@[simp] theorem putByte_cfg (d : Device) (a : Nat) (b : Byte) : (putByte d a b).cfg = d.cfg := rfl
@[simp] theorem putByte_tomus (d : Device) (a : Nat) (b : Byte) : (putByte d a b).tomus = d.tomus := rfl
@[simp] theorem putByte_net (d : Device) (a : Nat) (b : Byte) : (putByte d a b).net = d.net := rfl

/-- A byte read after a byte is written: what was written, but in the reserved part of a loom area. -/
theorem memByte_putByte (d : Device) (a c : Nat) (b : Byte) :
    memByte (putByte d a b) c = if c = a ∧ loomReserved a = false then b else memByte d c := by
  cases h : loomReserved a with
  | true => simp [putByte, memByte, h]
  | false => simpa [putByte, memByte, h] using sparse_read_write initByte d.mem a c b

@[simp] theorem rd_putByte (d : Device) (a r : Nat) (b : Byte) : rd (putByte d a b) r = rd d r := rfl

/-! ### Time -/

@[simp] theorem at50_regs (d : Device) (t : Nat) : (at50 d t).regs = d.regs := rfl
@[simp] theorem at50_shadow (d : Device) (t : Nat) : (at50 d t).shadow = d.shadow := rfl
@[simp] theorem at50_fields (d : Device) (t : Nat) : (at50 d t).fields = d.fields := rfl
@[simp] theorem at50_mem (d : Device) (t : Nat) : (at50 d t).mem = d.mem := rfl
@[simp] theorem at50_hiShadow (d : Device) (t : Nat) : (at50 d t).hiShadow = d.hiShadow := rfl
@[simp] theorem at50_busData (d : Device) (t : Nat) : (at50 d t).busData = d.busData := rfl
@[simp] theorem at50_freeCtr (d : Device) (t : Nat) : (at50 d t).freeCtr = d.freeCtr := rfl
@[simp] theorem at50_resv (d : Device) (t : Nat) : (at50 d t).resv = d.resv := rfl
@[simp] theorem at50_cores (d : Device) (t : Nat) : (at50 d t).cores = d.cores := rfl
@[simp] theorem at50_events (d : Device) (t : Nat) : (at50 d t).events = d.events := rfl
@[simp] theorem at50_power (d : Device) (t : Nat) : (at50 d t).power = d.power := rfl
@[simp] theorem at50_seals (d : Device) (t : Nat) : (at50 d t).seals = d.seals := rfl
@[simp] theorem at50_clock (d : Device) (t : Nat) : (at50 d t).clock = d.clock := rfl
@[simp] theorem at50_time (d : Device) (t : Nat) : (at50 d t).time = d.time := rfl
@[simp] theorem at50_chans (d : Device) (t : Nat) : (at50 d t).chans = d.chans := rfl
@[simp] theorem at50_cal (d : Device) (t : Nat) : (at50 d t).cal = d.cal := rfl
@[simp] theorem at50_calPass (d : Device) (t : Nat) : (at50 d t).calPass = d.calPass := rfl
@[simp] theorem at50_hk (d : Device) (t : Nat) : (at50 d t).hk = d.hk := rfl
@[simp] theorem at50_rsm (d : Device) (t : Nat) : (at50 d t).rsm = d.rsm := rfl
@[simp] theorem at50_shed (d : Device) (t : Nat) : (at50 d t).shed = d.shed := rfl
@[simp] theorem at50_inj (d : Device) (t : Nat) : (at50 d t).inj = d.inj := rfl
@[simp] theorem at50_setp (d : Device) (t : Nat) : (at50 d t).setp = d.setp := rfl
@[simp] theorem at50_ints (d : Device) (t : Nat) : (at50 d t).ints = d.ints := rfl
@[simp] theorem at50_cordic (d : Device) (t : Nat) : (at50 d t).cordic = d.cordic := rfl
@[simp] theorem at50_dcmp (d : Device) (t : Nat) : (at50 d t).dcmp = d.dcmp := rfl
@[simp] theorem at50_gchan (d : Device) (t : Nat) : (at50 d t).gchan = d.gchan := rfl
@[simp] theorem at50_legs (d : Device) (t : Nat) : (at50 d t).legs = d.legs := rfl
@[simp] theorem at50_har (d : Device) (t : Nat) : (at50 d t).har = d.har := rfl
@[simp] theorem at50_selv (d : Device) (t : Nat) : (at50 d t).selv = d.selv := rfl
@[simp] theorem at50_selvNext (d : Device) (t : Nat) : (at50 d t).selvNext = d.selvNext := rfl
@[simp] theorem at50_gtest (d : Device) (t : Nat) : (at50 d t).gtest = d.gtest := rfl
@[simp] theorem at50_bridle (d : Device) (t : Nat) : (at50 d t).bridle = d.bridle := rfl
@[simp] theorem at50_mram (d : Device) (t : Nat) : (at50 d t).mram = d.mram := rfl
@[simp] theorem at50_red (d : Device) (t : Nat) : (at50 d t).red = d.red := rfl
@[simp] theorem at50_out (d : Device) (t : Nat) : (at50 d t).out = d.out := rfl
@[simp] theorem at50_recs (d : Device) (t : Nat) : (at50 d t).recs = d.recs := rfl
@[simp] theorem at50_bobs (d : Device) (t : Nat) : (at50 d t).bobs = d.bobs := rfl
@[simp] theorem at50_loom (d : Device) (t : Nat) : (at50 d t).loom = d.loom := rfl
@[simp] theorem at50_meter (d : Device) (t : Nat) : (at50 d t).meter = d.meter := rfl
@[simp] theorem at50_therm (d : Device) (t : Nat) : (at50 d t).therm = d.therm := rfl
@[simp] theorem at50_cfg (d : Device) (t : Nat) : (at50 d t).cfg = d.cfg := rfl
@[simp] theorem at50_tomus (d : Device) (t : Nat) : (at50 d t).tomus = d.tomus := rfl
@[simp] theorem at50_net (d : Device) (t : Nat) : (at50 d t).net = d.net := rfl

@[simp] theorem rd_at50 (d : Device) (t a : Nat) : rd (at50 d t) a = rd d a := rfl

@[simp] theorem memByte_at50 (d : Device) (t a : Nat) : memByte (at50 d t) a = memByte d a := rfl

end Sys2Proof.Laws
end

