-- ==== Sys2Proof/Laws/Frame.lean ====
section
/-! SUPPORT. What a written field or bit of a register and a counted counter leave alone, field by field, and what they
read. -/

namespace Sys2Proof.Laws

open Sys2Proof Sys2Proof.Machine

/-! ### A register written with a number -/

@[simp] theorem wrN_now (d : Device) (a n : Nat) : (wrN d a n).now = d.now := rfl
@[simp] theorem wrN_shadow (d : Device) (a n : Nat) : (wrN d a n).shadow = d.shadow := rfl
@[simp] theorem wrN_fields (d : Device) (a n : Nat) : (wrN d a n).fields = d.fields := rfl
@[simp] theorem wrN_mem (d : Device) (a n : Nat) : (wrN d a n).mem = d.mem := rfl
@[simp] theorem wrN_hiShadow (d : Device) (a n : Nat) : (wrN d a n).hiShadow = d.hiShadow := rfl
@[simp] theorem wrN_busData (d : Device) (a n : Nat) : (wrN d a n).busData = d.busData := rfl
@[simp] theorem wrN_freeCtr (d : Device) (a n : Nat) : (wrN d a n).freeCtr = d.freeCtr := rfl
@[simp] theorem wrN_resv (d : Device) (a n : Nat) : (wrN d a n).resv = d.resv := rfl
@[simp] theorem wrN_cores (d : Device) (a n : Nat) : (wrN d a n).cores = d.cores := rfl
@[simp] theorem wrN_events (d : Device) (a n : Nat) : (wrN d a n).events = d.events := rfl
@[simp] theorem wrN_power (d : Device) (a n : Nat) : (wrN d a n).power = d.power := rfl
@[simp] theorem wrN_seals (d : Device) (a n : Nat) : (wrN d a n).seals = d.seals := rfl
@[simp] theorem wrN_clock (d : Device) (a n : Nat) : (wrN d a n).clock = d.clock := rfl
@[simp] theorem wrN_time (d : Device) (a n : Nat) : (wrN d a n).time = d.time := rfl
@[simp] theorem wrN_chans (d : Device) (a n : Nat) : (wrN d a n).chans = d.chans := rfl
@[simp] theorem wrN_cal (d : Device) (a n : Nat) : (wrN d a n).cal = d.cal := rfl
@[simp] theorem wrN_calPass (d : Device) (a n : Nat) : (wrN d a n).calPass = d.calPass := rfl
@[simp] theorem wrN_hk (d : Device) (a n : Nat) : (wrN d a n).hk = d.hk := rfl
@[simp] theorem wrN_rsm (d : Device) (a n : Nat) : (wrN d a n).rsm = d.rsm := rfl
@[simp] theorem wrN_shed (d : Device) (a n : Nat) : (wrN d a n).shed = d.shed := rfl
@[simp] theorem wrN_inj (d : Device) (a n : Nat) : (wrN d a n).inj = d.inj := rfl
@[simp] theorem wrN_setp (d : Device) (a n : Nat) : (wrN d a n).setp = d.setp := rfl
@[simp] theorem wrN_ints (d : Device) (a n : Nat) : (wrN d a n).ints = d.ints := rfl
@[simp] theorem wrN_cordic (d : Device) (a n : Nat) : (wrN d a n).cordic = d.cordic := rfl
@[simp] theorem wrN_dcmp (d : Device) (a n : Nat) : (wrN d a n).dcmp = d.dcmp := rfl
@[simp] theorem wrN_gchan (d : Device) (a n : Nat) : (wrN d a n).gchan = d.gchan := rfl
@[simp] theorem wrN_legs (d : Device) (a n : Nat) : (wrN d a n).legs = d.legs := rfl
@[simp] theorem wrN_har (d : Device) (a n : Nat) : (wrN d a n).har = d.har := rfl
@[simp] theorem wrN_selv (d : Device) (a n : Nat) : (wrN d a n).selv = d.selv := rfl
@[simp] theorem wrN_selvNext (d : Device) (a n : Nat) : (wrN d a n).selvNext = d.selvNext := rfl
@[simp] theorem wrN_gtest (d : Device) (a n : Nat) : (wrN d a n).gtest = d.gtest := rfl
@[simp] theorem wrN_bridle (d : Device) (a n : Nat) : (wrN d a n).bridle = d.bridle := rfl
@[simp] theorem wrN_mram (d : Device) (a n : Nat) : (wrN d a n).mram = d.mram := rfl
@[simp] theorem wrN_red (d : Device) (a n : Nat) : (wrN d a n).red = d.red := rfl
@[simp] theorem wrN_out (d : Device) (a n : Nat) : (wrN d a n).out = d.out := rfl
@[simp] theorem wrN_recs (d : Device) (a n : Nat) : (wrN d a n).recs = d.recs := rfl
@[simp] theorem wrN_bobs (d : Device) (a n : Nat) : (wrN d a n).bobs = d.bobs := rfl
@[simp] theorem wrN_loom (d : Device) (a n : Nat) : (wrN d a n).loom = d.loom := rfl
@[simp] theorem wrN_meter (d : Device) (a n : Nat) : (wrN d a n).meter = d.meter := rfl
@[simp] theorem wrN_therm (d : Device) (a n : Nat) : (wrN d a n).therm = d.therm := rfl
@[simp] theorem wrN_cfg (d : Device) (a n : Nat) : (wrN d a n).cfg = d.cfg := rfl
@[simp] theorem wrN_tomus (d : Device) (a n : Nat) : (wrN d a n).tomus = d.tomus := rfl
@[simp] theorem wrN_net (d : Device) (a n : Nat) : (wrN d a n).net = d.net := rfl

/-! ### A register written with an integer -/

@[simp] theorem wrI_now (d : Device) (a : Nat) (z : Int) : (wrI d a z).now = d.now := rfl
@[simp] theorem wrI_shadow (d : Device) (a : Nat) (z : Int) : (wrI d a z).shadow = d.shadow := rfl
@[simp] theorem wrI_fields (d : Device) (a : Nat) (z : Int) : (wrI d a z).fields = d.fields := rfl
@[simp] theorem wrI_mem (d : Device) (a : Nat) (z : Int) : (wrI d a z).mem = d.mem := rfl
@[simp] theorem wrI_hiShadow (d : Device) (a : Nat) (z : Int) : (wrI d a z).hiShadow = d.hiShadow := rfl
@[simp] theorem wrI_busData (d : Device) (a : Nat) (z : Int) : (wrI d a z).busData = d.busData := rfl
@[simp] theorem wrI_freeCtr (d : Device) (a : Nat) (z : Int) : (wrI d a z).freeCtr = d.freeCtr := rfl
@[simp] theorem wrI_resv (d : Device) (a : Nat) (z : Int) : (wrI d a z).resv = d.resv := rfl
@[simp] theorem wrI_cores (d : Device) (a : Nat) (z : Int) : (wrI d a z).cores = d.cores := rfl
@[simp] theorem wrI_events (d : Device) (a : Nat) (z : Int) : (wrI d a z).events = d.events := rfl
@[simp] theorem wrI_power (d : Device) (a : Nat) (z : Int) : (wrI d a z).power = d.power := rfl
@[simp] theorem wrI_seals (d : Device) (a : Nat) (z : Int) : (wrI d a z).seals = d.seals := rfl
@[simp] theorem wrI_clock (d : Device) (a : Nat) (z : Int) : (wrI d a z).clock = d.clock := rfl
@[simp] theorem wrI_time (d : Device) (a : Nat) (z : Int) : (wrI d a z).time = d.time := rfl
@[simp] theorem wrI_chans (d : Device) (a : Nat) (z : Int) : (wrI d a z).chans = d.chans := rfl
@[simp] theorem wrI_cal (d : Device) (a : Nat) (z : Int) : (wrI d a z).cal = d.cal := rfl
@[simp] theorem wrI_calPass (d : Device) (a : Nat) (z : Int) : (wrI d a z).calPass = d.calPass := rfl
@[simp] theorem wrI_hk (d : Device) (a : Nat) (z : Int) : (wrI d a z).hk = d.hk := rfl
@[simp] theorem wrI_rsm (d : Device) (a : Nat) (z : Int) : (wrI d a z).rsm = d.rsm := rfl
@[simp] theorem wrI_shed (d : Device) (a : Nat) (z : Int) : (wrI d a z).shed = d.shed := rfl
@[simp] theorem wrI_inj (d : Device) (a : Nat) (z : Int) : (wrI d a z).inj = d.inj := rfl
@[simp] theorem wrI_setp (d : Device) (a : Nat) (z : Int) : (wrI d a z).setp = d.setp := rfl
@[simp] theorem wrI_ints (d : Device) (a : Nat) (z : Int) : (wrI d a z).ints = d.ints := rfl
@[simp] theorem wrI_cordic (d : Device) (a : Nat) (z : Int) : (wrI d a z).cordic = d.cordic := rfl
@[simp] theorem wrI_dcmp (d : Device) (a : Nat) (z : Int) : (wrI d a z).dcmp = d.dcmp := rfl
@[simp] theorem wrI_gchan (d : Device) (a : Nat) (z : Int) : (wrI d a z).gchan = d.gchan := rfl
@[simp] theorem wrI_legs (d : Device) (a : Nat) (z : Int) : (wrI d a z).legs = d.legs := rfl
@[simp] theorem wrI_har (d : Device) (a : Nat) (z : Int) : (wrI d a z).har = d.har := rfl
@[simp] theorem wrI_selv (d : Device) (a : Nat) (z : Int) : (wrI d a z).selv = d.selv := rfl
@[simp] theorem wrI_selvNext (d : Device) (a : Nat) (z : Int) : (wrI d a z).selvNext = d.selvNext := rfl
@[simp] theorem wrI_gtest (d : Device) (a : Nat) (z : Int) : (wrI d a z).gtest = d.gtest := rfl
@[simp] theorem wrI_bridle (d : Device) (a : Nat) (z : Int) : (wrI d a z).bridle = d.bridle := rfl
@[simp] theorem wrI_mram (d : Device) (a : Nat) (z : Int) : (wrI d a z).mram = d.mram := rfl
@[simp] theorem wrI_red (d : Device) (a : Nat) (z : Int) : (wrI d a z).red = d.red := rfl
@[simp] theorem wrI_out (d : Device) (a : Nat) (z : Int) : (wrI d a z).out = d.out := rfl
@[simp] theorem wrI_recs (d : Device) (a : Nat) (z : Int) : (wrI d a z).recs = d.recs := rfl
@[simp] theorem wrI_bobs (d : Device) (a : Nat) (z : Int) : (wrI d a z).bobs = d.bobs := rfl
@[simp] theorem wrI_loom (d : Device) (a : Nat) (z : Int) : (wrI d a z).loom = d.loom := rfl
@[simp] theorem wrI_meter (d : Device) (a : Nat) (z : Int) : (wrI d a z).meter = d.meter := rfl
@[simp] theorem wrI_therm (d : Device) (a : Nat) (z : Int) : (wrI d a z).therm = d.therm := rfl
@[simp] theorem wrI_cfg (d : Device) (a : Nat) (z : Int) : (wrI d a z).cfg = d.cfg := rfl
@[simp] theorem wrI_tomus (d : Device) (a : Nat) (z : Int) : (wrI d a z).tomus = d.tomus := rfl
@[simp] theorem wrI_net (d : Device) (a : Nat) (z : Int) : (wrI d a z).net = d.net := rfl

/-! ### A field of a register written -/

@[simp] theorem wrF_now (d : Device) (a lo len v : Nat) : (wrF d a lo len v).now = d.now := rfl
@[simp] theorem wrF_shadow (d : Device) (a lo len v : Nat) : (wrF d a lo len v).shadow = d.shadow := rfl
@[simp] theorem wrF_fields (d : Device) (a lo len v : Nat) : (wrF d a lo len v).fields = d.fields := rfl
@[simp] theorem wrF_mem (d : Device) (a lo len v : Nat) : (wrF d a lo len v).mem = d.mem := rfl
@[simp] theorem wrF_hiShadow (d : Device) (a lo len v : Nat) : (wrF d a lo len v).hiShadow = d.hiShadow := rfl
@[simp] theorem wrF_busData (d : Device) (a lo len v : Nat) : (wrF d a lo len v).busData = d.busData := rfl
@[simp] theorem wrF_freeCtr (d : Device) (a lo len v : Nat) : (wrF d a lo len v).freeCtr = d.freeCtr := rfl
@[simp] theorem wrF_resv (d : Device) (a lo len v : Nat) : (wrF d a lo len v).resv = d.resv := rfl
@[simp] theorem wrF_cores (d : Device) (a lo len v : Nat) : (wrF d a lo len v).cores = d.cores := rfl
@[simp] theorem wrF_events (d : Device) (a lo len v : Nat) : (wrF d a lo len v).events = d.events := rfl
@[simp] theorem wrF_power (d : Device) (a lo len v : Nat) : (wrF d a lo len v).power = d.power := rfl
@[simp] theorem wrF_seals (d : Device) (a lo len v : Nat) : (wrF d a lo len v).seals = d.seals := rfl
@[simp] theorem wrF_clock (d : Device) (a lo len v : Nat) : (wrF d a lo len v).clock = d.clock := rfl
@[simp] theorem wrF_time (d : Device) (a lo len v : Nat) : (wrF d a lo len v).time = d.time := rfl
@[simp] theorem wrF_chans (d : Device) (a lo len v : Nat) : (wrF d a lo len v).chans = d.chans := rfl
@[simp] theorem wrF_cal (d : Device) (a lo len v : Nat) : (wrF d a lo len v).cal = d.cal := rfl
@[simp] theorem wrF_calPass (d : Device) (a lo len v : Nat) : (wrF d a lo len v).calPass = d.calPass := rfl
@[simp] theorem wrF_hk (d : Device) (a lo len v : Nat) : (wrF d a lo len v).hk = d.hk := rfl
@[simp] theorem wrF_rsm (d : Device) (a lo len v : Nat) : (wrF d a lo len v).rsm = d.rsm := rfl
@[simp] theorem wrF_shed (d : Device) (a lo len v : Nat) : (wrF d a lo len v).shed = d.shed := rfl
@[simp] theorem wrF_inj (d : Device) (a lo len v : Nat) : (wrF d a lo len v).inj = d.inj := rfl
@[simp] theorem wrF_setp (d : Device) (a lo len v : Nat) : (wrF d a lo len v).setp = d.setp := rfl
@[simp] theorem wrF_ints (d : Device) (a lo len v : Nat) : (wrF d a lo len v).ints = d.ints := rfl
@[simp] theorem wrF_cordic (d : Device) (a lo len v : Nat) : (wrF d a lo len v).cordic = d.cordic := rfl
@[simp] theorem wrF_dcmp (d : Device) (a lo len v : Nat) : (wrF d a lo len v).dcmp = d.dcmp := rfl
@[simp] theorem wrF_gchan (d : Device) (a lo len v : Nat) : (wrF d a lo len v).gchan = d.gchan := rfl
@[simp] theorem wrF_legs (d : Device) (a lo len v : Nat) : (wrF d a lo len v).legs = d.legs := rfl
@[simp] theorem wrF_har (d : Device) (a lo len v : Nat) : (wrF d a lo len v).har = d.har := rfl
@[simp] theorem wrF_selv (d : Device) (a lo len v : Nat) : (wrF d a lo len v).selv = d.selv := rfl
@[simp] theorem wrF_selvNext (d : Device) (a lo len v : Nat) : (wrF d a lo len v).selvNext = d.selvNext := rfl
@[simp] theorem wrF_gtest (d : Device) (a lo len v : Nat) : (wrF d a lo len v).gtest = d.gtest := rfl
@[simp] theorem wrF_bridle (d : Device) (a lo len v : Nat) : (wrF d a lo len v).bridle = d.bridle := rfl
@[simp] theorem wrF_mram (d : Device) (a lo len v : Nat) : (wrF d a lo len v).mram = d.mram := rfl
@[simp] theorem wrF_red (d : Device) (a lo len v : Nat) : (wrF d a lo len v).red = d.red := rfl
@[simp] theorem wrF_out (d : Device) (a lo len v : Nat) : (wrF d a lo len v).out = d.out := rfl
@[simp] theorem wrF_recs (d : Device) (a lo len v : Nat) : (wrF d a lo len v).recs = d.recs := rfl
@[simp] theorem wrF_bobs (d : Device) (a lo len v : Nat) : (wrF d a lo len v).bobs = d.bobs := rfl
@[simp] theorem wrF_loom (d : Device) (a lo len v : Nat) : (wrF d a lo len v).loom = d.loom := rfl
@[simp] theorem wrF_meter (d : Device) (a lo len v : Nat) : (wrF d a lo len v).meter = d.meter := rfl
@[simp] theorem wrF_therm (d : Device) (a lo len v : Nat) : (wrF d a lo len v).therm = d.therm := rfl
@[simp] theorem wrF_cfg (d : Device) (a lo len v : Nat) : (wrF d a lo len v).cfg = d.cfg := rfl
@[simp] theorem wrF_tomus (d : Device) (a lo len v : Nat) : (wrF d a lo len v).tomus = d.tomus := rfl
@[simp] theorem wrF_net (d : Device) (a lo len v : Nat) : (wrF d a lo len v).net = d.net := rfl

/-! ### A bit of a register written -/

@[simp] theorem wrB_now (d : Device) (a i : Nat) (b : Bool) : (wrB d a i b).now = d.now := rfl
@[simp] theorem wrB_shadow (d : Device) (a i : Nat) (b : Bool) : (wrB d a i b).shadow = d.shadow := rfl
@[simp] theorem wrB_fields (d : Device) (a i : Nat) (b : Bool) : (wrB d a i b).fields = d.fields := rfl
@[simp] theorem wrB_mem (d : Device) (a i : Nat) (b : Bool) : (wrB d a i b).mem = d.mem := rfl
@[simp] theorem wrB_hiShadow (d : Device) (a i : Nat) (b : Bool) : (wrB d a i b).hiShadow = d.hiShadow := rfl
@[simp] theorem wrB_busData (d : Device) (a i : Nat) (b : Bool) : (wrB d a i b).busData = d.busData := rfl
@[simp] theorem wrB_freeCtr (d : Device) (a i : Nat) (b : Bool) : (wrB d a i b).freeCtr = d.freeCtr := rfl
@[simp] theorem wrB_resv (d : Device) (a i : Nat) (b : Bool) : (wrB d a i b).resv = d.resv := rfl
@[simp] theorem wrB_cores (d : Device) (a i : Nat) (b : Bool) : (wrB d a i b).cores = d.cores := rfl
@[simp] theorem wrB_events (d : Device) (a i : Nat) (b : Bool) : (wrB d a i b).events = d.events := rfl
@[simp] theorem wrB_power (d : Device) (a i : Nat) (b : Bool) : (wrB d a i b).power = d.power := rfl
@[simp] theorem wrB_seals (d : Device) (a i : Nat) (b : Bool) : (wrB d a i b).seals = d.seals := rfl
@[simp] theorem wrB_clock (d : Device) (a i : Nat) (b : Bool) : (wrB d a i b).clock = d.clock := rfl
@[simp] theorem wrB_time (d : Device) (a i : Nat) (b : Bool) : (wrB d a i b).time = d.time := rfl
@[simp] theorem wrB_chans (d : Device) (a i : Nat) (b : Bool) : (wrB d a i b).chans = d.chans := rfl
@[simp] theorem wrB_cal (d : Device) (a i : Nat) (b : Bool) : (wrB d a i b).cal = d.cal := rfl
@[simp] theorem wrB_calPass (d : Device) (a i : Nat) (b : Bool) : (wrB d a i b).calPass = d.calPass := rfl
@[simp] theorem wrB_hk (d : Device) (a i : Nat) (b : Bool) : (wrB d a i b).hk = d.hk := rfl
@[simp] theorem wrB_rsm (d : Device) (a i : Nat) (b : Bool) : (wrB d a i b).rsm = d.rsm := rfl
@[simp] theorem wrB_shed (d : Device) (a i : Nat) (b : Bool) : (wrB d a i b).shed = d.shed := rfl
@[simp] theorem wrB_inj (d : Device) (a i : Nat) (b : Bool) : (wrB d a i b).inj = d.inj := rfl
@[simp] theorem wrB_setp (d : Device) (a i : Nat) (b : Bool) : (wrB d a i b).setp = d.setp := rfl
@[simp] theorem wrB_ints (d : Device) (a i : Nat) (b : Bool) : (wrB d a i b).ints = d.ints := rfl
@[simp] theorem wrB_cordic (d : Device) (a i : Nat) (b : Bool) : (wrB d a i b).cordic = d.cordic := rfl
@[simp] theorem wrB_dcmp (d : Device) (a i : Nat) (b : Bool) : (wrB d a i b).dcmp = d.dcmp := rfl
@[simp] theorem wrB_gchan (d : Device) (a i : Nat) (b : Bool) : (wrB d a i b).gchan = d.gchan := rfl
@[simp] theorem wrB_legs (d : Device) (a i : Nat) (b : Bool) : (wrB d a i b).legs = d.legs := rfl
@[simp] theorem wrB_har (d : Device) (a i : Nat) (b : Bool) : (wrB d a i b).har = d.har := rfl
@[simp] theorem wrB_selv (d : Device) (a i : Nat) (b : Bool) : (wrB d a i b).selv = d.selv := rfl
@[simp] theorem wrB_selvNext (d : Device) (a i : Nat) (b : Bool) : (wrB d a i b).selvNext = d.selvNext := rfl
@[simp] theorem wrB_gtest (d : Device) (a i : Nat) (b : Bool) : (wrB d a i b).gtest = d.gtest := rfl
@[simp] theorem wrB_bridle (d : Device) (a i : Nat) (b : Bool) : (wrB d a i b).bridle = d.bridle := rfl
@[simp] theorem wrB_mram (d : Device) (a i : Nat) (b : Bool) : (wrB d a i b).mram = d.mram := rfl
@[simp] theorem wrB_red (d : Device) (a i : Nat) (b : Bool) : (wrB d a i b).red = d.red := rfl
@[simp] theorem wrB_out (d : Device) (a i : Nat) (b : Bool) : (wrB d a i b).out = d.out := rfl
@[simp] theorem wrB_recs (d : Device) (a i : Nat) (b : Bool) : (wrB d a i b).recs = d.recs := rfl
@[simp] theorem wrB_bobs (d : Device) (a i : Nat) (b : Bool) : (wrB d a i b).bobs = d.bobs := rfl
@[simp] theorem wrB_loom (d : Device) (a i : Nat) (b : Bool) : (wrB d a i b).loom = d.loom := rfl
@[simp] theorem wrB_meter (d : Device) (a i : Nat) (b : Bool) : (wrB d a i b).meter = d.meter := rfl
@[simp] theorem wrB_therm (d : Device) (a i : Nat) (b : Bool) : (wrB d a i b).therm = d.therm := rfl
@[simp] theorem wrB_cfg (d : Device) (a i : Nat) (b : Bool) : (wrB d a i b).cfg = d.cfg := rfl
@[simp] theorem wrB_tomus (d : Device) (a i : Nat) (b : Bool) : (wrB d a i b).tomus = d.tomus := rfl
@[simp] theorem wrB_net (d : Device) (a i : Nat) (b : Bool) : (wrB d a i b).net = d.net := rfl

/-! ### A counter advanced -/

/-- An overflow bit written changes registers alone. -/
theorem setOvf_regs_only (d : Device) (a : Nat) (b : Bool) : setOvf d a b = { d with regs := (setOvf d a b).regs } := by
  unfold setOvf
  split <;> rfl

/-- Counting changes registers alone. -/
theorem countBy_regs_only (d : Device) (a n : Nat) : countBy d a n = { d with regs := (countBy d a n).regs } := by
  unfold countBy
  split
  · rfl
  · rw [setOvf_regs_only]; rfl

@[simp] theorem countBy_now (d : Device) (a n : Nat) : (countBy d a n).now = d.now := by
  rw [countBy_regs_only]
@[simp] theorem countBy_shadow (d : Device) (a n : Nat) : (countBy d a n).shadow = d.shadow := by
  rw [countBy_regs_only]
@[simp] theorem countBy_fields (d : Device) (a n : Nat) : (countBy d a n).fields = d.fields := by
  rw [countBy_regs_only]
@[simp] theorem countBy_mem (d : Device) (a n : Nat) : (countBy d a n).mem = d.mem := by
  rw [countBy_regs_only]
@[simp] theorem countBy_hiShadow (d : Device) (a n : Nat) : (countBy d a n).hiShadow = d.hiShadow := by
  rw [countBy_regs_only]
@[simp] theorem countBy_busData (d : Device) (a n : Nat) : (countBy d a n).busData = d.busData := by
  rw [countBy_regs_only]
@[simp] theorem countBy_freeCtr (d : Device) (a n : Nat) : (countBy d a n).freeCtr = d.freeCtr := by
  rw [countBy_regs_only]
@[simp] theorem countBy_resv (d : Device) (a n : Nat) : (countBy d a n).resv = d.resv := by
  rw [countBy_regs_only]
@[simp] theorem countBy_cores (d : Device) (a n : Nat) : (countBy d a n).cores = d.cores := by
  rw [countBy_regs_only]
@[simp] theorem countBy_events (d : Device) (a n : Nat) : (countBy d a n).events = d.events := by
  rw [countBy_regs_only]
@[simp] theorem countBy_power (d : Device) (a n : Nat) : (countBy d a n).power = d.power := by
  rw [countBy_regs_only]
@[simp] theorem countBy_seals (d : Device) (a n : Nat) : (countBy d a n).seals = d.seals := by
  rw [countBy_regs_only]
@[simp] theorem countBy_clock (d : Device) (a n : Nat) : (countBy d a n).clock = d.clock := by
  rw [countBy_regs_only]
@[simp] theorem countBy_time (d : Device) (a n : Nat) : (countBy d a n).time = d.time := by
  rw [countBy_regs_only]
@[simp] theorem countBy_chans (d : Device) (a n : Nat) : (countBy d a n).chans = d.chans := by
  rw [countBy_regs_only]
@[simp] theorem countBy_cal (d : Device) (a n : Nat) : (countBy d a n).cal = d.cal := by
  rw [countBy_regs_only]
@[simp] theorem countBy_calPass (d : Device) (a n : Nat) : (countBy d a n).calPass = d.calPass := by
  rw [countBy_regs_only]
@[simp] theorem countBy_hk (d : Device) (a n : Nat) : (countBy d a n).hk = d.hk := by
  rw [countBy_regs_only]
@[simp] theorem countBy_rsm (d : Device) (a n : Nat) : (countBy d a n).rsm = d.rsm := by
  rw [countBy_regs_only]
@[simp] theorem countBy_shed (d : Device) (a n : Nat) : (countBy d a n).shed = d.shed := by
  rw [countBy_regs_only]
@[simp] theorem countBy_inj (d : Device) (a n : Nat) : (countBy d a n).inj = d.inj := by
  rw [countBy_regs_only]
@[simp] theorem countBy_setp (d : Device) (a n : Nat) : (countBy d a n).setp = d.setp := by
  rw [countBy_regs_only]
@[simp] theorem countBy_ints (d : Device) (a n : Nat) : (countBy d a n).ints = d.ints := by
  rw [countBy_regs_only]
@[simp] theorem countBy_cordic (d : Device) (a n : Nat) : (countBy d a n).cordic = d.cordic := by
  rw [countBy_regs_only]
@[simp] theorem countBy_dcmp (d : Device) (a n : Nat) : (countBy d a n).dcmp = d.dcmp := by
  rw [countBy_regs_only]
@[simp] theorem countBy_gchan (d : Device) (a n : Nat) : (countBy d a n).gchan = d.gchan := by
  rw [countBy_regs_only]
@[simp] theorem countBy_legs (d : Device) (a n : Nat) : (countBy d a n).legs = d.legs := by
  rw [countBy_regs_only]
@[simp] theorem countBy_har (d : Device) (a n : Nat) : (countBy d a n).har = d.har := by
  rw [countBy_regs_only]
@[simp] theorem countBy_selv (d : Device) (a n : Nat) : (countBy d a n).selv = d.selv := by
  rw [countBy_regs_only]
@[simp] theorem countBy_selvNext (d : Device) (a n : Nat) : (countBy d a n).selvNext = d.selvNext := by
  rw [countBy_regs_only]
@[simp] theorem countBy_gtest (d : Device) (a n : Nat) : (countBy d a n).gtest = d.gtest := by
  rw [countBy_regs_only]
@[simp] theorem countBy_bridle (d : Device) (a n : Nat) : (countBy d a n).bridle = d.bridle := by
  rw [countBy_regs_only]
@[simp] theorem countBy_mram (d : Device) (a n : Nat) : (countBy d a n).mram = d.mram := by
  rw [countBy_regs_only]
@[simp] theorem countBy_red (d : Device) (a n : Nat) : (countBy d a n).red = d.red := by
  rw [countBy_regs_only]
@[simp] theorem countBy_out (d : Device) (a n : Nat) : (countBy d a n).out = d.out := by
  rw [countBy_regs_only]
@[simp] theorem countBy_recs (d : Device) (a n : Nat) : (countBy d a n).recs = d.recs := by
  rw [countBy_regs_only]
@[simp] theorem countBy_bobs (d : Device) (a n : Nat) : (countBy d a n).bobs = d.bobs := by
  rw [countBy_regs_only]
@[simp] theorem countBy_loom (d : Device) (a n : Nat) : (countBy d a n).loom = d.loom := by
  rw [countBy_regs_only]
@[simp] theorem countBy_meter (d : Device) (a n : Nat) : (countBy d a n).meter = d.meter := by
  rw [countBy_regs_only]
@[simp] theorem countBy_therm (d : Device) (a n : Nat) : (countBy d a n).therm = d.therm := by
  rw [countBy_regs_only]
@[simp] theorem countBy_cfg (d : Device) (a n : Nat) : (countBy d a n).cfg = d.cfg := by
  rw [countBy_regs_only]
@[simp] theorem countBy_tomus (d : Device) (a n : Nat) : (countBy d a n).tomus = d.tomus := by
  rw [countBy_regs_only]
@[simp] theorem countBy_net (d : Device) (a n : Nat) : (countBy d a n).net = d.net := by
  rw [countBy_regs_only]

@[simp] theorem count_now (d : Device) (a : Nat) : (count d a).now = d.now := countBy_now d a 1
@[simp] theorem count_shadow (d : Device) (a : Nat) : (count d a).shadow = d.shadow := countBy_shadow d a 1
@[simp] theorem count_fields (d : Device) (a : Nat) : (count d a).fields = d.fields := countBy_fields d a 1
@[simp] theorem count_mem (d : Device) (a : Nat) : (count d a).mem = d.mem := countBy_mem d a 1
@[simp] theorem count_hiShadow (d : Device) (a : Nat) : (count d a).hiShadow = d.hiShadow := countBy_hiShadow d a 1
@[simp] theorem count_busData (d : Device) (a : Nat) : (count d a).busData = d.busData := countBy_busData d a 1
@[simp] theorem count_freeCtr (d : Device) (a : Nat) : (count d a).freeCtr = d.freeCtr := countBy_freeCtr d a 1
@[simp] theorem count_resv (d : Device) (a : Nat) : (count d a).resv = d.resv := countBy_resv d a 1
@[simp] theorem count_cores (d : Device) (a : Nat) : (count d a).cores = d.cores := countBy_cores d a 1
@[simp] theorem count_events (d : Device) (a : Nat) : (count d a).events = d.events := countBy_events d a 1
@[simp] theorem count_power (d : Device) (a : Nat) : (count d a).power = d.power := countBy_power d a 1
@[simp] theorem count_seals (d : Device) (a : Nat) : (count d a).seals = d.seals := countBy_seals d a 1
@[simp] theorem count_clock (d : Device) (a : Nat) : (count d a).clock = d.clock := countBy_clock d a 1
@[simp] theorem count_time (d : Device) (a : Nat) : (count d a).time = d.time := countBy_time d a 1
@[simp] theorem count_chans (d : Device) (a : Nat) : (count d a).chans = d.chans := countBy_chans d a 1
@[simp] theorem count_cal (d : Device) (a : Nat) : (count d a).cal = d.cal := countBy_cal d a 1
@[simp] theorem count_calPass (d : Device) (a : Nat) : (count d a).calPass = d.calPass := countBy_calPass d a 1
@[simp] theorem count_hk (d : Device) (a : Nat) : (count d a).hk = d.hk := countBy_hk d a 1
@[simp] theorem count_rsm (d : Device) (a : Nat) : (count d a).rsm = d.rsm := countBy_rsm d a 1
@[simp] theorem count_shed (d : Device) (a : Nat) : (count d a).shed = d.shed := countBy_shed d a 1
@[simp] theorem count_inj (d : Device) (a : Nat) : (count d a).inj = d.inj := countBy_inj d a 1
@[simp] theorem count_setp (d : Device) (a : Nat) : (count d a).setp = d.setp := countBy_setp d a 1
@[simp] theorem count_ints (d : Device) (a : Nat) : (count d a).ints = d.ints := countBy_ints d a 1
@[simp] theorem count_cordic (d : Device) (a : Nat) : (count d a).cordic = d.cordic := countBy_cordic d a 1
@[simp] theorem count_dcmp (d : Device) (a : Nat) : (count d a).dcmp = d.dcmp := countBy_dcmp d a 1
@[simp] theorem count_gchan (d : Device) (a : Nat) : (count d a).gchan = d.gchan := countBy_gchan d a 1
@[simp] theorem count_legs (d : Device) (a : Nat) : (count d a).legs = d.legs := countBy_legs d a 1
@[simp] theorem count_har (d : Device) (a : Nat) : (count d a).har = d.har := countBy_har d a 1
@[simp] theorem count_selv (d : Device) (a : Nat) : (count d a).selv = d.selv := countBy_selv d a 1
@[simp] theorem count_selvNext (d : Device) (a : Nat) : (count d a).selvNext = d.selvNext := countBy_selvNext d a 1
@[simp] theorem count_gtest (d : Device) (a : Nat) : (count d a).gtest = d.gtest := countBy_gtest d a 1
@[simp] theorem count_bridle (d : Device) (a : Nat) : (count d a).bridle = d.bridle := countBy_bridle d a 1
@[simp] theorem count_mram (d : Device) (a : Nat) : (count d a).mram = d.mram := countBy_mram d a 1
@[simp] theorem count_red (d : Device) (a : Nat) : (count d a).red = d.red := countBy_red d a 1
@[simp] theorem count_out (d : Device) (a : Nat) : (count d a).out = d.out := countBy_out d a 1
@[simp] theorem count_recs (d : Device) (a : Nat) : (count d a).recs = d.recs := countBy_recs d a 1
@[simp] theorem count_bobs (d : Device) (a : Nat) : (count d a).bobs = d.bobs := countBy_bobs d a 1
@[simp] theorem count_loom (d : Device) (a : Nat) : (count d a).loom = d.loom := countBy_loom d a 1
@[simp] theorem count_meter (d : Device) (a : Nat) : (count d a).meter = d.meter := countBy_meter d a 1
@[simp] theorem count_therm (d : Device) (a : Nat) : (count d a).therm = d.therm := countBy_therm d a 1
@[simp] theorem count_cfg (d : Device) (a : Nat) : (count d a).cfg = d.cfg := countBy_cfg d a 1
@[simp] theorem count_tomus (d : Device) (a : Nat) : (count d a).tomus = d.tomus := countBy_tomus d a 1
@[simp] theorem count_net (d : Device) (a : Nat) : (count d a).net = d.net := countBy_net d a 1

/-! ### What registers read -/

/-- The register file alone settles what a register reads. -/
theorem rd_congr {d e : Device} (h : d.regs = e.regs) (a : Nat) : rd d a = rd e a := by unfold rd; rw [h]

/-- A counter below its limit reads one more, or `n` more. -/
theorem countBy_small (d : Device) (a n : Nat) (h : rdN d a + n < 0xFFFFFFFF) : countBy d a n = wrN d a (rdN d a + n) := by
  unfold countBy
  rw [if_pos h]

/-- A counter sticks at its limit, and its overflow bit sets. -/
theorem countBy_full (d : Device) (a n : Nat) (h : 0xFFFFFFFF ≤ rdN d a + n) :
    countBy d a n = setOvf (wrN d a 0xFFFFFFFF) a true := by
  unfold countBy
  rw [if_neg (Nat.not_lt.2 h)]

/-- A register that is neither the counter nor the one of its overflow bit. -/
theorem rd_countBy_ne (d : Device) (a n b : Nat) (h : b ≠ a) (hr : ∀ r i, CntMap.ovf? a = some (r, i) → b ≠ r) :
    rd (countBy d a n) b = rd d b := by
  unfold countBy
  split
  · exact rd_wr_ne d _ h
  · unfold setOvf
    split
    · rename_i r i he
      exact (rd_wr_ne _ _ (hr r i he)).trans (rd_wr_ne d _ h)
    · exact rd_wr_ne d _ h

theorem rdB_wrB_same (d : Device) (a i : Nat) (b : Bool) (h : i < 32) : rdB (wrB d a i b) a i = b := by
  simp [rdB, wrB, bit_setBit_same, h]

theorem rdB_wrB_ne (d : Device) (a i a' j : Nat) (b : Bool) (h : a' ≠ a ∨ i ≠ j) : rdB (wrB d a i b) a' j = rdB d a' j := by
  unfold rdB wrB
  by_cases ha : a' = a
  · subst ha
    rw [rd_wr_same, bit_setBit_ne _ _ _ _ (h.resolve_left (fun x => x rfl))]
  · rw [rd_wr_ne _ _ ha]

theorem rdF_wrF_same (d : Device) (a lo len v : Nat) (h : lo + len ≤ 32) : rdF (wrF d a lo len v) a lo len = v % 2 ^ len := by
  simp [rdF, wrF, field_setField_same, h]

theorem rdF_wrF_ne (d : Device) (a lo len v a' lo' len' : Nat) (h : a' ≠ a ∨ lo + len ≤ lo' ∨ lo' + len' ≤ lo) :
    rdF (wrF d a lo len v) a' lo' len' = rdF d a' lo' len' := by
  unfold rdF wrF
  by_cases ha : a' = a
  · subst ha
    rw [rd_wr_same, field_setField_ne _ _ _ _ _ _ (h.resolve_left (fun x => x rfl))]
  · rw [rd_wr_ne _ _ ha]

theorem rdF_wrB_ne (d : Device) (a i a' lo len : Nat) (b : Bool) (h : a' ≠ a ∨ i < lo ∨ lo + len ≤ i) :
    rdF (wrB d a i b) a' lo len = rdF d a' lo len := by
  unfold rdF wrB
  by_cases ha : a' = a
  · subst ha
    rw [rd_wr_same, field_setBit_ne _ _ _ _ _ (h.resolve_left (fun x => x rfl))]
  · rw [rd_wr_ne _ _ ha]

theorem rdB_wrF_ne (d : Device) (a lo len v a' j : Nat) (h : a' ≠ a ∨ j < lo ∨ lo + len ≤ j) :
    rdB (wrF d a lo len v) a' j = rdB d a' j := by
  unfold rdB wrF
  by_cases ha : a' = a
  · subst ha
    rw [rd_wr_same, bit_setField_ne _ _ _ _ _ (h.resolve_left (fun x => x rfl))]
  · rw [rd_wr_ne _ _ ha]

end Sys2Proof.Laws
end

