-- ==== Sys2Proof/Laws/Memory.lean ====
section
/-! SUPPORT. What bytes and numbers written to memory leave alone, and what memory reads after them. -/

namespace Sys2Proof.Laws

open Sys2Proof Sys2Proof.Machine

/-- Bytes written change memory alone. -/
theorem putBytes_mem_only (d : Device) (a : Nat) (bs : List Byte) : putBytes d a bs = { d with mem := (putBytes d a bs).mem } := by
  induction bs generalizing d a with
  | nil => rfl
  | cons b bs ih =>
    rw [putBytes, ih]
    rfl

@[simp] theorem putBytes_regs (d : Device) (a : Nat) (bs : List Byte) : (putBytes d a bs).regs = d.regs := by
  rw [putBytes_mem_only]
@[simp] theorem putBytes_now (d : Device) (a : Nat) (bs : List Byte) : (putBytes d a bs).now = d.now := by
  rw [putBytes_mem_only]
@[simp] theorem putBytes_shadow (d : Device) (a : Nat) (bs : List Byte) : (putBytes d a bs).shadow = d.shadow := by
  rw [putBytes_mem_only]
@[simp] theorem putBytes_fields (d : Device) (a : Nat) (bs : List Byte) : (putBytes d a bs).fields = d.fields := by
  rw [putBytes_mem_only]
@[simp] theorem putBytes_hiShadow (d : Device) (a : Nat) (bs : List Byte) : (putBytes d a bs).hiShadow = d.hiShadow := by
  rw [putBytes_mem_only]
@[simp] theorem putBytes_busData (d : Device) (a : Nat) (bs : List Byte) : (putBytes d a bs).busData = d.busData := by
  rw [putBytes_mem_only]
@[simp] theorem putBytes_freeCtr (d : Device) (a : Nat) (bs : List Byte) : (putBytes d a bs).freeCtr = d.freeCtr := by
  rw [putBytes_mem_only]
@[simp] theorem putBytes_resv (d : Device) (a : Nat) (bs : List Byte) : (putBytes d a bs).resv = d.resv := by
  rw [putBytes_mem_only]
@[simp] theorem putBytes_cores (d : Device) (a : Nat) (bs : List Byte) : (putBytes d a bs).cores = d.cores := by
  rw [putBytes_mem_only]
@[simp] theorem putBytes_events (d : Device) (a : Nat) (bs : List Byte) : (putBytes d a bs).events = d.events := by
  rw [putBytes_mem_only]
@[simp] theorem putBytes_power (d : Device) (a : Nat) (bs : List Byte) : (putBytes d a bs).power = d.power := by
  rw [putBytes_mem_only]
@[simp] theorem putBytes_seals (d : Device) (a : Nat) (bs : List Byte) : (putBytes d a bs).seals = d.seals := by
  rw [putBytes_mem_only]
@[simp] theorem putBytes_clock (d : Device) (a : Nat) (bs : List Byte) : (putBytes d a bs).clock = d.clock := by
  rw [putBytes_mem_only]
@[simp] theorem putBytes_time (d : Device) (a : Nat) (bs : List Byte) : (putBytes d a bs).time = d.time := by
  rw [putBytes_mem_only]
@[simp] theorem putBytes_chans (d : Device) (a : Nat) (bs : List Byte) : (putBytes d a bs).chans = d.chans := by
  rw [putBytes_mem_only]
@[simp] theorem putBytes_cal (d : Device) (a : Nat) (bs : List Byte) : (putBytes d a bs).cal = d.cal := by
  rw [putBytes_mem_only]
@[simp] theorem putBytes_calPass (d : Device) (a : Nat) (bs : List Byte) : (putBytes d a bs).calPass = d.calPass := by
  rw [putBytes_mem_only]
@[simp] theorem putBytes_hk (d : Device) (a : Nat) (bs : List Byte) : (putBytes d a bs).hk = d.hk := by
  rw [putBytes_mem_only]
@[simp] theorem putBytes_rsm (d : Device) (a : Nat) (bs : List Byte) : (putBytes d a bs).rsm = d.rsm := by
  rw [putBytes_mem_only]
@[simp] theorem putBytes_shed (d : Device) (a : Nat) (bs : List Byte) : (putBytes d a bs).shed = d.shed := by
  rw [putBytes_mem_only]
@[simp] theorem putBytes_inj (d : Device) (a : Nat) (bs : List Byte) : (putBytes d a bs).inj = d.inj := by
  rw [putBytes_mem_only]
@[simp] theorem putBytes_setp (d : Device) (a : Nat) (bs : List Byte) : (putBytes d a bs).setp = d.setp := by
  rw [putBytes_mem_only]
@[simp] theorem putBytes_ints (d : Device) (a : Nat) (bs : List Byte) : (putBytes d a bs).ints = d.ints := by
  rw [putBytes_mem_only]
@[simp] theorem putBytes_cordic (d : Device) (a : Nat) (bs : List Byte) : (putBytes d a bs).cordic = d.cordic := by
  rw [putBytes_mem_only]
@[simp] theorem putBytes_dcmp (d : Device) (a : Nat) (bs : List Byte) : (putBytes d a bs).dcmp = d.dcmp := by
  rw [putBytes_mem_only]
@[simp] theorem putBytes_gchan (d : Device) (a : Nat) (bs : List Byte) : (putBytes d a bs).gchan = d.gchan := by
  rw [putBytes_mem_only]
@[simp] theorem putBytes_legs (d : Device) (a : Nat) (bs : List Byte) : (putBytes d a bs).legs = d.legs := by
  rw [putBytes_mem_only]
@[simp] theorem putBytes_har (d : Device) (a : Nat) (bs : List Byte) : (putBytes d a bs).har = d.har := by
  rw [putBytes_mem_only]
@[simp] theorem putBytes_selv (d : Device) (a : Nat) (bs : List Byte) : (putBytes d a bs).selv = d.selv := by
  rw [putBytes_mem_only]
@[simp] theorem putBytes_selvNext (d : Device) (a : Nat) (bs : List Byte) : (putBytes d a bs).selvNext = d.selvNext := by
  rw [putBytes_mem_only]
@[simp] theorem putBytes_gtest (d : Device) (a : Nat) (bs : List Byte) : (putBytes d a bs).gtest = d.gtest := by
  rw [putBytes_mem_only]
@[simp] theorem putBytes_bridle (d : Device) (a : Nat) (bs : List Byte) : (putBytes d a bs).bridle = d.bridle := by
  rw [putBytes_mem_only]
@[simp] theorem putBytes_mram (d : Device) (a : Nat) (bs : List Byte) : (putBytes d a bs).mram = d.mram := by
  rw [putBytes_mem_only]
@[simp] theorem putBytes_red (d : Device) (a : Nat) (bs : List Byte) : (putBytes d a bs).red = d.red := by
  rw [putBytes_mem_only]
@[simp] theorem putBytes_out (d : Device) (a : Nat) (bs : List Byte) : (putBytes d a bs).out = d.out := by
  rw [putBytes_mem_only]
@[simp] theorem putBytes_recs (d : Device) (a : Nat) (bs : List Byte) : (putBytes d a bs).recs = d.recs := by
  rw [putBytes_mem_only]
@[simp] theorem putBytes_bobs (d : Device) (a : Nat) (bs : List Byte) : (putBytes d a bs).bobs = d.bobs := by
  rw [putBytes_mem_only]
@[simp] theorem putBytes_loom (d : Device) (a : Nat) (bs : List Byte) : (putBytes d a bs).loom = d.loom := by
  rw [putBytes_mem_only]
@[simp] theorem putBytes_meter (d : Device) (a : Nat) (bs : List Byte) : (putBytes d a bs).meter = d.meter := by
  rw [putBytes_mem_only]
@[simp] theorem putBytes_therm (d : Device) (a : Nat) (bs : List Byte) : (putBytes d a bs).therm = d.therm := by
  rw [putBytes_mem_only]
@[simp] theorem putBytes_cfg (d : Device) (a : Nat) (bs : List Byte) : (putBytes d a bs).cfg = d.cfg := by
  rw [putBytes_mem_only]
@[simp] theorem putBytes_tomus (d : Device) (a : Nat) (bs : List Byte) : (putBytes d a bs).tomus = d.tomus := by
  rw [putBytes_mem_only]
@[simp] theorem putBytes_net (d : Device) (a : Nat) (bs : List Byte) : (putBytes d a bs).net = d.net := by
  rw [putBytes_mem_only]

@[simp] theorem putNat_regs (d : Device) (a n v : Nat) : (putNat d a n v).regs = d.regs := putBytes_regs d a _
@[simp] theorem putNat_now (d : Device) (a n v : Nat) : (putNat d a n v).now = d.now := putBytes_now d a _
@[simp] theorem putNat_shadow (d : Device) (a n v : Nat) : (putNat d a n v).shadow = d.shadow := putBytes_shadow d a _
@[simp] theorem putNat_fields (d : Device) (a n v : Nat) : (putNat d a n v).fields = d.fields := putBytes_fields d a _
@[simp] theorem putNat_hiShadow (d : Device) (a n v : Nat) : (putNat d a n v).hiShadow = d.hiShadow := putBytes_hiShadow d a _
@[simp] theorem putNat_busData (d : Device) (a n v : Nat) : (putNat d a n v).busData = d.busData := putBytes_busData d a _
@[simp] theorem putNat_freeCtr (d : Device) (a n v : Nat) : (putNat d a n v).freeCtr = d.freeCtr := putBytes_freeCtr d a _
@[simp] theorem putNat_resv (d : Device) (a n v : Nat) : (putNat d a n v).resv = d.resv := putBytes_resv d a _
@[simp] theorem putNat_cores (d : Device) (a n v : Nat) : (putNat d a n v).cores = d.cores := putBytes_cores d a _
@[simp] theorem putNat_events (d : Device) (a n v : Nat) : (putNat d a n v).events = d.events := putBytes_events d a _
@[simp] theorem putNat_power (d : Device) (a n v : Nat) : (putNat d a n v).power = d.power := putBytes_power d a _
@[simp] theorem putNat_seals (d : Device) (a n v : Nat) : (putNat d a n v).seals = d.seals := putBytes_seals d a _
@[simp] theorem putNat_clock (d : Device) (a n v : Nat) : (putNat d a n v).clock = d.clock := putBytes_clock d a _
@[simp] theorem putNat_time (d : Device) (a n v : Nat) : (putNat d a n v).time = d.time := putBytes_time d a _
@[simp] theorem putNat_chans (d : Device) (a n v : Nat) : (putNat d a n v).chans = d.chans := putBytes_chans d a _
@[simp] theorem putNat_cal (d : Device) (a n v : Nat) : (putNat d a n v).cal = d.cal := putBytes_cal d a _
@[simp] theorem putNat_calPass (d : Device) (a n v : Nat) : (putNat d a n v).calPass = d.calPass := putBytes_calPass d a _
@[simp] theorem putNat_hk (d : Device) (a n v : Nat) : (putNat d a n v).hk = d.hk := putBytes_hk d a _
@[simp] theorem putNat_rsm (d : Device) (a n v : Nat) : (putNat d a n v).rsm = d.rsm := putBytes_rsm d a _
@[simp] theorem putNat_shed (d : Device) (a n v : Nat) : (putNat d a n v).shed = d.shed := putBytes_shed d a _
@[simp] theorem putNat_inj (d : Device) (a n v : Nat) : (putNat d a n v).inj = d.inj := putBytes_inj d a _
@[simp] theorem putNat_setp (d : Device) (a n v : Nat) : (putNat d a n v).setp = d.setp := putBytes_setp d a _
@[simp] theorem putNat_ints (d : Device) (a n v : Nat) : (putNat d a n v).ints = d.ints := putBytes_ints d a _
@[simp] theorem putNat_cordic (d : Device) (a n v : Nat) : (putNat d a n v).cordic = d.cordic := putBytes_cordic d a _
@[simp] theorem putNat_dcmp (d : Device) (a n v : Nat) : (putNat d a n v).dcmp = d.dcmp := putBytes_dcmp d a _
@[simp] theorem putNat_gchan (d : Device) (a n v : Nat) : (putNat d a n v).gchan = d.gchan := putBytes_gchan d a _
@[simp] theorem putNat_legs (d : Device) (a n v : Nat) : (putNat d a n v).legs = d.legs := putBytes_legs d a _
@[simp] theorem putNat_har (d : Device) (a n v : Nat) : (putNat d a n v).har = d.har := putBytes_har d a _
@[simp] theorem putNat_selv (d : Device) (a n v : Nat) : (putNat d a n v).selv = d.selv := putBytes_selv d a _
@[simp] theorem putNat_selvNext (d : Device) (a n v : Nat) : (putNat d a n v).selvNext = d.selvNext := putBytes_selvNext d a _
@[simp] theorem putNat_gtest (d : Device) (a n v : Nat) : (putNat d a n v).gtest = d.gtest := putBytes_gtest d a _
@[simp] theorem putNat_bridle (d : Device) (a n v : Nat) : (putNat d a n v).bridle = d.bridle := putBytes_bridle d a _
@[simp] theorem putNat_mram (d : Device) (a n v : Nat) : (putNat d a n v).mram = d.mram := putBytes_mram d a _
@[simp] theorem putNat_red (d : Device) (a n v : Nat) : (putNat d a n v).red = d.red := putBytes_red d a _
@[simp] theorem putNat_out (d : Device) (a n v : Nat) : (putNat d a n v).out = d.out := putBytes_out d a _
@[simp] theorem putNat_recs (d : Device) (a n v : Nat) : (putNat d a n v).recs = d.recs := putBytes_recs d a _
@[simp] theorem putNat_bobs (d : Device) (a n v : Nat) : (putNat d a n v).bobs = d.bobs := putBytes_bobs d a _
@[simp] theorem putNat_loom (d : Device) (a n v : Nat) : (putNat d a n v).loom = d.loom := putBytes_loom d a _
@[simp] theorem putNat_meter (d : Device) (a n v : Nat) : (putNat d a n v).meter = d.meter := putBytes_meter d a _
@[simp] theorem putNat_therm (d : Device) (a n v : Nat) : (putNat d a n v).therm = d.therm := putBytes_therm d a _
@[simp] theorem putNat_cfg (d : Device) (a n v : Nat) : (putNat d a n v).cfg = d.cfg := putBytes_cfg d a _
@[simp] theorem putNat_tomus (d : Device) (a n v : Nat) : (putNat d a n v).tomus = d.tomus := putBytes_tomus d a _
@[simp] theorem putNat_net (d : Device) (a n v : Nat) : (putNat d a n v).net = d.net := putBytes_net d a _

/-- A byte outside the written ones reads as before. -/
theorem memByte_putBytes_ne (d : Device) (a b : Nat) (bs : List Byte) (h : b < a ∨ a + bs.length ≤ b) :
    memByte (putBytes d a bs) b = memByte d b := by
  induction bs generalizing d a with
  | nil => rfl
  | cons x bs ih =>
    rw [List.length_cons] at h
    rw [putBytes, ih _ _ (by omega), memByte_putByte]
    have : b ≠ a := by omega
    simp [this]

/-- A written byte, outside the reserved part of the loom areas. -/
theorem memByte_putBytes_at (d : Device) (a i : Nat) (bs : List Byte) (h : i < bs.length)
    (hr : loomReserved (a + i) = false) : memByte (putBytes d a bs) (a + i) = bs[i] := by
  induction bs generalizing d a i with
  | nil => exact absurd h (Nat.not_lt_zero i)
  | cons x bs ih =>
    rw [putBytes]
    cases i with
    | zero =>
      rw [memByte_putBytes_ne _ _ _ _ (by omega), memByte_putByte]
      simp at hr
      simp [hr]
    | succ i =>
      have e : a + (i + 1) = a + 1 + i := by omega
      rw [e] at hr ⊢
      rw [ih _ _ _ (by simpa using h) hr]
      rfl

theorem length_bytesLE (n v : Nat) : (bytesLE n v).length = n := by
  induction n generalizing v with
  | zero => rfl
  | succ n ih => rw [bytesLE, List.length_cons, ih]

/-- The number of the little-endian bytes of a number. -/
theorem natLE_bytesLE (n v : Nat) : natLE (bytesLE n v) = v % 256 ^ n := by
  induction n generalizing v with
  | zero => simp [bytesLE, natLE, Nat.mod_one]
  | succ n ih =>
    rw [bytesLE, natLE, ih, pow_succ', Nat.mod_mul]
    simp

/-- A number read apart from the written bytes. -/
theorem memNat_putBytes_ne (d : Device) (a b n : Nat) (bs : List Byte) (h : b + n ≤ a ∨ a + bs.length ≤ b) :
    memNat (putBytes d a bs) b n = memNat d b n := by
  unfold memNat memBytes
  congr 1
  apply List.map_congr_left
  intro i hi
  have := List.mem_range.1 hi
  exact memByte_putBytes_ne d a (b + i) bs (by omega)

/-- A number read where it has been written. -/
theorem memNat_putNat_same (d : Device) (a n v : Nat) (h : ∀ i < n, loomReserved (a + i) = false) :
    memNat (putNat d a n v) a n = v % 256 ^ n := by
  rw [← natLE_bytesLE]
  unfold memNat memBytes putNat
  congr 1
  apply List.ext_getElem
  · simp [length_bytesLE]
  · intro i h1 h2
    simp only [List.getElem_map, List.getElem_range]
    rw [length_bytesLE] at h2
    exact memByte_putBytes_at d a i _ (by rw [length_bytesLE]; exact h2) (h i h2)

/-- A number read apart from the written one. -/
theorem memNat_putNat_ne (d : Device) (a b n m v : Nat) (h : b + n ≤ a ∨ a + m ≤ b) :
    memNat (putNat d a m v) b n = memNat d b n :=
  memNat_putBytes_ne d a b n _ (by rw [length_bytesLE]; exact h)

/-- A register does not depend on memory. -/
@[simp] theorem rd_putBytes (d : Device) (a b : Nat) (bs : List Byte) : rd (putBytes d a bs) b = rd d b := by
  unfold rd
  rw [putBytes_regs]

@[simp] theorem rd_putNat (d : Device) (a n v b : Nat) : rd (putNat d a n v) b = rd d b := rd_putBytes d a b _

end Sys2Proof.Laws
end

