-- ==== Sys2Proof/Laws/Tomus.lean ====
section
/-! SUPPORT. What the Tomus server does with a request that it accepts. -/

namespace Sys2Proof.Laws

open Sys2Proof Sys2Proof.Machine

/-- Taking a request from B0 leaves the server as it was otherwise. -/
theorem tomusUp_taken (r : Req) (d : Device) (k : Nat) : tomusUp (taken r d) k = tomusUp d k := by
  unfold taken
  split <;> rfl

/-- A request under no session that no check stops is answered as its opcode answers. -/
theorem runRequest_answers (h : Req → Nat → Device → Answer) (r : Req) (under : Option Session') (t : Nat) (d : Device)
    (h0 : refusal d r = 0) (hf : Fits r under (h r t d).data.length) :
    runRequest h r under t d = (match (h r t d).wait with
      | some k => updTomus (h r t d).dev (fun s => { s with waits := s.waits ++ [⟨r, k⟩] })
      | none => reply r under (h r t d).status (h r t d).data (h r t d).dev) := by
  unfold runRequest
  rw [h0]
  exact if_neg (Nat.not_lt.2 hf)

/-- A request that the server accepts is answered as its opcode answers. -/
theorem execute_answers (h : Req → Nat → Device → Answer) (opcode : Nat) (req r : Req) (under : Option Session') (t : Nat)
    (d0 d : Device) (hr : r = { req with opcode := opcode }) (hd : d = taken r d0) (ha : Accepts d r under t)
    (hf : Fits r under (h r t (served r under t d)).data.length) :
    execute h opcode req t d0 = answered r under t (h r t (served r under t d)) := by
  obtain ⟨h1, h2, h3, h4, h5, h6⟩ := ha
  have hu : tomusUp d0 r.transport = true := by rw [← h1, hd, tomusUp_taken]
  unfold execute answered
  rw [← hr]
  simp only [hu, if_true]
  have he : (if d0.tomus.b0.head? = some r then updTomus d0 (fun s => { s with b0 := s.b0.drop 1 }) else d0) = d := hd.symm
  rw [he]
  congr 1
  unfold serve
  cases under with
  | none =>
    simp only [h2, h3, h4, h5, ne_eq, not_true_eq_false, Bool.false_eq_true, and_false, if_false]
    exact runRequest_answers h r none t d h6 hf
  | some s =>
    obtain ⟨a1, a2, a3, a4, a5, a6⟩ := h5
    have a7 : ¬ 3 ≤ r.transport := by omega
    simp only [h2, h3, h4, a1, a7, ne_eq, not_true_eq_false, Bool.false_eq_true, false_and, if_false, if_true]
    unfold runTagged
    simp only [a3, a4, ne_eq, not_true_eq_false, if_false]
    rw [if_neg a5, if_neg (not_not.2 a6)]
    exact congrArg (sessionSpent r.peer) (runRequest_answers h r (some s) t _ h6 hf)

/-- An empty B0 has nothing that the server could answer. -/
theorem drain_nil (t n : Nat) (d : Device) (h : d.tomus.b0 = []) : drain t n d = d := by
  cases n with
  | zero => rfl
  | succ n =>
    unfold drain
    rw [h]

/-- A command that executes a request serves it as its handler answers. -/
theorem serves_of {i : Req → Nat → Instr} {op : Nat} {h answer : Req → Nat → Device → Answer}
    {pre : Req → Nat → Device → Prop} (hx : ∀ req t s, exec (i req t) s = done s (execute h op req t (at50 s.dev t)))
    (hh : ∀ r t e, pre r t e → h r t e = answer r t e) : Serves i op pre answer := by
  intro s t req r under d e hr hd ha he hp hf
  rw [hx, execute_answers h op req r under t _ d hr hd ha (by rw [← he, hh r t e hp]; exact hf), ← he, hh r t e hp]
  rfl

/-- The same of a command after which the unit settles. -/
theorem servesAndSettles_of {i : Req → Nat → Instr} {op : Nat} {h answer : Req → Nat → Device → Answer}
    {pre : Req → Nat → Device → Prop}
    (hx : ∀ req t s, exec (i req t) s = done s (settled (execute h op req t) t (at50 s.dev t)))
    (hh : ∀ r t e, pre r t e → h r t e = answer r t e) : ServesAndSettles i op pre answer := by
  intro s t req r under d e hr hd ha he hp hf
  rw [hx, settled, execute_answers h op req r under t _ d hr hd ha (by rw [← he, hh r t e hp]; exact hf), ← he,
    hh r t e hp]
  rfl

end Sys2Proof.Laws
end

