-- ==== Sys2Proof/WellFormed.lean ====
section
/-! DEFINITION. The ranges of the operands that their types do not already give. The machine runs a command whether or
not it is well-formed; this says which operands a sender can form. -/

namespace Sys2Proof

/-- The widths in bytes of an access (R26). -/
def accessWidth (n : Nat) : Bool := n == 1 || n == 2 || n == 4 || n == 8

/-- A UDP peer has a 32-bit address and a 16-bit port, a CAN peer is one of the two controllers. -/
def peerOk : Peer → Bool
  | .spi => true
  | .udp addr port => decide (addr < 2 ^ 32) && decide (port < 2 ^ 16)
  | .can c => decide (c < 2)

/-- The fields of a request have the widths of R327. -/
def Req.wf (r : Req) : Bool :=
  decide (r.transport < 5) && peerOk r.peer && decide (r.version < 2 ^ 8) && decide (r.flags < 2 ^ 8)
    && decide (r.seq < 2 ^ 16) && decide (r.opcode < 2 ^ 16) && decide (r.params.length < 2 ^ 16)
    && decide (r.tag.length ≤ 16)

/-- The operands of a command are in range. -/
def Instr.wf : Instr → Bool
  | .registerWrite _ _ width a _ _ => accessWidth width && decide (a < 2 ^ 32)
  | .rcFieldRead _ width a _ => accessWidth width && decide (a < 2 ^ 32)
  | .lowWordRead _ width a _ => accessWidth width && decide (a < 2 ^ 32)
  | .targetNoResponse _ _ a _ => decide (a < 2 ^ 32)
  | .sramScrubPass single double _ => decide (single + double ≤ 2 ^ 19)
  | .cfgApplyWrite _ _ => true
  | .t0Deadline _ => true
  | .taskRelease _ _ _ => true
  | .gateIslandLinkTimeout _ _ => true
  | .islandEntryHizTimeout _ _ => true
  | .fastWordsMissing _ _ => true
  | .ledgerInterruption _ _ => true
  | .modOverloadOnset _ _ => true
  | .stuckBitstream _ _ => true
  | .stuckRecovery _ first t => decide (first ≤ t)
  | .islandLoss _ _ _ => true
  | .islandRecovery _ _ => true
  | .fastPathWord _ bits _ => decide (bits < 2 ^ 8)
  | .mediumPathWord _ _ => true
  | .precisionPathWord _ _ => true
  | .decomposerUnsEnd _ _ => true
  | .resamplerOutput _ => true
  | .resamplerPauseEnd _ => true
  | .rsmSourceHold _ => true
  | .rsmSwitchWrite _ => true
  | .rsmXfadeEnd _ => true
  | .shedTap _ _ => true
  | .deadTimeTurnOn _ _ => true
  | .shedRefPop _ _ => true
  | .shedFifoWrite _ _ _ => true
  | .shedEdgeWrite _ _ _ => true
  | .edgeListEntry _ _ => true
  | .shedStartStep _ _ => true
  | .setpRisingEdge high _ => decide (high < 2 ^ 32)
  | .setpointLoss _ _ => true
  | .chirpEnd _ _ => true
  | .cordicCmdWrite _ _ _ => true
  | .cordicDone _ _ => true
  | .gateOwnWrite _ _ => true
  | .gateOwnChangeDone _ => true
  | .uvloTrip _ _ _ _ => true
  | .uvloRelease _ _ _ => true
  | .blankingEnd _ _ => true
  | .desatTrip _ stamp t => decide (stamp ≤ t)
  | .softTimeEnd _ _ => true
  | .millerClampEnable _ _ => true
  | .selvedgeEntry _ _ _ => true
  | .selvedgeSequenceStep _ _ => true
  | .selvedgeHizDelay _ _ => true
  | .selvedgeTableReload _ => true
  | .releaseHoldoffEnd _ _ => true
  | .retryWaitExpiry _ leg _ => leg.all (fun n => decide (n < 24))
  | .retryForgetExpiry _ _ => true
  | .gateClearWrite _ _ => true
  | .gateTestCmdWrite _ _ => true
  | .gateTestDone trip _ => trip.all (fun n => decide (n < 2 ^ 16))
  | .gfkInit ctx _ => decide (ctx < 2 ^ 32)
  | .gfkStep ctx inp out _ => decide (ctx < 2 ^ 32) && decide (inp < 2 ^ 32) && decide (out < 2 ^ 32)
  | .gfkCmdStart ctx inp out _ => decide (ctx < 2 ^ 32) && decide (inp < 2 ^ 32) && decide (out < 2 ^ 32)
  | .gfkCmdStop ctx inp out _ => decide (ctx < 2 ^ 32) && decide (inp < 2 ^ 32) && decide (out < 2 ^ 32)
  | .gfkCmdReset ctx inp out _ => decide (ctx < 2 ^ 32) && decide (inp < 2 ^ 32) && decide (out < 2 ^ 32)
  | .gfkCmdReconOn ctx inp out _ => decide (ctx < 2 ^ 32) && decide (inp < 2 ^ 32) && decide (out < 2 ^ 32)
  | .gfkCmdReconOff ctx inp out _ => decide (ctx < 2 ^ 32) && decide (inp < 2 ^ 32) && decide (out < 2 ^ 32)
  | .deadBusTimerExpiry ctx inp out _ => decide (ctx < 2 ^ 32) && decide (inp < 2 ^ 32) && decide (out < 2 ^ 32)
  | .liveBusTimerExpiry ctx inp out _ => decide (ctx < 2 ^ 32) && decide (inp < 2 ^ 32) && decide (out < 2 ^ 32)
  | .syncHoldExpiry ctx inp out _ => decide (ctx < 2 ^ 32) && decide (inp < 2 ^ 32) && decide (out < 2 ^ 32)
  | .closeTimeout ctx inp out _ => decide (ctx < 2 ^ 32) && decide (inp < 2 ^ 32) && decide (out < 2 ^ 32)
  | .syncTimeout ctx inp out _ => decide (ctx < 2 ^ 32) && decide (inp < 2 ^ 32) && decide (out < 2 ^ 32)
  | .rampComplete ctx inp out _ => decide (ctx < 2 ^ 32) && decide (inp < 2 ^ 32) && decide (out < 2 ^ 32)
  | .frtRecoverExpiry ctx inp out _ => decide (ctx < 2 ^ 32) && decide (inp < 2 ^ 32) && decide (out < 2 ^ 32)
  | .currentLimitHoldExit ctx inp out _ => decide (ctx < 2 ^ 32) && decide (inp < 2 ^ 32) && decide (out < 2 ^ 32)
  | .reconDelayExpiry ctx inp out _ => decide (ctx < 2 ^ 32) && decide (inp < 2 ^ 32) && decide (out < 2 ^ 32)
  | .loomDoneWrite _ _ _ => true
  | .loomCbAppend _ _ a _ _ => decide (a < 2 ^ 32)
  | .loomCbFlush3 _ => true
  | .loomKick _ => true
  | .t3WatchdogExpiry _ => true
  | .loomIpiWrite _ _ => true
  | .loomOverrun _ _ => true
  | .overrunEndStop _ => true
  | .loomFaultStop _ _ _ _ _ _ => true
  | .loomAutorun _ => true
  | .loomCtrlRun _ => true
  | .loomRunEntry _ => true
  | .loomCtrlStop _ => true
  | .loomCtrlHold _ => true
  | .loomCtrlResume _ => true
  | .debugHaltRequest _ => true
  | .debugBreak _ _ _ => true
  | .overlayLegWrite _ code _ => decide (code < 4)
  | .overlayLapse _ _ => true
  | .timerPresetWrite _ _ _ => true
  | .timerExpiry _ _ => true
  | .stationFrameRx transport _ bytes _ => decide (1 ≤ transport ∧ transport ≤ 3) && decide (bytes.length ≤ 1472)
  | .stationTimeout _ _ => true
  | .xchgSwitch _ => true
  | .timeLreqGoWrite _ => true
  | .ialosMsBoundary _ => true
  | .lreqOpen seq mp sid _ => decide (seq < 2 ^ 16) && decide (mp < 2 ^ 8) && decide (sid.length = 24)
  | .lreqClose seq mp _ => decide (seq < 2 ^ 16) && decide (mp < 2 ^ 8)
  | .lreqAckRecords seq upto _ => decide (seq < 2 ^ 16) && decide (upto < 2 ^ 64)
  | .lreqSetField seq mp id _ _ => decide (seq < 2 ^ 16) && decide (mp < 2 ^ 8) && decide (id < 2 ^ 16)
  | .lreqClearCounters seq _ _ => decide (seq < 2 ^ 16)
  | .lreqCalBegin seq _ _ => decide (seq < 2 ^ 16)
  | .lreqCalEnd seq _ _ => decide (seq < 2 ^ 16)
  | .energySave _ => true
  | .ledgerReady _ => true
  | .sealMeasurement _ _ _ => true
  | .bridleInputChange i _ _ => decide (i < 22)
  | .saDiscTimeout _ _ => true
  | .stop1DelayExpiry _ _ => true
  | .imdFault _ => true
  | .imdBlankEnd _ => true
  | .senTestPulse low _ => decide (low < 2 ^ 2)
  | .bridleReset _ _ _ => true
  | .sresStuck _ _ => true
  | .kfCheckExpiry _ _ => true
  | .ckfSupervisionWindow _ _ => true
  | .bridleFault _ => true
  | .degradedModeExpiry _ => true
  | .powerAbsentPermit _ => true
  | .bridleCfgWrite offset _ _ => decide (offset < 2 ^ 12) && decide (offset % 4 = 0)
  | .bridleCfgCheck _ => true
  | .recArm _ _ => true
  | .recStop _ _ => true
  | .recForceTrigger _ _ => true
  | .recFrame _ _ => true
  | .rtrigEdge _ => true
  | .recPostEnd _ _ => true
  | .recFlushExpiry _ _ => true
  | .historyDrained _ _ => true
  | .bobDoorbell _ _ => true
  | .bobResume _ _ => true
  | .bobRestart _ _ => true
  | .bobRefetch _ _ => true
  | .descriptorComplete _ bad late backFail _ =>
    bad.all (fun e => decide (e.1 < 2 ^ 4)) && late.all (fun e => decide (e < 2 ^ 4)) && backFail.all (fun e => decide (e < 2 ^ 4))
  | .hkConversionDone raw _ => decide (raw < 2 ^ 20)
  | .hkRoundTick _ => true
  | .hkRoundEnd _ => true
  | .hkInjectedTrigger source _ => decide (source < 5)
  | .hkResultStale i _ => decide (i < 48)
  | .calStart entry _ => decide (entry < 128)
  | .calZero _ => true
  | .calFull _ => true
  | .calCommit _ => true
  | .calAbort _ => true
  | .calEngineRestore _ => true
  | .calSettleExpiry _ => true
  | .calAveragingDone _ => true
  | .calFlaggedReading _ => true
  | .calTimeout _ => true
  | .calCommitDone _ => true
  | .thermalTick _ => true
  | .thermalRecordWrite _ => true
  | .thRestartWrite _ _ => true
  | .mramOperationDone _ => true
  | .stackResolved _ => true
  | .tomusPacketRx _ _ bytes _ => decide (bytes.length ≤ 2 ^ 16)
  | .spiFrame bytes bits _ => decide (bits ≤ 4096 ∨ bytes.length ≤ bits / 8)
  | .sessionProveTimeout _ => true
  | .sessionIdleTimeout peer _ => peerOk peer
  | .opResultExpiry _ => true
  | .lOperationDone opcode result _ => decide (opcode < 2 ^ 16) && decide (result < 2 ^ 16)
  | .ping req _ => req.wf
  | .identity req _ => req.wf
  | .deviceKey req _ => req.wf
  | .opStatus req _ => req.wf
  | .stats req _ => req.wf
  | .sessionHello req _ => req.wf
  | .sessionProve req _ => req.wf
  | .sessionClose req _ => req.wf
  | .hostkeySet req _ => req.wf
  | .hostkeyClear req _ => req.wf
  | .hostkeyList req _ => req.wf
  | .cfgStatus req _ => req.wf
  | .stageWrite req _ => req.wf
  | .saddleStore req _ => req.wf
  | .tackStore req _ => req.wf
  | .stackSelect req _ => req.wf
  | .saddleAck req _ => req.wf
  | .fieldRead req _ => req.wf
  | .storeRead req _ => req.wf
  | .imgBegin req _ => req.wf
  | .imgWrite req _ => req.wf
  | .imgVerify req _ => req.wf
  | .imgActivate req _ => req.wf
  | .xchgArm req _ => req.wf
  | .xchgCancel req _ => req.wf
  | .imgStatus req _ => req.wf
  | .loomkeySet req _ => req.wf
  | .runStatus req _ => req.wf
  | .loomRun req _ => req.wf
  | .loomStop req _ => req.wf
  | .loomHold req _ => req.wf
  | .loomResume req _ => req.wf
  | .kernelCmd req _ => req.wf
  | .faultClear req _ => req.wf
  | .thermalRestart req _ => req.wf
  | .memRead req _ => req.wf
  | .memWrite req _ => req.wf
  | .mtrOpen req _ => req.wf
  | .mtrClose req _ => req.wf
  | .mtrAckRecords req _ => req.wf
  | .mtrClearCounters req _ => req.wf
  | .mtrRead req _ => req.wf
  | .mtrRecord req _ => req.wf
  | .mtrKeys req _ => req.wf
  | .recCmd req _ => req.wf
  | .recStatus req _ => req.wf
  | .recBlockRead req _ => req.wf
  | .recBlockRelease req _ => req.wf
  | .gateTest req _ => req.wf
  | .selftest req _ => req.wf
  | .calCmd req _ => req.wf
  | .calExport req _ => req.wf
  | .calRestore req _ => req.wf
  | .rsmCoefWrite req _ => req.wf
  | .rsmSwitch req _ => req.wf
  | .timeRead req _ => req.wf
  | .timeSet req _ => req.wf
  | .pairStatus req _ => req.wf
  | .pairYield req _ => req.wf
  | .pairTakeback req _ => req.wf
  | .eventRead req _ => req.wf
  | .logbookRead req _ => req.wf
  | .thermalRead req _ => req.wf
  | .ethFrameRx _ frame _ _ _ => decide (14 ≤ frame.length ∧ frame.length ≤ 1518)
  | .prpSupervisionTx _ => true
  | .canFrameRx _ ident ext fd _ bytes _ =>
    decide (ident < 2 ^ (if ext then 29 else 11)) && decide (bytes.length ≤ (if fd then 64 else 8))
  | .canBusOff _ _ => true
  | .canBusOffRecovery _ _ => true
  | .ptpSyncRx _ msg _ _ => decide (34 ≤ msg.length)
  | .ptpAnnounceRx _ msg _ => decide (34 ≤ msg.length)
  | .ptpPdelayRx _ msg _ _ _ => decide (34 ≤ msg.length)
  | .ptpIntervalTx _ _ _ _ => true
  | .ptpSyncTimeout _ => true
  | .holdoverExpiry _ => true
  | .ialosSecondBoundary _ => true
  | .tppsFall _ => true
  | .filutFrameRx _ start t => decide (start ≤ t)
  | .filutLinkDown _ => true
  | .filutSegmentTx _ => true
  | .phandNFall _ => true
  | .pownNRise _ => true
  | .handoverTimeout _ => true
  | .silentTakeover _ => true
  | .takeoverBoundary _ => true
  | .takebackRequest _ => true
  | .pairStart _ _ _ => true
  | .redCtrlYield _ => true
  | .redCtrlInhibit _ => true
  | .redCtrlAllow _ => true
  | .vinValid _ => true
  | .vinfDeclared _ => true
  | .vinfClear _ => true
  | .vinfGraceExpiry _ => true
  | .vinfShedTimeout _ => true
  | .powerFailFinalWrite _ _ => true
  | .holdup12v _ => true
  | .holdupFull _ => true
  | .vbakLoss _ => true
  | .pwrDomainOn _ _ => true
  | .pwrDomainOff _ _ _ => true
  | .pwrDomainCycle _ _ _ => true
  | .pd11CycleRestart _ => true
  | .pwrSleepLevel1 _ => true
  | .pwrSleepLevel2 _ => true
  | .pwrSleepExit _ => true
  | .wakeNLow _ _ => true
  | .rtcAlarm _ => true
  | .pinReset _ _ => true
  | .stewardWatchdogExpiry _ _ => true
  | .softwareReset _ _ => true
  | .coreSupervisorReset _ _ => true
  | .startupStep _ => true
  | .unitReady _ => true
  | .lockDeclared _ _ => true
  | .lossOfLock _ _ _ _ => true
  | .lossOfReference _ => true
  | .lockfFilterFault _ _ => true
  | .referenceRecovered _ => true
  | .relockHoldExpiry _ => true
  | .gateIslandLinkLost _ _ => true
  | .gateIslandSupplyUp _ _ => true
  | .ethLinkChange _ _ speed _ => decide (speed < 4)
  | .ptpAnnounceTimeout _ _ => true
  | .redStartWaitExpiry _ _ _ => true
  | .filtFltClear _ _ => true

end Sys2Proof
end

