-- ==== Sys2Proof/Tests/Slice0.lean ====
section
/-! SUPPORT. Tests of the model: ill-formed terms, values of the manual, and a state and operands that meet the hypotheses of
every statement. -/

namespace Sys2Proof.Tests

open Sys2Proof Sys2Proof.Machine

set_option maxRecDepth 10000
set_option Elab.async false

/-! ### Helpers -/

/-- A unit with every domain on and ready, and these registers written. -/
def on (l : List (Nat × Nat)) : Device :=
  l.foldl (fun d p => wrN d p.1 p.2) (wrN Device.initial Addr.PWR_STAT 0x101FFF)

/-- An image of a program with T0 every 50 µs, T1 and T2 on core 0 and T3. -/
def img : LoomImage :=
  { bank := 0, length := 384, full := true, t0 := 50, t1Mul := 2, t2Mul := 4, t3Wdog := 1000, coreMap := 0x111,
    sections := [], snaps := [], objects := [], stations := [⟨1, 3, 1, 1, 1, 4, 100⟩], regions := [], starts := [4, 0, 0, 0], kctx := 0,
    layout := [], hash := [], keySlot := 0 }

/-- The unit with its loom changed. -/
def lm (d : Device) (f : Loom → Loom) : Device := { d with loom := f d.loom }

/-- The unit with one of its tasks as given. -/
def tsk (d : Device) (k : Fin 4) (f : Machine.Task → Machine.Task) : Device := lm d (fun l => { l with tasks := upd l.tasks k f })

/-- In RUN with the image. -/
def runs (l : List (Nat × Nat)) : Device := lm (on ((Addr.LOOM_MODE, 1) :: l)) (fun l => { l with image := some img, everRun := true })

/-- A unit whose leg 0 is hot, with a limit of its harness 0. -/
def hot (limit : Nat) : Device :=
  let d := on [(0x40000040, 0), (Addr.TH_TJLIM 0, limit)]
  { d with therm := { d.therm with legs := upd d.therm.legs 0 (fun l => { l with stages := Vector.replicate 4 (10 ^ 15) }) } }

/-- In RUN with an instance of T0 that core 0 works on. -/
def live : Device :=
  let d := tsk (runs []) 0 (fun k => { k with active := true, released := 1 })
  { d with cores := d.cores.map (fun x => { x with halted := false }) }

/-- A unit with the status of a gate channel, and what is kept beside it, as given. -/
def chan (c : Fin 48) (stat : Nat) (f : GateChan → GateChan) : Device :=
  let d := on [(Addr.GATE_CSTAT c.1, stat)]
  { d with gchan := upd d.gchan c f }

/-- A unit with registers, and what is kept of shed unit 0, as given. -/
def shed (l : List (Nat × Nat)) (f : ShedUnit → ShedUnit) : Device :=
  let d := on l
  { d with shed := upd d.shed 0 f }

/-- A unit with registers and what is kept of its housekeeping converter. -/
def hk (l : List (Nat × Nat)) (f : Housekeeping → Housekeeping) : Device :=
  let d := on l
  { d with hk := f d.hk }

/-- A unit with registers and what is kept of its calibration engine. -/
def cal (l : List (Nat × Nat)) (f : CalEngine → CalEngine) : Device :=
  let d := on l
  { d with cal := f d.cal }

/-- A unit with registers and what is kept of its power block. -/
def pw (l : List (Nat × Nat)) (f : Power → Power) : Device :=
  let d := on l
  { d with power := f d.power }

/-- A unit at the end of its start-up. -/
def readyUnit : Device :=
  let d := pw [(Addr.PWR_STAT, 0x401FFF), (Addr.PWR_STEP, 10), (Addr.BRD_STAT, 1)]
    (fun p => { p with starting := true, monRoundOk := true })
  { d with cfg := { d.cfg with loaded := true }, meter := { d.meter with ready := true } }

/-- A unit with registers and what is kept of its clock block. -/
def ck (l : List (Nat × Nat)) (f : Clock → Clock) : Device :=
  let d := on l
  { d with clock := f d.clock }

/-- A unit with registers and what is kept of its redundancy manager. -/
def rdn (l : List (Nat × Nat)) (f : Redundancy → Redundancy) : Device :=
  let d := on l
  { d with red := f d.red }

/-- A synchronised standby with a fresh image. -/
def fresh' : Device :=
  rdn [(Addr.RED_CFG, 0x1F1), (Addr.RED_STAT, 0x23), (Addr.LOOM_T0_CKF, 15625)]
    (fun r => { r with lastRx := some 0, image := some (0, []) })

/-- A configured unit with both links up and PTP on, with registers and what is kept of its network server. -/
def nt (l : List (Nat × Nat)) (f : Net → Net) : Device :=
  let d := on ([(Addr.NET_CFG, 3), (Addr.ETH_LINK, 3), (Addr.TIME_PTP_CFG, 1)] ++ l)
  { d with regs := Sparse.insert Addr.NET_MAC_LO 0 (Sparse.insert Addr.NET_MAC_HI 0 d.regs), net := f d.net, cfg := { d.cfg with loaded := true } }

/-- A PTP slave with a request under way. -/
def slave : Device :=
  nt [] (fun x => { x with ports := upd x.ports 0 (fun p =>
    { p with role := .slave, best := some (0, ⟨0, 0, 0, 0, 0, 0, 0⟩), pdelayAt := some 0 }) })

/-- A PTP message of a type with a flag byte and a body of zeros. -/
def ptp (type flag : Byte) (n : Nat) : List Byte := [type, 2, 0, 34, 0, 0, flag] ++ zeros (27 + n)

/-- A kernel context at 0x2000_0000 in a state, with one of its flags set. -/
def kern (state : Nat) (v : GfkVar) : Device := ksetN (ksetN (on []) 0x20000000 .state state) 0x20000000 v 1

/-- A unit whose ledger is ready, with what is kept of its ledger. -/
def mt (f : Meter → Meter) : Device :=
  let d := on []
  { d with meter := f { d.meter with ready := true } }

/-- A unit whose ledger is ready and whose metering point 0 is enabled, with what is kept of that point. -/
def mp (f : MeterPoint → MeterPoint) : Device := mt (fun x => { x with en := 1, points := upd x.points 0 f })

/-- A unit whose seals read closed. -/
def sealed (d : Device) : Device := { d with seals := Vector.replicate 4 ⟨false, 2, false⟩ }

/-- A unit with what is kept of its bridle. -/
def br (f : Bridle → Bridle) : Device :=
  let d := on []
  { d with bridle := f d.bridle }

/-- A unit with registers and what is kept of its recorder engine 0. -/
def rc (l : List (Nat × Nat)) (f : RecEngine → RecEngine) : Device :=
  let d := on l
  { d with recs := upd d.recs 0 f }

/-- A unit with registers and what is kept of one of its bobbins. -/
def bb (b : Fin 16) (l : List (Nat × Nat)) (f : Bobbin → Bobbin) : Device :=
  let d := on l
  { d with bobs := upd d.bobs b f }


/-- A request of an opcode is executed and its answer fits a packet: what the clauses on that opcode presuppose, met by a
state, an instant and a request. -/
def Met (opcode : Nat) (pre : Req → Nat → Device → Prop) (answer : Req → Nat → Device → Answer) : Prop :=
  ∃ (s : State) (t : Nat) (req r : Req) (under : Option Session') (d e : Device),
    r = { req with opcode := opcode } ∧ d = taken r (at50 s.dev t) ∧ Accepts d r under t ∧ e = served r under t d ∧
    pre r t e ∧ Fits r under (answer r t e).data.length

/-- An administrator's session over the SPI. -/
def sess : Session' :=
  { peer := .spi, slot := 0, role := 3, ident := 1, key := [], seq := 0, opcode := 0, reply := [], count := 1, lastAt := 0,
    bad := 0 }

/-- A configured unit with that session. -/
def host (d : Device) : Device :=
  { d with cfg := { d.cfg with loaded := true }, tomus := { d.tomus with sessions := [sess] } }

/-- Its next request, with the tag that it takes. -/
def ask (opcode : Nat) (params : List Byte) : Req :=
  let r : Req := { transport := 0, peer := .spi, version := 1, flags := 0x40, seq := 1, opcode := opcode, params := params, tag := [] }
  { r with tag := tagOf sess r.head }

theorem ask_auth (opcode : Nat) (params : List Byte) : (ask opcode params).auth = true :=
  (by decide : Nat.testBit 0x40 6 = true)

/-- The unit in which the request executes. -/
def asked (d : Device) (t opcode : Nat) (params : List Byte) : Device :=
  served (ask opcode params) (some sess) t (taken (ask opcode params) (at50 (host d) t))

/-- A request that no check refuses meets what the clauses on its opcode presuppose. -/
theorem met {opcode : Nat} {pre : Req → Nat → Device → Prop} {answer : Req → Nat → Device → Answer} (d : Device) (t : Nat)
    (params : List Byte) (hup : tomusUp (taken (ask opcode params) (at50 (host d) t)) 0 = true := by decide +kernel)
    (hs : sessionOf (taken (ask opcode params) (at50 (host d) t)) .spi = some sess := by decide +kernel)
    (hr : refusal (asked d t opcode params) (ask opcode params) = 0 := by decide +kernel)
    (hp : pre (ask opcode params) t (asked d t opcode params) := by decide +kernel)
    (hf : (answer (ask opcode params) t (asked d t opcode params)).data.length ≤ 480 := by decide +kernel) : Met opcode pre answer :=
  ⟨⟨host d, []⟩, t, ask opcode params, ask opcode params, some sess, _, _, rfl, rfl,
    ⟨hup, (by decide : Nat.testBit 0x40 5 = false), rfl, (by rw [isRepeat, ask_auth]; rfl),
      ⟨ask_auth opcode params, (by decide : 0 ≤ 2), hs, rfl, (fun h => absurd h.1 (by decide : ¬ 1 = 0)), rfl⟩, hr⟩,
    rfl, hp, Nat.add_le_add_right (Nat.add_le_add_left hf 16) 16⟩

/-- A unit with what is kept of its Tomus server. -/
def tm (f : Tomus → Tomus) : Device :=
  let d := on []
  { d with tomus := f d.tomus }

/-- A unit with a long operation of the session. -/
def op (final : Option (Nat × Nat)) : Device := tm (fun x => { x with ops := [⟨{ ask 0 [] with tag := [] }, some 0, 0, final⟩] })

/-- A handshake over the SPI. -/
def hand : Handshake := ⟨.spi, [], [], [], 0, 0⟩

/-- A unit with that handshake and a host key. -/
def hands : Device := tm (fun x => { x with hands := [hand], keys := Vector.replicate 8 (some (3, [])) })

/-- A unit with a ring of one descriptor, of a buffer of 16 bytes, for the first recorder engine. -/
def recRing : Device :=
  memWrite steward 0x20000000 (bytesLE 4 16) (on [(Addr.BOB_BASE 2, 0x20000000), (Addr.BOB_LEN 2, 1)])

theorem length_eventBytes (e : Event) : (eventBytes e).length = 64 := by simp [eventBytes, zeros]

theorem length_events (l : List (Event × Nat)) : (l.flatMap (fun x => eventBytes x.1)).length = 64 * l.length := by
  induction l with
  | nil => rfl
  | cons x l ih => simp [length_eventBytes, ih, Nat.mul_add, Nat.add_comm]

/-- A request of `NOP` without a session. -/
def nop : Req :=
  { transport := 0, peer := .spi, version := 1, flags := 0, seq := 1, opcode := 0, params := [], tag := [] }

/-- Its packet. -/
def packet : List Byte := nop.head ++ bytesLE 4 (crc32c nop.head)

/-- A tag of more bytes than a tag has is none. -/
theorem long_tag (x : Session') (head : List Byte) : ¬ zeros 17 = tagOf x head :=
  fun h => absurd ((congrArg List.length h).le.trans (List.length_take_le ..)) (by decide : ¬ (zeros 17).length ≤ 16)

/-- A request of the session whose `SEQ` does not follow. -/
def late : Req :=
  let r : Req := { ask 0 [] with seq := 2, tag := [] }
  { r with tag := tagOf sess r.head }

theorem late_auth : late.auth = true := (by decide : Nat.testBit 0x40 6 = true)

/-! ### Ill-formed terms -/

/-- A width of three bytes is refused (R26). -/
theorem test_wf_width : Instr.wf (.registerWrite 4 .store 3 0x40000000 0 0) = false := by decide

/-- So are widths of reads. -/
theorem test_wf_read_widths :
    Instr.wf (.rcFieldRead 4 0 0x40000000 0) = false ∧ Instr.wf (.lowWordRead 4 16 0x40000000 0) = false := by decide

/-- An address of more than 32 bits is refused. -/
theorem test_wf_addresses :
    Instr.wf (.registerWrite 4 .store 4 0x100000000 0 0) = false ∧ Instr.wf (.rcFieldRead 4 4 0x100000000 0) = false ∧
    Instr.wf (.lowWordRead 4 4 0x100000000 0) = false ∧ Instr.wf (.targetNoResponse 4 true 0x100000000 0) = false ∧
    Instr.wf (.gfkInit 0x100000000 0) = false ∧ Instr.wf (.gfkStep 0 0x100000000 0 0) = false ∧
    Instr.wf (.gfkCmdStart 0 0 0x100000000 0) = false ∧ Instr.wf (.gfkCmdStop 0x100000000 0 0 0) = false ∧
    Instr.wf (.gfkCmdReset 0x100000000 0 0 0) = false ∧ Instr.wf (.gfkCmdReconOn 0x100000000 0 0 0) = false ∧
    Instr.wf (.gfkCmdReconOff 0x100000000 0 0 0) = false ∧ Instr.wf (.deadBusTimerExpiry 0x100000000 0 0 0) = false ∧
    Instr.wf (.liveBusTimerExpiry 0x100000000 0 0 0) = false ∧ Instr.wf (.syncHoldExpiry 0x100000000 0 0 0) = false ∧
    Instr.wf (.closeTimeout 0x100000000 0 0 0) = false ∧ Instr.wf (.syncTimeout 0x100000000 0 0 0) = false ∧
    Instr.wf (.rampComplete 0x100000000 0 0 0) = false ∧ Instr.wf (.frtRecoverExpiry 0x100000000 0 0 0) = false ∧
    Instr.wf (.currentLimitHoldExit 0x100000000 0 0 0) = false ∧ Instr.wf (.reconDelayExpiry 0x100000000 0 0 0) = false ∧
    Instr.wf (.loomCbAppend 0 0 0x100000000 0 0) = false := by decide

/-- A count or a number that its field cannot hold is refused. -/
theorem test_wf_numbers :
    Instr.wf (.sramScrubPass 0x80001 0 0) = false ∧ Instr.wf (.fastPathWord 0 0x100 0) = false ∧
    Instr.wf (.setpRisingEdge 0x100000000 0) = false ∧ Instr.wf (.retryWaitExpiry 0 (some 24) 0) = false ∧
    Instr.wf (.gateTestDone (some 0x10000) 0) = false ∧ Instr.wf (.overlayLegWrite 0 4 0) = false ∧
    Instr.wf (.stationFrameRx 4 0 [] 0) = false ∧ Instr.wf (.bridleInputChange 22 .zero 0) = false ∧
    Instr.wf (.senTestPulse 4 0) = false ∧ Instr.wf (.bridleCfgWrite 2 0 0) = false ∧
    Instr.wf (.descriptorComplete 0 (some 16) none none 0) = false ∧ Instr.wf (.hkConversionDone 0x100000 0) = false ∧
    Instr.wf (.hkInjectedTrigger 5 0) = false ∧ Instr.wf (.hkResultStale 48 0) = false ∧
    Instr.wf (.calStart 128 0) = false ∧ Instr.wf (.lOperationDone 0x10000 0 0) = false := by decide

/-- So is an instant that lies after the command's own. -/
theorem test_wf_instants :
    Instr.wf (.stuckRecovery 0 2 1) = false ∧ Instr.wf (.desatTrip 0 2 1) = false ∧
    Instr.wf (.filutFrameRx [] 2 1) = false := by decide

/-- And an operand of the ledger's request frames (R213). -/
theorem test_wf_ledger :
    Instr.wf (.lreqOpen 0 0 [] 0) = false ∧ Instr.wf (.lreqClose 0x10000 0 0) = false ∧
    Instr.wf (.lreqAckRecords 0x10000 0 0) = false ∧ Instr.wf (.lreqSetField 0 0x100 0 0 0) = false ∧
    Instr.wf (.lreqClearCounters 0x10000 0 0) = false ∧ Instr.wf (.lreqCalBegin 0x10000 0 0) = false ∧
    Instr.wf (.lreqCalEnd 0x10000 0 0) = false := by decide

/-- And a frame or a packet that its transport cannot carry. -/
theorem test_wf_frames :
    Instr.wf (.ethFrameRx 0 [] 0 0 0) = false ∧ Instr.wf (.canFrameRx 0 0x800 false true true [] 0) = false ∧
    Instr.wf (.ptpSyncRx 0 [] 0 0) = false ∧ Instr.wf (.ptpAnnounceRx 0 [] 0) = false ∧
    Instr.wf (.ptpPdelayRx 0 [] 0 0 0) = false ∧ Instr.wf (.ethLinkChange 0 true 4 0) = false ∧
    Instr.wf (.spiFrame [0, 0] 4104 0) = true ∧ Instr.wf (.sessionIdleTimeout (.can 2) 0) = false := by decide

/-- And a request with a field wider than R327 gives it. -/
theorem test_wf_request :
    Instr.wf (.ping { nop with version := 0x100 } 0) = false ∧ Instr.wf (.memRead { nop with seq := 0x10000 } 0) = false ∧
    Instr.wf (.thermalRead { nop with transport := 5 } 0) = false ∧
    Instr.wf (.selftest { nop with peer := .udp (2 ^ 32) 0 } 0) = false := by decide

/-! ### Values of the manual -/

/-- R430: the reset values of `CLK_CFG`, `CLK_LOCKF` and `CLK_LOCKF_T`. -/
theorem test_reset_clock :
    rd State.reset.dev 0x40010000 = 0xA ∧ rd State.reset.dev 0x40010008 = 0x02BC00FA ∧
    rd State.reset.dev 0x4001000C = 0x64 := by decide +kernel

/-- The check value of CRC-32C over the nine digits. -/
theorem test_crc32c : crc32c [0x31, 0x32, 0x33, 0x34, 0x35, 0x36, 0x37, 0x38, 0x39] = 0xE3069283 := by decide +kernel

/-- R26: an access of 8 bits to a register of a block fails with cause 6 and changes nothing. -/
theorem test_narrow_register : accessCause (on []) 4 true 1 0x40000040 = 6 := by decide +kernel

/-- R26: the boot ROM takes no store, and an address of no target none at all. -/
theorem test_unmapped : accessCause (on []) 4 true 4 0 = 2 ∧ accessCause (on []) 4 false 4 0x50000000 = 1 := by decide +kernel

/-- R30: an atomic addition wraps at 32 bits, and the signed and the unsigned minimum of −1 and 1 differ. -/
theorem test_amo_wraps : amoValue .add 0xFFFFFFFF 2 = 1 ∧ amoValue .min 0xFFFFFFFF 1 = 0xFFFFFFFF ∧
    amoValue .minu 0xFFFFFFFF 1 = 1 := by decide

/-! ### Witnesses -/

/-- Every clause of `Obligations.StepRunsTheFrontCommand` that has hypotheses meets them. -/
theorem witness_StepRunsTheFrontCommand :
  (∃ (c : Instr) (s : State) (rest : List Instr),
    s.pending = c :: rest) ∧
  (∃ (s : State),
    s.pending = []) :=
  ⟨⟨.loomKick 0, ⟨on [], [.loomKick 0]⟩, [], by rfl⟩,
   ⟨⟨on [], []⟩, by rfl⟩⟩

/-- Every clause of `Obligations.EveryStepKeepsTheCanonicalForm` that has hypotheses meets them. -/
theorem witness_EveryStepKeepsTheCanonicalForm :
  (∃ (s s' : State),
    s.dev.canonical = true ∧ step s = .next s') :=
  ⟨⟨on [], []⟩, ⟨on [], []⟩, by decide +kernel, rfl⟩

/-- Every clause of `Obligations.AHighWordComesFromTheShadow` that has hypotheses meets them. -/
theorem witness_AHighWordComesFromTheShadow :
  (∃ (s : State) (t : Nat) (d : Device) (i : Fin 9) (a b : Nat),
    d = at50 s.dev t ∧ target a = .block b ∧ isHigh a = true ∧ accessCause d i false 4 a = 0) :=
  ⟨⟨on [], []⟩, 0, _, 4, 0x40000008, 0x40000000, rfl, by decide +kernel, by decide +kernel, by decide +kernel⟩

/-- Every clause of `Obligations.ReservationsAndAtomics` that has hypotheses meets them. -/
theorem witness_ReservationsAndAtomics :
  (∃ (i : Fin 9),
    i.1 < 5) ∧
  (∃ (s : State) (t : Nat) (d : Device) (i : Fin 9) (op : BusOp) (a : Nat),
    d = at50 s.dev t ∧ op ≠ .store ∧ op ≠ .lr ∧ op ≠ .sc ∧ i.1 < 5 ∧ amoTarget i (target a) = true ∧ accessCause d i true 4 a = 0) ∧
  (∃ (s : State) (t : Nat) (d : Device) (i : Fin 9) (k : Fin 5) (a : Nat),
    d = at50 s.dev t ∧ i.1 = k.1 ∧ amoTarget i (target a) = true ∧ accessCause d i false 4 a = 0) ∧
  (∃ (s : State) (t : Nat) (d : Device) (i : Fin 9) (k : Fin 5) (a : Nat),
    d = at50 s.dev t ∧ i.1 = k.1 ∧ amoTarget i (target a) = true ∧ accessCause d i true 4 a = 0) ∧
  (∃ (d : Device) (own : Option (Fin 5)) (a n g : Nat) (c : Fin 5),
    0 < n ∧ d.resv[c.1] = some g ∧ (own ≠ some c ∧ (∃ x, a ≤ x ∧ x < a + n ∧ x / 8 = g))) ∧
  (∃ (d : Device) (own : Option (Fin 5)) (a n g : Nat) (c : Fin 5),
    0 < n ∧ d.resv[c.1] = some g ∧ (own = some c ∨ (∀ x, a ≤ x → x < a + n → x / 8 ≠ g))) ∧
  (∃ (s : State) (t : Nat) (d : Device) (i : Fin 9) (width a : Nat),
    d = at50 s.dev t ∧ target a ≠ .mram ∧ ((∀ b, target a ≠ .block b)) ∧ accessCause d i true width a = 0) :=
  ⟨⟨4, by decide +kernel⟩,
   ⟨⟨on [], []⟩, 0, _, 4, .add, 0x20000000, rfl, by decide +kernel, by decide +kernel, by decide +kernel, by decide +kernel, by decide +kernel, by decide +kernel⟩,
   ⟨⟨on [], []⟩, 0, _, 0, 0, 0x20000000, rfl, by decide +kernel, by decide +kernel, by decide +kernel⟩,
   ⟨⟨on [], []⟩, 0, _, 0, 0, 0x20000000, rfl, by decide +kernel, by decide +kernel, by decide +kernel⟩,
   ⟨{ on [] with resv := Vector.replicate 5 (some 1) }, none, 8, 8, 1, 0, by decide +kernel, by decide +kernel, ⟨by decide, 8, by decide, by decide, by decide⟩⟩,
   ⟨{ on [] with resv := Vector.replicate 5 (some 1) }, some 0, 8, 8, 1, 0, by decide +kernel, by decide +kernel, Or.inl rfl⟩,
   ⟨⟨on [], []⟩, 0, _, 4, 8, 0x20000008, rfl, by decide +kernel, (fun b => by rw [show target 0x20000008 = .sram by decide]; exact nofun), by decide +kernel⟩⟩

/-- Every clause of `Obligations.TheThermalWarning` that has hypotheses meets them. -/
theorem witness_TheThermalWarning :
  (∃ (d : Device) (n : Fin 24) (h : Nat),
    legHarness d n.1 = some h ∧ rdB d Addr.TH_WARN n.1 = false ∧ (rdF d (Addr.TH_TJLIM h) 0 16 : Int) * sixteenth < junction d n) ∧
  (∃ (d : Device) (n : Fin 24) (h : Nat),
    legHarness d n.1 = some h ∧ rdB d Addr.TH_WARN n.1 = false ∧ junction d n ≤ (rdF d (Addr.TH_TJLIM h) 0 16 : Int) * sixteenth) ∧
  (∃ (d : Device) (n : Fin 24) (h : Nat),
    legHarness d n.1 = some h ∧ rdB d Addr.TH_WARN n.1 = true ∧ junction d n ≤ ((rdF d (Addr.TH_TJLIM h) 0 16 : Int) - 2 * 16) * sixteenth) ∧
  (∃ (d : Device) (n : Fin 24) (h : Nat),
    legHarness d n.1 = some h ∧ rdB d Addr.TH_WARN n.1 = true ∧ ((rdF d (Addr.TH_TJLIM h) 0 16 : Int) - 2 * 16) * sixteenth < junction d n) ∧
  (∃ (s : State) (t : Nat) (d : Device),
    d = at50 s.dev t ∧ domOn d 1 = true ∧ rdB d Addr.TH_CFG 0 = true) :=
  ⟨⟨hot 0, 0, 0, by decide +kernel, by decide +kernel, by decide +kernel⟩,
   ⟨on [(0x40000040, 0)], 0, 0, by decide +kernel, by decide +kernel, by decide +kernel⟩,
   ⟨on [(0x40000040, 0), (Addr.TH_WARN, 1), (Addr.TH_TJLIM 0, 0x9601900)], 0, 0, by decide +kernel, by decide +kernel, by decide +kernel⟩,
   ⟨wrN (hot 0) Addr.TH_WARN 1, 0, 0, by decide +kernel, by decide +kernel, by decide +kernel⟩,
   ⟨⟨on [(Addr.TH_CFG, 1)], []⟩, 0, _, rfl, by decide +kernel, by decide +kernel⟩⟩

/-- Every clause of `Obligations.TheSramReadsBackWhatWasStored` that has hypotheses meets them. -/
theorem witness_TheSramReadsBackWhatWasStored :
  (∃ (s s' : State) (t : Nat) (i : Fin 9) (width a x : Nat) (v : DWord),
    target a = .sram ∧ accessCause (at50 s.dev t) i true width a = 0 ∧ exec (.registerWrite i .store width a v t) s = .next s' ∧ (x < a ∨ a + width ≤ x)) ∧
  (∃ (s s' : State) (t u : Nat) (i j : Fin 9) (width a : Nat) (v : DWord),
    target a = .sram ∧ accessCause (at50 s.dev t) i true width a = 0 ∧ exec (.registerWrite i .store width a v t) s = .next s' ∧ accessCause (at50 s'.dev u) j false width a = 0) :=
  ⟨⟨⟨on [], []⟩, _, 0, 4, 4, 0x20000000, 0, 5, by decide +kernel, by decide +kernel, rfl, by decide +kernel⟩,
   ⟨⟨on [], []⟩, _, 0, 0, 4, 0, 4, 0x20000000, 5, by decide +kernel, by decide +kernel, rfl, by decide +kernel⟩⟩

/-- Every clause of `Obligations.AccessesThroughTheFabric` that has hypotheses meets them. -/
theorem witness_AccessesThroughTheFabric :
  (∃ (s : State) (t : Nat) (d : Device) (i : Fin 9) (a b : Nat) (v : DWord) (r : RegRow),
    d = at50 s.dev t ∧ target a = .block b ∧ RegMap.row? a = some r ∧ r.kind ≠ .committed ∧ r.kind ≠ .config ∧ accessCause d i true 4 a = 0 ∧ commandWrite i a (v.setWidth 32) t d = none) ∧
  (∃ (s : State) (t : Nat) (d : Device) (i : Fin 9) (width a : Nat),
    d = at50 s.dev t ∧ target a = .sram ∧ accessCause d i true width a = 0) ∧
  (∃ (s : State) (t : Nat) (d : Device) (i : Fin 9) (width a : Nat),
    d = at50 s.dev t ∧ accessCause d i true width a = 1) ∧
  (∃ (s : State) (t : Nat) (d : Device) (i : Fin 9) (a b : Nat) (r : RegRow),
    d = at50 s.dev t ∧ target a = .block b ∧ RegMap.row? a = some r ∧ r.rc = true ∧ isLow a = false ∧ isHigh a = false ∧ ((i = steward ∨ a / 0x10000 ≠ 0x4000)) ∧ accessCause d i false 4 a = 0) ∧
  (∃ (s : State) (t : Nat) (d : Device) (i : Fin 9) (a b : Nat) (r : RegRow),
    d = at50 s.dev t ∧ target a = .block b ∧ RegMap.row? a = some r ∧ r.rc = false ∧ isLow a = true ∧ isHigh a = false ∧ accessCause d i false 4 a = 0) ∧
  (∃ (s : State) (t : Nat) (d : Device),
    d = at50 s.dev t ∧ domOn d 1 = true ∧ rdB d Addr.SYS_BUSERR_INFO 31 = false) ∧
  (∃ (s : State) (t : Nat) (d : Device) (single : Nat),
    d = at50 s.dev t ∧ domOn d 1 = true ∧ 0 < single ∧ single < fieldN d 0x0102) ∧
  (∃ (s : State) (t : Nat) (d : Device) (double : Nat),
    d = at50 s.dev t ∧ domOn d 1 = true ∧ 0 < double ∧ 0 < fieldN d 0x0102) ∧
  (∃ (s : State) (t : Nat) (d : Device) (v : Word),
    d = at50 s.dev t ∧ domOn d 1 = true ∧ bit v 0 = true ∧ transferNow d = false) ∧
  (∃ (s : State) (t : Nat) (d : Device) (v : Word),
    d = at50 s.dev t ∧ domOn d 1 = true ∧ bit v 0 = true ∧ transferNow d = true) :=
  ⟨⟨⟨on [], []⟩, 0, _, 4, Addr.SYS_BUSERR_INFO, 0x40000000, 5, _, rfl, by decide +kernel, rfl, by decide +kernel, by decide +kernel, by decide +kernel, by decide +kernel⟩,
   ⟨⟨on [], []⟩, 0, _, 4, 4, 0x20000000, rfl, by decide +kernel, by decide +kernel⟩,
   ⟨⟨on [], []⟩, 0, _, 4, 4, 0x30000000, rfl, by decide +kernel⟩,
   ⟨⟨on [], []⟩, 0, _, 4, Addr.SYS_BUSERR_CNT, 0x40000000, _, rfl, by decide +kernel, rfl, by decide +kernel, by decide +kernel, by decide +kernel, by decide +kernel, by decide +kernel⟩,
   ⟨⟨on [], []⟩, 0, _, 4, Addr.SYS_SERIAL_LO, 0x40000000, _, rfl, by decide +kernel, rfl, by decide +kernel, by decide +kernel, by decide +kernel, by decide +kernel⟩,
   ⟨⟨on [], []⟩, 0, _, rfl, by decide +kernel, by decide +kernel⟩,
   ⟨⟨on [], []⟩, 0, _, 1, rfl, by decide +kernel, by decide +kernel, by decide +kernel⟩,
   ⟨⟨on [], []⟩, 0, _, 1, rfl, by decide +kernel, by decide +kernel, by decide +kernel⟩,
   ⟨⟨runs [], []⟩, 0, _, 1, rfl, by decide +kernel, by decide +kernel, by decide +kernel⟩,
   ⟨⟨on [], []⟩, 0, _, 1, rfl, by decide +kernel, by decide +kernel, by decide +kernel⟩⟩

/-- Every clause of `Obligations.TheTasksOfTheLoom` that has hypotheses meets them. -/
theorem witness_TheTasksOfTheLoom :
  (∃ (s : State) (t : Nat) (d : Device),
    d = at50 s.dev t ∧ domOn d 1 = true ∧ domOn d 5 = true) ∧
  (∃ (s : State) (t : Nat) (d : Device) (task core : Fin 4) (ws : List Word),
    d = at50 s.dev t ∧ domOn d 1 = true ∧ d.loom.latched.find? (fun l => l.1 == task.1 && l.2.1 == core.1) = some (task.1, core.1, ws) ∧ (ws.getD 1 0).getLsbD 4 = false) ∧
  (∃ (s : State) (t : Nat) (d : Device) (core task : Fin 4),
    d = at50 s.dev t ∧ domOn d 1 = true ∧ loomMode d ≠ .stop ∧ (d.loom.tasks[task.1]).active = true ∧ (taskCores d task.1).testBit core.1 = true ∧ coreHalted d core = false ∧ d.loom.overrun = none) ∧
  (∃ (s : State) (t : Nat) (d : Device) (core task : Fin 4) (a : Nat),
    d = at50 s.dev t ∧ domOn d 1 = true ∧ coreHalted d core = false ∧ loomMode d ≠ .stop ∧ task ≠ 3 ∧ (d.loom.tasks[task.1]).active = true ∧ (d.loom.tasks[task.1]).released.testBit core.1 = true ∧ (d.loom.tasks[task.1]).done.testBit core.1 = false ∧ committedReg a = true ∧ (d.loom.tasks[task.1]).buffer.length < 256) ∧
  (∃ (s : State) (t : Nat) (d : Device),
    d = at50 s.dev t ∧ domOn d 1 = true) ∧
  (∃ (s : State) (t : Nat) (d : Device),
    d = at50 s.dev t ∧ domOn d 1 = true) ∧
  (∃ (s : State) (t : Nat) (d : Device),
    d = at50 s.dev t ∧ domOn d 1 = true) :=
  ⟨⟨⟨on [], []⟩, 0, _, rfl, by decide +kernel, by decide +kernel⟩,
   ⟨⟨lm (runs []) (fun l => { l with latched := [(0, 0, [1, 2])] }), []⟩, 0, _, 0, 0, [1, 2], rfl, by decide +kernel, by decide +kernel, by decide +kernel⟩,
   ⟨⟨live, []⟩, 0, _, 0, 0, rfl, by decide +kernel, by decide +kernel, by decide +kernel, by decide +kernel, by decide +kernel, by decide +kernel⟩,
   ⟨⟨live, []⟩, 0, _, 0, 0, Addr.HK_INJ_TRIG, rfl, by decide +kernel, by decide +kernel, by decide +kernel, by decide +kernel, by decide +kernel, by decide +kernel, by decide +kernel, by decide +kernel, by decide +kernel⟩,
   ⟨⟨on [], []⟩, 0, _, rfl, by decide +kernel⟩,
   ⟨⟨on [], []⟩, 0, _, rfl, by decide +kernel⟩,
   ⟨⟨on [], []⟩, 0, _, rfl, by decide +kernel⟩⟩

/-- Every clause of `Obligations.TheModesOfTheLoom` that has hypotheses meets them. -/
theorem witness_TheModesOfTheLoom :
  (∃ (s : State) (t : Nat) (d : Device),
    d = at50 s.dev t ∧ domOn d 1 = true ∧ unitReady d = true ∧ rdB d Addr.LOOM_CFG 0 = true ∧ d.cfg.degraded = false ∧ d.loom.everRun = false) ∧
  (∃ (s : State) (t : Nat) (d : Device),
    d = at50 s.dev t ∧ domOn d 1 = true ∧ loomMode d = .stop ∧ d.loom.change = none ∧ mayRun d = true) ∧
  (∃ (s : State) (t : Nat) (d : Device) (c : RunChange),
    d = at50 s.dev t ∧ domOn d 1 = true ∧ domOn d 5 = true ∧ d.loom.change = some c ∧ c.loaded = true ∧ loomMode d = .stop) ∧
  (∃ (s : State) (t : Nat) (d : Device),
    d = at50 s.dev t ∧ domOn d 1 = true ∧ loomMode d ≠ .stop) ∧
  (∃ (s : State) (t : Nat) (d : Device) (c : RunChange),
    d = at50 s.dev t ∧ domOn d 1 = true ∧ loomMode d = .stop ∧ d.loom.change = some c) ∧
  (∃ (s : State) (t : Nat) (d : Device),
    d = at50 s.dev t ∧ domOn d 1 = true ∧ loomMode d = .run ∧ rdB d Addr.LOOM_CFG 1 = true ∧ redState d ≠ 2) ∧
  (∃ (s : State) (t : Nat) (d : Device),
    d = at50 s.dev t ∧ domOn d 1 = true ∧ loomMode d = .hold) :=
  ⟨⟨⟨on [(Addr.LOOM_CFG, 1)], []⟩, 0, _, rfl, by decide +kernel, by decide +kernel, by decide +kernel, by decide +kernel, by decide +kernel⟩,
   ⟨⟨on [], []⟩, 0, _, rfl, by decide +kernel, by decide +kernel, by decide +kernel, by decide +kernel⟩,
   ⟨⟨lm (on []) (fun l => { l with change := some ⟨2, true⟩ }), []⟩, 0, _, ⟨2, true⟩, rfl, by decide +kernel, by decide +kernel, by decide +kernel, by decide +kernel, by decide +kernel⟩,
   ⟨⟨runs [], []⟩, 0, _, rfl, by decide +kernel, by decide +kernel⟩,
   ⟨⟨lm (on []) (fun l => { l with change := some ⟨2, true⟩ }), []⟩, 0, _, ⟨2, true⟩, rfl, by decide +kernel, by decide +kernel, by decide +kernel⟩,
   ⟨⟨runs [(Addr.LOOM_CFG, 2)], []⟩, 0, _, rfl, by decide +kernel, by decide +kernel, by decide +kernel, by decide +kernel⟩,
   ⟨⟨on [(Addr.LOOM_MODE, 2)], []⟩, 0, _, rfl, by decide +kernel, by decide +kernel⟩⟩

/-- Every clause of `Obligations.WhatStopAndHoldLeave` that has hypotheses meets them. -/
theorem witness_WhatStopAndHoldLeave :
  (∃ (d : Device),
    d.cfg.applyAt = none) ∧
  (∃ (cause : Nat),
    cause < 256) ∧
  (∃ (d : Device),
    loomMode d = .run ∧ rdB d Addr.LOOM_CFG 1 = true ∧ redState d ≠ 2) :=
  ⟨⟨runs [], by decide +kernel⟩,
   ⟨255, by decide +kernel⟩,
   ⟨runs [(Addr.LOOM_CFG, 2)], by decide +kernel, by decide +kernel, by decide +kernel⟩⟩

/-- Every clause of `Obligations.OverrunsFaultsAndBreaks` that has hypotheses meets them. -/
theorem witness_OverrunsFaultsAndBreaks :
  (∃ (s : State) (t : Nat) (d : Device) (i : LoomImage),
    d = at50 s.dev t ∧ domOn d 1 = true ∧ d.loom.image = some i ∧ i.t3Wdog ≠ 0 ∧ loomMode d = .run ∧ d.loom.overrun = none ∧ d.loom.kickAt + us i.t3Wdog ≤ t ∧ ((∀ k : Fin 4, (d.loom.tasks[k.1]).active = false)) ∧ bitsOf 4 (taskCores d 3) ≠ [] ∧ (d.loom.tasks[3]).tolOk = true ∧ d.loom.t3Missed = false) ∧
  (∃ (s : State) (t : Nat) (d : Device) (i : LoomImage),
    d = at50 s.dev t ∧ domOn d 1 = true ∧ d.loom.image = some i ∧ i.t3Wdog ≠ 0 ∧ loomMode d = .run ∧ d.loom.overrun = none ∧ d.loom.kickAt + us i.t3Wdog ≤ t ∧ ((∀ k : Fin 4, (d.loom.tasks[k.1]).active = false)) ∧ bitsOf 4 (taskCores d 3) ≠ [] ∧ (((d.loom.tasks[3]).tolOk = false ∨ d.loom.t3Missed = true))) ∧
  (∃ (s : State) (t : Nat) (d : Device),
    d = at50 s.dev t ∧ domOn d 1 = true ∧ loomMode d = .run ∧ d.loom.overrun = none ∧ (d.loom.tasks[2]).active = true ∧ taskComplete d 2 = false ∧ doneLimit (taskDeadline d 2) ≤ t ∧ (d.loom.tasks[2]).extended = false ∧ (d.loom.tasks[2]).tolOk = true ∧ (d.loom.tasks[2]).tolUsed = false) ∧
  (∃ (s : State) (t : Nat) (d : Device) (task : Fin 4),
    d = at50 s.dev t ∧ domOn d 1 = true ∧ loomMode d = .run ∧ d.loom.overrun = none ∧ task.1 < 2 ∧ (d.loom.tasks[task.1]).active = true ∧ taskComplete d task = false ∧ doneLimit (taskDeadline d task) ≤ t ∧ (d.loom.tasks[task.1]).extended = false) ∧
  (∃ (s : State) (t : Nat) (d : Device) (o : Overrun),
    d = at50 s.dev t ∧ domOn d 1 = true ∧ d.loom.overrun = some o ∧ o.finished = true) ∧
  (∃ (s : State) (t : Nat) (d : Device),
    d = at50 s.dev t ∧ domOn d 1 = true ∧ loomMode d ≠ .stop) ∧
  (∃ (s : State) (t : Nat) (d : Device),
    d = at50 s.dev t ∧ domOn d 1 = true ∧ loomMode d = .run ∧ rdB d Addr.LOOM_CFG 1 = true ∧ rdB d Addr.LOOM_CFG 2 = true) ∧
  (∃ (s : State) (t : Nat) (d : Device),
    d = at50 s.dev t ∧ domOn d 1 = true ∧ loomMode d = .run ∧ rdB d Addr.LOOM_CFG 2 = false) :=
  ⟨⟨⟨tsk (runs []) 3 (fun k => { k with tolOk := true }), []⟩, us 1000, _, img, rfl, by decide +kernel, by decide +kernel, by decide +kernel, by decide +kernel, by decide +kernel, by decide +kernel, by decide +kernel, by decide +kernel, by decide +kernel, by decide +kernel⟩,
   ⟨⟨runs [], []⟩, us 1000, _, img, rfl, by decide +kernel, by decide +kernel, by decide +kernel, by decide +kernel, by decide +kernel, by decide +kernel, by decide +kernel, by decide +kernel, by decide +kernel⟩,
   ⟨⟨tsk live 2 (fun k => { k with active := true, tolOk := true }), []⟩, us 100, _, rfl, by decide +kernel, by decide +kernel, by decide +kernel, by decide +kernel, by decide +kernel, by decide +kernel, by decide +kernel, by decide +kernel, by decide +kernel⟩,
   ⟨⟨live, []⟩, us 100, _, 0, rfl, by decide +kernel, by decide +kernel, by decide +kernel, by decide +kernel, by decide +kernel, by decide +kernel, by decide +kernel, by decide +kernel⟩,
   ⟨⟨lm (runs []) (fun l => { l with overrun := some ⟨0, 0, true⟩ }), []⟩, 0, _, ⟨0, 0, true⟩, rfl, by decide +kernel, by decide +kernel, by decide +kernel⟩,
   ⟨⟨runs [], []⟩, 0, _, rfl, by decide +kernel, by decide +kernel⟩,
   ⟨⟨runs [(Addr.LOOM_CFG, 6)], []⟩, 0, _, rfl, by decide +kernel, by decide +kernel, by decide +kernel, by decide +kernel⟩,
   ⟨⟨runs [(Addr.LOOM_CFG, 0)], []⟩, 0, _, rfl, by decide +kernel, by decide +kernel, by decide +kernel⟩⟩

/-- Every clause of `Obligations.TimersOverlaysStationsAndExchange` that has hypotheses meets them. -/
theorem witness_TimersOverlaysStationsAndExchange :
  (∃ (s : State) (t : Nat) (d : Device) (n : Fin 24) (h : Fin 4),
    d = at50 s.dev t ∧ domOn d 1 = true ∧ harOf d n.1 = some h ∧ loomMode d = .hold ∧ d.loom.overlay[h.1] = true) ∧
  (∃ (s : State) (t : Nat) (d : Device) (h : Fin 4),
    d = at50 s.dev t ∧ domOn d 1 = true ∧ d.loom.overlay[h.1] = true ∧ overlayOk d h.1 = false) ∧
  (∃ (s : State) (t : Nat) (d : Device) (i : Fin 64),
    d = at50 s.dev t ∧ domOn d 1 = true ∧ (d.loom.timers[i.1]).runFrom = none) ∧
  (∃ (s : State) (t : Nat) (d : Device) (i : Fin 64),
    d = at50 s.dev t ∧ domOn d 1 = true ∧ tmrPreset d i t ≤ tmrElapsed d i t) ∧
  (∃ (s : State) (t : Nat) (d : Device),
    d = at50 s.dev t ∧ domOn d 1 = true ∧ domOn d 5 = true ∧ xchgState d = 4 ∧ bothEnd d = true) ∧
  (∃ (s : State) (t : Nat) (d : Device) (src : Nat) (bs : List Byte) (k : Fin 16) (e : StationEntry),
    d = at50 s.dev t ∧ domOn d 1 = true ∧ domOn d 6 = true ∧ fin? 16 (sliceLE bs 3 1) = some k ∧ stationEntry d k.1 = some e ∧ e.transport = 3 ∧ sliceLE bs 16 1 = e.inWords ∧ 24 + 4 * e.inWords = bs.length ∧ sliceLE bs (20 + 4 * e.inWords) 4 = crc32c (bs.take (20 + 4 * e.inWords)) ∧ sliceLE bs 0 2 = 0x4657 ∧ sliceLE bs 2 1 = 1 ∧ src / 2 = e.address / 2 ∧ laterSeq 32 (d.loom.stations[k.1]).seqIn (sliceLE bs 4 4) = true) ∧
  (∃ (s : State) (t : Nat) (d : Device) (k : Fin 16) (e : StationEntry),
    d = at50 s.dev t ∧ domOn d 1 = true ∧ stationEntry d k.1 = some e ∧ (d.loom.stations[k.1]).lastRx.getD 0 + us e.timeout ≤ t) :=
  ⟨⟨⟨lm (on [(Addr.LOOM_MODE, 2), (0x40000040, 0)]) (fun l => { l with overlay := Vector.replicate 4 true }), []⟩, 0, _, 0, 0, rfl, by decide +kernel, by decide +kernel, by decide +kernel, by decide +kernel⟩,
   ⟨⟨lm (on []) (fun l => { l with overlay := Vector.replicate 4 true }), []⟩, 0, _, 0, rfl, by decide +kernel, by decide +kernel, by decide +kernel⟩,
   ⟨⟨on [], []⟩, 0, _, 0, rfl, by decide +kernel, by decide +kernel⟩,
   ⟨⟨on [], []⟩, 0, _, 0, rfl, by decide +kernel, by decide +kernel⟩,
   ⟨⟨on [(Addr.LOOM_XCHG_STAT, 4)], []⟩, 0, _, rfl, by decide +kernel, by decide +kernel, by decide +kernel, by decide +kernel⟩,
   ⟨⟨runs [], []⟩, 0, _, 4, (let h := [0x57, 0x46, 1, 1, 0, 0, 0, 0] ++ zeros 8 ++ [1, 0, 0, 0, 7, 0, 0, 0]; h ++ bytesLE 4 (crc32c h)), 1, ⟨1, 3, 1, 1, 1, 4, 100⟩, rfl, by decide +kernel, by decide +kernel, by decide +kernel, by decide +kernel, by decide +kernel, by decide +kernel, by decide +kernel, by decide +kernel, by decide +kernel, by decide +kernel, by decide +kernel, by decide +kernel⟩,
   ⟨⟨runs [], []⟩, us 100, _, 1, ⟨1, 3, 1, 1, 1, 4, 100⟩, rfl, by decide +kernel, by decide +kernel, by decide +kernel⟩⟩

/-- Every clause of `Obligations.OwnershipAndIslands` that has hypotheses meets them. -/
theorem witness_OwnershipAndIslands :
  (∃ (s : State) (t : Nat) (d : Device) (mode : Fin 4),
    d = at50 s.dev t ∧ domOn d 1 = true ∧ rdB d Addr.GATE_OWN_STAT 3 = false ∧ ((mode.1 = 1 ∧ ownMode d = 0 ∨ mode.1 = 0 ∧ ownMode d = 1 ∨ mode.1 = 2 ∧ ownMode d = 1))) ∧
  (∃ (s : State) (t : Nat) (d : Device),
    d = at50 s.dev t ∧ domOn d 1 = true ∧ rdB d Addr.GATE_OWN_STAT 3 = false ∧ ownMode d = 2) ∧
  (∃ (s : State) (t : Nat) (d : Device),
    d = at50 s.dev t ∧ domOn d 1 = true ∧ rdB d Addr.GATE_OWN_STAT 3 = true) ∧
  (∃ (s : State) (t : Nat) (d : Device),
    d = at50 s.dev t ∧ domOn d 1 = true ∧ rdB d Addr.GATE_OWN_STAT 3 = true ∧ allGatesOut d = true ∧ redState (ownForce d 1 t) ≠ 4 ∧ (ownForce d 1 t).red.dropOwn = false) ∧
  (∃ (s : State) (t : Nat) (d : Device) (c : Fin 48),
    d = at50 s.dev t ∧ (d.gchan[c.1]).supplyUp = true ∧ (d.gchan[c.1]).entry = .none) ∧
  (∃ (s : State) (t : Nat) (d : Device) (c : Fin 48) (at' : Nat),
    d = at50 s.dev t ∧ (d.gchan[c.1]).entryAt = some at' ∧ paired d = true ∧ at' + us 18 ≤ t) ∧
  (∃ (s : State) (t : Nat) (d : Device) (c : Fin 48) (h : Fin 4),
    d = at50 s.dev t ∧ domOn d 1 = true ∧ chanHar (raise (wrB d (Addr.GATE_CSTAT c.1) 7 false) .gateLink c.1) c.1 = some h) ∧
  (∃ (s : State) (t : Nat) (d : Device) (c : Fin 48),
    d = at50 s.dev t ∧ chanHar d c.1 = none) :=
  ⟨⟨⟨on [], []⟩, 0, _, 1, rfl, by decide +kernel, by decide +kernel, by decide +kernel⟩,
   ⟨⟨on [(Addr.GATE_OWN_STAT, 2)], []⟩, 0, _, rfl, by decide +kernel, by decide +kernel, by decide +kernel⟩,
   ⟨⟨on [(Addr.GATE_OWN_STAT, 10)], []⟩, 0, _, rfl, by decide +kernel, by decide +kernel⟩,
   ⟨⟨on [(Addr.GATE_OWN_STAT, 10)], []⟩, 0, _, rfl, by decide +kernel, by decide +kernel, by decide +kernel, by decide +kernel, by decide +kernel⟩,
   ⟨⟨chan 0 2 (fun g => { g with supplyUp := true }), []⟩, 0, _, 0, rfl, by decide +kernel, by decide +kernel⟩,
   ⟨⟨wrN (chan 0 2 (fun g => { g with entryAt := some 0 })) Addr.RED_CFG 1, []⟩, us 20, _, 0, 0, rfl, by decide +kernel, by decide +kernel, by decide +kernel⟩,
   ⟨⟨on [(0x40000040, 0)], []⟩, 0, _, 0, 0, rfl, by decide +kernel, by decide +kernel⟩,
   ⟨⟨on [], []⟩, 0, _, 0, rfl, by decide +kernel⟩⟩

/-- Every clause of `Obligations.TheProtectionsOfAGateChannel` that has hypotheses meets them. -/
theorem witness_TheProtectionsOfAGateChannel :
  (∃ (s : State) (t : Nat) (d : Device) (c : Fin 48),
    d = at50 s.dev t ∧ d.gtest = none ∧ rdB d (Addr.GATE_CSTAT c.1) 5 = true ∧ cstate d c.1 = .off) ∧
  (∃ (s : State) (t : Nat) (d : Device) (c : Fin 48),
    d = at50 s.dev t ∧ d.gtest = none ∧ rdB d (Addr.GATE_CSTAT c.1) 5 = false ∧ cstate d c.1 ≠ .on) ∧
  (∃ (s : State) (t : Nat) (d : Device) (c : Fin 48),
    d = at50 s.dev t ∧ (d.gchan[c.1]).supplyUp = true ∧ (d.gchan[c.1]).entry ≠ .none ∧ chanHar d c.1 = none) ∧
  (∃ (s : State) (t : Nat) (d : Device) (c : Fin 48),
    d = at50 s.dev t ∧ cstate d c.1 = .on ∧ (d.gchan[c.1]).lastOn + ns (50 * rdF d (Addr.GATE_BLANK (legOf c.1)) 0 6) ≤ t) ∧
  (∃ (s : State) (t : Nat) (d : Device) (c : Fin 48),
    d = at50 s.dev t ∧ cstate d c.1 = .on ∧ (d.gchan[c.1]).sensing = true ∧ desatEnabled d c.1 = true ∧ d.gtest = none) ∧
  (∃ (s : State) (t : Nat) (d : Device) (c : Fin 48) (at' : Nat),
    d = at50 s.dev t ∧ chanHar d c.1 = none ∧ (d.gchan[c.1]).softFrom = some at' ∧ cstate d c.1 = .soft ∧ at' + ns (50 * rdF d (Addr.GATE_HCFG 0) 16 8) ≤ t ∧ (d.gchan[c.1]).entryAt = none) ∧
  (∃ (s : State) (t : Nat) (d : Device) (c : Fin 48),
    d = at50 s.dev t ∧ cstate d c.1 = .off) :=
  ⟨⟨⟨chan 0 0x21 id, []⟩, 0, _, 0, rfl, by decide +kernel, by decide +kernel, by decide +kernel⟩,
   ⟨⟨chan 0 1 id, []⟩, 0, _, 0, rfl, by decide +kernel, by decide +kernel, by decide +kernel⟩,
   ⟨⟨chan 0 1 (fun g => { g with supplyUp := true, entry := .off }), []⟩, 0, _, 0, rfl, by decide +kernel, by decide +kernel, by decide +kernel⟩,
   ⟨⟨chan 0 0 id, []⟩, us 5, _, 0, rfl, by decide +kernel, by decide +kernel⟩,
   ⟨⟨wrN (chan 0 0 (fun g => { g with sensing := true })) (Addr.GATE_HCFG 0) 0, []⟩, 0, _, 0, rfl, by decide +kernel, by decide +kernel, by decide +kernel, by decide +kernel⟩,
   ⟨⟨chan 0 2 (fun g => { g with softFrom := some 0 }), []⟩, us 20, _, 0, 0, rfl, by decide +kernel, by decide +kernel, by decide +kernel, by decide +kernel, by decide +kernel⟩,
   ⟨⟨chan 0 1 id, []⟩, 0, _, 0, rfl, by decide +kernel⟩⟩

/-- Every clause of `Obligations.TheSelvedgeOfAHarness` that has hypotheses meets them. -/
theorem witness_TheSelvedgeOfAHarness :
  (∃ (s : State) (t : Nat) (d : Device) (h : Fin 4) (cause : Fin 16),
    d = at50 s.dev t ∧ domOn d 1 = true ∧ hstate (addCause d h.1 cause.1) h.1 = .ready) ∧
  (∃ (s : State) (t : Nat) (d : Device) (h : Fin 4) (cause : Fin 16),
    d = at50 s.dev t ∧ domOn d 1 = true ∧ 7 < cause.1 ∧ hstate (addCause d h.1 cause.1) h.1 = .running) ∧
  (∃ (s : State) (t : Nat) (d : Device) (h : Fin 4) (cause : Fin 16),
    d = at50 s.dev t ∧ domOn d 1 = true ∧ cause.1 ≤ 7 ∧ hstate (addCause d h.1 cause.1) h.1 = .running ∧ retryTries (addCause d h.1 cause.1) h.1 < nextTry (addCause d h.1 cause.1) h t) ∧
  (∃ (s : State) (t : Nat) (d : Device) (h : Fin 4) (n : Fin 24) (due : Nat),
    d = at50 s.dev t ∧ domOn d 1 = true ∧ legsOf d h.1 = [n] ∧ (d.legs[n.1]).leaveAt = some due ∧ due ≤ t) ∧
  (∃ (s : State) (t : Nat) (d : Device) (c : Fin 48) (x : Nat),
    d = at50 s.dev t ∧ (d.gchan[c.1]).hizAt = some x ∧ x ≤ t ∧ cstate d c.1 = .off) ∧
  (∃ (s : State) (t : Nat) (d : Device),
    d = at50 s.dev t ∧ domOn d 1 = true ∧ d.selvNext = true) ∧
  (∃ (s : State) (t : Nat) (d : Device) (h : Fin 4),
    d = at50 s.dev t ∧ domOn d 1 = true ∧ legsOf d h.1 = [] ∧ hstate d h.1 = .selvedge ∧ (d.har[h.1]).selvAt + us 20 ≤ t) ∧
  (∃ (s : State) (t : Nat) (d : Device) (h : Fin 4) (w : Nat),
    d = at50 s.dev t ∧ domOn d 1 = true ∧ rdB d (Addr.GATE_HCFG h.1) 0 = true ∧ hstate d h.1 = .selvedge ∧ (d.har[h.1]).waitFrom = some w ∧ w + ms (rdF d (Addr.GATE_RWAIT h.1) 0 14) ≤ t ∧ causes (refreshCauses d h) h.1 = 0 ∧ ((refreshCauses d h).har[h.1]).offDone = true) ∧
  (∃ (s : State) (t : Nat) (d : Device) (h : Fin 4),
    d = at50 s.dev t ∧ domOn d 1 = true ∧ hstate d h.1 = .running ∧ (legsOf d h.1).foldl (fun x n => max x (d.legs[n.1]).heldAt) (max (d.har[h.1]).runAt (d.har[h.1]).faultAt) + sec (rdF d (Addr.GATE_RFORGET h.1) 0 12) ≤ t) :=
  ⟨⟨⟨on [(Addr.GATE_HSTAT 0, 3)], []⟩, 0, _, 0, 9, rfl, by decide +kernel, by decide +kernel⟩,
   ⟨⟨on [(Addr.GATE_HSTAT 0, 1)], []⟩, 0, _, 0, 9, rfl, by decide +kernel, by decide +kernel, by decide +kernel⟩,
   ⟨⟨on [(Addr.GATE_HSTAT 0, 0xF1)], []⟩, 0, _, 0, 1, rfl, by decide +kernel, by decide +kernel, by decide +kernel, by decide +kernel⟩,
   ⟨⟨(let d := on [(0x40000040, 0xFFFFFFF0)]; { d with legs := upd d.legs 0 (fun l => { l with leaveAt := some 0 }) }), []⟩, 0, _, 0, 0, 0, rfl, by decide +kernel, by decide +kernel, by decide +kernel, by decide +kernel⟩,
   ⟨⟨chan 0 1 (fun g => { g with hizAt := some 0 }), []⟩, 0, _, 0, 0, rfl, by decide +kernel, by decide +kernel, by decide +kernel⟩,
   ⟨⟨{ on [] with selvNext := true }, []⟩, 0, _, rfl, by decide +kernel, by decide +kernel⟩,
   ⟨⟨on [(Addr.GATE_HSTAT 0, 2)], []⟩, us 20, _, 0, rfl, by decide +kernel, by decide +kernel, by decide +kernel, by decide +kernel⟩,
   ⟨⟨(let d := on [(Addr.GATE_HSTAT 0, 2), (Addr.GATE_HCFG 0, 1)]; { d with har := upd d.har 0 (fun a => { a with waitFrom := some 0, offDone := true }) }), []⟩, sec 60, _, 0, 0, rfl, by decide +kernel, by decide +kernel, by decide +kernel, by decide +kernel, by decide +kernel, by decide +kernel, by decide +kernel⟩,
   ⟨⟨on [(Addr.GATE_HSTAT 0, 1)], []⟩, sec 5000, _, 0, rfl, by decide +kernel, by decide +kernel, by decide +kernel⟩⟩

/-- Every clause of `Obligations.ClearingAndTheSelfTest` that has hypotheses meets them. -/
theorem witness_ClearingAndTheSelfTest :
  (∃ (s : State) (t : Nat) (d : Device),
    d = at50 s.dev t ∧ domOn d 1 = true) ∧
  (∃ (s : State) (t : Nat) (d : Device) (v : Word),
    d = at50 s.dev t ∧ domOn d 1 = true ∧ d.gtest = none ∧ testAllowed d (field v 8 3) (field v 0 6) = true) ∧
  (∃ (s : State) (t : Nat) (d : Device) (v : Word),
    d = at50 s.dev t ∧ domOn d 1 = true ∧ d.gtest = none ∧ testAllowed d (field v 8 3) (field v 0 6) = false) ∧
  (∃ (s : State) (t : Nat) (d : Device) (g : GateTest) (n : Nat),
    d = at50 s.dev t ∧ domOn d 1 = true ∧ d.gtest = some g ∧ n ≤ testLimit g.kind ∧ n < 2 ^ 16) ∧
  (∃ (s : State) (t : Nat) (d : Device) (g : GateTest) (n : Nat),
    d = at50 s.dev t ∧ domOn d 1 = true ∧ d.gtest = some g ∧ testLimit g.kind < n ∧ n < 2 ^ 16) :=
  ⟨⟨⟨on [], []⟩, 0, _, rfl, by decide +kernel⟩,
   ⟨⟨on [(0x40000040, 0), (Addr.GATE_CSTAT 0, 1), (Addr.GATE_CSTAT 1, 1), (Addr.BRD_PERMIT, 1)], []⟩, 0, _, 0x100, rfl, by decide +kernel, by decide +kernel, by decide +kernel⟩,
   ⟨⟨on [], []⟩, 0, _, 0x700, rfl, by decide +kernel, by decide +kernel, by decide +kernel⟩,
   ⟨⟨{ on [] with gtest := some ⟨0, 0, 0⟩ }, []⟩, 0, _, ⟨0, 0, 0⟩, 0, rfl, by decide +kernel, by decide +kernel, by decide +kernel, by decide +kernel⟩,
   ⟨⟨{ on [] with gtest := some ⟨0, 0, 0⟩ }, []⟩, 0, _, ⟨0, 0, 0⟩, 65535, rfl, by decide +kernel, by decide +kernel, by decide +kernel, by decide +kernel⟩⟩

/-- Every clause of `Obligations.TheValidityOfTheChannels` that has hypotheses meets them. -/
theorem witness_TheValidityOfTheChannels :
  (∃ (s : State) (t : Nat) (d : Device) (c : Fin 32),
    d = at50 s.dev t ∧ domOn d 1 = true ∧ wordsGone d c t = true) ∧
  (∃ (s : State) (t : Nat) (d : Device),
    d = at50 s.dev t ∧ domOn d 1 = true) ∧
  (∃ (s : State) (t : Nat) (d : Device) (c : Fin 32),
    d = at50 s.dev t ∧ domOn d 1 = true ∧ external d c.1 = true) ∧
  (∃ (s : State) (t : Nat) (d : Device) (c : Fin 32) (at' first : Nat),
    d = at50 s.dev t ∧ domOn d 1 = true ∧ (d.chans[c.1]).stuckAt = some at' ∧ at' ≤ first ∧ first + max 256 (2 * rdF d Addr.MOD_DET_CFG 16 10) * ckm ≤ t) ∧
  (∃ (s : State) (t : Nat) (d : Device),
    d = at50 s.dev t ∧ domOn d 1 = true ∧ rdB d Addr.MOD_ISL_STAT 0 = true ∧ rdB d Addr.MOD_ISL_STAT 1 = true) ∧
  (∃ (s : State) (t : Nat) (d : Device),
    d = at50 s.dev t ∧ domOn d 1 = true ∧ rdB d Addr.MOD_ISL_STAT 3 = true ∧ rdB d Addr.MOD_ISL_STAT 4 = true) ∧
  (∃ (s : State) (t : Nat) (d : Device),
    d = at50 s.dev t ∧ domOn d 1 = true) :=
  ⟨⟨⟨on [(Addr.MOD_VALID, 1)], []⟩, ms 1, _, 0, rfl, by decide +kernel, by decide +kernel⟩,
   ⟨⟨on [], []⟩, 0, _, rfl, by decide +kernel⟩,
   ⟨⟨on [], []⟩, 0, _, 28, rfl, by decide +kernel, by decide +kernel⟩,
   ⟨⟨(let d := on []; { d with chans := upd d.chans 0 (fun h => { h with stuckAt := some 0 }) }), []⟩, ms 1, _, 0, 0, 1, rfl, by decide +kernel, by decide +kernel, by decide +kernel, by decide +kernel⟩,
   ⟨⟨on [(Addr.MOD_ISL_STAT, 63)], []⟩, 0, _, rfl, by decide +kernel, by decide +kernel, by decide +kernel⟩,
   ⟨⟨on [(Addr.MOD_ISL_STAT, 63)], []⟩, 0, _, rfl, by decide +kernel, by decide +kernel, by decide +kernel⟩,
   ⟨⟨on [], []⟩, 0, _, rfl, by decide +kernel⟩⟩

/-- Every clause of `Obligations.TheWordsOfThePaths` that has hypotheses meets them. -/
theorem witness_TheWordsOfThePaths :
  (∃ (s : State) (t : Nat) (d e f : Device) (c : Fin 32) (bits : Nat) (h : Channel) (w : Word),
    d = at50 s.dev t ∧ domOn d 1 = true ∧ domOn d 5 = true ∧ chanValid d c.1 = true ∧ h = takeBits (d.chans[c.1]) bits ∧ f = { d with chans := upd d.chans c (fun _ => h) } ∧ clampI (-dataMax) dataMax (scaled f c (sinc3 h 8) 512 256) = scaled f c (sinc3 h 8) 512 256 ∧ w = formatWord false (windowOverload h (rdF d Addr.MOD_DET_CFG 0 7) 22 0) (decide (h.since < 22)) false (pathIndex d fastPeriod t) (scaled f c (sinc3 h 8) 512 256) ∧ bit w 31 = false ∧ c.1 ≠ 31 ∧ (e = { wr f (Addr.DEC_FAST c.1) w with chans := upd f.chans c (fun h =>
      { h with good := if bit w 29 then 0 else h.good + 1, lastFast := some t, goodFast := w }) }) ∧ legsOnChannel e c.1 = [] ∧ ((∀ h : Fin 4, rdB e (Addr.GATE_HSTAT h.1) (causeBit 7) = false))) ∧
  (∃ (s : State) (t : Nat) (d e : Device) (c : Fin 32) (w : Word),
    d = at50 s.dev t ∧ domOn d 1 = true ∧ domOn d 5 = true ∧ chanValid d c.1 = true ∧ clampI (-dataMax) dataMax (scaled d c (sinc3 (d.chans[c.1]) 32) 32768 16) = scaled d c (sinc3 (d.chans[c.1]) 32) 32768 16 ∧ w = formatWord false (windowOverload (d.chans[c.1]) (rdF d Addr.MOD_DET_CFG 0 7) 94 0) (decide ((d.chans[c.1]).since < 94)) false (pathIndex d mediumPeriod t) (scaled d c (sinc3 (d.chans[c.1]) 32) 32768 16) ∧ (e = { wr d (Addr.DEC_MED c.1) w with chans := upd d.chans c (fun h =>
      { h with medIndex := some (pathIndex d mediumPeriod t), goodMed := if bit w 31 then h.goodMed else w }) }) ∧ ((∀ q : Fin 4, rdB e (Addr.DCMP_CFG q.1) 31 = false))) ∧
  (∃ (s : State) (t : Nat) (d e : Device) (c : Fin 32) (w : Word) (raw : Int),
    d = at50 s.dev t ∧ domOn d 1 = true ∧ domOn d 5 = true ∧ precisionPath c t d = (w, raw, e)) ∧
  (∃ (s : State) (t : Nat) (d : Device) (k : Fin 4),
    d = at50 s.dev t ∧ domOn d 1 = true ∧ (d.dcmp[k.1]).unsTill ≤ t) :=
  ⟨⟨⟨on [(Addr.MOD_VALID, 1)], []⟩, 0, _, _, _, 0, 0x55, _, _, rfl, by decide +kernel, by decide +kernel, by decide +kernel, rfl, rfl, by decide +kernel, rfl, by decide +kernel, by decide +kernel, rfl, by decide +kernel, by decide +kernel⟩,
   ⟨⟨on [(Addr.MOD_VALID, 1)], []⟩, 0, _, _, 0, _, rfl, by decide +kernel, by decide +kernel, by decide +kernel, by decide +kernel, rfl, rfl, by decide +kernel⟩,
   ⟨⟨on [], []⟩, 0, _, _, 0, _, _, rfl, by decide +kernel, by decide +kernel, rfl⟩,
   ⟨⟨on [], []⟩, 0, _, 0, rfl, by decide +kernel, by decide +kernel⟩⟩

/-- Every clause of `Obligations.TheResampler` that has hypotheses meets them. -/
theorem witness_TheResampler :
  (∃ (s : State) (t : Nat) (d : Device),
    d = at50 s.dev t ∧ domOn d 1 = true ∧ domOn d 5 = true ∧ rdB d Addr.RSM_CFG 0 = true ∧ d.rsm.paused = false ∧ rsmNeeds d.rsm.pos ≤ d.rsm.newest ∧ d.rsm.index ≠ 0) ∧
  (∃ (s : State) (t : Nat) (d : Device),
    d = at50 s.dev t ∧ domOn d 1 = true ∧ domOn d 5 = true ∧ rdB d Addr.RSM_CFG 0 = true ∧ d.rsm.paused = false ∧ rsmNeeds d.rsm.pos ≤ d.rsm.newest ∧ d.rsm.index = 0 ∧ d.rsm.srcChange = false ∧ rsmSource d = 0) ∧
  (∃ (s : State) (t : Nat) (d : Device),
    d = at50 s.dev t ∧ domOn d 1 = true ∧ rdB d Addr.RSM_CFG 0 = true ∧ d.rsm.paused = true ∧ rdB d Addr.RSM_STAT 2 = true ∧ rsmNeeds d.rsm.pos ≤ d.rsm.newest) ∧
  (∃ (s : State) (t : Nat) (d : Device) (c : Nat),
    d = at50 s.dev t ∧ domOn d 1 = true ∧ rdB d Addr.RSM_CFG 0 = true ∧ rsmSource d = 1 ∧ d.rsm.kfreqAt = some c ∧ c + rsmTwoCycles d ≤ t) ∧
  (∃ (s : State) (t : Nat) (d : Device),
    d = at50 s.dev t ∧ domOn d 1 = true ∧ rdB d Addr.RSM_COEF_CTRL 1 = false ∧ rdB d Addr.RSM_COEF_CTRL 2 = false ∧ rd d Addr.RSM_COEF_CRCB = rd d Addr.RSM_COEF_EXP ∧ loomMode d = .run) ∧
  (∃ (s : State) (t : Nat) (d : Device),
    d = at50 s.dev t ∧ domOn d 1 = true ∧ rdB d Addr.RSM_COEF_CTRL 1 = true ∧ rdB d Addr.RSM_COEF_CTRL 2 = false ∧ rd d Addr.RSM_COEF_CRCA = rd d Addr.RSM_COEF_EXP ∧ loomMode d ≠ .run) ∧
  (∃ (s : State) (t : Nat) (d : Device),
    d = at50 s.dev t ∧ domOn d 1 = true ∧ rdB d Addr.RSM_COEF_CTRL 2 = true) ∧
  (∃ (s : State) (t : Nat) (d : Device),
    d = at50 s.dev t ∧ domOn d 1 = true ∧ rdB d Addr.RSM_COEF_CTRL 2 = true ∧ d.rsm.fadeLeft = 0) :=
  ⟨⟨⟨(let d := on [(Addr.RSM_CFG, 1)]; { d with rsm := { d.rsm with index := 1, newest := 100 } }), []⟩, 0, _, rfl, by decide +kernel, by decide +kernel, by decide +kernel, by decide +kernel, by decide +kernel, by decide +kernel⟩,
   ⟨⟨(let d := on [(Addr.RSM_CFG, 1)]; { d with rsm := { d.rsm with newest := 100 } }), []⟩, 0, _, rfl, by decide +kernel, by decide +kernel, by decide +kernel, by decide +kernel, by decide +kernel, by decide +kernel, by decide +kernel, by decide +kernel⟩,
   ⟨⟨(let d := on [(Addr.RSM_CFG, 1), (Addr.RSM_STAT, 4)]; { d with rsm := { d.rsm with paused := true, newest := 100 } }), []⟩, 0, _, rfl, by decide +kernel, by decide +kernel, by decide +kernel, by decide +kernel, by decide +kernel⟩,
   ⟨⟨(let d := on [(Addr.RSM_CFG, 3)]; { d with rsm := { d.rsm with kfreqAt := some 0 } }), []⟩, sec 10, _, 0, rfl, by decide +kernel, by decide +kernel, by decide +kernel, by decide +kernel, by decide +kernel⟩,
   ⟨⟨on [(Addr.LOOM_MODE, 1), (Addr.RSM_COEF_CRCB, 5), (Addr.RSM_COEF_EXP, 5)], []⟩, 0, _, rfl, by decide +kernel, by decide +kernel, by decide +kernel, by decide +kernel, by decide +kernel⟩,
   ⟨⟨{ on [] with regs := [(Addr.PWR_STAT, 2), (Addr.RSM_COEF_CTRL, 2), (Addr.RSM_COEF_EXP, 5), (Addr.RSM_COEF_CRCA, 5)] }, []⟩, 0, _, rfl, by decide +kernel, by decide +kernel, by decide +kernel, by decide +kernel, by decide +kernel⟩,
   ⟨⟨on [(Addr.RSM_COEF_CTRL, 4)], []⟩, 0, _, rfl, by decide +kernel, by decide +kernel⟩,
   ⟨⟨on [(Addr.RSM_COEF_CTRL, 4)], []⟩, 0, _, rfl, by decide +kernel, by decide +kernel, by decide +kernel⟩⟩

/-- Every clause of `Obligations.TheShedUnits` that has hypotheses meets them. -/
theorem witness_TheShedUnits :
  (∃ (s : State) (t : Nat) (d : Device) (n : Fin 24) (h : Fin 4) (p : PendingStep),
    d = at50 s.dev t ∧ domOn d 1 = true ∧ harOf d n.1 = some h ∧ (d.shed[n.1]).pending = some p ∧ p.tap ≤ t ∧ p.start = false ∧ (d.shed[n.1]).upTap = none ∧ rdB d (Addr.SHED_STAT n.1) 30 = true) ∧
  (∃ (s : State) (t : Nat) (d : Device) (c : Fin 48) (u : Nat),
    d = at50 s.dev t ∧ domOn d 1 = true ∧ (d.gchan[c.1]).onAt = some u ∧ u ≤ t) ∧
  (∃ (s : State) (t : Nat) (d : Device) (n : Fin 24) (h : Fin 4) (v : Int) (rest : List Int),
    d = at50 s.dev t ∧ domOn d 1 = true ∧ harOf d n.1 = some h ∧ (d.shed[n.1]).gen.due = none ∧ (d.shed[n.1]).gen.active = true ∧ (d.shed[n.1]).gen.fifo = v :: rest) ∧
  (∃ (s : State) (t : Nat) (d : Device) (n : Fin 24),
    d = at50 s.dev t ∧ domOn d 1 = true ∧ (d.shed[n.1]).gen.due = none ∧ ((d.shed[n.1]).gen.fifo).length < 64) ∧
  (∃ (s : State) (t : Nat) (d : Device) (n : Fin 24),
    d = at50 s.dev t ∧ domOn d 1 = true ∧ (d.shed[n.1]).gen.due = none ∧ 64 ≤ ((d.shed[n.1]).gen.fifo).length) ∧
  (∃ (s : State) (t : Nat) (d : Device) (n : Fin 24),
    d = at50 s.dev t ∧ domOn d 1 = true ∧ ((d.shed[n.1]).edges).length < 32) ∧
  (∃ (s : State) (t : Nat) (d : Device) (n : Fin 24),
    d = at50 s.dev t ∧ domOn d 1 = true ∧ 32 ≤ ((d.shed[n.1]).edges).length) ∧
  (∃ (s : State) (t : Nat) (d : Device) (n : Fin 24) (h : Fin 4) (lvl tm : Nat) (rest : List (Nat × Nat)),
    d = at50 s.dev t ∧ domOn d 1 = true ∧ harOf d n.1 = some h ∧ (d.shed[n.1]).edges = (lvl, tm) :: rest ∧ rdB d (Addr.SHED_STAT n.1) 30 = true ∧ shedMode d n.1 = 2 ∧ (d.shed[n.1]).prevEdge ≤ tm ∧ tm ≤ t ∧ t ≤ tm + ckf ∧ stepFloor d n h (heddleRow d h.1 lvl (decide (levelOf d n.1 < lvl))) false ≤ tm ∧ lvl ≠ levelOf d n.1) ∧
  (∃ (s : State) (t : Nat) (d : Device) (n : Fin 24) (h : Fin 4) (from' : Nat),
    d = at50 s.dev t ∧ domOn d 1 = true ∧ harOf d n.1 = some h ∧ (d.shed[n.1]).waitStart = some from' ∧ rdB d (Addr.SHED_STAT n.1) 30 = true ∧ shedMode d n.1 = 1 ∧ from' < t ∧ bit (rd d (Addr.DEC_FAST (shedChan d n.1))) 31 = false ∧ bit (rd d (Addr.DEC_FAST (shedChan d n.1))) 29 = false) :=
  ⟨⟨⟨shed [(0x40000040, 0), (Addr.SHED_STAT 0, 0x40000000)] (fun u => { u with pending := some ⟨true, 1, 5, 0, false⟩ }), []⟩, 5, _, 0, 0, ⟨true, 1, 5, 0, false⟩, rfl, by decide +kernel, by decide +kernel, by decide +kernel, by decide +kernel, by decide +kernel, by decide +kernel, by decide +kernel⟩,
   ⟨⟨chan 0 1 (fun g => { g with onAt := some 7 }), []⟩, 7, _, 0, 7, rfl, by decide +kernel, by decide +kernel, by decide +kernel⟩,
   ⟨⟨shed [(0x40000040, 0)] (fun u => { u with gen := { u.gen with active := true, fifo := [3, 4] } }), []⟩, 0, _, 0, 0, 3, [4], rfl, by decide +kernel, by decide +kernel, by decide +kernel, by decide +kernel, by decide +kernel⟩,
   ⟨⟨on [], []⟩, 0, _, 0, rfl, by decide +kernel, by decide +kernel, by decide +kernel⟩,
   ⟨⟨shed [] (fun u => { u with gen := { u.gen with fifo := List.replicate 64 0 } }), []⟩, 0, _, 0, rfl, by decide +kernel, by decide +kernel, by decide +kernel⟩,
   ⟨⟨shed [] (fun u => { u with edges := List.replicate 31 (0, 0) }), []⟩, 0, _, 0, rfl, by decide +kernel, by decide +kernel⟩,
   ⟨⟨shed [] (fun u => { u with edges := List.replicate 32 (0, 0) }), []⟩, 0, _, 0, rfl, by decide +kernel, by decide +kernel⟩,
   ⟨⟨shed [(0x40000040, 0), (Addr.SHED_CFG 0, 2), (Addr.SHED_STAT 0, 0x40000000)] (fun u => { u with edges := [(1, us 1000)] }), []⟩, us 1000, _, 0, 0, 1, us 1000, [], rfl, by decide +kernel, by decide +kernel, by decide +kernel, by decide +kernel, by decide +kernel, by decide +kernel, by decide +kernel, by decide +kernel, by decide +kernel, by decide +kernel⟩,
   ⟨⟨shed [(0x40000040, 0), (Addr.SHED_CFG 0, 1), (Addr.SHED_STAT 0, 0x40000000), (Addr.DEC_FAST 0, 0)] (fun u => { u with waitStart := some 0 }), []⟩, us 1, _, 0, 0, 0, rfl, by decide +kernel, by decide +kernel, by decide +kernel, by decide +kernel, by decide +kernel, by decide +kernel, by decide +kernel, by decide +kernel⟩⟩

/-- Every clause of `Obligations.SetPointsInjectorsAndRotators` that has hypotheses meets them. -/
theorem witness_SetPointsInjectorsAndRotators :
  (∃ (s : State) (t : Nat) (d : Device) (r : Nat),
    d = at50 s.dev t ∧ domOn d 1 = true ∧ rdF d Addr.SHED_GCFG 0 2 = 1 ∧ d.setp.riseAt = some r ∧ us 20 / ckf ≤ (t - r) / ckf) ∧
  (∃ (s : State) (t : Nat) (d : Device),
    d = at50 s.dev t ∧ domOn d 1 = true ∧ rdB d Addr.MOD_EXT_CFG 0 = false) ∧
  (∃ (s : State) (t : Nat) (d : Device),
    d = at50 s.dev t ∧ domOn d 1 = true ∧ rdF d Addr.SHED_GCFG 0 2 = 2 ∧ rdB d (Addr.HK_RESULT 44) 30 = true) ∧
  (∃ (s : State) (t : Nat) (d : Device) (j : Fin 4) (at' : Nat),
    d = at50 s.dev t ∧ domOn d 1 = true ∧ (d.inj[j.1]).startAt = some at' ∧ rdB d (Addr.INJ_CTRL j.1) 0 = true ∧ rdF d (Addr.INJ_CTRL j.1) 1 2 = 1 ∧ rdB d (Addr.INJ_CTRL j.1) 3 = true ∧ at' + max 1 (rdN d (Addr.INJ_P2 j.1)) * fastPeriod ≤ t) ∧
  (∃ (s : State) (t : Nat) (d : Device) (j : Fin 4) (at' : Nat),
    d = at50 s.dev t ∧ domOn d 1 = true ∧ (d.inj[j.1]).startAt = some at' ∧ rdB d (Addr.INJ_CTRL j.1) 0 = true ∧ rdF d (Addr.INJ_CTRL j.1) 1 2 = 1 ∧ rdB d (Addr.INJ_CTRL j.1) 3 = false ∧ at' + max 1 (rdN d (Addr.INJ_P2 j.1)) * fastPeriod ≤ t) ∧
  (∃ (s : State) (t : Nat) (d : Device) (cmd : Word),
    d = at50 s.dev t ∧ domOn d 1 = true ∧ ((cmd = 1 ∨ cmd = 2))) ∧
  (∃ (s : State) (t : Nat) (d : Device) (c : Fin 8) (at' : Nat),
    d = at50 s.dev t ∧ domOn d 1 = true ∧ (d.cordic[c.1]).busy = some (1, at') ∧ at' + 24 * ckf ≤ t) ∧
  (∃ (s : State) (t : Nat) (d : Device) (c : Fin 8) (at' : Nat),
    d = at50 s.dev t ∧ domOn d 1 = true ∧ (d.cordic[c.1]).busy = some (2, at') ∧ at' + 24 * ckf ≤ t) :=
  ⟨⟨⟨{ on [(Addr.SHED_GCFG, 1)] with setp := ⟨some 0, true, true⟩ }, []⟩, us 20, _, 0, rfl, by decide +kernel, by decide +kernel, by decide +kernel, by decide +kernel⟩,
   ⟨⟨on [(Addr.MOD_EXT_CFG, 0)], []⟩, 0, _, rfl, by decide +kernel, by decide +kernel⟩,
   ⟨⟨on [(Addr.SHED_GCFG, 2), (Addr.HK_RESULT 44, 0x40000000)], []⟩, 0, _, rfl, by decide +kernel, by decide +kernel, by decide +kernel⟩,
   ⟨⟨{ on [(Addr.INJ_CTRL 0, 0xB), (Addr.INJ_P2 0, 5)] with inj := Vector.replicate 4 ⟨some 0⟩ }, []⟩, us 10, _, 0, 0, rfl, by decide +kernel, by decide +kernel, by decide +kernel, by decide +kernel, by decide +kernel, by decide +kernel⟩,
   ⟨⟨{ on [(Addr.INJ_CTRL 0, 0x3), (Addr.INJ_P2 0, 5)] with inj := Vector.replicate 4 ⟨some 0⟩ }, []⟩, us 10, _, 0, 0, rfl, by decide +kernel, by decide +kernel, by decide +kernel, by decide +kernel, by decide +kernel, by decide +kernel⟩,
   ⟨⟨on [], []⟩, 0, _, 2, rfl, by decide +kernel, by decide +kernel⟩,
   ⟨⟨{ on [] with cordic := Vector.replicate 8 ⟨some (1, 0), 1, 2, 3⟩ }, []⟩, us 1, _, 0, 0, rfl, by decide +kernel, by decide +kernel, by decide +kernel⟩,
   ⟨⟨{ on [] with cordic := Vector.replicate 8 ⟨some (2, 0), 1, 2, 3⟩ }, []⟩, us 1, _, 0, 0, rfl, by decide +kernel, by decide +kernel, by decide +kernel⟩⟩

/-- Every clause of `Obligations.TheHousekeepingConverter` that has hypotheses meets them. -/
theorem witness_TheHousekeepingConverter :
  (∃ (s : State) (t : Nat) (d e : Device) (raw j i code next : Nat),
    d = at50 s.dev t ∧ domOn d 1 = true ∧ rdB d Addr.HK_CFG 0 = true ∧ d.hk.injected = some j ∧ i = (d.hk.injList[j]?).getD 0 ∧ code = hkCalibrated d i (raw % 2 ^ 20) ∧ e = thConvert (wrN d (Addr.HK_INJ_RESULT j) (hkWord d i code)) i code ∧ e.hk.calRun = false ∧ e.hk.injList[j + 1]? = some next) ∧
  (∃ (s : State) (t : Nat) (d e : Device) (raw i code : Nat),
    d = at50 s.dev t ∧ domOn d 1 = true ∧ rdB d Addr.HK_CFG 0 = true ∧ d.hk.injected = none ∧ d.hk.regular = true ∧ i = (d.hk.seq[d.hk.slot]?).getD 0 ∧ code = hkCalibrated d i (raw % 2 ^ 20) ∧ i ≠ 44 ∧ (e = monitor (showStale (thConvert (
      let x := wrN d (Addr.HK_RESULT i) (hkWord d i code)
      { x with hk := { x.hk with lastDone := Sparse.insert i t x.hk.lastDone, regular := false } }) i code)) i)) ∧
  (∃ (s : State) (t : Nat) (d : Device),
    d = at50 s.dev t ∧ domOn d 1 = true ∧ rdB d Addr.HK_CFG 0 = true ∧ d.hk.inRound = false ∧ d.hk.injected = none) ∧
  (∃ (s : State) (t : Nat) (d : Device),
    d = at50 s.dev t ∧ domOn d 1 = true ∧ rdB d Addr.HK_CFG 0 = true ∧ d.hk.inRound = true) ∧
  (∃ (s : State) (t : Nat) (d e : Device),
    d = at50 s.dev t ∧ domOn d 1 = true ∧ d.therm.roundEnd = true ∧ e = ntcSettle (each (List.finRange 16) (ntcCheck { d with therm := { d.therm with roundEnd := false } }) { d with therm := { d.therm with roundEnd := false } }) ∧ e.cfg.loaded = true) ∧
  (∃ (s : State) (t : Nat) (d : Device) (source : Nat),
    d = at50 s.dev t ∧ domOn d 1 = true ∧ rdB d Addr.HK_CFG 0 = true ∧ rdB d Addr.HK_INJ_CFG (8 + source) = true ∧ rdB d Addr.HK_STAT 7 = false ∧ d.hk.injected = none ∧ d.hk.regular = false) ∧
  (∃ (s : State) (t : Nat) (d : Device) (i at' : Nat),
    d = at50 s.dev t ∧ domOn d 1 = true ∧ i < 64 ∧ i ≠ 44 ∧ Sparse.find i d.hk.lastDone = some at' ∧ at' + hkTwoRounds d ≤ t ∧ rdB d (Addr.HK_RESULT i) 30 = false ∧ thInput (wrB d (Addr.HK_RESULT i) 30 true) i = false) :=
  ⟨⟨⟨hk [(Addr.HK_CFG, 1)] (fun k => { k with injected := some 0, injList := [1, 2] }), []⟩, 0, _, _, 5, 0, _, _, 2, rfl, by decide +kernel, by decide +kernel, by decide +kernel, rfl, rfl, rfl, by decide +kernel, by decide +kernel⟩,
   ⟨⟨hk [(Addr.HK_CFG, 1)] (fun k => { k with regular := true, inRound := true, seq := [0, 1] }), []⟩, 0, _, _, 5, _, _, rfl, by decide +kernel, by decide +kernel, by decide +kernel, by decide +kernel, rfl, rfl, by decide +kernel, rfl⟩,
   ⟨⟨on [(Addr.HK_CFG, 1)], []⟩, 0, _, rfl, by decide +kernel, by decide +kernel, by decide +kernel, by decide +kernel⟩,
   ⟨⟨hk [(Addr.HK_CFG, 1)] (fun k => { k with inRound := true }), []⟩, 0, _, rfl, by decide +kernel, by decide +kernel, by decide +kernel⟩,
   ⟨⟨(let d := on []; { d with therm := { d.therm with roundEnd := true }, cfg := { d.cfg with loaded := true } }), []⟩, 0, _, _, rfl, by decide +kernel, by decide +kernel, rfl, by decide +kernel⟩,
   ⟨⟨on [(Addr.HK_CFG, 1), (Addr.HK_INJ_CFG, 0x100)], []⟩, 0, _, 0, rfl, by decide +kernel, by decide +kernel, by decide +kernel, by decide +kernel, by decide +kernel, by decide +kernel⟩,
   ⟨⟨hk [(Addr.HK_CFG, 1), (Addr.HK_RESULT 40, 0)] (fun k => { k with lastDone := [(40, 0)] }), []⟩, sec 100, _, 40, 0, rfl, by decide +kernel, by decide +kernel, by decide +kernel, by decide +kernel, by decide +kernel, by decide +kernel, by decide +kernel⟩⟩

/-- Every clause of `Obligations.TheCalibrationEngine` that has hypotheses meets them. -/
theorem witness_TheCalibrationEngine :
  (∃ (s : State) (t : Nat) (d : Device) (chan : Nat),
    d = at50 s.dev t ∧ domOn d 1 = true ∧ calState d = 0 ∧ 64 ≤ chan ∧ chan < 80) ∧
  (∃ (s : State) (t : Nat) (d : Device),
    d = at50 s.dev t ∧ domOn d 1 = true ∧ calState d = 1) ∧
  (∃ (s : State) (t : Nat) (d : Device),
    d = at50 s.dev t ∧ domOn d 1 = true ∧ calState d ≠ 1) ∧
  (∃ (s : State) (t : Nat) (d : Device),
    d = at50 s.dev t ∧ domOn d 1 = true ∧ calState d = 3 ∧ 2 ^ 28 ≤ (rdI d Addr.CAL_REF).natAbs) ∧
  (∃ (s : State) (t : Nat) (d : Device),
    d = at50 s.dev t ∧ domOn d 1 = true ∧ calState d = 3 ∧ (rdI d Addr.CAL_REF).natAbs < 2 ^ 28) ∧
  (∃ (s : State) (t : Nat) (d : Device),
    d = at50 s.dev t ∧ domOn d 1 = true ∧ calState d = 5) ∧
  (∃ (s : State) (t : Nat) (d : Device),
    d = at50 s.dev t ∧ domOn d 1 = true ∧ ((calState d = 2 ∨ calState d = 4))) ∧
  (∃ (s : State) (t : Nat) (d : Device),
    d = at50 s.dev t ∧ domOn d 1 = true ∧ calState d = 1 ∧ offsetOk (rdI d Addr.CAL_RST_OFF) = true ∧ gainOk (rdN d Addr.CAL_RST_GAIN) = true ∧ 64 ≤ calEntry d) :=
  ⟨⟨⟨on [], []⟩, 0, _, 64, rfl, by decide +kernel, by decide +kernel, by decide +kernel, by decide +kernel⟩,
   ⟨⟨on [(Addr.CAL_STAT, 1)], []⟩, 0, _, rfl, by decide +kernel, by decide +kernel⟩,
   ⟨⟨on [], []⟩, 0, _, rfl, by decide +kernel, by decide +kernel⟩,
   ⟨⟨on [(Addr.CAL_STAT, 3), (Addr.CAL_REF, 0x20000000)], []⟩, 0, _, rfl, by decide +kernel, by decide +kernel, by decide +kernel⟩,
   ⟨⟨on [(Addr.CAL_STAT, 3)], []⟩, 0, _, rfl, by decide +kernel, by decide +kernel, by decide +kernel⟩,
   ⟨⟨on [(Addr.CAL_STAT, 5)], []⟩, 0, _, rfl, by decide +kernel, by decide +kernel⟩,
   ⟨⟨on [(Addr.CAL_STAT, 4)], []⟩, 0, _, rfl, by decide +kernel, by decide +kernel⟩,
   ⟨⟨on [(Addr.CAL_STAT, 0x400001), (Addr.CAL_RST_OFF, 0), (Addr.CAL_RST_GAIN, 0x40000000)], []⟩, 0, _, rfl, by decide +kernel, by decide +kernel, by decide +kernel, by decide +kernel, by decide +kernel⟩⟩

/-- Every clause of `Obligations.TheCourseOfACalibration` that has hypotheses meets them. -/
theorem witness_TheCourseOfACalibration :
  (∃ (s : State) (t : Nat) (d : Device) (at' : Nat),
    d = at50 s.dev t ∧ domOn d 1 = true ∧ d.cal.settleTill = some at' ∧ at' ≤ t ∧ calEntry d < 64) ∧
  (∃ (s : State) (t : Nat) (d : Device),
    d = at50 s.dev t ∧ domOn d 1 = true ∧ calState d = 2 ∧ d.cal.settleTill = none ∧ d.cal.count = calReadings d ∧ calState (wrN d Addr.CAL_SPREAD (roundDiv ((d.cal.most - d.cal.least).toNat * 1000000 : Nat) (2 ^ 30)).toNat) = 2) ∧
  (∃ (s : State) (t : Nat) (d : Device),
    d = at50 s.dev t ∧ domOn d 1 = true ∧ ((calState d = 2 ∨ calState d = 4)) ∧ d.cal.settleTill = none) ∧
  (∃ (s : State) (t : Nat) (d : Device),
    d = at50 s.dev t ∧ domOn d 1 = true ∧ calState d ≠ 0 ∧ calState d ≠ 6 ∧ d.cal.cmdAt + sec (fieldN d 0x02B3) ≤ t) ∧
  (∃ (s : State) (t : Nat) (d : Device) (p : CalPass),
    d = at50 s.dev t ∧ domOn d 1 = true ∧ calState d = 6 ∧ d.cal.written = true ∧ loomMode d = .run ∧ calMeter d = false ∧ p = { entry := calEntry d, offset := rd d Addr.CAL_NEW_OFF, gain := rd d Addr.CAL_NEW_GAIN, info := word (d.cal.origin * 2 ^ 24 + memNat d (calAddr (calEntry d) + 9) 1 / 2 * 2 ^ 21 + memNat d (calAddr (calEntry d) + 10) 2) }) :=
  ⟨⟨⟨cal [] (fun c => { c with settleTill := some 5 }), []⟩, 5, _, 5, rfl, by decide +kernel, by decide +kernel, by decide +kernel, by decide +kernel⟩,
   ⟨⟨cal [(Addr.CAL_STAT, 2)] (fun c => { c with count := calReadings (on [(Addr.CAL_STAT, 2)]) }), []⟩, 0, _, rfl, by decide +kernel, by decide +kernel, by decide +kernel, by decide +kernel, by decide +kernel⟩,
   ⟨⟨on [(Addr.CAL_STAT, 4)], []⟩, 0, _, rfl, by decide +kernel, by decide +kernel, by decide +kernel⟩,
   ⟨⟨on [(Addr.CAL_STAT, 1)], []⟩, sec 10000, _, rfl, by decide +kernel, by decide +kernel, by decide +kernel, by decide +kernel⟩,
   ⟨⟨cal [(Addr.CAL_STAT, 6), (Addr.LOOM_MODE, 1)] (fun c => { c with written := true }), []⟩, 0, _, _, rfl, by decide +kernel, by decide +kernel, by decide +kernel, by decide +kernel, by decide +kernel, rfl⟩⟩

/-- Every clause of `Obligations.HeatAndTheSlowStores` that has hypotheses meets them. -/
theorem witness_HeatAndTheSlowStores :
  (∃ (s : State) (t : Nat) (d e : Device),
    d = at50 s.dev t ∧ domOn d 1 = true ∧ e = showCorr { d with clock := { d.clock with trimUsed := slewTo d.clock.trimUsed (rdI d Addr.CLK_TRIM) 20 } } ∧ rdB d Addr.TH_CFG 0 = false) ∧
  (∃ (s : State) (t : Nat) (d e : Device),
    d = at50 s.dev t ∧ domOn d 1 = true ∧ e = showCorr { d with clock := { d.clock with trimUsed := slewTo d.clock.trimUsed (rdI d Addr.CLK_TRIM) 20 } } ∧ rdB d Addr.TH_CFG 0 = true) ∧
  (∃ (s : State) (t : Nat) (d : Device) (r : List Byte),
    d = at50 s.dev t ∧ domOn d 1 = true ∧ d.therm.record = some r ∧ d.mram.any (·.running) = false) ∧
  (∃ (s : State) (t : Nat) (d e : Device) (mask : Fin 16),
    d = at50 s.dev t ∧ domOn d 1 = true ∧ (e = each (List.finRange 4) (fun e h =>
      if mask.1.testBit h.1 && rdB e Addr.TH_STAT h.1 then
        match restartFails e h.1 with
        | 0 => tryRelease (dropCause (wrB e Addr.TH_STAT h.1 false) h.1 12) h t
        | r => if e.therm.refused = 0 then { e with therm := { e.therm with refused := r } } else e
      else e) { d with therm := { d.therm with refused := 0 } }) ∧ rdF e Addr.TH_STAT 0 4 ≠ 0) ∧
  (∃ (s : State) (t : Nat) (d : Device) (i : Nat) (x : MramTx) (op next : MramOp) (ops : List MramOp),
    d = at50 s.dev t ∧ domOn d 1 = true ∧ d.mram.findIdx? (·.running) = some i ∧ d.mram[i]? = some x ∧ x.ops = op :: next :: ops) ∧
  (∃ (s : State) (t : Nat) (d : Device) (i : Nat) (x : MramTx) (op : MramOp),
    d = at50 s.dev t ∧ domOn d 1 = true ∧ d.mram.findIdx? (·.running) = some i ∧ d.mram[i]? = some x ∧ x.ops = [op]) ∧
  (∃ (s : State) (t : Nat) (d : Device) (c : CfgChange),
    d = at50 s.dev t ∧ domOn d 1 = true ∧ redState d = 0 ∧ d.cfg.change = some c ∧ c.resolved = false) :=
  ⟨⟨⟨on [], []⟩, 0, _, _, rfl, by decide +kernel, rfl, by decide +kernel⟩,
   ⟨⟨on [(Addr.TH_CFG, 1)], []⟩, 0, _, _, rfl, by decide +kernel, rfl, by decide +kernel⟩,
   ⟨⟨(let d := on []; { d with therm := { d.therm with record := some [1] } }), []⟩, 0, _, [1], rfl, by decide +kernel, by decide +kernel, by decide +kernel⟩,
   ⟨⟨on [(Addr.TH_STAT, 1)], []⟩, 0, _, _, 0, rfl, by decide +kernel, rfl, by decide +kernel⟩,
   ⟨⟨{ on [] with mram := [⟨4, false, true, [.journal, .commit, .complete], .plain⟩] }, []⟩, 0, _, 0, _, .journal, .commit, [.complete], rfl, by decide +kernel, by decide +kernel, rfl, by decide +kernel⟩,
   ⟨⟨{ on [] with mram := [⟨4, true, true, [.complete], .plain⟩] }, []⟩, 0, _, 0, _, .complete, rfl, by decide +kernel, by decide +kernel, rfl, by decide +kernel⟩,
   ⟨⟨(let d := on []; { d with cfg := { d.cfg with change := some ⟨1, [], false, [], [], []⟩ } }), []⟩, 0, _, ⟨1, [], false, [], [], []⟩, rfl, by decide +kernel, by decide +kernel, by decide +kernel, by decide +kernel⟩⟩

/-- Every clause of `Obligations.SuppliesAndPowerFailure` that has hypotheses meets them. -/
theorem witness_SuppliesAndPowerFailure :
  (∃ (s : State) (t : Nat) (d : Device),
    d = at50 s.dev t ∧ d.power.vinValid = false ∧ d.power.storeEmpty = true ∧ d.power.vbakLost = false) ∧
  (∃ (s : State) (t : Nat) (d : Device),
    d = at50 s.dev t ∧ d.power.vinValid = false ∧ d.power.storeEmpty = true ∧ d.power.vbakLost = true) ∧
  (∃ (s : State) (t : Nat) (d e : Device),
    d = at50 s.dev t ∧ d.power.vinValid = true ∧ d.power.vinfAt = none ∧ e = count (wrB (wrB d Addr.PWR_STAT 21 true) Addr.PWR_STAT 22 false) Addr.PWR_VINF_CNT ∧ e.power = d.power) ∧
  (∃ (s : State) (t : Nat) (d : Device),
    d = at50 s.dev t ∧ d.power.vinValid = false ∧ d.power.vinfAt.isSome = true ∧ d.power.graceDone = false) ∧
  (∃ (s : State) (t : Nat) (d : Device) (at' : Nat),
    d = at50 s.dev t ∧ d.power.vinfAt = some at' ∧ d.power.graceDone = false ∧ at' + vinfGrace d ≤ t) ∧
  (∃ (s : State) (t : Nat) (d : Device) (at' : Nat),
    d = at50 s.dev t ∧ d.power.vinfAt = some at' ∧ d.power.graceDone = true ∧ d.power.shedDone = false ∧ ((ownMode d = 0 ∨ at' + vinfGrace d + us 200 ≤ t))) ∧
  (∃ (s : State) (t : Nat) (d : Device) (mv : Nat),
    d = at50 s.dev t ∧ d.power.shedDone = true ∧ d.power.finalDone = false ∧ mv ≤ 14000 ∧ (each [4, 1, 5] (fun e n => domSwitchOff n t e) (mramHalt d)).power.vinBack = false) ∧
  (∃ (s : State) (t : Nat) (d : Device),
    d = at50 s.dev t ∧ d.power.finalDone = true ∧ d.power.vinValid = false) ∧
  (∃ (s : State) (t : Nat) (d : Device),
    d = at50 s.dev t ∧ d.power.vinValid = true) ∧
  (∃ (s : State) (t : Nat) (d : Device),
    d = at50 s.dev t ∧ rdB d Addr.PWR_STAT 16 = true) :=
  ⟨⟨⟨pw [] (fun p => { p with vbakLost := false }), []⟩, 0, _, rfl, by decide +kernel, by decide +kernel, by decide +kernel⟩,
   ⟨⟨on [], []⟩, 0, _, rfl, by decide +kernel, by decide +kernel, by decide +kernel⟩,
   ⟨⟨pw [] (fun p => { p with vinValid := true }), []⟩, 0, _, _, rfl, by decide +kernel, by decide +kernel, rfl, by decide +kernel⟩,
   ⟨⟨pw [] (fun p => { p with vinfAt := some 0 }), []⟩, 0, _, rfl, by decide +kernel, by decide +kernel, by decide +kernel⟩,
   ⟨⟨pw [] (fun p => { p with vinfAt := some 0 }), []⟩, us 2000, _, 0, rfl, by decide +kernel, by decide +kernel, by decide +kernel⟩,
   ⟨⟨pw [] (fun p => { p with vinfAt := some 0, graceDone := true }), []⟩, us 2000, _, 0, rfl, by decide +kernel, by decide +kernel, by decide +kernel, by decide +kernel⟩,
   ⟨⟨pw [] (fun p => { p with vinfAt := some 0, graceDone := true, shedDone := true }), []⟩, 0, _, 14000, rfl, by decide +kernel, by decide +kernel, by decide +kernel, by decide +kernel⟩,
   ⟨⟨pw [] (fun p => { p with finalDone := true }), []⟩, 0, _, rfl, by decide +kernel, by decide +kernel⟩,
   ⟨⟨pw [] (fun p => { p with vinValid := true }), []⟩, 0, _, rfl, by decide +kernel⟩,
   ⟨⟨on [(Addr.PWR_STAT, 0x10000)], []⟩, 0, _, rfl, by decide +kernel⟩⟩

/-- Every clause of `Obligations.DomainsAndSleep` that has hypotheses meets them. -/
theorem witness_DomainsAndSleep :
  (∃ (s : State) (t : Nat) (d : Device) (n : Fin 12),
    d = at50 s.dev t ∧ domOn d 1 = true ∧ powerBusy d = false ∧ n.1 ≠ 0 ∧ n.1 ≠ 1 ∧ n.1 ≠ 5 ∧ n.1 < 11) ∧
  (∃ (s : State) (t : Nat) (d : Device),
    d = at50 s.dev t ∧ domOn d 1 = true ∧ powerBusy d = true) ∧
  (∃ (s : State) (t : Nat) (d : Device) (n : Fin 12) (steward : Bool),
    d = at50 s.dev t ∧ domOn d 1 = true ∧ offCode d n.1 steward = 0) ∧
  (∃ (s : State) (t : Nat) (d : Device) (n : Fin 12) (steward : Bool),
    d = at50 s.dev t ∧ domOn d 1 = true ∧ offCode d n.1 steward ≠ 0) ∧
  (∃ (s : State) (t : Nat) (d : Device) (steward : Bool),
    d = at50 s.dev t ∧ domOn d 1 = true ∧ cycleCode d 11 steward = 0) ∧
  (∃ (s : State) (t : Nat) (d : Device) (at' : Nat),
    d = at50 s.dev t ∧ d.power.pd11OffAt = some at' ∧ at' + ms 100 ≤ t) ∧
  (∃ (s : State) (t : Nat) (d : Device),
    d = at50 s.dev t ∧ domOn d 1 = true ∧ sleepCode d = 0 ∧ ownMode d = 0) ∧
  (∃ (s : State) (t : Nat) (d : Device),
    d = at50 s.dev t ∧ domOn d 1 = true ∧ sleepCode d ≠ 0) ∧
  (∃ (s : State) (t : Nat) (d : Device),
    d = at50 s.dev t ∧ domOn d 1 = true ∧ rdF d Addr.PWR_STAT 18 2 = 1 ∧ d.power.sleepEntry = none) ∧
  (∃ (s : State) (t : Nat) (d : Device) (low : Nat),
    d = at50 s.dev t ∧ domOn d 0 = true ∧ 100 ≤ low ∧ rdB d Addr.PWR_WAKE_MASK 0 = true ∧ d.power.sleepEntry = none) ∧
  (∃ (s : State) (t : Nat) (d : Device),
    d = at50 s.dev t ∧ domOn d 0 = true ∧ rdN d Addr.PWR_RTC_ALARM ≠ 0 ∧ rdN d Addr.PWR_RTC_ALARM ≤ rtcNow t d ∧ rdB d Addr.PWR_WAKE_MASK 1 = true ∧ d.power.sleepEntry = none) :=
  ⟨⟨⟨on [], []⟩, 0, _, 7, rfl, by decide +kernel, by decide +kernel, by decide +kernel, by decide +kernel, by decide +kernel, by decide +kernel⟩,
   ⟨⟨pw [] (fun p => { p with resetReq := some (4, 0) }), []⟩, 0, _, rfl, by decide +kernel, by decide +kernel⟩,
   ⟨⟨on [], []⟩, 0, _, 9, true, rfl, by decide +kernel, by decide +kernel⟩,
   ⟨⟨on [], []⟩, 0, _, 0, true, rfl, by decide +kernel, by decide +kernel⟩,
   ⟨⟨on [], []⟩, 0, _, true, rfl, by decide +kernel, by decide +kernel⟩,
   ⟨⟨pw [] (fun p => { p with pd11OffAt := some 0 }), []⟩, ms 100, _, 0, rfl, by decide +kernel, by decide +kernel⟩,
   ⟨⟨on [], []⟩, 0, _, rfl, by decide +kernel, by decide +kernel, by decide +kernel⟩,
   ⟨⟨on [(Addr.LOOM_MODE, 1)], []⟩, 0, _, rfl, by decide +kernel, by decide +kernel⟩,
   ⟨⟨on [(Addr.PWR_STAT, 0x41FFF)], []⟩, 0, _, rfl, by decide +kernel, by decide +kernel, by decide +kernel⟩,
   ⟨⟨on [(Addr.PWR_WAKE_MASK, 3)], []⟩, 0, _, 100, rfl, by decide +kernel, by decide +kernel, by decide +kernel, by decide +kernel⟩,
   ⟨⟨on [(Addr.PWR_WAKE_MASK, 3), (Addr.PWR_RTC_ALARM, 2)], []⟩, sec 3, _, rfl, by decide +kernel, by decide +kernel, by decide +kernel, by decide +kernel, by decide +kernel⟩⟩

/-- Every clause of `Obligations.ResetsAndStartUp` that has hypotheses meets them. -/
theorem witness_ResetsAndStartUp :
  (∃ (s : State) (t : Nat) (d : Device) (low : Nat),
    d = at50 s.dev t ∧ 10000 ≤ low) ∧
  (∃ (s : State) (t : Nat) (d : Device) (low : Nat),
    d = at50 s.dev t ∧ low < 2000) ∧
  (∃ (s : State) (t : Nat) (d : Device) (idle : Nat),
    d = at50 s.dev t ∧ domOn d 1 = true ∧ 105000 ≤ idle) ∧
  (∃ (s : State) (t : Nat) (d : Device),
    d = at50 s.dev t ∧ domOn d 1 = true) ∧
  (∃ (s : State) (t : Nat) (d : Device) (v : Word),
    d = at50 s.dev t ∧ domOn d 1 = true ∧ v ≠ 0xA5C3) ∧
  (∃ (s : State) (t : Nat) (d : Device) (low : Nat),
    d = at50 s.dev t ∧ domOn d 1 = true ∧ 1000 ≤ low) ∧
  (∃ (d : Device) (kind : Nat),
    d.power.vinfAt = none ∧ d.power.resetReq = none ∧ domOn d 5 = true ∧ domOn d 1 = true ∧ kind ≠ 7) ∧
  (∃ (s : State) (t : Nat) (d : Device),
    d = at50 s.dev t ∧ d.power.resetReq = none ∧ d.power.starting = true ∧ d.power.vinfAt = none ∧ stepComplete d (rdF d Addr.PWR_STEP 0 4) = true) ∧
  (∃ (s : State) (t : Nat) (d : Device) (kind at' : Nat),
    d = at50 s.dev t ∧ d.power.resetReq = some (kind, at') ∧ at' + ms 2 ≤ t) ∧
  (∃ (s : State) (t : Nat) (d : Device),
    d = at50 s.dev t ∧ d.power.resetReq = none ∧ d.power.starting = true ∧ d.power.vinfAt = none ∧ notReady d ≠ 0) ∧
  (∃ (s : State) (t : Nat) (d e : Device),
    d = at50 s.dev t ∧ d.power.resetReq = none ∧ d.power.starting = true ∧ d.power.vinfAt = none ∧ notReady d = 0 ∧ e = wrB (wrB (wrF (wrN d Addr.PWR_NOT_READY 0) Addr.PWR_STEP 0 4 11) Addr.PWR_STAT 20 true) Addr.HK_CFG 1 false) :=
  ⟨⟨⟨on [], []⟩, 0, _, 10000, rfl, by decide +kernel⟩,
   ⟨⟨on [], []⟩, 0, _, 1999, rfl, by decide +kernel⟩,
   ⟨⟨on [], []⟩, 0, _, 105000, rfl, by decide +kernel, by decide +kernel⟩,
   ⟨⟨on [], []⟩, 0, _, rfl, by decide +kernel⟩,
   ⟨⟨on [], []⟩, 0, _, 0, rfl, by decide +kernel, by decide +kernel⟩,
   ⟨⟨on [], []⟩, 0, _, 1000, rfl, by decide +kernel, by decide +kernel⟩,
   ⟨on [], 4, by decide +kernel, by decide +kernel, by decide +kernel, by decide +kernel, by decide +kernel⟩,
   ⟨⟨pw [] (fun p => { p with starting := true }), []⟩, 0, _, rfl, by decide +kernel, by decide +kernel, by decide +kernel, by decide +kernel⟩,
   ⟨⟨pw [] (fun p => { p with resetReq := some (4, 0) }), []⟩, ms 2, _, 4, 0, rfl, by decide +kernel, by decide +kernel⟩,
   ⟨⟨pw [] (fun p => { p with starting := true }), []⟩, 0, _, rfl, by decide +kernel, by decide +kernel, by decide +kernel, by decide +kernel⟩,
   ⟨⟨readyUnit, []⟩, 0, _, _, rfl, by decide +kernel, by decide +kernel, by decide +kernel, by decide +kernel, rfl⟩⟩

/-- Every clause of `Obligations.LockAndCoast` that has hypotheses meets them. -/
theorem witness_LockAndCoast :
  (∃ (s : State) (t : Nat) (d : Device) (mv : Nat),
    d = at50 s.dev t ∧ domOn d 5 = true ∧ rdB d Addr.CLK_STAT 0 = false ∧ d.clock.acquiring = true ∧ lockfInside d mv = true ∧ coasting d = false) ∧
  (∃ (s : State) (t : Nat) (d : Device) (mv : Nat),
    d = at50 s.dev t ∧ domOn d 5 = true ∧ rdB d Addr.CLK_STAT 0 = false ∧ d.clock.acquiring = true ∧ lockfInside d mv = true ∧ coasting d = true) ∧
  (∃ (s : State) (t : Nat) (d : Device),
    d = at50 s.dev t ∧ domOn d 5 = true ∧ rdB d Addr.CLK_STAT 0 = true) ∧
  (∃ (s : State) (t : Nat) (d e : Device) (mv held : Nat),
    d = at50 s.dev t ∧ domOn d 5 = true ∧ rdB d Addr.CLK_STAT 0 = true ∧ rdF d Addr.CLK_LOCKF 16 16 < mv ∧ rdF d Addr.CLK_LOCKF_T 0 14 ≤ held ∧ e = wrF d Addr.CLK_LOCKF_MV 0 12 mv) ∧
  (∃ (s : State) (t : Nat) (d : Device),
    d = at50 s.dev t ∧ domOn d 5 = true ∧ rdB d Addr.CLK_STAT 1 = true ∧ d.clock.firstLock.isSome = true) ∧
  (∃ (d : Device),
    coasting d = false ∧ redState d ≠ 3) ∧
  (∃ (s : State) (t : Nat) (d : Device) (mv : Nat),
    d = at50 s.dev t ∧ domOn d 5 = true ∧ rdB d Addr.CLK_STAT 0 = true ∧ rdB d Addr.CLK_STAT 6 = false ∧ mv < rdF d Addr.CLK_LOCKF 0 16) ∧
  (∃ (s : State) (t : Nat) (d : Device) (mv : Nat),
    d = at50 s.dev t ∧ domOn d 5 = true ∧ rdB d Addr.CLK_STAT 6 = true ∧ lockfInside d mv = true) ∧
  (∃ (s : State) (t : Nat) (d : Device),
    d = at50 s.dev t ∧ domOn d 5 = true ∧ rdB d Addr.CLK_STAT 0 = false) ∧
  (∃ (s : State) (t : Nat) (d : Device) (h at' : Nat),
    d = at50 s.dev t ∧ domOn d 5 = true ∧ d.clock.holdFrom = some h ∧ rdB d Addr.CLK_STAT 2 = true ∧ h + ms (rdF d Addr.CLK_CFG 0 10) ≤ t ∧ d.clock.lossAt = some at') :=
  ⟨⟨⟨ck [(Addr.CLK_LOCKF, 0xFFF0000)] (fun c => { c with acquiring := true }), []⟩, 0, _, 100, rfl, by decide +kernel, by decide +kernel, by decide +kernel, by decide +kernel, by decide +kernel⟩,
   ⟨⟨ck [(Addr.CLK_LOCKF, 0xFFF0000), (Addr.CLK_STAT, 8)] (fun c => { c with acquiring := true }), []⟩, 0, _, 100, rfl, by decide +kernel, by decide +kernel, by decide +kernel, by decide +kernel, by decide +kernel⟩,
   ⟨⟨on [(Addr.CLK_STAT, 1)], []⟩, 0, _, rfl, by decide +kernel, by decide +kernel⟩,
   ⟨⟨on [(Addr.CLK_STAT, 1), (Addr.CLK_LOCKF, 0xFF0000), (Addr.CLK_LOCKF_T, 5)], []⟩, 0, _, _, 300, 5, rfl, by decide +kernel, by decide +kernel, by decide +kernel, by decide +kernel, rfl⟩,
   ⟨⟨ck [(Addr.CLK_STAT, 3)] (fun c => { c with firstLock := some 0 }), []⟩, 0, _, rfl, by decide +kernel, by decide +kernel, by decide +kernel⟩,
   ⟨on [], by decide +kernel, by decide +kernel⟩,
   ⟨⟨on [(Addr.CLK_STAT, 1), (Addr.CLK_LOCKF, 0x100)], []⟩, 0, _, 255, rfl, by decide +kernel, by decide +kernel, by decide +kernel, by decide +kernel⟩,
   ⟨⟨on [(Addr.CLK_STAT, 0x41), (Addr.CLK_LOCKF, 0xFFF0000)], []⟩, 0, _, 100, rfl, by decide +kernel, by decide +kernel, by decide +kernel⟩,
   ⟨⟨on [], []⟩, 0, _, rfl, by decide +kernel, by decide +kernel⟩,
   ⟨⟨ck [(Addr.CLK_STAT, 13)] (fun c => { c with holdFrom := some 0, lossAt := some 0 }), []⟩, sec 2, _, 0, 0, rfl, by decide +kernel, by decide +kernel, by decide +kernel, by decide +kernel, by decide +kernel⟩⟩

/-- Every clause of `Obligations.TheHandover` that has hypotheses meets them. -/
theorem witness_TheHandover :
  (∃ (s : State) (t : Nat) (d : Device),
    d = at50 s.dev t ∧ domOn d 1 = true ∧ domOn d 6 = true ∧ paired d = true ∧ redState d = 2 ∧ pairSync d = true) ∧
  (∃ (s : State) (t : Nat) (d : Device),
    d = at50 s.dev t ∧ domOn d 1 = true ∧ domOn d 6 = true) ∧
  (∃ (s : State) (t : Nat) (d e : Device),
    d = at50 s.dev t ∧ domOn d 1 = true ∧ paired d = true ∧ redState d = 3 ∧ e = wrB d Addr.RED_STAT 11 true ∧ stateStale t d = false) ∧
  (∃ (s : State) (t : Nat) (d : Device),
    d = at50 s.dev t ∧ domOn d 1 = true ∧ paired d = true ∧ redState d = 3 ∧ stateStale t d = true) ∧
  (∃ (s : State) (t : Nat) (d : Device),
    d = at50 s.dev t ∧ domOn d 1 = true ∧ paired d = true ∧ redState d = 4 ∧ ownMode d = 1) ∧
  (∃ (s : State) (t : Nat) (d : Device),
    d = at50 s.dev t ∧ domOn d 1 = true ∧ redState d = 5 ∧ ownMode d = 1) ∧
  (∃ (s : State) (t : Nat) (d : Device),
    d = at50 s.dev t ∧ domOn d 1 = true ∧ redState d ≠ 5) ∧
  (∃ (s : State) (t : Nat) (d : Device) (h : Nat),
    d = at50 s.dev t ∧ domOn d 1 = true ∧ d.red.handAt = some h ∧ redState d = 4 ∧ ownMode d = 1 ∧ h + us 50 ≤ t) ∧
  (∃ (s : State) (t : Nat) (d : Device) (r f : Nat),
    d = at50 s.dev t ∧ domOn d 1 = true ∧ redState d = 3 ∧ d.red.lastRx = some r ∧ r + 2 * t0Time d ≤ t ∧ d.red.pownHighAt = some f ∧ f + us 25 ≤ t ∧ stateStale t d = false) ∧
  (∃ (s : State) (t : Nat) (d : Device) (r f : Nat),
    d = at50 s.dev t ∧ domOn d 1 = true ∧ redState d = 3 ∧ d.red.lastRx = some r ∧ r + 2 * t0Time d ≤ t ∧ d.red.pownHighAt = some f ∧ f + us 25 ≤ t ∧ stateStale t d = true) :=
  ⟨⟨⟨on [(Addr.RED_CFG, 1), (Addr.RED_STAT, 0x22)], []⟩, 0, _, rfl, by decide +kernel, by decide +kernel, by decide +kernel, by decide +kernel, by decide +kernel⟩,
   ⟨⟨on [], []⟩, 0, _, rfl, by decide +kernel, by decide +kernel⟩,
   ⟨⟨fresh', []⟩, 0, _, _, rfl, by decide +kernel, by decide +kernel, by decide +kernel, rfl, by decide +kernel⟩,
   ⟨⟨on [(Addr.RED_CFG, 1), (Addr.RED_STAT, 3)], []⟩, 0, _, rfl, by decide +kernel, by decide +kernel, by decide +kernel, by decide +kernel⟩,
   ⟨⟨on [(Addr.RED_CFG, 1), (Addr.RED_STAT, 4), (Addr.GATE_OWN_STAT, 1)], []⟩, 0, _, rfl, by decide +kernel, by decide +kernel, by decide +kernel, by decide +kernel⟩,
   ⟨⟨on [(Addr.RED_STAT, 5), (Addr.GATE_OWN_STAT, 1)], []⟩, 0, _, rfl, by decide +kernel, by decide +kernel, by decide +kernel⟩,
   ⟨⟨on [], []⟩, 0, _, rfl, by decide +kernel, by decide +kernel⟩,
   ⟨⟨rdn [(Addr.RED_STAT, 4), (Addr.GATE_OWN_STAT, 1)] (fun r => { r with handAt := some 0 }), []⟩, us 50, _, 0, rfl, by decide +kernel, by decide +kernel, by decide +kernel, by decide +kernel, by decide +kernel⟩,
   ⟨⟨fresh', []⟩, us 130, _, 0, 0, rfl, by decide +kernel, by decide +kernel, by decide +kernel, by decide +kernel, by decide +kernel, by decide +kernel, by decide +kernel⟩,
   ⟨⟨rdn [(Addr.RED_STAT, 3), (Addr.LOOM_T0_CKF, 15625)] (fun r => { r with lastRx := some 0 }), []⟩, us 130, _, 0, 0, rfl, by decide +kernel, by decide +kernel, by decide +kernel, by decide +kernel, by decide +kernel, by decide +kernel, by decide +kernel⟩⟩

/-- Every clause of `Obligations.TakingControl` that has hypotheses meets them. -/
theorem witness_TakingControl :
  (∃ (s : State) (t : Nat) (d : Device) (f cycle : Nat) (bs : List Byte),
    d = at50 s.dev t ∧ domOn d 1 = true ∧ d.red.takeFrom = some f ∧ d.red.image = some (cycle, bs) ∧ redState d = 5 ∧ ownMode d = 2 ∧ f + us 9 ≤ t) ∧
  (∃ (s : State) (t : Nat) (d : Device) (at' : Nat),
    d = at50 s.dev t ∧ domOn d 1 = true ∧ domOn d 6 = true ∧ paired d = true ∧ unitB d = false ∧ redState d = 3 ∧ pairSync d = true ∧ d.red.syncAt = some at' ∧ at' + sec (rdF d Addr.RED_TIMES 16 12) ≤ t ∧ 1000 ≤ rdN d Addr.RED_MATCH ∧ rdB d Addr.RED_STAT 7 = false ∧ rdB d Addr.RED_STAT 8 = false ∧ (rdI d Addr.RED_OFFSET).natAbs < 1000 ∧ rdB d Addr.RED_STAT 14 = false ∧ ((rdF d Addr.RED_CFG 1 2 = 1 ∨ rdF d Addr.RED_CFG 1 2 = 2 ∧ partnerDisabled d = true))) ∧
  (∃ (s : State) (t : Nat) (d e : Device),
    d = at50 s.dev t ∧ domOn d 1 = true ∧ paired d = true ∧ redState d = 1 ∧ Machine.unitReady d = true ∧ e = pownRead true t d) ∧
  (∃ (s : State) (t : Nat) (d e : Device),
    d = at50 s.dev t ∧ domOn d 1 = true ∧ paired d = true ∧ redState d = 1 ∧ Machine.unitReady d = true ∧ unitB d = false ∧ d.red.partner ≠ 2 ∧ rdF d Addr.PWR_RST_CAUSE 0 8 ≠ 8 ∧ e = pownRead false t d) ∧
  (∃ (s : State) (t : Nat) (d e : Device),
    d = at50 s.dev t ∧ domOn d 1 = true ∧ paired d = true ∧ redState d = 1 ∧ Machine.unitReady d = true ∧ (d.red.partner = 2 ∨ rdF d Addr.PWR_RST_CAUSE 0 8 = 8) ∧ e = pownRead false t d) ∧
  (∃ (s : State) (t : Nat) (d e : Device) (r : Nat) (low : Bool),
    d = at50 s.dev t ∧ domOn d 1 = true ∧ d.red.readyAt = some r ∧ d.red.lastRx = none ∧ paired d = true ∧ redState d = 1 ∧ unitB d = true ∧ r + ms (rdF d Addr.RED_TIMES 0 14) ≤ t ∧ e = pownRead low t d) :=
  ⟨⟨⟨rdn [(Addr.RED_STAT, 5), (Addr.GATE_OWN_STAT, 2)] (fun r => { r with takeFrom := some 0, image := some (0, []) }), []⟩, us 9, _, 0, 0, [], rfl, by decide +kernel, by decide +kernel, by decide +kernel, by decide +kernel, by decide +kernel, by decide +kernel⟩,
   ⟨⟨rdn [(Addr.RED_STAT, 0x23), (Addr.RED_CFG, 3), (Addr.RED_MATCH, 1000)] (fun r => { r with syncAt := some 0 }), []⟩, sec 5000, _, 0, rfl, by decide +kernel, by decide +kernel, by decide +kernel, by decide +kernel, by decide +kernel, by decide +kernel, by decide +kernel, by decide +kernel, by decide +kernel, by decide +kernel, by decide +kernel, by decide +kernel, by decide +kernel, by decide +kernel⟩,
   ⟨⟨on [(Addr.RED_CFG, 1), (Addr.RED_STAT, 1), (Addr.PWR_STAT, 0x101FFF)], []⟩, 0, _, _, rfl, by decide +kernel, by decide +kernel, by decide +kernel, by decide +kernel, rfl⟩,
   ⟨⟨on [(Addr.RED_CFG, 1), (Addr.RED_STAT, 1), (Addr.PWR_STAT, 0x101FFF)], []⟩, 0, _, _, rfl, by decide +kernel, by decide +kernel, by decide +kernel, by decide +kernel, by decide +kernel, by decide +kernel, by decide +kernel, rfl⟩,
   ⟨⟨rdn [(Addr.RED_CFG, 1), (Addr.RED_STAT, 1), (Addr.PWR_STAT, 0x101FFF)] (fun r => { r with partner := 2 }), []⟩, 0, _, _, rfl, by decide +kernel, by decide +kernel, by decide +kernel, by decide +kernel, by decide +kernel, rfl⟩,
   ⟨⟨rdn [(Addr.RED_CFG, 1), (Addr.RED_STAT, 0x11)] (fun r => { r with readyAt := some 0 }), []⟩, sec 100, _, _, 0, true, rfl, by decide +kernel, by decide +kernel, by decide +kernel, by decide +kernel, by decide +kernel, by decide +kernel, by decide +kernel, rfl⟩⟩

/-- Every clause of `Obligations.TheFilutLink` that has hypotheses meets them. -/
theorem witness_TheFilutLink :
  (∃ (s : State) (t : Nat) (d : Device) (bs : List Byte),
    d = at50 s.dev t ∧ domOn d 1 = true ∧ domOn d 6 = true ∧ filutRuns d = true ∧ crc32c (bs.take (bs.length - 4)) ≠ sliceLE bs (bs.length - 4) 4) ∧
  (∃ (s : State) (t : Nat) (d : Device) (bs : List Byte),
    d = at50 s.dev t ∧ domOn d 1 = true ∧ domOn d 6 = true ∧ filutRuns d = true ∧ 36 ≤ bs.length ∧ crc32c (bs.take (bs.length - 4)) = sliceLE bs (bs.length - 4) 4 ∧ sliceLE bs 0 2 = 0x5057 ∧ sliceLE bs 2 1 = 4 ∧ bs.length = sliceLE bs 28 2 + 36 ∧ d.red.rxSeq[4]? = some none) ∧
  (∃ (s : State) (t : Nat) (d : Device) (r : Nat),
    d = at50 s.dev t ∧ domOn d 1 = true ∧ domOn d 6 = true ∧ d.red.lastRx = some r ∧ r + 2 * t0Time d ≤ t ∧ redState d ≠ 2) ∧
  (∃ (s : State) (t : Nat) (d e : Device) (r : Nat),
    d = at50 s.dev t ∧ domOn d 1 = true ∧ domOn d 6 = true ∧ d.red.lastRx = some r ∧ r + 2 * t0Time d ≤ t ∧ redState d = 2 ∧ e = wrB { d with red := { d.red with rxRun := 0, peerUp := false } } Addr.RED_STAT 6 false) ∧
  (∃ (s : State) (t : Nat) (d : Device),
    d = at50 s.dev t ∧ domOn d 1 = true ∧ domOn d 6 = true ∧ redState d = 2 ∧ d.red.stopTx = false ∧ filutRuns d = true ∧ d.red.mirrorDue = false ∧ d.red.mirrorTx = [] ∧ d.red.t1Tx ≠ [] ∧ 0 < segmentRoom d (max t d.red.txEnd)) ∧
  (∃ (d : Device),
    filutRuns d = true) :=
  ⟨⟨⟨on [(Addr.RED_CFG, 1)], []⟩, 0, _, [1, 2, 3, 4, 5], rfl, by decide +kernel, by decide +kernel, by decide +kernel, by decide +kernel⟩,
   ⟨⟨on [(Addr.RED_CFG, 1)], []⟩, 0, _, (let h := [0x57, 0x50, 4, 0, 9, 0, 0, 0] ++ zeros 24; h ++ bytesLE 4 (crc32c h)), rfl, by decide +kernel, by decide +kernel, by decide +kernel, by decide +kernel, by decide +kernel, by decide +kernel, by decide +kernel, by decide +kernel, by decide +kernel⟩,
   ⟨⟨rdn [(Addr.LOOM_T0_CKF, 15625)] (fun r => { r with lastRx := some 0 }), []⟩, us 100, _, 0, rfl, by decide +kernel, by decide +kernel, by decide +kernel, by decide +kernel, by decide +kernel⟩,
   ⟨⟨rdn [(Addr.RED_STAT, 2), (Addr.LOOM_T0_CKF, 15625)] (fun r => { r with lastRx := some 0 }), []⟩, us 100, _, _, 0, rfl, by decide +kernel, by decide +kernel, by decide +kernel, by decide +kernel, by decide +kernel, rfl⟩,
   ⟨⟨rdn [(Addr.RED_CFG, 1), (Addr.RED_STAT, 2), (Addr.LOOM_T0_CKF, 15625)] (fun r => { r with t1Tx := [1] }), []⟩, 0, _, rfl, by decide +kernel, by decide +kernel, by decide +kernel, by decide +kernel, by decide +kernel, by decide +kernel, by decide +kernel, by decide +kernel, by decide +kernel⟩,
   ⟨on [(Addr.RED_CFG, 1)], by decide +kernel⟩⟩

/-- Every clause of `Obligations.EthernetAndPrp` that has hypotheses meets them. -/
theorem witness_EthernetAndPrp :
  (∃ (s : State) (t : Nat) (d : Device) (n : Fin 2) (f : List Byte),
    d = at50 s.dev t ∧ domOn d 1 = true ∧ domOn d 6 = true ∧ ethOn d n.1 = true ∧ macTakes d f = false) ∧
  (∃ (s : State) (t : Nat) (d : Device) (n : Fin 2) (f : List Byte),
    d = at50 s.dev t ∧ domOn d 1 = true ∧ domOn d 6 = true ∧ ethOn d n.1 = true ∧ macTakes d f = true ∧ (frameBody f).1 = 0x88F7) ∧
  (∃ (s : State) (t : Nat) (d : Device) (n : Fin 2) (f : List Byte),
    d = at50 s.dev t ∧ domOn d 1 = true ∧ domOn d 6 = true ∧ ethOn d n.1 = true ∧ macTakes d f = true ∧ (frameBody f).1 = 0x0806 ∧ prpOn d = false) ∧
  (∃ (s : State) (t : Nat) (d : Device) (n : Fin 2) (f : List Byte),
    d = at50 s.dev t ∧ domOn d 1 = true ∧ domOn d 6 = true ∧ ethOn d n.1 = true ∧ macTakes d f = true ∧ (frameBody f).1 = 0x0800 ∧ prpOn d = false) ∧
  (∃ (s : State) (t : Nat) (d : Device) (n : Fin 2) (f : List Byte) (seq : Nat),
    d = at50 s.dev t ∧ domOn d 1 = true ∧ domOn d 6 = true ∧ ethOn d n.1 = true ∧ macTakes d f = true ∧ (frameBody f).1 ≠ 0x88F7 ∧ prpOn d = true ∧ prpSeq? f = some seq ∧ (prpSee (natBE ((f.drop 6).take 6)) seq n.1 t d).1 = true) ∧
  (∃ (s : State) (t : Nat) (d e : Device) (n : Fin 2) (speed : Nat),
    d = at50 s.dev t ∧ domOn d 1 = true ∧ domOn d 6 = true ∧ rdF d Addr.NET_CFG (4 + 2 * n.1) 2 = 0 ∧ e = wrF (wrB d Addr.ETH_LINK n.1 true) Addr.ETH_LINK (2 + 2 * n.1) 2 (speed % 4)) ∧
  (∃ (s : State) (t : Nat) (d : Device),
    d = at50 s.dev t ∧ domOn d 1 = true ∧ domOn d 6 = true ∧ prpOn d = true) ∧
  (∃ (d : Device) (n : Nat),
    prpOn d = false ∧ ethOn d n = true) :=
  ⟨⟨⟨nt [] id, []⟩, 0, _, 0, [], rfl, by decide +kernel, by decide +kernel, by decide +kernel, by decide +kernel⟩,
   ⟨⟨nt [] id, []⟩, 0, _, 0, List.replicate 12 0xFF ++ [0x88, 0xF7], rfl, by decide +kernel, by decide +kernel, by decide +kernel, by decide +kernel, by decide +kernel⟩,
   ⟨⟨nt [] id, []⟩, 0, _, 0, List.replicate 12 0xFF ++ [8, 6], rfl, by decide +kernel, by decide +kernel, by decide +kernel, by decide +kernel, by decide +kernel, by decide +kernel⟩,
   ⟨⟨nt [] id, []⟩, 0, _, 0, List.replicate 12 0xFF ++ [8, 0], rfl, by decide +kernel, by decide +kernel, by decide +kernel, by decide +kernel, by decide +kernel, by decide +kernel⟩,
   ⟨⟨nt [(Addr.NET_CFG, 7)] (fun x => { x with prpSeen := [(0xFFFFFFFFFFFF, 5, 1, 0)] }), []⟩, 0, _, 0, List.replicate 12 0xFF ++ [8, 0] ++ [0, 5, 0xA0, 6, 0x88, 0xFB], 5, rfl, by decide +kernel, by decide +kernel, by decide +kernel, by decide +kernel, by decide +kernel, by decide +kernel, by decide +kernel, by decide +kernel⟩,
   ⟨⟨on [], []⟩, 0, _, _, 0, 0, rfl, by decide +kernel, by decide +kernel, by decide +kernel, rfl⟩,
   ⟨⟨on [(Addr.NET_CFG, 4)], []⟩, 0, _, rfl, by decide +kernel, by decide +kernel, by decide +kernel⟩,
   ⟨nt [] id, 0, by decide +kernel, by decide +kernel⟩⟩

/-- Every clause of `Obligations.CanFd` that has hypotheses meets them. -/
theorem witness_CanFd :
  (∃ (s : State) (t : Nat) (d : Device),
    d = at50 s.dev t ∧ domOn d 1 = true ∧ domOn d 6 = true) ∧
  (∃ (s : State) (t : Nat) (d : Device) (c : Fin 2),
    d = at50 s.dev t ∧ domOn d 1 = true ∧ domOn d 6 = true ∧ canOn d c.1 = true) ∧
  (∃ (s : State) (t : Nat) (d : Device) (c : Fin 2) (ident : Nat) (ext : Bool),
    d = at50 s.dev t ∧ domOn d 1 = true ∧ domOn d 6 = true ∧ canOn d c.1 = true ∧ ext = rdB d (Addr.CAN_CFG c.1) 1 ∧ ident = rdF d (Addr.CAN_TRXID c.1) 0 29) ∧
  (∃ (s : State) (t : Nat) (d : Device) (c : Fin 2) (ident : Nat) (ext : Bool),
    d = at50 s.dev t ∧ domOn d 1 = true ∧ domOn d 6 = true ∧ canOn d c.1 = true ∧ ext = rdB d (Addr.CAN_CFG c.1) 1 ∧ ident ≠ rdF d (Addr.CAN_TRXID c.1) 0 29) ∧
  (∃ (s : State) (t : Nat) (d : Device) (c : Fin 2),
    d = at50 s.dev t ∧ domOn d 1 = true ∧ domOn d 6 = true ∧ canOn d c.1 = true) ∧
  (∃ (s : State) (t : Nat) (d : Device) (c : Fin 2),
    d = at50 s.dev t ∧ domOn d 1 = true ∧ domOn d 6 = true ∧ rdF d (Addr.CAN_STAT c.1) 0 2 = 2) :=
  ⟨⟨⟨on [], []⟩, 0, _, rfl, by decide +kernel, by decide +kernel⟩,
   ⟨⟨nt [(Addr.CAN_CFG 0, 1)] id, []⟩, 0, _, 0, rfl, by decide +kernel, by decide +kernel, by decide +kernel⟩,
   ⟨⟨nt [(Addr.CAN_CFG 0, 1), (Addr.CAN_TRXID 0, 5)] id, []⟩, 0, _, 0, 5, false, rfl, by decide +kernel, by decide +kernel, by decide +kernel, by decide +kernel, by decide +kernel⟩,
   ⟨⟨nt [(Addr.CAN_CFG 0, 1), (Addr.CAN_TRXID 0, 5)] id, []⟩, 0, _, 0, 6, false, rfl, by decide +kernel, by decide +kernel, by decide +kernel, by decide +kernel, by decide +kernel⟩,
   ⟨⟨nt [(Addr.CAN_CFG 0, 1)] id, []⟩, 0, _, 0, rfl, by decide +kernel, by decide +kernel, by decide +kernel⟩,
   ⟨⟨on [(Addr.CAN_STAT 0, 2)], []⟩, 0, _, 0, rfl, by decide +kernel, by decide +kernel, by decide +kernel⟩⟩

/-- Every clause of `Obligations.ThePtpMessages` that has hypotheses meets them. -/
theorem witness_ThePtpMessages :
  (∃ (s : State) (t : Nat) (d : Device) (n : Fin 2) (m : List Byte) (src : Nat) (a : Announce),
    d = at50 s.dev t ∧ domOn d 1 = true ∧ domOn d 6 = true ∧ ptpOn d n.1 = true ∧ ptpValid d m = true ∧ (d.net.ports[n.1]).role = .slave ∧ (d.net.ports[n.1]).best = some (src, a) ∧ src = ptpSource m ∧ 44 ≤ m.length ∧ ptpType m = 0 ∧ ptpTwoStep m = false) ∧
  (∃ (s : State) (t : Nat) (d : Device) (n : Fin 2) (m : List Byte) (src : Nat) (a : Announce),
    d = at50 s.dev t ∧ domOn d 1 = true ∧ domOn d 6 = true ∧ ptpOn d n.1 = true ∧ ptpValid d m = true ∧ (d.net.ports[n.1]).role = .slave ∧ (d.net.ports[n.1]).best = some (src, a) ∧ src = ptpSource m ∧ 44 ≤ m.length ∧ ptpType m = 0 ∧ ptpTwoStep m = true) ∧
  (∃ (s : State) (t : Nat) (d : Device) (n : Fin 2) (m : List Byte),
    d = at50 s.dev t ∧ domOn d 1 = true ∧ domOn d 6 = true ∧ ptpOn d n.1 = true ∧ ptpValid d m = true ∧ ptpType m = 11 ∧ 64 ≤ m.length ∧ (readAnnounce m).identity ≠ natBE (clockIdentity d) ∧ (readAnnounce m).steps < 255 ∧ keepOffer (d.net.ports[n.1]).best (ptpSource m) (readAnnounce m) = true) ∧
  (∃ (s : State) (t : Nat) (d : Device) (n : Fin 2),
    d = at50 s.dev t ∧ domOn d 1 = true ∧ domOn d 6 = true ∧ ptpOn d n.1 = true ∧ (d.net.ports[n.1]).heardAt + sec 3 ≤ t) ∧
  (∃ (s : State) (t : Nat) (d : Device) (n : Fin 2) (m : List Byte),
    d = at50 s.dev t ∧ domOn d 1 = true ∧ domOn d 6 = true ∧ ptpOn d n.1 = true ∧ ptpValid d m = true ∧ 54 ≤ m.length ∧ ptpType m = 2) ∧
  (∃ (s : State) (t : Nat) (d : Device) (n : Fin 2) (m : List Byte) (left : Int),
    d = at50 s.dev t ∧ domOn d 1 = true ∧ domOn d 6 = true ∧ ptpOn d n.1 = true ∧ ptpValid d m = true ∧ 54 ≤ m.length ∧ ptpType m = 3 ∧ (d.net.ports[n.1]).pdelayAt = some left ∧ (m.drop 44).take 10 = portIdentity d n.1 ∧ ptpSeq m = (d.net.ports[n.1]).seq ∧ ptpTwoStep m = false) ∧
  (∃ (s : State) (t : Nat) (d : Device) (n : Fin 2),
    d = at50 s.dev t ∧ domOn d 1 = true ∧ domOn d 6 = true ∧ ptpOn d n.1 = true ∧ (d.net.ports[n.1]).role ≠ .master) :=
  ⟨⟨⟨slave, []⟩, 0, _, 0, ptp 0 0 10, 0, ⟨0, 0, 0, 0, 0, 0, 0⟩, rfl, by decide +kernel, by decide +kernel, by decide +kernel, by decide +kernel, by decide +kernel, by decide +kernel, by decide +kernel, by decide +kernel, by decide +kernel, by decide +kernel⟩,
   ⟨⟨slave, []⟩, 0, _, 0, ptp 0 2 10, 0, ⟨0, 0, 0, 0, 0, 0, 0⟩, rfl, by decide +kernel, by decide +kernel, by decide +kernel, by decide +kernel, by decide +kernel, by decide +kernel, by decide +kernel, by decide +kernel, by decide +kernel, by decide +kernel⟩,
   ⟨⟨slave, []⟩, 0, _, 0, ptp 11 0 30, rfl, by decide +kernel, by decide +kernel, by decide +kernel, by decide +kernel, by decide +kernel, by decide +kernel, by decide +kernel, by decide +kernel, by decide +kernel⟩,
   ⟨⟨slave, []⟩, sec 3, _, 0, rfl, by decide +kernel, by decide +kernel, by decide +kernel, by decide +kernel⟩,
   ⟨⟨slave, []⟩, 0, _, 0, ptp 2 0 20, rfl, by decide +kernel, by decide +kernel, by decide +kernel, by decide +kernel, by decide +kernel, by decide +kernel⟩,
   ⟨⟨slave, []⟩, 0, _, 0, [3, 2, 0, 54] ++ zeros 40 ++ [0, 0, 0, 0xFF, 0xFE, 0, 0, 0, 0, 1], 0, rfl, by decide +kernel, by decide +kernel, by decide +kernel, by decide +kernel, by decide +kernel, by decide +kernel, by decide +kernel, by decide +kernel, by decide +kernel, by decide +kernel⟩,
   ⟨⟨slave, []⟩, 0, _, 0, rfl, by decide +kernel, by decide +kernel, by decide +kernel, by decide +kernel⟩⟩

/-- Every clause of `Obligations.TheTimebase` that has hypotheses meets them. -/
theorem witness_TheTimebase :
  (∃ (s : State) (t : Nat) (d : Device),
    d = at50 s.dev t ∧ domOn d 1 = true ∧ d.net.syncAt + sec 3 ≤ t ∧ (timeState d = 2 ∨ timeState d = 3)) ∧
  (∃ (s : State) (t : Nat) (d : Device) (at' : Nat),
    d = at50 s.dev t ∧ domOn d 1 = true ∧ d.net.holdFrom = some at' ∧ timeState d = 4 ∧ at' + sec (rdF d Addr.TIME_LIMS 20 12) ≤ t) ∧
  (∃ (s : State) (t : Nat) (d e : Device),
    d = at50 s.dev t ∧ domOn d 1 = true ∧ d.time.tickRead t / 1000000000 ≠ d.net.lastSec ∧ d.time.total t < 2 ^ 64 ∧ d.time.read t / 1000000000 = d.time.tickRead t / 1000000000 ∧ timeState d = 3 ∧ e = wr64 (wr64 d (Addr.TIME_XCAP_IALOS_LO 0) (d.time.read t)) (Addr.TIME_XCAP_EDGE_LO 0) (edgeNow d t)) ∧
  (∃ (s : State) (t : Nat) (d : Device) (at' : Nat),
    d = at50 s.dev t ∧ domOn d 1 = true ∧ d.net.tpps = some at' ∧ at' + ms 100 ≤ t) ∧
  (∃ (d : Device),
    rdB d Addr.TIME_STAT 4 = false) ∧
  (∃ (b : TimeBase) (t : Nat),
    b.at50 ≤ t) ∧
  (∃ (b : TimeBase) (t : Nat) (u : Nat),
    b.at50 ≤ t ∧ t ≤ u) :=
  ⟨⟨⟨on [(Addr.TIME_STAT, 3)], []⟩, sec 3, _, rfl, by decide +kernel, by decide +kernel, by decide +kernel⟩,
   ⟨⟨nt [(Addr.TIME_STAT, 4)] (fun x => { x with holdFrom := some 0 }), []⟩, sec 5000, _, 0, rfl, by decide +kernel, by decide +kernel, by decide +kernel, by decide +kernel⟩,
   ⟨⟨on [(Addr.TIME_STAT, 3)], []⟩, sec 2 + us 1, _, _, rfl, by decide +kernel, by decide +kernel, by decide +kernel, by decide +kernel, by decide +kernel, rfl⟩,
   ⟨⟨nt [] (fun x => { x with tpps := some 0 }), []⟩, ms 100, _, 0, rfl, by decide +kernel, by decide +kernel, by decide +kernel⟩,
   ⟨on [], by decide +kernel⟩,
   ⟨⟨0, 0, 0, 0x666666666⟩, sec 1, by decide +kernel⟩,
   ⟨⟨0, 0, 0, 0x666666666⟩, sec 1, sec 2, by decide +kernel, by decide +kernel⟩⟩

/-- Every clause of `Obligations.TheCallsOfTheKernel` that has hypotheses meets them. -/
theorem witness_TheCallsOfTheKernel :
  (∃ (s : State) (t : Nat) (d : Device),
    d = at50 s.dev t ∧ (domOn d 2 || domOn d 3) = true) ∧
  (∃ (s : State) (t : Nat) (d : Device) (inp : Nat),
    d = at50 s.dev t ∧ (domOn d 2 || domOn d 3) = true ∧ memNat d (inp + 4) 4 ≠ 0) ∧
  (∃ (s : State) (t : Nat) (d : Device) (ctx inp k : Nat) (i : LoomImage),
    d = at50 s.dev t ∧ (domOn d 2 || domOn d 3) = true ∧ memNat d (inp + 4) 4 = 0 ∧ d.loom.kernelNow = some k ∧ d.loom.image = some i ∧ i.kctx = ctx) ∧
  (∃ (s : State) (t : Nat) (d : Device) (inp : Nat),
    d = at50 s.dev t ∧ (domOn d 2 || domOn d 3) = true ∧ ((∀ k < 4, loomReserved (inp + 4 + k) = false))) :=
  ⟨⟨⟨on [], []⟩, 0, _, rfl, by decide +kernel⟩,
   ⟨⟨putNat (on []) 0x20000804 4 1, []⟩, 0, _, 0x20000800, rfl, by decide +kernel, by decide +kernel⟩,
   ⟨⟨{ runs [] with loom := { (runs []).loom with kernelNow := some 1 } }, []⟩, 0, _, 0, 0x20000800, 1, img, rfl, by decide +kernel, by decide +kernel, by decide +kernel, by decide +kernel, by decide +kernel⟩,
   ⟨⟨on [], []⟩, 0, _, 0x20000800, rfl, by decide +kernel, by decide +kernel⟩⟩

/-- Every clause of `Obligations.TheTimersOfTheKernel` that has hypotheses meets them. -/
theorem witness_TheTimersOfTheKernel :
  (∃ (s : State) (t : Nat) (d : Device) (ctx : Nat),
    d = at50 s.dev t ∧ (domOn d 2 || domOn d 3) = true ∧ kstate d ctx = 1) ∧
  (∃ (s : State) (t : Nat) (d : Device) (ctx : Nat),
    d = at50 s.dev t ∧ (domOn d 2 || domOn d 3) = true ∧ kstate d ctx = 4) ∧
  (∃ (s : State) (t : Nat) (d : Device) (ctx : Nat),
    d = at50 s.dev t ∧ (domOn d 2 || domOn d 3) = true ∧ kstate d ctx = 6 ∧ kb d ctx .recon = true) ∧
  (∃ (s : State) (t : Nat) (d : Device) (ctx : Nat),
    d = at50 s.dev t ∧ (domOn d 2 || domOn d 3) = true ∧ (kstate d ctx = 2 ∨ kstate d ctx = 5)) ∧
  (∃ (s : State) (t : Nat) (d : Device) (ctx : Nat),
    d = at50 s.dev t ∧ (domOn d 2 || domOn d 3) = true ∧ kstate d ctx = 3) ∧
  (∃ (s : State) (t : Nat) (d : Device) (ctx : Nat),
    d = at50 s.dev t ∧ (domOn d 2 || domOn d 3) = true ∧ kb d ctx .frt = true) ∧
  (∃ (s : State) (t : Nat) (d : Device) (ctx : Nat),
    d = at50 s.dev t ∧ (domOn d 2 || domOn d 3) = true ∧ kb d ctx .hold = true) ∧
  (∃ (s : State) (t : Nat) (d : Device) (ctx : Nat),
    d = at50 s.dev t ∧ (domOn d 2 || domOn d 3) = true ∧ kb d ctx .recon = true) :=
  ⟨⟨⟨kern 1 .open_, []⟩, 0, _, 0x20000000, rfl, by decide +kernel, by decide +kernel⟩,
   ⟨⟨kern 4 .open_, []⟩, 0, _, 0x20000000, rfl, by decide +kernel, by decide +kernel⟩,
   ⟨⟨kern 6 .recon, []⟩, 0, _, 0x20000000, rfl, by decide +kernel, by decide +kernel, by decide +kernel⟩,
   ⟨⟨kern 2 .open_, []⟩, 0, _, 0x20000000, rfl, by decide +kernel, by decide +kernel⟩,
   ⟨⟨kern 3 .open_, []⟩, 0, _, 0x20000000, rfl, by decide +kernel, by decide +kernel⟩,
   ⟨⟨kern 3 .frt, []⟩, 0, _, 0x20000000, rfl, by decide +kernel, by decide +kernel⟩,
   ⟨⟨kern 3 .hold, []⟩, 0, _, 0x20000000, rfl, by decide +kernel, by decide +kernel⟩,
   ⟨⟨kern 3 .recon, []⟩, 0, _, 0x20000000, rfl, by decide +kernel, by decide +kernel⟩⟩

/-- Every clause of `Obligations.TheTransitionsOfTheKernel` that has hypotheses meets them. -/
theorem witness_TheTransitionsOfTheKernel :
  (∃ (d : Device) (ctx : Nat),
    kstate d ctx = 0 ∧ kn d ctx .harness = 15) ∧
  (∃ (d : Device) (ctx inp : Nat),
    kstate d ctx = 0 ∧ kn d ctx .harness ≠ 15 ∧ kfOwn d inp = false) ∧
  (∃ (d : Device) (ctx : Nat),
    kstate d ctx ≠ 0 ∧ kstate d ctx ≠ 7) ∧
  (∃ (d : Device) (ctx : Nat),
    kstate d ctx = 7) ∧
  (∃ (d : Device) (ctx : Nat),
    kstate d ctx ≠ 7) ∧
  (∃ (d : Device) (ctx : Nat),
    kstate d ctx = 6 ∧ kn d ctx .vrCh ≠ 255) ∧
  (∃ (d : Device) (ctx : Nat),
    kstate d ctx ≠ 6) ∧
  (∃ (d : Device) (ctx inp : Nat),
    kstate d ctx = 3 ∧ kfOwn d inp = true) ∧
  (∃ (d : Device) (ctx inp : Nat),
    kstate d ctx = 3 ∧ kfOwn d inp = false) ∧
  (∃ (d : Device) (ctx inp : Nat),
    kstate d ctx = 6 ∧ kfOwn d inp = true) ∧
  (∃ (d : Device) (ctx inp : Nat),
    kstate d ctx = 6 ∧ kfOwn d inp = false ∧ kparN d ctx 0x66A = 1) ∧
  (∃ (d : Device) (ctx inp : Nat),
    kstate d ctx = 6 ∧ kfOwn d inp = false ∧ kparN d ctx 0x66A ≠ 1) ∧
  (∃ (d : Device) (ctx inp : Nat) (e : Device),
    kstate d ctx = 2 ∧ kfOwn d inp = true ∧ e = krun ctx .stateNs true (gfkT0 d inp) d) ∧
  (∃ (d : Device) (ctx inp : Nat) (e : Device),
    kstate d ctx = 2 ∧ kfOwn d inp = false ∧ e = krun ctx .stateNs true (gfkT0 d inp) d ∧ busDead e ctx inp = false) ∧
  (∃ (d : Device) (ctx inp : Nat) (e : Device),
    kstate d ctx = 2 ∧ kfOwn d inp = false ∧ e = krun ctx .stateNs true (gfkT0 d inp) d ∧ busDead e ctx inp = true ∧ kms e ctx 0x668 ≤ kn e ctx .stateNs) ∧
  (∃ (d : Device) (ctx : Nat),
    (kstate d ctx = 0 ∨ kstate d ctx = 7)) :=
  ⟨⟨ksetN (kern 0 .open_) 0x20000000 .harness 15, 0x20000000, by decide +kernel, by decide +kernel⟩,
   ⟨kern 0 .open_, 0x20000000, 0x20001000, by decide +kernel, by decide +kernel, by decide +kernel⟩,
   ⟨kern 3 .open_, 0x20000000, by decide +kernel, by decide +kernel⟩,
   ⟨kern 7 .open_, 0x20000000, by decide +kernel⟩,
   ⟨kern 3 .open_, 0x20000000, by decide +kernel⟩,
   ⟨kern 6 .open_, 0x20000000, by decide +kernel, by decide +kernel⟩,
   ⟨kern 3 .open_, 0x20000000, by decide +kernel⟩,
   ⟨putNat (kern 3 .open_) 0x20001008 4 1, 0x20000000, 0x20001000, by decide +kernel, by decide +kernel⟩,
   ⟨kern 3 .open_, 0x20000000, 0x20001000, by decide +kernel, by decide +kernel⟩,
   ⟨putNat (kern 6 .open_) 0x20001008 4 1, 0x20000000, 0x20001000, by decide +kernel, by decide +kernel⟩,
   ⟨putNat (kern 6 .open_) 0x200001A8 4 1, 0x20000000, 0x20001000, by decide +kernel, by decide +kernel, by decide +kernel⟩,
   ⟨kern 6 .open_, 0x20000000, 0x20001000, by decide +kernel, by decide +kernel, by decide +kernel⟩,
   ⟨putNat (kern 2 .open_) 0x20001008 4 1, 0x20000000, 0x20001000, _, by decide +kernel, by decide +kernel, rfl⟩,
   ⟨kern 2 .open_, 0x20000000, 0x20001000, _, by decide +kernel, by decide +kernel, rfl, by decide +kernel⟩,
   ⟨putNat (kern 2 .stateNs) 0x200000F0 4 1000, 0x20000000, 0x20001000, _, by decide +kernel, by decide +kernel, rfl, by decide +kernel, by decide +kernel⟩,
   ⟨kern 7 .open_, 0x20000000, by decide +kernel⟩⟩

/-- Every clause of `Obligations.AKernelCallWritesItsOwnBlocks` that has hypotheses meets them. -/
theorem witness_AKernelCallWritesItsOwnBlocks :
  (∃ (ctx out : Nat) (a : Nat),
    ((a < ctx + 0x1C0 ∨ ctx + 0x3C0 ≤ a)) ∧ ((a < out ∨ out + 60 ≤ a))) :=
  ⟨0x20000000, 0x20002000, 0x20000000, Or.inl (by decide), Or.inl (by decide)⟩

/-- Every clause of `Obligations.TheKernelAfterInit` that has hypotheses meets them. -/
theorem witness_TheKernelAfterInit :
  (∃ (ctx : Nat),
    ((∀ k < 0x200, loomReserved (ctx + 0x1C0 + k) = false))) ∧
  (∃ (d : Device) (ctx : Nat),
    ((∀ k < 0x200, loomReserved (ctx + 0x1C0 + k) = false)) ∧ kparN d ctx 0x600 = 15) :=
  ⟨⟨0x20000000, by decide +kernel⟩,
   ⟨putNat (on []) 0x20000000 4 15, 0x20000000, by decide +kernel, by decide +kernel⟩⟩

/-- Every clause of `Obligations.TheRequestFrames` that has hypotheses meets them. -/
theorem witness_TheRequestFrames :
  (∃ (s : State) (t : Nat) (d : Device) (seq time : Nat) (mp : Nat) (sid : List Byte),
    d = at50 s.dev t ∧ domOn d 4 = true ∧ seq < 65536 ∧ time = d.time.tickRead t / 1000000 * 1000000 ∧ d.meter.ready = true ∧ mp < 256 ∧ sid.length = 24) ∧
  (∃ (s : State) (t : Nat) (d : Device) (seq time : Nat) (mp : Nat),
    d = at50 s.dev t ∧ domOn d 4 = true ∧ seq < 65536 ∧ time = d.time.tickRead t / 1000000 * 1000000 ∧ d.meter.ready = true ∧ mp < 256) ∧
  (∃ (s : State) (t : Nat) (d : Device) (seq time : Nat) (upto : Nat),
    d = at50 s.dev t ∧ domOn d 4 = true ∧ seq < 65536 ∧ time = d.time.tickRead t / 1000000 * 1000000 ∧ d.meter.ready = true ∧ upto < 2 ^ 64) ∧
  (∃ (s : State) (t : Nat) (d : Device) (seq time : Nat) (mp id : Nat) (v : Word),
    d = at50 s.dev t ∧ domOn d 4 = true ∧ seq < 65536 ∧ time = d.time.tickRead t / 1000000 * 1000000 ∧ d.meter.ready = true ∧ mp < 256 ∧ id < 65536 ∧ (lreqSetField id v d).1 ≠ 3) ∧
  (∃ (s : State) (t : Nat) (d : Device) (seq time : Nat) (mp id : Nat) (v : Word),
    d = at50 s.dev t ∧ domOn d 4 = true ∧ seq < 65536 ∧ time = d.time.tickRead t / 1000000 * 1000000 ∧ d.meter.ready = true ∧ mp < 256 ∧ id < 65536 ∧ (lreqSetField id v d).1 = 3) ∧
  (∃ (s : State) (t : Nat) (d : Device) (seq time : Nat),
    d = at50 s.dev t ∧ domOn d 4 = true ∧ seq < 65536 ∧ time = d.time.tickRead t / 1000000 * 1000000 ∧ d.meter.ready = true) ∧
  (∃ (s : State) (t : Nat) (d : Device) (seq time : Nat),
    d = at50 s.dev t ∧ domOn d 4 = true ∧ seq < 65536 ∧ time = d.time.tickRead t / 1000000 * 1000000 ∧ d.meter.ready = false) :=
  ⟨⟨⟨mt id, []⟩, 0, _, 1, _, 0, List.replicate 24 0, rfl, by decide +kernel, by decide +kernel, rfl, by decide +kernel, by decide +kernel, by decide +kernel⟩,
   ⟨⟨mt id, []⟩, 0, _, 1, _, 0, rfl, by decide +kernel, by decide +kernel, rfl, by decide +kernel, by decide +kernel⟩,
   ⟨⟨mt id, []⟩, 0, _, 1, _, 5, rfl, by decide +kernel, by decide +kernel, rfl, by decide +kernel, by decide +kernel⟩,
   ⟨⟨mt id, []⟩, 0, _, 1, _, 0, 0x0880, 5, rfl, by decide +kernel, by decide +kernel, rfl, by decide +kernel, by decide +kernel, by decide +kernel, by decide +kernel⟩,
   ⟨⟨sealed (mt id), []⟩, 0, _, 1, _, 0, 0x0880, 5, rfl, by decide +kernel, by decide +kernel, rfl, by decide +kernel, by decide +kernel, by decide +kernel, by decide +kernel⟩,
   ⟨⟨mt id, []⟩, 0, _, 1, _, rfl, by decide +kernel, by decide +kernel, rfl, by decide +kernel⟩,
   ⟨⟨{ on [] with now := 0 }, []⟩, 0, _, 1, _, rfl, by decide +kernel, by decide +kernel, rfl, by decide +kernel⟩⟩

/-- Every clause of `Obligations.WhatARequestDoes` that has hypotheses meets them. -/
theorem witness_WhatARequestDoes :
  (∃ (d : Device) (m : Fin 4),
    d.meter.ready = true ∧ mpOn d m.1 = false) ∧
  (∃ (d : Device) (m : Fin 4),
    d.meter.ready = true ∧ mpOn d m.1 = true ∧ (d.meter.points[m.1]).session.isSome = true) ∧
  (∃ (d : Device) (m : Fin 4),
    d.meter.ready = true ∧ mpOn d m.1 = true ∧ (d.meter.points[m.1]).session = none ∧ (d.meter.points[m.1]).sat = true) ∧
  (∃ (d : Device) (m : Fin 4),
    d.meter.ready = true ∧ mpOn d m.1 = true ∧ (d.meter.points[m.1]).session = none ∧ (d.meter.points[m.1]).sat = false ∧ mpUncal d m.1 = true) ∧
  (∃ (d : Device) (m : Fin 4),
    d.meter.ready = true ∧ mpOn d m.1 = true ∧ (d.meter.points[m.1]).session = none ∧ (d.meter.points[m.1]).sat = false ∧ mpUncal d m.1 = false ∧ mpCal d m.1 = true) ∧
  (∃ (d : Device) (m : Fin 4),
    d.meter.ready = true ∧ mpOn d m.1 = true ∧ (d.meter.points[m.1]).session = none ∧ (d.meter.points[m.1]).sat = false ∧ mpUncal d m.1 = false ∧ mpCal d m.1 = false ∧ (freeSlots d).length < 2) ∧
  (∃ (d : Device) (m : Fin 4) (a b : Nat) (l : List Nat),
    d.meter.ready = true ∧ mpOn d m.1 = true ∧ (d.meter.points[m.1]).session = none ∧ (d.meter.points[m.1]).sat = false ∧ mpUncal d m.1 = false ∧ mpCal d m.1 = false ∧ freeSlots d = a :: b :: l ∧ d.meter.recSeq + 2 ≤ 2 ^ 64 - 2) ∧
  (∃ (d : Device) (m : Fin 4),
    mpSession d m = true) ∧
  (∃ (d : Device) (m : Fin 4),
    mpSession d m = false) ∧
  (∃ (m : Nat),
    4 ≤ m) ∧
  (∃ (d : Device) (id : Nat) (r : FieldRow) (i : Nat),
    FieldMap.find? id = some (r, i) ∧ 0x0800 ≤ id ∧ id < 0x0900 ∧ sealOpen d 0 = false) ∧
  (∃ (d : Device) (id : Nat) (r : FieldRow) (i : Nat),
    FieldMap.find? id = some (r, i) ∧ 0x0800 ≤ id ∧ id < 0x0900 ∧ sealOpen d 0 = true ∧ 8192 ≤ d.meter.logUsed) ∧
  (∃ (d : Device) (id : Nat) (r : FieldRow) (i : Nat),
    FieldMap.find? id = some (r, i) ∧ 0x0800 ≤ id ∧ id < 0x0900 ∧ sealOpen d 0 = true ∧ d.meter.logUsed < 8192 ∧ mpAll.all (fun m => !mpSession d m) = true) ∧
  (∃ (d : Device) (code : Nat),
    code ≠ 0 ∧ code ≠ 10 ∧ d.meter.refused + 1 < 0xFFFFFFFF) :=
  ⟨⟨mt id, 0, by decide +kernel, by decide +kernel⟩,
   ⟨mp (fun p => { p with session := some ⟨1, 0, []⟩ }), 0, by decide +kernel, by decide +kernel, by decide +kernel⟩,
   ⟨mp (fun p => { p with sat := true }), 0, by decide +kernel, by decide +kernel, by decide +kernel, by decide +kernel⟩,
   ⟨(let d := mp id; { d with fields := [(0x0802, 0)], regs := Sparse.insert (Addr.MOD_CAL_INFO 0) 0x400000 d.regs }), 0, by decide +kernel, by decide +kernel, by decide +kernel, by decide +kernel, by decide +kernel⟩,
   ⟨(let d := mp id; { d with fields := [(0x0802, 0)], regs := Sparse.insert (Addr.MOD_CAL_INFO 0) 0 d.regs, meter := { d.meter with calMask := 1 } }), 0, by decide +kernel, by decide +kernel, by decide +kernel, by decide +kernel, by decide +kernel, by decide +kernel⟩,
   ⟨(let d := mp id; { d with meter := { d.meter with slots := (List.range 511).map (fun i => (i, i, true)) } }), 0, by decide +kernel, by decide +kernel, by decide +kernel, by decide +kernel, by decide +kernel, by decide +kernel, by decide +kernel⟩,
   ⟨mp id, 0, 0, 1, (List.range 510).map (· + 2), by decide +kernel, by decide +kernel, by decide +kernel, by decide +kernel, by decide +kernel, by decide +kernel, by decide +kernel, by decide +kernel⟩,
   ⟨mp (fun p => { p with session := some ⟨1, 0, []⟩ }), 0, by decide +kernel⟩,
   ⟨on [], 0, by decide +kernel⟩,
   ⟨4, by decide +kernel⟩,
   ⟨sealed (on []), 0x0880, _, _, rfl, by decide +kernel, by decide +kernel, by decide +kernel⟩,
   ⟨(let d := on []; { d with meter := { d.meter with logUsed := 8192 } }), 0x0880, _, _, rfl, by decide +kernel, by decide +kernel, by decide +kernel, by decide +kernel⟩,
   ⟨on [], 0x0880, _, _, rfl, by decide +kernel, by decide +kernel, by decide +kernel, by decide +kernel, by decide +kernel⟩,
   ⟨on [], 1, by decide +kernel, by decide +kernel, by decide +kernel⟩⟩

/-- Every clause of `Obligations.TheLedgerByItself` that has hypotheses meets them. -/
theorem witness_TheLedgerByItself :
  (∃ (s : State) (t : Nat) (d : Device),
    d = at50 s.dev t ∧ domOn d 1 = true ∧ rdB d Addr.TIME_LREQ_STAT 0 = false) ∧
  (∃ (s : State) (t : Nat) (d : Device) (n : Nat),
    d = at50 s.dev t ∧ domOn d 1 = true ∧ n = d.time.tickRead t / 1000000 ∧ n ≠ d.meter.lastMs ∧ d.meter.lastMsAt + us 500 ≤ t ∧ rdB d Addr.TIME_LREQ_STAT 0 = false ∧ d.meter.ready = true ∧ domOn d 4 = true) ∧
  (∃ (s : State) (t : Nat) (d : Device) (n : Nat),
    d = at50 s.dev t ∧ domOn d 1 = true ∧ n = d.time.tickRead t / 1000000 ∧ n = d.meter.lastMs) ∧
  (∃ (s : State) (t : Nat) (d : Device),
    d = at50 s.dev t ∧ domOn d 4 = true ∧ d.meter.ready = true ∧ d.meter.saveAt + 1000000000 * mtrN d 0x0880 ≤ ialos d) ∧
  (∃ (s : State) (t : Nat) (d : Device) (at' : Nat) (m : Fin 4),
    d = at50 s.dev t ∧ domOn d 4 = true ∧ d.meter.ready = true ∧ mpOn d m.1 = true ∧ (d.meter.points[m.1]).missing = false ∧ (d.meter.points[m.1]).since = some at' ∧ at' + 2 * 1024 * ckm ≤ t ∧ d.meter.intrs + 1 < 0xFFFFFFFF) ∧
  (∃ (s : State) (t : Nat) (d : Device),
    d = at50 s.dev t ∧ domOn d 4 = true ∧ d.meter.ready = false) ∧
  (∃ (s : State) (t : Nat) (d : Device),
    d = at50 s.dev t ∧ domOn d 4 = true ∧ d.meter.ready = true) ∧
  (∃ (s : State) (t : Nat) (d : Device) (ohms : Nat),
    d = at50 s.dev t ∧ domOn d 0 = true ∧ ((ohms < 8000 ∨ 12000 < ohms))) ∧
  (∃ (s : State) (t : Nat) (d : Device) (ohms : Nat) (n : Fin 4),
    d = at50 s.dev t ∧ domOn d 0 = true ∧ 8000 ≤ ohms ∧ ohms ≤ 12000 ∧ 1 ≤ (d.seals[n.1]).run) ∧
  (∃ (p : MeterPoint) (r : Fin 6) (x : Nat),
    p.energy[r.1] + (p.rem[r.1] + x) / 2 ^ 32 < 2 ^ 64 - 1) ∧
  (∃ (p : MeterPoint) (r : Fin 6) (x : Nat),
    2 ^ 64 - 1 ≤ p.energy[r.1] + (p.rem[r.1] + x) / 2 ^ 32) :=
  ⟨⟨⟨on [], []⟩, 0, _, rfl, by decide +kernel, by decide +kernel⟩,
   ⟨⟨mt id, []⟩, ms 5, _, _, rfl, by decide +kernel, rfl, by decide +kernel, by decide +kernel, by decide +kernel, by decide +kernel, by decide +kernel⟩,
   ⟨⟨on [], []⟩, 0, _, _, rfl, by decide +kernel, rfl, rfl⟩,
   ⟨⟨mt id, []⟩, sec 10, _, rfl, by decide +kernel, by decide +kernel, by decide +kernel⟩,
   ⟨⟨mp (fun p => { p with since := some 0 }), []⟩, ms 1, _, 0, 0, rfl, by decide +kernel, by decide +kernel, by decide +kernel, by decide +kernel, by decide +kernel, by decide +kernel, by decide +kernel⟩,
   ⟨⟨on [], []⟩, 0, _, rfl, by decide +kernel, by decide +kernel⟩,
   ⟨⟨mt id, []⟩, 0, _, rfl, by decide +kernel, by decide +kernel⟩,
   ⟨⟨on [], []⟩, 0, _, 7999, rfl, by decide +kernel, by decide +kernel⟩,
   ⟨⟨{ on [] with seals := Vector.replicate 4 ⟨true, 1, false⟩ }, []⟩, 0, _, 8000, 0, rfl, by decide +kernel, by decide +kernel, by decide +kernel, by decide +kernel⟩,
   ⟨MeterPoint.initial, 0, 5, by decide +kernel⟩,
   ⟨{ MeterPoint.initial with energy := Vector.replicate 6 (2 ^ 64 - 1) }, 0, 5, by decide +kernel⟩⟩

/-- Every clause of `Obligations.TheBridleInputs` that has hypotheses meets them. -/
theorem witness_TheBridleInputs :
  (∃ (s : State) (t : Nat) (d : Device),
    d = at50 s.dev t ∧ domOn d 11 = true ∧ d.bridle.started = true) ∧
  (∃ (s : State) (t : Nat) (d : Device),
    d = at50 s.dev t ∧ domOn d 11 = true) ∧
  (∃ (s : State) (t : Nat) (d e : Device) (n : Fin 4) (r : Reading),
    d = at50 s.dev t ∧ domOn d 11 = true ∧ e = { d with bridle := { d.bridle with konts := upd d.bridle.konts n (fun k => { k with feedback := r }) } } ∧ (d.bridle.konts[n.1]).checkFrom.isSome = true) ∧
  (∃ (s : State) (t : Nat) (d : Device) (p : Fin 8) (c : Nat),
    d = at50 s.dev t ∧ domOn d 11 = true ∧ (d.bridle.pairs[p.1]).changeAt = some c ∧ c + ms (rdF d (Addr.BRD_SA_CFG p.1) 0 9) ≤ t ∧ pairBit d p.1 31 = true ∧ pairState d p.1 = 1) ∧
  (∃ (s : State) (t : Nat) (d : Device) (p : Fin 8) (x : Nat),
    d = at50 s.dev t ∧ domOn d 11 = true ∧ (d.bridle.pairs[p.1]).stop1Till = some x ∧ x ≤ t) ∧
  (∃ (s : State) (t : Nat) (d : Device) (x : Nat),
    d = at50 s.dev t ∧ domOn d 11 = true ∧ d.bridle.imdLowAt = some x ∧ rdB d Addr.BRD_IMD_CFG 31 = true ∧ rdB d Addr.BRD_OUT_STAT 24 = false ∧ max x (d.bridle.blankTill.getD 0) + ms (rdF d Addr.BRD_IMD_T 0 11) ≤ t) ∧
  (∃ (s : State) (t : Nat) (d : Device) (b : Nat),
    d = at50 s.dev t ∧ domOn d 11 = true ∧ d.bridle.blankTill = some b ∧ b ≤ t) :=
  ⟨⟨⟨br (fun b => { b with started := true }), []⟩, 0, _, rfl, by decide +kernel, by decide +kernel⟩,
   ⟨⟨on [], []⟩, 0, _, rfl, by decide +kernel⟩,
   ⟨⟨br (fun b => { b with konts := upd b.konts 0 (fun k => { k with checkFrom := some 0 }) }), []⟩, 0, _, _, 0, .one, rfl, by decide +kernel, rfl, by decide +kernel⟩,
   ⟨⟨(let d := on [(Addr.BRD_SA_CFG 0, 0x80000000), (Addr.BRD_SA_STAT, 1)]; { d with bridle := { d.bridle with pairs := upd d.bridle.pairs 0 (fun a => { a with changeAt := some 0 }) } }), []⟩, sec 1, _, 0, 0, rfl, by decide +kernel, by decide +kernel, by decide +kernel, by decide +kernel, by decide +kernel⟩,
   ⟨⟨br (fun b => { b with pairs := upd b.pairs 0 (fun a => { a with stop1Till := some 0 }) }), []⟩, 0, _, 0, 0, rfl, by decide +kernel, by decide +kernel, by decide +kernel⟩,
   ⟨⟨(let d := on [(Addr.BRD_IMD_CFG, 0x80000000)]; { d with bridle := { d.bridle with imdLowAt := some 0 } }), []⟩, sec 10, _, 0, rfl, by decide +kernel, by decide +kernel, by decide +kernel, by decide +kernel, by decide +kernel⟩,
   ⟨⟨br (fun b => { b with blankTill := some 0 }), []⟩, 0, _, 0, rfl, by decide +kernel, by decide +kernel, by decide +kernel⟩⟩

/-- Every clause of `Obligations.TheBridleFaults` that has hypotheses meets them. -/
theorem witness_TheBridleFaults :
  (∃ (s : State) (t : Nat) (d : Device),
    d = at50 s.dev t ∧ domOn d 11 = true ∧ bridleFaulty d = false) ∧
  (∃ (s : State) (t : Nat) (d : Device) (low : Nat) (i : Fin 2),
    d = at50 s.dev t ∧ domOn d 11 = true ∧ rdB d Addr.BRD_GCFG 9 = true ∧ rdB d Addr.BRD_OUT_STAT i.1 = true ∧ low.testBit i.1 = false) ∧
  (∃ (s : State) (t : Nat) (d : Device),
    d = at50 s.dev t ∧ domOn d 11 = true) ∧
  (∃ (s : State) (t : Nat) (d : Device) (cycles : Nat),
    d = at50 s.dev t ∧ domOn d 11 = true ∧ (cycles < 2875 ∨ 3375 < cycles) ∧ supvFault d = false) ∧
  (∃ (s : State) (t : Nat) (d : Device) (cycles : Nat),
    d = at50 s.dev t ∧ domOn d 11 = true ∧ 2875 ≤ cycles ∧ cycles ≤ 3375) ∧
  (∃ (s : State) (t : Nat) (d : Device) (low high : Nat),
    d = at50 s.dev t ∧ domOn d 11 = true ∧ ms 50 ≤ low ∧ low ≤ sec 5 ∧ (rdB d Addr.BRD_STAT 4 = false ∨ ms 50 ≤ high)) ∧
  (∃ (s : State) (t : Nat) (d : Device) (low : Nat),
    d = at50 s.dev t ∧ domOn d 11 = true ∧ low < ms 50) ∧
  (∃ (s : State) (t : Nat) (d : Device) (low : Nat),
    d = at50 s.dev t ∧ domOn d 11 = true ∧ sec 5 < low) ∧
  (∃ (s : State) (t : Nat) (d : Device) (n : Fin 4) (c : Nat),
    d = at50 s.dev t ∧ domOn d 11 = true ∧ (d.bridle.konts[n.1]).checkFrom = some c ∧ c + ms (rdF d (Addr.BRD_K_CFG n.1) 0 9) ≤ t) ∧
  (∃ (s : State) (t : Nat) (d : Device) (p : Fin 8),
    d = at50 s.dev t ∧ domOn d 11 = true ∧ d.bridle.degrPair = some p.1 ∧ degraded d = true ∧ d.bridle.degrTill ≤ t ∧ pairHeld d p.1 = false) ∧
  (∃ (s : State) (t : Nat) (d : Device),
    d = at50 s.dev t ∧ domOn d 11 = true) ∧
  (∃ (s : State) (t : Nat) (d : Device) (offset : Nat) (r : RegRow),
    d = at50 s.dev t ∧ domOn d 1 = true ∧ domOn d 11 = true ∧ RegMap.row? (0x40800000 + offset) = some r ∧ offset < 0x8000 ∧ r.rws ≠ 0 ∧ sealOpen d 1 = true) ∧
  (∃ (s : State) (t : Nat) (d : Device) (offset : Nat) (r : RegRow),
    d = at50 s.dev t ∧ domOn d 1 = true ∧ domOn d 11 = true ∧ RegMap.row? (0x40800000 + offset) = some r ∧ offset < 0x8000 ∧ r.rws ≠ 0 ∧ sealOpen d 1 = false) ∧
  (∃ (s : State) (t : Nat) (d : Device),
    d = at50 s.dev t ∧ domOn d 11 = true ∧ d.bridle.started = true) ∧
  (∃ (s : State) (t : Nat) (d : Device),
    d = at50 s.dev t ∧ domOn d 11 = true ∧ d.bridle.started = false) :=
  ⟨⟨⟨on [], []⟩, 0, _, rfl, by decide +kernel, by decide +kernel⟩,
   ⟨⟨on [(Addr.BRD_GCFG, 0x200), (Addr.BRD_OUT_STAT, 3)], []⟩, 0, _, 0, 1, rfl, by decide +kernel, by decide +kernel, by decide +kernel, by decide +kernel⟩,
   ⟨⟨on [], []⟩, 0, _, rfl, by decide +kernel⟩,
   ⟨⟨on [], []⟩, 0, _, 2874, rfl, by decide +kernel, by decide +kernel, by decide +kernel⟩,
   ⟨⟨on [], []⟩, 0, _, 3375, rfl, by decide +kernel, by decide +kernel, by decide +kernel⟩,
   ⟨⟨on [], []⟩, 0, _, ms 50, 0, rfl, by decide +kernel, by decide +kernel, by decide +kernel, by decide +kernel⟩,
   ⟨⟨on [], []⟩, 0, _, 0, rfl, by decide +kernel, by decide +kernel⟩,
   ⟨⟨on [], []⟩, 0, _, sec 6, rfl, by decide +kernel, by decide +kernel⟩,
   ⟨⟨br (fun b => { b with konts := upd b.konts 0 (fun k => { k with checkFrom := some 0 }) }), []⟩, sec 1, _, 0, 0, rfl, by decide +kernel, by decide +kernel, by decide +kernel⟩,
   ⟨⟨(let d := on [(Addr.BRD_STAT, 2)]; { d with bridle := { d.bridle with degrPair := some 0 } }), []⟩, 0, _, 0, rfl, by decide +kernel, by decide +kernel, by decide +kernel, by decide +kernel, by decide +kernel⟩,
   ⟨⟨on [], []⟩, 0, _, rfl, by decide +kernel⟩,
   ⟨⟨on [], []⟩, 0, _, Addr.BRD_GCFG - 0x40800000, _, rfl, by decide +kernel, by decide +kernel, rfl, by decide +kernel, by decide +kernel, by decide +kernel⟩,
   ⟨⟨sealed (on []), []⟩, 0, _, Addr.BRD_GCFG - 0x40800000, _, rfl, by decide +kernel, by decide +kernel, rfl, by decide +kernel, by decide +kernel, by decide +kernel⟩,
   ⟨⟨br (fun b => { b with started := true }), []⟩, 0, _, rfl, by decide +kernel, by decide +kernel⟩,
   ⟨⟨on [], []⟩, 0, _, rfl, by decide +kernel, by decide +kernel⟩⟩

/-- Every clause of `Obligations.TheRecorderEngines` that has hypotheses meets them. -/
theorem witness_TheRecorderEngines :
  (∃ (s : State) (t : Nat) (d : Device) (e : Fin 4),
    d = at50 s.dev t ∧ domOn d 1 = true ∧ recState d e.1 = 0) ∧
  (∃ (s : State) (t : Nat) (d : Device) (e : Fin 4),
    d = at50 s.dev t ∧ domOn d 1 = true ∧ 1 ≤ recState d e.1 ∧ recState d e.1 ≤ 4) ∧
  (∃ (s : State) (t : Nat) (d : Device),
    d = at50 s.dev t ∧ domOn d 1 = true) ∧
  (∃ (s : State) (t : Nat) (d : Device),
    d = at50 s.dev t ∧ domOn d 1 = true ∧ rdF d (Addr.REC_TRG 0) 0 2 ≠ 2 ∧ rdF d (Addr.REC_TRG 1) 0 2 ≠ 2 ∧ rdF d (Addr.REC_TRG 2) 0 2 ≠ 2 ∧ rdF d (Addr.REC_TRG 3) 0 2 = 2) ∧
  (∃ (s : State) (t : Nat) (d e1 e2 : Device) (e : Fin 4) (f : RecFrame),
    d = at50 s.dev t ∧ domOn d 1 = true ∧ (recState d e.1 = 1 ∨ recState d e.1 = 2) ∧ recSources d e.1 ≠ [] ∧ rd64 d (Addr.REC_FRAMES_LO e.1 0) + 1 < 2 ^ 64 ∧ rdF d (Addr.REC_TRG e.1) 0 2 ≠ 1 ∧ f = { cap := (d.recs[e.1]).cap, index := rd64 d (Addr.REC_FRAMES_LO e.1 0), inst := t, time := recTime d e.1 t, words := (recSources d e.1).map (recWord d) } ∧ e1 = wr64 d (Addr.REC_FRAMES_LO e.1 0) (rd64 d (Addr.REC_FRAMES_LO e.1 0) + 1) ∧ e2 = updRec e1 e (fun r => { r with last := some f })) ∧
  (∃ (s : State) (t : Nat) (d : Device) (e : Fin 4),
    d = at50 s.dev t ∧ domOn d 1 = true ∧ recState d e.1 = 0) ∧
  (∃ (s : State) (t : Nat) (d : Device) (e : Fin 4),
    d = at50 s.dev t ∧ domOn d 1 = true ∧ recState d e.1 = 3 ∧ (d.recs[e.1]).postLeft = some 0 ∧ rdB d (Addr.REC_CFG e.1) 31 = false) ∧
  (∃ (s : State) (t : Nat) (d : Device) (e : Fin 4),
    d = at50 s.dev t ∧ domOn d 1 = true ∧ rdF d (Addr.REC_FLUSH e.1) 0 14 ≠ 0 ∧ (d.recs[e.1]).block ≠ [] ∧ (d.recs[e.1]).blockAt + ms (rdF d (Addr.REC_FLUSH e.1) 0 14) ≤ t) ∧
  (∃ (s : State) (t : Nat) (d : Device) (e : Fin 4) (g : Gap),
    d = at50 s.dev t ∧ domOn d 1 = true ∧ (d.recs[e.1]).missing = some g ∧ (d.recs[e.1]).history.length * (recSources d e.1).length ≤ 4096) ∧
  (∃ (e : Fin 4) (k : Fin 4),
    k ≠ e) :=
  ⟨⟨⟨on [], []⟩, 0, _, 0, rfl, by decide +kernel, by decide +kernel⟩,
   ⟨⟨on [(Addr.REC_STAT 0, 1)], []⟩, 0, _, 0, rfl, by decide +kernel, by decide +kernel, by decide +kernel⟩,
   ⟨⟨on [], []⟩, 0, _, rfl, by decide +kernel⟩,
   ⟨⟨on [(Addr.REC_TRG 3, 2)], []⟩, 0, _, rfl, by decide +kernel, by decide +kernel, by decide +kernel, by decide +kernel, by decide +kernel⟩,
   ⟨⟨on [(Addr.REC_STAT 0, 1), (Addr.REC_SRC 0 0, 1)], []⟩, 0, _, _, _, 0, _, rfl, by decide +kernel, by decide +kernel, by decide +kernel, by decide +kernel, by decide +kernel, rfl, rfl, rfl⟩,
   ⟨⟨on [], []⟩, 0, _, 0, rfl, by decide +kernel, by decide +kernel⟩,
   ⟨⟨rc [(Addr.REC_STAT 0, 3)] (fun r => { r with postLeft := some 0 }), []⟩, 0, _, 0, rfl, by decide +kernel, by decide +kernel, by decide +kernel, by decide +kernel⟩,
   ⟨⟨rc [(Addr.REC_FLUSH 0, 1)] (fun r => { r with block := [⟨0, 0, 0, 0, []⟩] }), []⟩, ms 1, _, 0, rfl, by decide +kernel, by decide +kernel, by decide +kernel, by decide +kernel⟩,
   ⟨⟨rc [] (fun r => { r with missing := some ⟨1, 0, 1, 0⟩ }), []⟩, 0, _, 0, ⟨1, 0, 1, 0⟩, rfl, by decide +kernel, by decide +kernel, by decide +kernel⟩,
   ⟨0, 1, by decide +kernel⟩⟩

/-- Every clause of `Obligations.TheBobbins` that has hypotheses meets them. -/
theorem witness_TheBobbins :
  (∃ (s : State) (t : Nat) (d : Device) (b : Fin 16),
    d = at50 s.dev t ∧ domOn d 1 = true ∧ bobState d b.1 = 2) ∧
  (∃ (s : State) (t : Nat) (d : Device) (b : Fin 16),
    d = at50 s.dev t ∧ domOn d 1 = true ∧ bobState d b.1 ≠ 2) ∧
  (∃ (s : State) (t : Nat) (d : Device) (b : Fin 16),
    d = at50 s.dev t ∧ domOn d 1 = true ∧ bobState d b.1 = 2 ∧ bobHasData d b = true ∧ (d.bobs[b.1]).waitFrom + 1024 * ckf ≤ t) ∧
  (∃ (s : State) (t : Nat) (d : Device) (b : Fin 16),
    d = at50 s.dev t ∧ domOn d 1 = true ∧ bobState d b.1 = 3) ∧
  (∃ (s : State) (t : Nat) (d : Device) (b : Fin 16),
    d = at50 s.dev t ∧ domOn d 1 = true ∧ bobState d b.1 = 4) ∧
  (∃ (s : State) (t : Nat) (d : Device) (b : Fin 16),
    d = at50 s.dev t ∧ domOn d 1 = true ∧ bobState d b.1 < 3) ∧
  (∃ (s : State) (t : Nat) (d : Device) (b : Fin 16),
    d = at50 s.dev t ∧ domOn d 1 = true ∧ bobOn d b.1 = true) ∧
  (∃ (s : State) (t : Nat) (d : Device) (b : Fin 16) (desc : Nat) (bytes : List Byte),
    d = at50 s.dev t ∧ domOn d 1 = true ∧ (d.bobs[b.1]).inHand = some desc ∧ (d.bobs[b.1]).retry = none ∧ bobReads b.1 = false ∧ bobData d b = some bytes ∧ bytes.length ≤ descLen d desc ∧ dmaFail d (bobSteward b.1) true (descAddr d desc) (max 1 bytes.length) = none) ∧
  (∃ (s : State) (t : Nat) (d : Device) (b : Fin 16) (desc : Nat),
    d = at50 s.dev t ∧ domOn d 1 = true ∧ (d.bobs[b.1]).inHand = some desc ∧ (d.bobs[b.1]).retry = none ∧ bobReads b.1 = true ∧ dmaFail d (bobSteward b.1) false (descAddr d desc) (max 1 (descLen d desc)) = none) ∧
  (∃ (s : State) (t : Nat) (d : Device) (b : Fin 16) (desc : Nat) (bytes : List Byte),
    d = at50 s.dev t ∧ domOn d 1 = true ∧ (d.bobs[b.1]).inHand = some desc ∧ (d.bobs[b.1]).retry = none ∧ bobReads b.1 = false ∧ bobData d b = some bytes ∧ descLen d desc < bytes.length) ∧
  (∃ (s : State) (t : Nat) (d : Device) (b : Fin 16),
    d = at50 s.dev t ∧ domOn d 1 = true ∧ (d.bobs[b.1]).inHand = none) ∧
  (∃ (d : Device) (b : Fin 16) (cur walk : Nat) (e : Device),
    e = wrF (wrN d (Addr.BOB_CUR b.1) cur) (Addr.BOB_STAT b.1) 16 16 walk ∧ cur % 32 ≠ 0) ∧
  (∃ (d : Device) (b : Fin 16) (cur walk : Nat) (e : Device),
    e = wrF (wrN d (Addr.BOB_CUR b.1) cur) (Addr.BOB_STAT b.1) 16 16 walk ∧ cur % 32 = 0 ∧ dmaCause e (bobSteward b.1) false cur ≠ 0) ∧
  (∃ (d : Device) (b : Fin 16) (cur walk : Nat) (e : Device),
    e = wrF (wrN d (Addr.BOB_CUR b.1) cur) (Addr.BOB_STAT b.1) 16 16 walk ∧ cur % 32 = 0 ∧ dmaCause e (bobSteward b.1) false cur = 0 ∧ bit (word (memNat d cur 4)) 30 = false ∧ bit (word (memNat d cur 4)) 31 = false) ∧
  (∃ (d : Device) (b : Fin 16) (cur walk : Nat) (e : Device),
    e = wrF (wrN d (Addr.BOB_CUR b.1) cur) (Addr.BOB_STAT b.1) 16 16 walk ∧ cur % 32 = 0 ∧ dmaCause e (bobSteward b.1) false cur = 0 ∧ bit (word (memNat d cur 4)) 30 = true ∧ memNat d (cur + 4) 4 % 32 = 0 ∧ walk + 1 ≤ rdF d (Addr.BOB_LEN b.1) 0 16) :=
  ⟨⟨⟨on [(Addr.BOB_STAT 0, 2)], []⟩, 0, _, 0, rfl, by decide +kernel, by decide +kernel⟩,
   ⟨⟨on [], []⟩, 0, _, 0, rfl, by decide +kernel, by decide +kernel⟩,
   ⟨⟨bb 0 [(Addr.BOB_STAT 0, 2)] (fun b => { b with queue := [[1]] }), []⟩, us 4, _, 0, rfl, by decide +kernel, by decide +kernel, by decide +kernel, by decide +kernel⟩,
   ⟨⟨on [(Addr.BOB_STAT 0, 3)], []⟩, 0, _, 0, rfl, by decide +kernel, by decide +kernel⟩,
   ⟨⟨on [(Addr.BOB_STAT 0, 4)], []⟩, 0, _, 0, rfl, by decide +kernel, by decide +kernel⟩,
   ⟨⟨on [], []⟩, 0, _, 0, rfl, by decide +kernel, by decide +kernel⟩,
   ⟨⟨on [(Addr.BOB_CFG 0, 1), (Addr.DMA_CFG, 1)], []⟩, 0, _, 0, rfl, by decide +kernel, by decide +kernel⟩,
   ⟨⟨putNat (putNat (bb 0 [] (fun b => { b with queue := [[1]], inHand := some 0x20000000 })) 0x20000000 3 16) 0x20000004 4 0x20001000, []⟩, 0, _, 0, 0x20000000, [1], rfl, by decide +kernel, by decide +kernel, by decide +kernel, by decide +kernel, by decide +kernel, by decide +kernel, by decide +kernel⟩,
   ⟨⟨putNat (putNat (bb 1 [] (fun b => { b with inHand := some 0x20000000 })) 0x20000000 3 16) 0x20000004 4 0x20001000, []⟩, 0, _, 1, 0x20000000, rfl, by decide +kernel, by decide +kernel, by decide +kernel, by decide +kernel, by decide +kernel⟩,
   ⟨⟨bb 0 [] (fun b => { b with queue := [[1]], inHand := some 0x20000000 }), []⟩, 0, _, 0, 0x20000000, [1], rfl, by decide +kernel, by decide +kernel, by decide +kernel, by decide +kernel, by decide +kernel, by decide +kernel⟩,
   ⟨⟨on [], []⟩, 0, _, 0, rfl, by decide +kernel, by decide +kernel⟩,
   ⟨on [], 0, 1, 0, _, rfl, by decide +kernel⟩,
   ⟨on [], 0, 0x30000000, 0, _, rfl, by decide +kernel, by decide +kernel⟩,
   ⟨on [], 0, 0x20000000, 0, _, rfl, by decide +kernel, by decide +kernel, by decide +kernel, by decide +kernel⟩,
   ⟨putNat (on [(Addr.BOB_LEN 0, 8)]) 0x20000000 4 0x40000000, 0, 0x20000000, 0, _, rfl, by decide +kernel, by decide +kernel, by decide +kernel, by decide +kernel, by decide +kernel⟩⟩

/-- Every clause of `Obligations.ThePacketsOfTheServer` that has hypotheses meets them. -/
theorem witness_ThePacketsOfTheServer :
  (∃ (s : State) (t : Nat) (d : Device) (k : Fin 5) (p : Peer) (bs : List Byte),
    d = at50 s.dev t ∧ transportTakes d k.1 = true ∧ rdF d Addr.PWR_STAT 18 2 = 0 ∧ parsePacket k.1 p bs = none) ∧
  (∃ (s : State) (t : Nat) (d : Device) (k : Fin 5) (p : Peer) (bs : List Byte) (r : Req),
    d = at50 s.dev t ∧ transportTakes d k.1 = true ∧ rdF d Addr.PWR_STAT 18 2 = 0 ∧ parsePacket k.1 p bs = some r ∧ 16 ≤ d.tomus.b0.length) ∧
  (∃ (s : State) (t : Nat) (d : Device) (k : Fin 5) (p : Peer) (bs : List Byte) (r : Req),
    d = at50 s.dev t ∧ transportTakes d k.1 = true ∧ rdF d Addr.PWR_STAT 18 2 = 0 ∧ parsePacket k.1 p bs = some r ∧ d.tomus.b0 = [] ∧ quick d r = false) ∧
  (∃ (s : State) (t : Nat) (d : Device) (bits : Nat),
    d = at50 s.dev t ∧ bits < 4096) ∧
  (∃ (s : State) (t : Nat) (d : Device) (bs answer : List Byte) (rest : List (List Byte)) (bits : Nat),
    d = at50 s.dev t ∧ domOn d 1 = true ∧ 4096 ≤ bits ∧ d.tomus.spiOut = answer :: rest ∧ sliceLE bs 0 2 = 0) ∧
  (∃ (s : State) (t : Nat) (d : Device),
    d = at50 s.dev t ∧ domOn d 1 = true) ∧
  (∃ (s : State) (t : Nat) (d : Device) (p : Peer) (x : Session'),
    d = at50 s.dev t ∧ domOn d 1 = true ∧ sessionOf d p = some x ∧ x.lastAt + ms 301000 ≤ t) ∧
  (∃ (s : State) (t : Nat) (d : Device) (p : Peer) (x : Session'),
    d = at50 s.dev t ∧ domOn d 1 = true ∧ sessionOf d p = some x ∧ t < x.lastAt + ms 299000) ∧
  (∃ (s : State) (t : Nat) (d : Device),
    d = at50 s.dev t ∧ domOn d 1 = true) ∧
  (∃ (s : State) (t : Nat) (d : Device) (o : LongOp),
    d = at50 s.dev t ∧ domOn d 1 = true ∧ opRunning d [0x0701] = some o) ∧
  (∃ (s : State) (t : Nat) (d : Device) (o : LongOp),
    d = at50 s.dev t ∧ domOn d 1 = true ∧ opRunning d [0x0200] = some o) :=
  ⟨⟨⟨host (on []), []⟩, 0, _, 0, .spi, [], rfl, by decide +kernel, by decide +kernel, by decide +kernel⟩,
   ⟨⟨host (tm (fun x => { x with b0 := List.replicate 16 nop })), []⟩, 0, _, 0, .spi, packet, nop, rfl, by decide +kernel, by decide +kernel, by decide +kernel, by decide +kernel⟩,
   ⟨⟨host (on []), []⟩, 0, _, 0, .spi, packet, nop, rfl, by decide +kernel, by decide +kernel, by decide +kernel, by decide +kernel, by decide +kernel⟩,
   ⟨⟨on [], []⟩, 0, _, 8, rfl, by decide +kernel⟩,
   ⟨⟨tm (fun x => { x with spiOut := [[1]] }), []⟩, 0, _, zeros 512, [1], [], 4096, rfl, by decide +kernel, by decide +kernel, by decide +kernel, by decide +kernel⟩,
   ⟨⟨on [], []⟩, 0, _, rfl, by decide +kernel⟩,
   ⟨⟨host (on []), []⟩, ms 301000, _, .spi, sess, rfl, by decide +kernel, by decide +kernel, by decide +kernel⟩,
   ⟨⟨host (on []), []⟩, 0, _, .spi, sess, rfl, by decide +kernel, by decide +kernel, by decide +kernel⟩,
   ⟨⟨on [], []⟩, 0, _, rfl, by decide +kernel⟩,
   ⟨⟨tm (fun x => { x with ops := [⟨{ nop with opcode := 0x0701 }, some 0, 0, none⟩] }), []⟩, 0, _, ⟨{ nop with opcode := 0x0701 }, some 0, 0, none⟩, rfl, by decide +kernel, by decide +kernel⟩,
   ⟨⟨tm (fun x => { x with ops := [⟨{ nop with opcode := 0x0200 }, some 0, 0, none⟩] }), []⟩, 0, _, ⟨{ nop with opcode := 0x0200 }, some 0, 0, none⟩, rfl, by decide +kernel, by decide +kernel⟩⟩

/-- Every clause of `Obligations.TheChecksOfARequest` that has hypotheses meets them. -/
theorem witness_TheChecksOfARequest :
  (∃ (r : Req) (d : Device) (x : Stored),
    r.retry = false ∧ isRepeat d r = true ∧ storedOf d r.peer = some x) ∧
  (∃ (r : Req) (d : Device),
    r.retry = false ∧ isRepeat d r = false ∧ r.version ≠ 1) ∧
  (∃ (r : Req) (d : Device),
    r.retry = false ∧ isRepeat d r = false ∧ r.version = 1 ∧ 3 ≤ r.transport ∧ r.auth = true) ∧
  (∃ (r : Req) (d : Device),
    r.retry = false ∧ r.version = 1 ∧ r.transport ≤ 2 ∧ r.auth = true ∧ sessionOf d r.peer = none) ∧
  (∃ (r : Req) (d : Device) (x : Session'),
    r.retry = false ∧ r.version = 1 ∧ r.transport ≤ 2 ∧ r.auth = true ∧ sessionOf d r.peer = some x ∧ r.tag ≠ tagOf x r.head ∧ 7 ≤ x.bad) ∧
  (∃ (r : Req) (d : Device) (x : Session'),
    r.retry = false ∧ r.version = 1 ∧ r.transport ≤ 2 ∧ r.auth = true ∧ sessionOf d r.peer = some x ∧ r.tag = tagOf x r.head ∧ r.seq = x.seq ∧ r.opcode = x.opcode ∧ x.reply ≠ []) ∧
  (∃ (r : Req) (d : Device) (x : Session'),
    r.retry = false ∧ r.version = 1 ∧ r.transport ≤ 2 ∧ r.auth = true ∧ sessionOf d r.peer = some x ∧ r.tag = tagOf x r.head ∧ ¬ (r.seq = x.seq ∧ r.opcode = x.opcode) ∧ r.seq ≠ (x.seq + 1) % 65536) ∧
  (∃ (r : Req) (d : Device),
    r.retry = false ∧ isRepeat d r = false ∧ r.version = 1 ∧ r.auth = false ∧ refusal d r ≠ 0) ∧
  (∃ (r : Req),
    r.retry = false ∧ opInfo r.opcode = none) ∧
  (∃ (r : Req) (i : OpInfo),
    r.retry = false ∧ opInfo r.opcode = some i ∧ 3 ≤ r.transport ∧ i.can = false) ∧
  (∃ (r : Req) (d : Device) (i : OpInfo),
    r.retry = false ∧ opInfo r.opcode = some i ∧ r.transport ≤ 2 ∧ Machine.unitReady d = false ∧ 0x100 ≤ r.opcode ∧ i.role ≠ 0) ∧
  (∃ (r : Req) (d : Device) (i : OpInfo),
    r.retry = false ∧ opInfo r.opcode = some i ∧ r.transport ≤ 2 ∧ Machine.unitReady d = true ∧ redState d ≠ 3 ∧ i.role ≠ 0 ∧ r.opcode ≠ 0x0018 ∧ r.auth = false) ∧
  (∃ (r : Req) (d : Device) (i : OpInfo),
    r.retry = false ∧ opInfo r.opcode = some i ∧ r.transport ≤ 2 ∧ Machine.unitReady d = true ∧ redState d ≠ 3 ∧ r.auth = true ∧ reqRole d r < i.role) :=
  ⟨⟨nop, tm (fun x => { x with stored := [⟨.spi, 1, 0, []⟩] }), ⟨.spi, 1, 0, []⟩, by decide +kernel, by decide +kernel, by decide +kernel⟩,
   ⟨{ nop with version := 2 }, on [], by decide +kernel, by decide +kernel, by decide +kernel⟩,
   ⟨{ nop with transport := 3, flags := 0x40 }, on [], by decide +kernel, by decide +kernel, by decide +kernel, by decide +kernel, by decide +kernel⟩,
   ⟨ask 0 [], on [], by decide +kernel, by decide +kernel, by decide +kernel, ask_auth 0 [], by decide +kernel⟩,
   ⟨{ ask 0 [] with tag := zeros 17 }, (let d := on []; { d with tomus := { d.tomus with sessions := [{ sess with bad := 7 }] } }), { sess with bad := 7 }, by decide +kernel, by decide +kernel, by decide +kernel, ask_auth 0 [], by decide +kernel, long_tag _ _, by decide +kernel⟩,
   ⟨ask 0 [], (let d := on []; { d with tomus := { d.tomus with sessions := [{ sess with seq := 1, reply := [1] }] } }), { sess with seq := 1, reply := [1] }, by decide +kernel, by decide +kernel, by decide +kernel, ask_auth 0 [], by decide +kernel, rfl, by decide +kernel, by decide +kernel, by decide +kernel⟩,
   ⟨late, host (on []), sess, by decide +kernel, by decide +kernel, by decide +kernel, late_auth, by decide +kernel, rfl, by decide +kernel, by decide +kernel⟩,
   ⟨{ nop with opcode := 0xFFFF }, host (on []), by decide +kernel, by decide +kernel, by decide +kernel, by decide +kernel, by decide +kernel⟩,
   ⟨{ nop with opcode := 0xFFFF }, by decide +kernel, by decide +kernel⟩,
   ⟨{ nop with opcode := 0x0302, transport := 3 }, (opInfo 0x0302).get (by decide), by decide +kernel, by decide +kernel, by decide +kernel, by decide +kernel⟩,
   ⟨{ nop with opcode := 0x0302 }, Device.initial, (opInfo 0x0302).get (by decide), by decide +kernel, by decide +kernel, by decide +kernel, by decide +kernel, by decide +kernel, by decide +kernel⟩,
   ⟨{ nop with opcode := 0x0302 }, on [], (opInfo 0x0302).get (by decide), by decide +kernel, by decide +kernel, by decide +kernel, by decide +kernel, by decide +kernel, by decide +kernel, by decide +kernel, by decide +kernel⟩,
   ⟨{ nop with opcode := 0x0302, flags := 0x40 }, on [], (opInfo 0x0302).get (by decide), by decide +kernel, by decide +kernel, by decide +kernel, by decide +kernel, by decide +kernel, by decide +kernel, by decide +kernel⟩⟩

/-- Every clause of `Obligations.TheSessionOpcodes` is met by a request. -/
theorem witness_TheSessionOpcodes :
  (Met 0x0000
      (fun r _ _ => r.len ≤ 32) (fun r _ e => okWith r.params e)) ∧
  (Met 0x0001
      (fun r _ _ => r.len = 0) (fun _ t e => okWith
    (bytesLE 4 (shown e Addr.SYS_ID t).toNat ++ serialBytes ++ bytesLE 4 Config.stewardVersion.toNat
      ++ bytesLE 4 (rdN e Addr.MBX_FW_VER) ++ bytesLE 2 (rdF e Addr.NET_SITE 0 9)
      ++ [BitVec.ofNat 8 (if paired e then rdF e Addr.RED_STAT 4 1 else 0xFF),
          BitVec.ofNat 8 (if Machine.unitReady e = false then 0 else if e.cfg.degraded then 2 else 1)]
      ++ bytesLE 4 (rdN e Addr.LOOM_IMG_ID) ++ padTo 4 e.cfg.hash) e)) ∧
  (Met 0x0002
      (fun r _ _ => r.len = 0) (fun _ _ e => okWith (padTo 64 Config.deviceKey) e)) ∧
  (∃ o : LongOp, Met 0x0003
      (fun r _ e => r.len = 0 ∧ lastOp e r.peer = some o ∧ o.final = none)
    (fun _ _ e => okWith (bytesLE 2 o.req.opcode ++ bytesLE 2 1 ++ [BitVec.ofNat 8 o.progress]) e)) ∧
  (∃ (o : LongOp) (status f : Nat), Met 0x0003
      (fun r t e => r.len = 0 ∧ lastOp e r.peer = some o ∧ o.final = some (status, f) ∧ t < f + sec 60)
      (fun _ _ e => okWith (bytesLE 2 o.req.opcode ++ bytesLE 2 status ++ [BitVec.ofNat 8 o.progress]) e)) ∧
  (Met 0x0003
      (fun r _ e => r.len = 0 ∧ lastOp e r.peer = none) (fun _ _ e => deny 0x10 e)) ∧
  (Met 0x0004
      (fun r _ _ => r.len = 1 ∧ r.num 0 1 = 0)
    (fun _ _ e => okWith (e.tomus.stats.toList.flatMap (·.bytes)) e)) ∧
  (Met 0x0004
      (fun r _ e => r.len = 1 ∧ r.num 0 1 = 1 ∧ roleFor e r 1 = 0)
    (fun _ _ e => okWith (e.tomus.stats.toList.flatMap (·.bytes)) { e with tomus := { e.tomus with
      stats := e.tomus.stats.map (fun x => { x with rxWrap := 0, discard := 0, drop := 0, auth := 0, repeats := 0 }) } })) ∧
  (Met 0x0010
      (fun r _ e => r.len = 64 ∧ sessionRoom e r.peer = true)
    (fun r t e =>
      let qd := padTo 64 (Config.ephemeralKey e.freeCtr)
      let nd := padTo 16 (Config.nonce e.freeCtr)
      if Config.onCurve r.params = false then deny 5 e
      else okWith (qd ++ nd ++ padTo 64 (Config.deviceSign (Config.sha256 (r.params ++ qd ++ nd))))
        { e with freeCtr := e.freeCtr + 1, tomus := { e.tomus with
          hands := ⟨r.peer, r.params, qd, nd, e.freeCtr, t⟩ :: e.tomus.hands.filter (fun h => h.peer != r.peer) } })) ∧
  (∃ (h : Handshake) (role : Nat) (k : List Byte), Met 0x0011
      (fun r t e => r.len = 68 ∧ r.num 0 1 < 8 ∧ r.num 1 3 = 0 ∧ sessionRoom e r.peer = true ∧
      e.tomus.hands.find? (fun h => h.peer == r.peer && decide (t < h.at50 + sec 10)) = some h ∧
      (e.tomus.keys[r.num 0 1]?).getD none = some (role, k))
    (fun r t e =>
      let e' := { e with tomus := { e.tomus with hands := e.tomus.hands.filter (fun h => h.peer != r.peer) } }
      if Config.ecdsaVerify k (Config.sha256 (h.qh ++ h.qd ++ h.nd ++ serialBytes)) (r.bytes 4 64) = false then
        deny 7 (statAuth e' r.transport)
      else
        let ident := if Config.sessionIdent e.freeCtr = 0 then 1 else Config.sessionIdent e.freeCtr
        let s : Session' :=
          { peer := r.peer, slot := r.num 0 1, role := role, ident := ident,
            key := sessionKey (Config.ecdhX h.draw h.qh) h.nd ident, seq := r.seq, opcode := r.opcode, reply := [],
            count := 1, lastAt := t, bad := 0 }
        okWith (bytesLE 4 ident.toNat ++ [BitVec.ofNat 8 role, 0, 0, 0] ++ bytesLE 2 300)
          { e' with freeCtr := e.freeCtr + 1, tomus := { e'.tomus with
            sessions := e'.tomus.sessions.filter (fun y => y.peer != r.peer) ++ [s] } })) ∧
  (Met 0x0012
      (fun r _ _ => r.len = 0) (fun r _ e => okay (endSession e r.peer))) ∧
  (Met 0x0018
      (fun r _ _ => r.len = 68 ∧ r.num 0 1 < 8 ∧ 1 ≤ r.num 1 1 ∧ r.num 1 1 ≤ 3 ∧ r.num 2 2 = 0)
    (fun r _ e => if Config.onCurve (r.bytes 4 64) = false then deny 5 e
      else okay (keyChange e (r.num 0 1) (some (r.num 1 1, r.bytes 4 64))))) ∧
  (Met 0x0019
      (fun r _ _ => r.len = 1 ∧ r.num 0 1 < 8)
    (fun r _ e => okay (keyChange e (r.num 0 1) none))) ∧
  (Met 0x001A
      (fun r _ _ => r.len = 0)
    (fun _ _ e => okWith (e.tomus.keys.toList.flatMap (fun k =>
      match k with
      | some (role, key) => BitVec.ofNat 8 role :: padTo 7 (Config.sha256 key)
      | none => zeros 8)) e)) :=
  ⟨met (on []) 0 ([1]),
   met (on []) 0 ([]) (hf := (by simp [okWith, serialBytes, padTo, Laws.length_bytesLE, zeros])),
   met (on []) 0 ([]) (hf := (by simp [okWith, padTo])),
   ⟨⟨{ ask 0 [] with tag := [] }, some 0, 0, none⟩, met (op none) 0 ([])⟩,
   ⟨⟨{ ask 0 [] with tag := [] }, some 0, 0, some (0, 0)⟩, 0, 0, met (op (some (0, 0))) 0 ([])⟩,
   met (on []) 0 ([]),
   met (on []) 0 ([0]),
   met (on []) 0 ([1]),
   met (on []) 0 (zeros 64) (hf := (by dsimp only; split <;> simp [deny, okWith, padTo, zeros])),
   ⟨hand, 3, [], met (hands) 0 (zeros 68) (hf := (by dsimp only; split <;> simp [deny, okWith, bytesLE]))⟩,
   met (on []) 0 ([]),
   met (on []) 0 ([0, 1] ++ zeros 66) (hf := (by split <;> simp [deny, okay, okWith])),
   met (on []) 0 ([0]),
   met (on []) 0 ([])⟩

/-- Every clause of `Obligations.TheConfigurationOpcodes` is met by a request. -/
theorem witness_TheConfigurationOpcodes :
  (Met 0x0100
      (fun r _ _ => r.len = 1 ∧ r.num 0 1 = 0)
    (fun _ _ e => okWith ((List.range 4).map (fun i => BitVec.ofNat 8 ((e.cfg.stack[i]?).getD 0)) ++ bytesLE 8 (saddleGen e)
      ++ [BitVec.ofNat 8 e.cfg.degraded.toNat, BitVec.ofNat 8 e.cfg.change.isSome.toNat, 0, 0] ++ bytesLE 4 e.cfg.lost
      ++ padTo 32 e.cfg.hash) e)) ∧
  (Met 0x0101
      (fun r _ _ => 4 ≤ r.len ∧ r.num 0 4 + (r.len - 4) ≤ 0x10000)
    (fun r _ e => okay (stageBytes (r.num 0 4) (r.params.drop 4) e))) ∧
  (Met 0x0101
      (fun r _ _ => 4 ≤ r.len ∧ 0x10000 < r.num 0 4 + (r.len - 4)) (fun _ _ e => deny 5 e)) ∧
  (Met 0x0102
      (fun r _ e => r.len = 12 ∧ stagedOk e (r.num 0 4) (r.num 8 4) 8188 = true ∧ ∀ i < 4, r.num (4 + i) 1 ≤ 15)
    (fun r _ e => startLong r e (fun x => Machine.saddleStore ((List.range 4).map (fun i => r.num (4 + i) 1))
      (forwardRequest 0x0102 r.params x)))) ∧
  (Met 0x0103
      (fun r _ e => r.len = 20 ∧ 1 ≤ r.num 0 1 ∧ r.num 0 1 ≤ 15 ∧ r.num 1 1 ≤ 1 ∧ r.num 2 2 = 0 ∧ r.num 11 1 = 0 ∧
      stagedOk e (r.num 12 4) (r.num 16 4) 508 = true)
    (fun r _ e => startLong r e (fun x => Machine.tackStore (r.num 0 1) (r.num 1 1) (r.bytes 4 7)
      (forwardRequest 0x0103 r.params x)))) ∧
  (∃ x : Device, Met 0x0104
      (fun r _ e => r.len = 4 ∧ (∀ i < 4, r.num i 1 ≤ 15) ∧ groupBusy e 0x0104 = false ∧
      Machine.stackSelect ((List.range 4).map (fun i => r.num i 1)) e = (0, x))
    (fun r _ _ => startLong r x (forwardRequest 0x0104 r.params))) ∧
  (∃ (x : Device) (code : Nat), code ≠ 0 ∧ Met 0x0104
      (fun r _ e => r.len = 4 ∧ (∀ i < 4, r.num i 1 ≤ 15) ∧ groupBusy e 0x0104 = false ∧
      Machine.stackSelect ((List.range 4).map (fun i => r.num i 1)) e = (code, x))
    (fun _ _ _ => deny (0x8300 + code) x)) ∧
  (Met 0x0105
      (fun r _ e => r.len = 0 ∧ e.cfg.degraded = true)
    (fun r _ e => startLong r e Machine.saddleAck)) ∧
  (Met 0x0106
      (fun r _ _ => r.len = 4 ∧ 1 ≤ r.num 2 2 ∧ r.num 2 2 ≤ 64 ∧ r.num 0 2 + r.num 2 2 ≤ 0x10000)
    (fun r _ e => okWith ((List.range (r.num 2 2)).flatMap (fun i =>
      bytesLE 2 (r.num 0 2 + i)
        ++ [BitVec.ofNat 8 (((e.cfg.origins.find? (fun o => o.1 == r.num 0 2 + i)).map (·.2)).getD 0xFF), 0]
        ++ bytesLE 4 (fieldN e (r.num 0 2 + i)))) e)) ∧
  (∃ base size : Nat, Met 0x0107
      (fun r _ _ => r.len = 10 ∧ storeArea (r.num 0 1) = some (base, size) ∧ r.num 1 3 = 0 ∧ r.num 4 4 + r.num 8 2 ≤ size)
    (fun r _ e => okWith (memBytes e (base + r.num 4 4) (r.num 8 2)) e)) :=
  ⟨met (on []) 0 ([0]),
   met (on []) 0 ([0, 0, 0, 0, 5]),
   met (on []) 0 ([0, 0, 1, 0, 5]),
   met (on []) 0 (zeros 12),
   met (on []) 0 (1 :: zeros 19),
   ⟨_, met (on []) 0 (zeros 4) (hp := ⟨by decide +kernel, by decide +kernel, by decide +kernel, Prod.ext (by decide +kernel) rfl⟩)⟩,
   ⟨_, 2, by decide, met (on []) 0 ([1, 0, 0, 0]) (hp := ⟨by decide +kernel, by decide +kernel, by decide +kernel, Prod.ext (by decide +kernel) rfl⟩)⟩,
   met ((let d := on []; { d with cfg := { d.cfg with degraded := true } })) 0 ([]),
   met (on []) 0 ([0, 0, 1, 0]),
   ⟨copyBase 0, 0x10000, met (on []) 0 (zeros 8 ++ [16, 0])⟩⟩

/-- Every clause of `Obligations.TheImageOpcodes` is met by a request. -/
theorem witness_TheImageOpcodes :
  (Met 0x0200
      (fun r _ _ => r.len = 8 ∧ r.num 0 1 = 1 ∧ r.num 1 3 = 0 ∧ 1 ≤ r.num 4 4 ∧ r.num 4 4 ≤ 0x1000000)
    (fun r _ e => startLong r e (fun x => { x with tomus := { x.tomus with imgKind := 2 } }))) ∧
  (Met 0x0200
      (fun r _ e => r.len = 8 ∧ r.num 0 1 = 0 ∧ r.num 1 3 = 0 ∧ 1 ≤ r.num 4 4 ∧ r.num 4 4 ≤ 0x1000000 ∧ xchgState e ≠ 4)
    (fun r _ e => startLong r e (fun x =>
      let y := setXchg { x with loom := { x.loom with armed := none } } 1 0
      { y with tomus := { y.tomus with imgKind := 1 } }))) ∧
  (Met 0x0201
      (fun r _ e => 4 ≤ r.len ∧ r.num 0 4 % 4 = 0 ∧ r.num 0 4 + (r.len - 4) ≤ 0x1000000 ∧ opRunning e [0x0200] = none ∧
      e.tomus.imgKind ≠ 0)
    (fun r _ e => okay (putBytes e (imageBase e (e.tomus.imgKind - 1) + r.num 0 4) (r.params.drop 4)))) ∧
  (Met 0x0202
      (fun r _ e => r.len = 1 ∧ r.num 0 1 ≤ 2 ∧ e.tomus.imgKind = r.num 0 1 + 1)
    (fun r _ e => startLong r e id)) ∧
  (Met 0x0203
      (fun r _ e => r.len = 1 ∧ (r.num 0 1 = 0 ∧ loomMode e ≠ .run ∨ r.num 0 1 = 1))
    (fun r _ e => startLong r e id)) ∧
  (Met 0x0204
      (fun r _ e => r.len = 0 ∧ xchgState e = 2) (fun r _ e => startLong r e id)) ∧
  (Met 0x0205
      (fun r _ e => r.len = 0 ∧ xchgState e = 3)
    (fun _ _ e => okay (setXchg { e with loom := { e.loom with armed := none } } 2 0))) ∧
  (Met 0x0206
      (fun r _ _ => r.len = 0)
    (fun _ _ e => okWith (bytesLE 4 (rdN e Addr.LOOM_IMG_STAT) ++ bytesLE 4 (rdN e Addr.LOOM_XCHG_STAT)
      ++ [BitVec.ofNat 8 (loomBank e), BitVec.ofNat 8 e.tomus.stewBank, 0, 0] ++ slotHash e 0 ++ slotHash e 1) e)) ∧
  (Met 0x0208
      (fun r _ e => r.len = 68 ∧ r.num 0 1 < 4 ∧ r.num 1 3 = 0 ∧ sealOpen e 3 = true)
    (fun r _ e => if Config.onCurve (r.bytes 4 64) = false then deny 5 e
      else okay (raise (mramPut e 4 .plain
        [(loomKeyAddr (r.num 0 1), r.bytes 4 64 ++ bytesLE 4 (crc32c (r.bytes 4 64)))]) .loomKey (r.num 0 1)))) ∧
  (Met 0x0208
      (fun r _ e => r.len = 68 ∧ r.num 0 1 < 4 ∧ r.num 1 3 = 0 ∧ sealOpen e 3 = false)
    (fun r _ e => if Config.onCurve (r.bytes 4 64) = false then deny 5 e else deny 12 (sealRefused e 3))) :=
  ⟨met (on []) 0 ([1, 0, 0, 0, 16, 0, 0, 0]),
   met (on []) 0 ([0, 0, 0, 0, 16, 0, 0, 0]),
   met (tm (fun x => { x with imgKind := 1 })) 0 ([0, 0, 0, 0, 7]),
   met (tm (fun x => { x with imgKind := 1 })) 0 ([0]),
   met (on []) 0 ([1]),
   met (on [(Addr.LOOM_XCHG_STAT, 2)]) 0 ([]),
   met (on [(Addr.LOOM_XCHG_STAT, 3)]) 0 ([]),
   met (on []) 0 ([]) (hf := (by simp [okWith]; exact by simp [slotHash]; split <;> split <;> simp [bytesLE, zeros, padTo])),
   met (on []) 0 (zeros 68) (hf := (by split <;> simp [deny, okay, okWith])),
   met (sealed (on [])) 0 (zeros 68) (hf := (by split <;> simp [deny]))⟩

/-- Every clause of `Obligations.TheRunControlOpcodes` is met by a request. -/
theorem witness_TheRunControlOpcodes :
  (Met 0x0300
      (fun r _ _ => r.len = 0)
    (fun _ t e => okWith (([Addr.LOOM_MODE, Addr.LOOM_CYCLE] ++ (List.range 4).map Addr.GATE_HSTAT
      ++ [Addr.GATE_OWN_STAT, Addr.BRD_STAT, Addr.TH_STAT]).flatMap (fun a => bytesLE 4 (shown e a t).toNat)) e)) ∧
  (Met 0x0301
      (fun r _ e => r.len = 0 ∧ loomMode e = .stop ∧ e.loom.change = none ∧ mayRun e = true)
    (fun r t e => startLong r e (runStart 2 t))) ∧
  (Met 0x0301
      (fun r _ e => r.len = 0 ∧ loomMode e ≠ .stop) (fun _ _ e => deny 13 e)) ∧
  (Met 0x0302
      (fun r _ e => r.len = 0 ∧ loomMode e ≠ .stop)
    (fun _ t e => okay (enterStop 3 t e))) ∧
  (Met 0x0303
      (fun r _ e => r.len = 0 ∧ loomMode e = .run ∧ rdB e Addr.LOOM_CFG 1 = true ∧ redState e ≠ 2)
    (fun _ t e => okay (enterHold 6 t e))) ∧
  (Met 0x0304
      (fun r _ e => r.len = 0 ∧ loomMode e = .hold)
    (fun _ _ e => okay { e with loom := { e.loom with resume := true } })) ∧
  (Met 0x0305
      (fun r _ e => r.len = 1 ∧ 1 ≤ r.num 0 1 ∧ r.num 0 1 ≤ 5 ∧ loomMode e = .run ∧ e.loom.kernelCmd = none)
    (fun r _ e => waitFor kernelKey { e with loom := { e.loom with kernelCmd := some (r.num 0 1) } })) ∧
  (Met 0x0305
      (fun r _ e => r.len = 1 ∧ 1 ≤ r.num 0 1 ∧ r.num 0 1 ≤ 5 ∧ loomMode e = .run ∧ e.loom.kernelCmd.isSome = true)
    (fun _ _ e => deny 10 e)) ∧
  (Met 0x0306
      (fun r _ _ => r.len = 1 ∧ r.num 0 1 ≤ 15)
    (fun r t e => okay (gateClear (r.num 0 1) t e))) ∧
  (Met 0x0307
      (fun r t e => r.len = 1 ∧ r.num 0 1 ≤ 15 ∧ (thRestart (r.num 0 1) t e).therm.refused = 0)
    (fun r t e => okay (thRestart (r.num 0 1) t e))) ∧
  (Met 0x0307
      (fun r t e => r.len = 1 ∧ r.num 0 1 ≤ 15 ∧ (thRestart (r.num 0 1) t e).therm.refused ≠ 0)
    (fun r t e => deny (0x8600 + (thRestart (r.num 0 1) t e).therm.refused) (thRestart (r.num 0 1) t e))) :=
  ⟨met (on []) 0 ([]),
   met (on []) 0 ([]) (hf := Nat.zero_le _),
   met (runs []) 0 ([]),
   met (runs []) 0 ([]) (hf := Nat.zero_le _),
   met (runs [(Addr.LOOM_CFG, 2)]) 0 ([]) (hf := Nat.zero_le _),
   met (on [(Addr.LOOM_MODE, 2)]) 0 ([]),
   met (runs []) 0 ([5]),
   met (lm (runs []) (fun l => { l with kernelCmd := some 1 })) 0 ([1]),
   met (on []) 0 ([15]) (hf := Nat.zero_le _),
   met (on []) 0 ([0]) (hf := Nat.zero_le _),
   met (wrN (hot 100) Addr.TH_STAT 1) 0 ([1]) (hf := Nat.zero_le _)⟩

/-- Every clause of `Obligations.TheAccessAndMetrologyOpcodes` is met by a request. -/
theorem witness_TheAccessAndMetrologyOpcodes :
  (Met 0x0400
      (fun r _ _ => r.len = 8 ∧ memHead r = 0 ∧ (elements r).any (readsClear (r.num 4 1)) = false ∧
      32 + r.num 4 1 * r.num 6 2 ≤ packetLimit r.transport)
    (fun r t e =>
      let x := memReads (r.num 4 1) t (elements r) ([], 0, e)
      ⟨x.2.1, x.1, x.2.2, none⟩)) ∧
  (Met 0x0400
      (fun r _ _ => r.len = 8 ∧ memHead r ≠ 0) (fun r _ e => deny (memHead r) e)) ∧
  (Met 0x0401
      (fun r _ e => 8 ≤ r.len ∧ r.len = 8 + r.num 4 1 * r.num 6 2 ∧ memHead r = 0 ∧ loomMode e ≠ .run)
    (fun r t e =>
      let x := memWrites (r.num 4 1) t ((elements r).zipIdx.map (fun y => (y.1, r.num (8 + y.2 * r.num 4 1) (r.num 4 1)))) e
      deny (if x.1 ≠ 0 then x.1 else if sealCounts x.2 ≠ sealCounts e then 12 else 0) x.2)) ∧
  (Met 0x0401
      (fun r _ e => 8 ≤ r.len ∧ r.len = 8 + r.num 4 1 * r.num 6 2 ∧ memHead r = 0 ∧ loomMode e = .run ∧
      (elements r).any configPage = true)
    (fun _ _ e => deny 13 e)) ∧
  (Met 0x0500
      (fun r _ e => r.len = 28 ∧ r.num 1 3 = 0 ∧ domOn e 4 = true ∧ e.meter.ready = true)
    (fun r t e => waitFor (frameKey e.meter.seqNo) (lreqSend e 1 (r.num 0 1) (r.bytes 4 24) t))) ∧
  (Met 0x0500
      (fun r _ e => r.len = 28 ∧ r.num 1 3 = 0 ∧ domOn e 4 = true ∧ e.meter.ready = false)
    (fun _ _ e => deny 0x8202 e)) ∧
  (Met 0x0501
      (fun r _ e => r.len = 1 ∧ domOn e 4 = true)
    (fun r t e => waitFor (frameKey e.meter.seqNo) (lreqSend e 2 (r.num 0 1) [] t))) ∧
  (Met 0x0502
      (fun r _ e => r.len = 8 ∧ domOn e 4 = true)
    (fun r t e => waitFor (frameKey e.meter.seqNo) (lreqSend e 3 0xFF r.params t))) ∧
  (Met 0x0503
      (fun r _ e => r.len = 4 ∧ domOn e 4 = true)
    (fun r t e => waitFor (frameKey e.meter.seqNo) (lreqSend e 5 0xFF r.params t))) ∧
  (Met 0x0504
      (fun r _ e => r.len = 1 ∧ r.num 0 1 < 4 ∧ domOn e 4 = true)
    (fun r _ e => okWith (bytesLE 4 (rdN e (Addr.MP_STAT (r.num 0 1)))
      ++ (List.range 6).flatMap (fun k => bytesLE 8 (rd64 e (Addr.MP_REGm_r_LO (r.num 0 1) k 0)))
      ++ bytesLE 8 (rd64 e Addr.MBX_TIME_LO)) e)) ∧
  (∃ x : Nat × Nat × Bool, Met 0x0505
      (fun r _ e => r.len = 9 ∧ r.num 8 1 = 0 ∧ domOn e 4 = true ∧
      e.meter.slots.find? (fun s => s.2.1 == r.num 0 8 && s.2.2) = some x)
    (fun _ _ e => okWith (memBytes e (0x60100000 + 1024 * x.1) 192) e)) ∧
  (Met 0x0505
      (fun r _ e => r.len = 9 ∧ r.num 8 1 ≤ 1 ∧ domOn e 4 = true ∧
      e.meter.slots.find? (fun s => s.2.1 == r.num 0 8 && s.2.2) = none)
    (fun _ _ e => deny 5 e)) ∧
  (Met 0x0506
      (fun r _ e => r.len = 0 ∧ domOn e 4 = true)
    (fun _ _ e => okWith ((List.range 16).flatMap (fun i => bytesLE 4 (rdN e (Addr.MBX_PUBKEY i)))
      ++ (List.range 8).flatMap (fun i => bytesLE 4 (rdN e (Addr.MBX_FW_HASH i)))) e)) :=
  ⟨met (on []) 0 ([0, 0, 0, 0x20, 4, 0, 2, 0]),
   met (on []) 0 ([0, 0, 0, 0x20, 3, 0, 2, 0]),
   met (on []) 0 ([0, 0, 0, 0x20, 4, 0, 1, 0, 1, 2, 3, 4]) (hf := Nat.zero_le _),
   met (runs []) 0 ([0, 0, 0x10, 0x40, 4, 0, 1, 0, 1, 2, 3, 4]),
   met (mt id) 0 (zeros 28) (hf := Nat.zero_le _),
   met (on []) 0 (zeros 28),
   met (mt id) 0 ([0]) (hf := Nat.zero_le _),
   met (mt id) 0 (zeros 8) (hf := Nat.zero_le _),
   met (mt id) 0 (zeros 4) (hf := Nat.zero_le _),
   met (on []) 0 ([0]) (hf := (by simp [okWith, Laws.length_bytesLE, List.flatMap, List.range, List.range.loop])),
   ⟨(0, 5, true), met (mt (fun x => { x with slots := [(0, 5, true)] })) 0 ([5, 0, 0, 0, 0, 0, 0, 0, 0])⟩,
   met (on []) 0 (zeros 9),
   met (on []) 0 ([]) (hf := (by simp [okWith, Laws.length_bytesLE, List.flatMap, List.range, List.range.loop]))⟩

/-- Every clause of `Obligations.TheServiceOpcodes` is met by a request. -/
theorem witness_TheServiceOpcodes :
  (∃ k : Fin 4, Met 0x0600
      (fun r _ _ => r.len = 2 ∧ r.num 0 1 = k.1 ∧ 1 ≤ r.num 1 1 ∧ r.num 1 1 ≤ 3)
    (fun r t e => okay (recCommand k (r.num 1 1) t e))) ∧
  (Met 0x0601
      (fun r _ _ => r.len = 1 ∧ r.num 0 1 < 4)
    (fun r t e =>
      let both (a : Nat) : List Byte := bytesLE 4 (shown e a t).toNat ++ bytesLE 4 (shown e (a + 4) t).toNat
      okWith (bytesLE 4 (rdN e (Addr.REC_STAT (r.num 0 1))) ++ both (Addr.REC_TPOS_LO (r.num 0 1) 0)
        ++ both (Addr.REC_TTIME_LO (r.num 0 1) 0) ++ both (Addr.REC_FRAMES_LO (r.num 0 1) 0)
        ++ bytesLE 4 (rdN e (Addr.REC_GAP_CNT (r.num 0 1))) ++ bytesLE 4 (rdN e (Addr.REC_MISS_CNT (r.num 0 1)))) e)) ∧
  (∃ desc : Nat, Met 0x0602
      (fun r _ e => r.len = 14 ∧ recDesc e r = some desc ∧ (memNat e desc 4).testBit 31 = false ∧
      r.num 8 4 + r.num 12 2 ≤ descLen e desc)
    (fun r _ e => okWith (memBytes e (descAddr e desc + r.num 8 4) (r.num 12 2)) e)) ∧
  (∃ (desc : Nat) (b : Fin 16), Met 0x0603
      (fun r _ e => r.len = 8 ∧ recDesc e r = some desc ∧ 2 + r.num 0 1 = b.1)
    (fun _ t e => okay (Machine.bobDoorbell b t (memWrite steward desc (bytesLE 4 (memNat e desc 4 ||| 2 ^ 31)) e)))) ∧
  (Met 0x0700
      (fun r _ e => r.len = 2 ∧ 1 ≤ r.num 0 1 ∧ r.num 0 1 ≤ 5 ∧ r.num 1 1 < (if r.num 0 1 ≤ 3 then 48 else 24) ∧
      e.gtest = none ∧ testAllowed e (r.num 0 1) (r.num 1 1) = true)
    (fun r t e => waitFor testKey
      (wrN { e with gtest := some { kind := r.num 0 1, target := r.num 1 1, since := t } } Addr.GATE_TEST_STAT (2 ^ 31)))) ∧
  (Met 0x0701
      (fun r _ e => r.len = 0 ∧ loomMode e = .stop) (fun r _ e => startLong r e id)) ∧
  (Met 0x0800
      (fun r t e => r.len = 8 ∧ r.num 0 1 = 1 ∧ (r.num 1 1 < 32 ∨ 64 ≤ r.num 1 1 ∧ r.num 1 1 < 128) ∧ r.num 2 2 = 0 ∧
      calState e = 0 ∧ calState (calCommand 1 (r.num 1 1) t e) = 1)
    (fun r t e => okay (settleCal t (calCommand 1 (r.num 1 1) t e)))) ∧
  (Met 0x0800
      (fun r t e => r.len = 8 ∧ (r.num 0 1 = 2 ∨ r.num 0 1 = 4) ∧ (r.num 1 1 < 32 ∨ 64 ≤ r.num 1 1 ∧ r.num 1 1 < 128) ∧
      r.num 2 2 = 0 ∧ r.num 1 1 = calEntry e ∧
      calState (calCommand (r.num 0 1) (r.num 1 1) t e) = calReached (r.num 0 1))
    (fun r t e => startLong r (calCommand (r.num 0 1) (r.num 1 1) t e) id)) ∧
  (Met 0x0801
      (fun r _ _ => r.len = 4 ∧ r.num 0 2 + r.num 2 2 ≤ 2320)
    (fun r _ e => okWith (((calImage e).drop (r.num 0 2)).take (r.num 2 2)) e)) ∧
  (Met 0x0802
      (fun r _ e => r.len = 36 ∧ r.num 1 3 = 0 ∧ calState e = 1 ∧ calEntry e = r.num 0 1 ∧
      sliceLE (r.bytes 12 24) 20 4 = crc32c ((r.bytes 12 24).take 20))
    (fun r t e => if r.bytes 4 8 ≠ serialBytes then deny 15 e
      else startLong r e (fun x => settleCal t (Machine.calRestore t
        (wrN (wrN x Addr.CAL_RST_OFF (sliceLE (r.bytes 12 24) 0 4)) Addr.CAL_RST_GAIN (sliceLE (r.bytes 12 24) 4 4)))))) ∧
  (Met 0x0803
      (fun r _ e => 2 ≤ r.len ∧ r.num 0 2 % 2 = 0 ∧ r.len % 2 = 0 ∧ r.num 0 2 + (r.len - 2) ≤ 8192 ∧
      rsmBankOpen e (!rdB e Addr.RSM_COEF_CTRL 1) = true)
    (fun r _ e =>
      let bankB := !rdB e Addr.RSM_COEF_CTRL 1
      let old := rsmBankBytes e bankB
      let new := old.take (r.num 0 2) ++ r.params.drop 2 ++ old.drop (r.num 0 2 + (r.params.drop 2).length)
      let touched := (List.range 2048).filter
        (fun i => decide (r.num 0 2 < 4 * i + 4 ∧ 4 * i < r.num 0 2 + (r.params.drop 2).length))
      okay (rsmShowCrc (each touched (fun x i =>
        wrN x (if bankB then Addr.RSM_COEF_B i else Addr.RSM_COEF_A i) (sliceLE new (4 * i) 4)) e) bankB))) ∧
  (Met 0x0804
      (fun r _ e => r.len = 4 ∧ (Machine.rsmSwitch (wrN e Addr.RSM_COEF_EXP (r.num 0 4))).rsm.switchReq = true)
    (fun r _ e => okay (Machine.rsmSwitch (wrN e Addr.RSM_COEF_EXP (r.num 0 4))))) :=
  ⟨⟨0, met (on []) 0 ([0, 2]) (hf := Nat.zero_le _)⟩,
   met (on []) 0 ([0]) (hf := (by simp [okWith, Laws.length_bytesLE])),
   ⟨0x20000000, met (recRing) 0 (zeros 12 ++ [4, 0])⟩,
   ⟨0x20000000, 2, met (recRing) 0 (zeros 8) (hf := Nat.zero_le _)⟩,
   met (on [(0x40000040, 0), (Addr.GATE_CSTAT 0, 1), (Addr.GATE_CSTAT 1, 1), (Addr.BRD_PERMIT, 1)]) 0 ([1, 0]),
   met (on []) 0 ([]),
   met (on []) 0 ([1, 64, 0, 0, 0, 0, 0, 0]) (hf := Nat.zero_le _),
   met (on [(Addr.CAL_STAT, 0x400001)]) 0 ([2, 64, 0, 0, 0, 0, 0, 0]) (hf := Nat.zero_le _),
   met (on []) 0 ([0, 0, 4, 0]),
   met (on [(Addr.CAL_STAT, 0x400001)]) 0 ([64, 0, 0, 0] ++ zeros 28 ++ bytesLE 4 (crc32c (zeros 20))) (hf := (by split <;> simp [deny, startLong])),
   met (on []) 0 ([0, 0]) (hf := Nat.zero_le _),
   met (on [(Addr.LOOM_MODE, 1), (Addr.RSM_COEF_CRCB, 5)]) 0 ([5, 0, 0, 0]) (hf := Nat.zero_le _)⟩

/-- Every clause of `Obligations.TheTimeAndLogOpcodes` is met by a request. -/
theorem witness_TheTimeAndLogOpcodes :
  (Met 0x0900
      (fun r _ _ => r.len = 0)
    (fun _ t e => okWith (bytesLE 8 (e.time.read t) ++ [BitVec.ofNat 8 (timeState e), 0, 0, 0]
      ++ bytesLE 4 (rdN e Addr.TIME_RATE)) e)) ∧
  (Met 0x0901
      (fun r _ e => r.len = 8 ∧ timeState e < 2 ∧ rdB e Addr.TIME_STAT 4 = false)
    (fun r t e => okay (setTimeState 1 { e with time := { e.time with ns := r.num 0 8, frac := 0, at50 := t } }))) ∧
  (Met 0x0901
      (fun r _ e => r.len = 8 ∧ 2 ≤ timeState e) (fun _ _ e => deny 13 e)) ∧
  (Met 0x0A00
      (fun r _ _ => r.len = 0)
    (fun _ _ e => okWith
      ([BitVec.ofNat 8 (if paired e = false then 2 else if redState e = 2 then 0 else 1),
        BitVec.ofNat 8 (rdF e Addr.RED_STAT 5 1), 0, 0] ++ bytesLE 4 (rdN e Addr.RED_MATCH)
        ++ [BitVec.ofNat 8 (paired e && !rdB e Addr.RED_STAT 7 && !rdB e Addr.RED_STAT 8).toNat, 0, 0, 0]
        ++ bytesLE 4 (rdN e Addr.RED_OFFSET)) e)) ∧
  (Met 0x0A01
      (fun r _ e => r.len = 0 ∧ paired e = true ∧ redState e = 2 ∧ pairSync e = true)
    (fun _ t e => okay (yieldCommand t e))) ∧
  (Met 0x0A02
      (fun r _ _ => r.len = 1 ∧ r.num 0 1 = 1)
    (fun _ _ e => okay (wrB e Addr.RED_STAT 14 true))) ∧
  (Met 0x0A02
      (fun r _ _ => r.len = 1 ∧ r.num 0 1 = 0)
    (fun _ _ e => okay (wrB e Addr.RED_STAT 14 false))) ∧
  (Met 0x0B00
      (fun r _ e => r.len = 5 ∧ 1 ≤ r.num 4 1 ∧ r.num 4 1 ≤ 16 ∧ e.events.length ≤ 4096)
    (fun r _ e => okWith (((e.events.zipIdx.drop (r.num 0 4)).take (r.num 4 1)).flatMap (fun x => eventBytes x.1)) e)) ∧
  (Met 0x0B01
      (fun r _ _ => r.len = 5 ∧ 1 ≤ r.num 4 1 ∧ r.num 4 1 ≤ 16 ∧ r.num 0 4 ≠ 0)
    (fun r _ e => okWith (((List.range (r.num 4 1)).filter (fun i => decide (r.num 0 4 + i ≤ e.meter.logUsed))).flatMap
      (fun i => memBytes e (0x60180000 + 64 * (r.num 0 4 + i - 1)) 64)) e)) ∧
  (Met 0x0B02
      (fun r _ _ => r.len = 0)
    (fun _ _ e => okWith (memBytes e 0x60031000 128) e)) :=
  ⟨met (on []) 0 ([]),
   met (on []) 0 (zeros 8) (hf := Nat.zero_le _),
   met (on [(Addr.TIME_STAT, 3)]) 0 (zeros 8),
   met (on []) 0 ([]),
   met (on [(Addr.RED_CFG, 1), (Addr.RED_STAT, 0x22)]) 0 ([]) (hf := Nat.zero_le _),
   met (on []) 0 ([1]),
   met (on []) 0 ([0]),
   met ({ on [] with events := [⟨.gateLink, 5, 0⟩] }) 0 ([0, 0, 0, 0, 1]) (hf := (by rw [okWith, length_events]; exact (Nat.mul_le_mul_left 64 (List.length_take_le ..)).trans (by decide +kernel))),
   met (on []) 0 ([1, 0, 0, 0, 1]),
   met (on []) 0 ([])⟩

end Sys2Proof.Tests
end

/-! The high-word shadow (R12, R13): what a register read answers, and what it latches. -/

namespace Sys2Proof.Proofs.HighWord

open Sys2Proof Sys2Proof.Machine Sys2Proof.Laws

@[simp] theorem setOvf_hiShadow (d : Device) (a : Nat) (b : Bool) : (setOvf d a b).hiShadow = d.hiShadow := by
  rw [setOvf_regs_only]

@[simp] theorem clearCount_hiShadow (d : Device) (a : Nat) : (clearCount d a).hiShadow = d.hiShadow :=
  setOvf_hiShadow _ _ _

theorem regRead_fst_of_isHigh (i : Fin 9) {a : Nat} (t : Nat) (d : Device) (h : isHigh a = true) :
    (regRead i a t d).1 = d.hiShadow[i.1] := by
  simp only [regRead, h, if_true]

/-- The clearing of an RC register, which `regRead` does last, does not touch the shadows: the latch alone does. -/
theorem regRead_hiShadow (i : Fin 9) (a t : Nat) (d : Device) :
    (regRead i a t d).2.hiShadow =
      if isLow a = true then d.hiShadow.set i.1 (shown d (a + 4) t) else d.hiShadow := by
  simp only [regRead, apply_ite Device.hiShadow, clearCount_hiShadow, ite_self]

/-- A 4-byte access to a peripheral block that is not refused is one register read. -/
theorem fabricRead_word_of_block (i : Fin 9) {a b : Nat} (t : Nat) (d : Device) (hb : target a = .block b)
    (hc : accessCause d i false 4 a = 0) :
    fabricRead i 4 a t d = answer (BitVec.ofNat 64 (regRead i a t d).1.toNat) (regRead i a t d).2 := by
  have hload : loadAt i 4 a t d = ((regRead i a t d).1.toNat, (regRead i a t d).2) := by
    simp only [loadAt, hb]
    rfl
  simp only [fabricRead, hc, if_true, hload]

/-- Settles O6: a high word is answered from the reader's own shadow, and of all that a read does only the latch of a
low word touches a shadow. -/
theorem aHighWordComesFromTheShadow : Obligations.AHighWordComesFromTheShadow := by
  refine ⟨?answered, ?latched, wr_hiShadow⟩
  case answered =>
    intro s t d i a b hd hb hhigh hc
    subst hd
    refine ⟨_, rfl, ?_⟩
    rw [fabricRead_word_of_block i t _ hb hc, regRead_fst_of_isHigh i t _ hhigh]
    rfl
  case latched =>
    intro d i j a t
    rw [regRead_hiShadow]
    by_cases hlow : isLow a = true
    · by_cases hj : j = i
      · subst hj
        simp [hlow]
      · have hne : i.1 ≠ j.1 := fun e => hj (Fin.ext e.symm)
        simp [hlow, hj, Vector.getElem_set_ne, hne]
    · simp [hlow]

end Sys2Proof.Proofs.HighWord

/-! Reservations and atomics (R30): what an atomic operation does on a word it may act on, and which reservations a write
clears. -/

namespace Sys2Proof.Proofs.Reservations

open Sys2Proof Sys2Proof.Machine Sys2Proof.Laws

theorem resvOf_of_val_eq {i : Fin 9} {k : Fin 5} (h : i.1 = k.1) : resvOf i = some k := by
  simp [resvOf, fin?, h]

/-! ### Stores to memory -/

theorem memWrite_of_ne_mram (i : Fin 9) {a : Nat} (bs : List Byte) (d : Device) (h : target a ≠ .mram) :
    memWrite i a bs d = breakResv (resvOf i) a bs.length (putBytes d a bs) :=
  if_neg h

theorem target_ne_mram_of_amoTarget {i : Fin 9} {a : Nat} (h : amoTarget i (target a) = true) : target a ≠ .mram := by
  intro e
  simp [e, amoTarget] at h

theorem storeAt_of_not_block (i : Fin 9) (width : Nat) {a : Nat} (v : DWord) (t : Nat) (d : Device)
    (h : ∀ b, target a ≠ .block b) : storeAt i width a v t d = memWrite i a (bytesLE width v.toNat) d := by
  unfold storeAt
  split
  case h_1 b hb => exact absurd hb (h b)
  case h_2 => rfl

theorem fabricWrite_store_of_accessCause {i : Fin 9} {width a : Nat} (v : DWord) (t : Nat) {d : Device}
    (hc : accessCause d i true width a = 0) :
    fabricWrite i .store width a v t d = storeAt i width a v t d := by
  simp only [fabricWrite, hc, if_true]

/-! ### Atomic operations -/

/-- An operation other than a store, on a word where the initiator may act atomically, is not refused: it acts under the
reservation of its own core. -/
theorem fabricWrite_eq_atomicAt {i : Fin 9} {k : Fin 5} {op : BusOp} {a : Nat} (v : DWord) (t : Nat) {d : Device}
    (hop : op ≠ .store) (hk : i.1 = k.1) (htg : amoTarget i (target a) = true)
    (hc : accessCause d i (op != .lr) 4 a = 0) :
    fabricWrite i op 4 a v t d = atomicAt i k op a (v.setWidth 32) d := by
  unfold fabricWrite
  split
  case h_1 => exact absurd rfl hop
  case h_2 => simp [resvOf_of_val_eq hk, htg, hc]

theorem atomicAt_sc (i : Fin 9) (k : Fin 5) (a : Nat) (v : Word) (d : Device) :
    atomicAt i k .sc a v d =
      if d.resv[k.1] = some (a / 8) then
        answer 0 (memWrite i a (bytesLE 4 v.toNat) { d with resv := d.resv.set k.1 none })
      else answer 1 { d with resv := d.resv.set k.1 none } := by
  simp only [atomicAt, beq_iff_eq]

theorem atomicAt_of_ne {i : Fin 9} {k : Fin 5} {op : BusOp} (a : Nat) (v : Word) (d : Device)
    (hlr : op ≠ .lr) (hsc : op ≠ .sc) :
    atomicAt i k op a v d = answer ((word (memNat d a 4)).setWidth 64)
      (memWrite i a (bytesLE 4 (amoValue op (word (memNat d a 4)) v).toNat) d) := by
  unfold atomicAt
  split
  case h_1 => exact absurd rfl hlr
  case h_2 => exact absurd rfl hsc
  case h_3 => rfl

/-! ### The reservations that a write clears -/

theorem breakResv_resv (own : Option (Fin 5)) (a n : Nat) (d : Device) (c : Fin 5) {g : Nat}
    (hg : d.resv[c.1] = some g) :
    (breakResv own a n d).resv[c.1] = if own ≠ some c ∧ a / 8 ≤ g ∧ g ≤ (a + n - 1) / 8 then none else some g := by
  simp only [breakResv, Vector.getElem_ofFn, hg]

/-- A write of at least one byte touches exactly the granules from that of its first byte to that of its last. -/
theorem granule_touched_iff {a n g : Nat} (hn : 0 < n) :
    (∃ x, a ≤ x ∧ x < a + n ∧ x / 8 = g) ↔ a / 8 ≤ g ∧ g ≤ (a + n - 1) / 8 := by
  constructor
  · rintro ⟨x, hlo, hhi, rfl⟩
    omega
  · rintro ⟨hlo, hhi⟩
    exact ⟨max a (8 * g), by omega, by omega, by omega⟩

theorem breakResv_clears {own : Option (Fin 5)} {a n g : Nat} {d : Device} {c : Fin 5} (hn : 0 < n)
    (hg : d.resv[c.1] = some g) (hown : own ≠ some c) (ht : ∃ x, a ≤ x ∧ x < a + n ∧ x / 8 = g) :
    (breakResv own a n d).resv[c.1] = none := by
  rw [breakResv_resv own a n d c hg, if_pos ⟨hown, (granule_touched_iff hn).1 ht⟩]

theorem breakResv_keeps {own : Option (Fin 5)} {a n g : Nat} {d : Device} {c : Fin 5} (hn : 0 < n)
    (hg : d.resv[c.1] = some g) (hkeep : own = some c ∨ ∀ x, a ≤ x → x < a + n → x / 8 ≠ g) :
    (breakResv own a n d).resv[c.1] = some g := by
  rw [breakResv_resv own a n d c hg, if_neg]
  rintro ⟨hown, htouch⟩
  obtain ⟨x, hlo, hhi, hx⟩ := (granule_touched_iff hn).2 htouch
  rcases hkeep with h | h
  · exact hown h
  · exact h x hlo hhi hx

/-- Settles O7: each access that is not refused takes the one branch of the fabric that R30 names for it, and a write's
granules are those between its first and its last byte. -/
theorem reservationsAndAtomics : Obligations.ReservationsAndAtomics := by
  refine ⟨?sram, fun _ _ => rfl, ?amo, ?lr, ?sc, ?granules, ?store, fun _ _ _ => rfl⟩
  case sram => exact fun i hi => decide_eq_true hi
  case amo =>
    rintro s t d i op a v rfl hst hlr hsc hi htg hc
    have hwrite : (op != .lr) = true := by simpa using hlr
    have hfab := fabricWrite_eq_atomicAt (k := ⟨i.1, hi⟩) v t hst rfl htg (hwrite.symm ▸ hc)
    rw [atomicAt_of_ne _ _ _ hlr hsc, memWrite_of_ne_mram _ _ _ (target_ne_mram_of_amoTarget htg),
      length_bytesLE] at hfab
    exact congrArg (done s) hfab
  case lr =>
    rintro s t d i k a v rfl hk htg hc
    exact congrArg (done s) (fabricWrite_eq_atomicAt v t (by decide) hk htg hc)
  case sc =>
    rintro s t d i k a v rfl hk htg hc
    have hfab := fabricWrite_eq_atomicAt (op := .sc) v t (by decide) hk htg hc
    rw [atomicAt_sc, memWrite_of_ne_mram _ _ _ (target_ne_mram_of_amoTarget htg), length_bytesLE] at hfab
    exact congrArg (done s) hfab
  case granules =>
    intro d own a n g c hn hg
    exact ⟨fun ⟨hown, ht⟩ => breakResv_clears hn hg hown ht, breakResv_keeps hn hg⟩
  case store =>
    rintro s t d i width a v rfl hmram hblock hc
    have hfab := fabricWrite_store_of_accessCause v t hc
    rw [storeAt_of_not_block _ _ _ _ _ hblock, memWrite_of_ne_mram _ _ _ hmram, length_bytesLE] at hfab
    exact congrArg (done s) hfab

end Sys2Proof.Proofs.Reservations

/-! The thermal warning (R297): what one leg's judgement does, and that the estimates of the tick, which come before it,
leave the warnings and their limits alone. -/

namespace Sys2Proof.Proofs.ThermalWarning

open Sys2Proof Sys2Proof.Machine Sys2Proof.Laws

/-! ### The judgement of one leg -/

/-- For a leg of a harness: a set bit looks at the limit less 2 °C alone, a clear bit at the limit alone. -/
theorem legWarn_of_harness {d : Device} {n : Fin 24} {h : Nat} (hh : legHarness d n.1 = some h) :
    legWarn d n =
      if rdB d Addr.TH_WARN n.1 = true then
        if junction d n ≤ ((rdF d (Addr.TH_TJLIM h) 0 16 : Int) - 2 * 16) * sixteenth then
          wrB d Addr.TH_WARN n.1 false
        else d
      else if (rdF d (Addr.TH_TJLIM h) 0 16 : Int) * sixteenth < junction d n then
        hkTrigger (raise (wrB d Addr.TH_WARN n.1 true) .thermalWarning n.1) 1
      else d := by
  simp only [legWarn, hh]
  rfl

/-! ### The estimates that a tick computes before it judges -/

/-- The clock correction of the millisecond: the trim slewed, and the correction in force shown (R419). -/
def trimStep (d : Device) : Device :=
  showCorr { d with clock := { d.clock with trimUsed := slewTo d.clock.trimUsed (rdI d Addr.CLK_TRIM) 20 } }

/-- The junction of a leg shown (R290). -/
def showJunction (d : Device) (n : Fin 24) : Device :=
  wrN d (Addr.TH_TJ n.1) (tempWord (roundDiv (junction d n) 62500000))

/-- The unit whose junctions a tick judges: trim, stages, estimates of the NTCs and shown junctions are those of the
millisecond that ends. -/
def estimated (d : Device) : Device :=
  each (List.finRange 24) showJunction (ntcSettle (modelNtcs (each (List.finRange 24) legStep (trimStep d))))

/-- The registers that the estimates are shown in: the clock correction, the broken NTCs, and the bank from the junctions
to the model's NTCs. -/
def ShowsEstimate (a : Nat) : Prop :=
  a = Addr.CLK_CORR ∨ a = Addr.TH_NTC_BRK ∨ Addr.TH_TJ 0 ≤ a ∧ a < Addr.TH_DIO 0

theorem showsEstimate_TH_TJ (n : Fin 24) : ShowsEstimate (Addr.TH_TJ n.1) := by
  simp only [ShowsEstimate, Addr.TH_TJ, Addr.TH_DIO]
  omega

theorem showsEstimate_TH_PLOSS (n : Fin 24) : ShowsEstimate (Addr.TH_PLOSS n.1) := by
  simp only [ShowsEstimate, Addr.TH_TJ, Addr.TH_PLOSS, Addr.TH_DIO]
  omega

theorem showsEstimate_TH_NTC {k : Nat} (hk : k < 16) : ShowsEstimate (Addr.TH_NTC k) := by
  simp only [ShowsEstimate, Addr.TH_TJ, Addr.TH_NTC, Addr.TH_DIO]
  omega

theorem showsEstimate_TH_NTCM {k : Nat} (hk : k < 16) : ShowsEstimate (Addr.TH_NTCM k) := by
  simp only [ShowsEstimate, Addr.TH_TJ, Addr.TH_NTCM, Addr.TH_DIO]
  omega

theorem not_showsEstimate_TH_WARN : ¬ ShowsEstimate Addr.TH_WARN := by
  unfold ShowsEstimate
  decide

theorem not_showsEstimate_TH_CFG : ¬ ShowsEstimate Addr.TH_CFG := by
  unfold ShowsEstimate
  decide

theorem not_showsEstimate_TH_TJLIM {h : Nat} (hh : h < 4) : ¬ ShowsEstimate (Addr.TH_TJLIM h) := by
  simp only [ShowsEstimate, Addr.CLK_CORR, Addr.TH_NTC_BRK, Addr.TH_TJ, Addr.TH_TJLIM, Addr.TH_DIO]
  omega

theorem rd_therm (d : Device) (x : Thermal) (a : Nat) : rd { d with therm := x } a = rd d a :=
  rd_congr rfl a

theorem rd_each {α : Type} {l : List α} {f : Device → α → Device} {a : Nat}
    (hf : ∀ x ∈ l, ∀ d, rd (f d x) a = rd d a) (d : Device) : rd (each l f d) a = rd d a := by
  induction l generalizing d with
  | nil => rfl
  | cons x xs ih =>
    calc rd (each xs f (f d x)) a
        = rd (f d x) a := ih (fun y hy => hf y (List.mem_cons_of_mem x hy)) (f d x)
      _ = rd d a := hf x List.mem_cons_self d

section Estimates

variable {a : Nat} (ha : ¬ ShowsEstimate a)
include ha

theorem rd_wr_estimate (d : Device) {b : Nat} (v : Word) (hb : ShowsEstimate b) : rd (wr d b v) a = rd d a :=
  rd_wr_ne d v (fun e => ha (e ▸ hb))

theorem rd_trimStep (d : Device) : rd (trimStep d) a = rd d a :=
  rd_wr_estimate ha _ _ (.inl rfl)

theorem rd_showJunction (d : Device) (n : Fin 24) : rd (showJunction d n) a = rd d a :=
  rd_wr_estimate ha d _ (showsEstimate_TH_TJ n)

/-- Energy and stages are no registers: the loss shown is the only one that a leg's step writes. -/
theorem rd_legStep (d : Device) (n : Fin 24) : rd (legStep d n) a = rd d a := by
  have hloss : ∀ v, rd (wr d (Addr.TH_PLOSS n.1) v) a = rd d a :=
    fun v => rd_wr_estimate ha d v (showsEstimate_TH_PLOSS n)
  unfold legStep
  split
  case h_1 =>
    dsimp only
    split
    · exact hloss _
    · rw [rd_therm, hloss]
  case h_2 => exact rd_therm d _ a

theorem rd_modelNtcs (d : Device) : rd (modelNtcs d) a = rd d a := by
  refine rd_each (fun k hk d => ?_) d
  exact rd_wr_estimate ha d _ (showsEstimate_TH_NTCM (List.mem_range.1 hk))

theorem rd_ntcSettle (d : Device) : rd (ntcSettle d) a = rd d a := by
  refine rd_each (fun k hk d => ?_) d
  have hk16 : k < 16 := List.mem_range.1 hk
  dsimp only
  rw [wrF, rd_wr_estimate ha _ _ (showsEstimate_TH_NTC hk16), wrB, rd_wr_estimate ha _ _ (.inr (.inl rfl))]

theorem rd_estimated (d : Device) : rd (estimated d) a = rd d a :=
  calc rd (estimated d) a
      = rd (ntcSettle (modelNtcs (each (List.finRange 24) legStep (trimStep d)))) a :=
        rd_each (fun n _ e => rd_showJunction ha e n) _
    _ = rd (modelNtcs (each (List.finRange 24) legStep (trimStep d))) a := rd_ntcSettle ha _
    _ = rd (each (List.finRange 24) legStep (trimStep d)) a := rd_modelNtcs ha _
    _ = rd (trimStep d) a := rd_each (fun n _ e => rd_legStep ha e n) _
    _ = rd d a := rd_trimStep ha d

end Estimates

/-! ### The tick -/

/-- With the thermal model enabled, a tick judges every leg and then compares, both on the fresh estimates. -/
theorem thTick_of_enabled {d : Device} (t : Nat) (hen : rdB d Addr.TH_CFG 0 = true) :
    thTick t d = thCompare (each (List.finRange 24) legWarn (estimated d)) t := by
  have hcfg : rdB (trimStep d) Addr.TH_CFG 0 = true :=
    (congrArg (bit · 0) (rd_trimStep not_showsEstimate_TH_CFG d)).trans hen
  exact if_pos hcfg

theorem exec_thermalTick (t : Nat) (s : State) (hdom : domOn (at50 s.dev t) 1 = true) :
    exec (.thermalTick t) s = .next { s with dev := thTick t (at50 s.dev t) } :=
  congrArg (done s) (if_pos (by simp [hdom]))

/-- Settles O8: the four cases of a leg's judgement, and the tick, whose estimates write neither the warnings nor a limit.
That a tick warns before it compares is the model's own order (assumption log 152). -/
theorem theThermalWarning : Obligations.TheThermalWarning := by
  refine ⟨?onset, ?belowLimit, ?cleared, ?held, ?tick⟩
  case onset =>
    intro d n h hh hclear hover
    rw [legWarn_of_harness hh, if_neg (by simp [hclear]), if_pos hover]
  case belowLimit =>
    intro d n h hh hclear hunder
    rw [legWarn_of_harness hh, if_neg (by simp [hclear]), if_neg hunder.not_gt]
  case cleared =>
    intro d n h hh hset hunder
    rw [legWarn_of_harness hh, if_pos hset, if_pos hunder]
  case held =>
    intro d n h hh hset hover
    rw [legWarn_of_harness hh, if_pos hset, if_neg hover.not_ge]
  case tick =>
    rintro s t d rfl hdom hen
    refine ⟨estimated (at50 s.dev t), fun n => ?_, fun h hh => ?_, ?_⟩
    · exact congrArg (bit · n) (rd_estimated not_showsEstimate_TH_WARN _)
    · exact congrArg (field · 0 16) (rd_estimated (not_showsEstimate_TH_TJLIM hh) _)
    · rw [exec_thermalTick t s hdom, thTick_of_enabled t hen]

end Sys2Proof.Proofs.ThermalWarning

/-! Every command completes, and every waiting queue is served (log 2 and log 4). -/

namespace Sys2Proof.Proofs.Liveness

open Sys2Proof Sys2Proof.Machine

theorem step_of_cons {s : State} {c : Instr} {rest : List Instr} (h : s.pending = c :: rest) :
    step s = exec c { s with pending := rest } := by
  rw [step, h]

theorem step_of_nil {s : State} (h : s.pending = []) : step s = .next s := by
  rw [step, h]

/-- Settles O1: the two cases of the queue. -/
theorem stepRunsTheFrontCommand : Obligations.StepRunsTheFrontCommand :=
  ⟨fun _ _ _ => step_of_cons, fun _ => step_of_nil⟩

/-- Settles O2: each arm of `exec` is a `done`, also where its command's condition is not met (log 4). -/
theorem everyCommandCompletes : Obligations.EveryCommandCompletes := by
  intro i s
  cases i <;> exact ⟨_, rfl⟩

/-- A step takes the front command from the queue and changes the queue no further. -/
theorem step_pending (s : State) : ∃ d, step s = .next { dev := d, pending := s.pending.tail } := by
  cases hq : s.pending with
  | nil => exact ⟨s.dev, (step_of_nil hq).trans (by rw [List.tail_nil, ← hq])⟩
  | cons c rest =>
    obtain ⟨d, hd⟩ := everyCommandCompletes c { s with pending := rest }
    exact ⟨d, (step_of_cons hq).trans hd⟩

theorem run_succ_of_step {s s' : State} (k : Nat) (h : step s = .next s') :
    Sys2Proof.core.run (k + 1) s = Sys2Proof.core.run k s' := by
  simp only [Host.Core.run, Sys2Proof.core, h]

/-- Settles O3, by induction on the number of steps: each takes one command from the front (log 2). -/
theorem everyWaitingQueueIsServed : Obligations.EveryWaitingQueueIsServed := by
  intro s k
  induction k generalizing s with
  | zero => exact ⟨s.dev, rfl⟩
  | succ k ih =>
    obtain ⟨d, hd⟩ := step_pending s
    obtain ⟨e, he⟩ := ih { dev := d, pending := s.pending.tail }
    exact ⟨e, by rw [run_succ_of_step k hd, he, List.drop_tail]⟩

end Sys2Proof.Proofs.Liveness

/-! Commands under their conditions: a command of powered domains is its effect, a settled one is its effect and what
then settles. -/

namespace Sys2Proof.Proofs.Commands

open Sys2Proof Sys2Proof.Machine

theorem whileOn_one {n : Nat} (f : Device → Device) {d : Device} (h : domOn d n = true) : whileOn [n] f d = f d :=
  if_pos (by simp [h])

theorem whileOn_two {n m : Nat} (f : Device → Device) {d : Device} (hn : domOn d n = true) (hm : domOn d m = true) :
    whileOn [n, m] f d = f d :=
  if_pos (by simp [hn, hm])

/-- The effect of a command that needs no domain. -/
theorem done_eq (s : State) {x e : Device} (h : x = e) : done s x = .next { s with dev := e } :=
  congrArg (done s) h

/-- The effect of a command of one domain, which is on. -/
theorem done_whileOn_one (s : State) {n : Nat} {f : Device → Device} {d e : Device} (hn : domOn d n = true) (h : f d = e) :
    done s (whileOn [n] f d) = .next { s with dev := e } :=
  done_eq s ((whileOn_one f hn).trans h)

/-- The effect of a command of two domains, which are on. -/
theorem done_whileOn_two (s : State) {n m : Nat} {f : Device → Device} {d e : Device} (hn : domOn d n = true)
    (hm : domOn d m = true) (h : f d = e) : done s (whileOn [n, m] f d) = .next { s with dev := e } :=
  done_eq s ((whileOn_two f hn hm).trans h)

/-- A settled effect settles what the effect leaves. -/
theorem settled_eq {f : Device → Device} {t : Nat} {d e : Device} (h : f d = e) : settled f t d = settle t e :=
  congrArg (settle t) h

/-- What every step of an iteration leaves alone, the iteration leaves alone. -/
theorem each_proj {α β : Type} {p : Device → β} {f : Device → α → Device} (h : ∀ d x, p (f d x) = p d) (l : List α)
    (d : Device) : p (each l f d) = p d := by
  induction l generalizing d with
  | nil => rfl
  | cons x xs ih => exact (ih (f d x)).trans (h d x)

end Sys2Proof.Proofs.Commands

/-! The shared SRAM (R20, R26): what a store changes and what a read answers. -/

namespace Sys2Proof.Proofs.Sram

open Sys2Proof Sys2Proof.Machine Sys2Proof.Laws Sys2Proof.Proofs.Commands Sys2Proof.Proofs.Reservations

theorem target_ne_block_of_sram {a : Nat} (h : target a = .sram) (b : Nat) : target a ≠ .block b := by
  rw [h]
  exact Target.noConfusion

theorem target_ne_mram_of_sram {a : Nat} (h : target a = .sram) : target a ≠ .mram := by
  rw [h]
  exact Target.noConfusion

/-- The shared SRAM lies above the TCMs, whose loom areas alone have reserved bytes. -/
theorem loomReserved_of_sram {a : Nat} (h : target a = .sram) (i : Nat) : loomReserved (a + i) = false := by
  have hlo : 0x20000000 ≤ a := by
    by_contra hlt
    simp only [target] at h
    split_ifs at h
    omega
  simp only [loomReserved, decide_eq_false_iff_not]
  omega

/-- A store that is carried out writes its bytes and breaks reservations. -/
theorem fabricWrite_store_sram {i : Fin 9} {width a : Nat} (v : DWord) (t : Nat) {d : Device} (hs : target a = .sram)
    (hc : accessCause d i true width a = 0) :
    fabricWrite i .store width a v t d =
      breakResv (resvOf i) a (bytesLE width v.toNat).length (putBytes d a (bytesLE width v.toNat)) := by
  rw [fabricWrite_store_of_accessCause v t hc, storeAt_of_not_block _ _ _ _ _ (target_ne_block_of_sram hs),
    memWrite_of_ne_mram _ _ _ (target_ne_mram_of_sram hs)]

/-- A read that is carried out answers the bytes that stand there. -/
theorem fabricRead_sram {i : Fin 9} {width a : Nat} (t : Nat) {d : Device} (hs : target a = .sram)
    (hc : accessCause d i false width a = 0) :
    fabricRead i width a t d = answer (BitVec.ofNat 64 (memNat d a width)) d := by
  have hload : loadAt i width a t d = (memNat d a width, d) := by
    simp only [loadAt, hs]
  simp only [fabricRead, hc, if_true, hload]

theorem memByte_breakResv (own : Option (Fin 5)) (a n x : Nat) (d : Device) :
    memByte (breakResv own a n d) x = memByte d x := rfl

theorem memNat_breakResv (own : Option (Fin 5)) (a n x w : Nat) (d : Device) :
    memNat (breakResv own a n d) x w = memNat d x w := rfl

theorem memNat_at50 (d : Device) (t a n : Nat) : memNat (at50 d t) a n = memNat d a n := rfl

/-- The state after a store that is carried out. -/
theorem store_sram_state {s s' : State} {t : Nat} {i : Fin 9} {width a : Nat} {v : DWord} (hs : target a = .sram)
    (hc : accessCause (at50 s.dev t) i true width a = 0)
    (h : exec (.registerWrite i .store width a v t) s = .next s') :
    s'.dev = breakResv (resvOf i) a (bytesLE width v.toNat).length (putNat (at50 s.dev t) a width v.toNat) := by
  have h' : Host.Outcome.next { s with dev := fabricWrite i .store width a v t (at50 s.dev t) } = .next s' := h
  injection h' with h'
  rw [← h', fabricWrite_store_sram v t hs hc]
  rfl

/-- A width that is carried out is at most that of a double word. -/
theorem width_le_of_accessCause {d : Device} {i : Fin 9} {write : Bool} {width a : Nat}
    (h : accessCause d i write width a = 0) : width ≤ 8 := by
  by_contra hw
  have hbad : ¬ (width = 1 ∨ width = 2 ∨ width = 4 ∨ width = 8) := by omega
  simp only [accessCause, hbad, not_false_eq_true, true_or, if_true] at h
  split_ifs at h

/-- Settles O9: a store is a write of the named bytes, whoever reads them, and reserved bytes lie outside the SRAM. -/
theorem theSramReadsBackWhatWasStored : Obligations.TheSramReadsBackWhatWasStored := by
  refine ⟨?frame, ?readBack⟩
  case frame =>
    intro s s' t i width a x v hs hc hstep hx
    rw [store_sram_state hs hc hstep, memByte_breakResv, putNat,
      memByte_putBytes_ne _ _ _ _ (by rwa [length_bytesLE]), memByte_at50]
  case readBack =>
    intro s s' t u i j width a v hs hc hstep hr
    refine ⟨_, rfl, ?_⟩
    have hdev := store_sram_state hs hc hstep
    have hw : 256 ^ width ≤ 2 ^ 64 :=
      (Nat.pow_le_pow_right (by decide) (width_le_of_accessCause hc)).trans (by decide)
    have hval : memNat (at50 s'.dev u) a width = v.toNat % 256 ^ width := by
      rw [memNat_at50, hdev, memNat_breakResv, memNat_putNat_same _ _ _ _ fun k _ => loomReserved_of_sram hs k]
    rw [fabricRead_sram u hs hr, hval]
    refine ⟨?_, rfl⟩
    rw [answer, BitVec.toNat_ofNat, Nat.mod_eq_of_lt]
    exact (Nat.mod_lt _ (by positivity)).trans_le hw

end Sys2Proof.Proofs.Sram

/-! Accesses through the fabric (R6, R9, R12, R22, R26): registers written and read, and what a failed access leaves. -/

namespace Sys2Proof.Proofs.Fabric

open Sys2Proof Sys2Proof.Machine Sys2Proof.Laws Sys2Proof.Proofs.Commands Sys2Proof.Proofs.Reservations
  Sys2Proof.Proofs.HighWord Sys2Proof.Proofs.Sram

/-! ### Stores -/

theorem storeAt_word_of_block (i : Fin 9) {a b : Nat} (v : DWord) (t : Nat) (d : Device) (hb : target a = .block b) :
    storeAt i 4 a v t d = regWrite i a (v.setWidth 32) t d := by
  simp only [storeAt, hb]
  rfl

/-- A register that is neither committed nor of a configuration page, and gives no command, takes a plain write. -/
theorem regWrite_plain {i : Fin 9} {a : Nat} {v : Word} {t : Nat} {d : Device} {r : RegRow} (hr : RegMap.row? a = some r)
    (hcom : r.kind ≠ .committed) (hcfg : r.kind ≠ .config) (hcmd : commandWrite i a v t d = none) :
    regWrite i a v t d = plainWrite r a v d := by
  simp only [regWrite, hr, if_neg hcom, hcmd, if_neg hcfg]

/-- An unmapped address fails with cause 1, and no seal has a say in it. -/
theorem fabricWrite_store_unmapped {i : Fin 9} {width a : Nat} (v : DWord) (t : Nat) {d : Device}
    (hc : accessCause d i true width a = 1) : fabricWrite i .store width a v t d = busError i a true 1 d := by
  simp only [fabricWrite, hc]
  rfl

/-! ### Reads -/

/-- A clearing register that is not half of a pair: the read clears it for the steward, and for anyone outside system
control. -/
theorem regRead_rc {i : Fin 9} {a : Nat} (t : Nat) (d : Device) {r : RegRow} (hr : RegMap.row? a = some r)
    (hrc : r.rc = true) (hlow : isLow a = false) (hhigh : isHigh a = false)
    (hwho : i = steward ∨ a / 0x10000 ≠ 0x4000) : regRead i a t d = (shown d a t, clearCount d a) := by
  have hclears : (i == steward || a / 0x10000 != 0x4000) = true := by simpa using hwho
  simp only [regRead, hr, hrc, hlow, hhigh, hclears, Bool.and_self, Bool.false_eq_true, if_true, if_false]

theorem regRead_low {i : Fin 9} {a : Nat} (t : Nat) (d : Device) {r : RegRow} (hr : RegMap.row? a = some r)
    (hrc : r.rc = false) (hlow : isLow a = true) (hhigh : isHigh a = false) :
    regRead i a t d = (shown d a t, { d with hiShadow := d.hiShadow.set i.1 (shown d (a + 4) t) }) := by
  simp only [regRead, hr, hrc, hlow, hhigh, Bool.false_and, Bool.false_eq_true, if_true, if_false]

/-! ### Errors and scrubs -/

theorem rdB_count_busErrors (d : Device) (i : Nat) :
    rdB (count d Addr.SYS_BUSERR_CNT) Addr.SYS_BUSERR_INFO i = rdB d Addr.SYS_BUSERR_INFO i := by
  refine congrArg (bit · i) (rd_countBy_ne d _ 1 _ (by decide) fun r j h => ?_)
  have hovf : CntMap.ovf? Addr.SYS_BUSERR_CNT = some (1073774620, 0) := by decide +kernel
  rw [hovf] at h
  simp only [Option.some.injEq, Prod.mk.injEq] at h
  rw [← h.1]
  decide

/-- A target that does not respond is captured where nothing is. -/
theorem noResponse_of_invalid (i : Fin 9) (write : Bool) (a : Nat) {d : Device}
    (h : rdB d Addr.SYS_BUSERR_INFO 31 = false) :
    noResponse i write a d = wrN (wrN (count d Addr.SYS_BUSERR_CNT) Addr.SYS_BUSERR_ADDR a) Addr.SYS_BUSERR_INFO
      (2 ^ 31 + 256 * 3 + 16 * write.toNat + i.1) := by
  have hvalid : rdB (count d Addr.SYS_BUSERR_CNT) Addr.SYS_BUSERR_INFO 31 = false := by rw [rdB_count_busErrors, h]
  have hdenied : ¬ (3 : Nat) = 2 := by decide
  simp only [noResponse, busError, if_neg hdenied, hvalid, Bool.false_eq_true, if_false]

/-- The limit of single-bit errors is a field of the list, which no register write touches. -/
theorem fieldN_eccLimit_congr {d e : Device} (h : d.fields = e.fields) : fieldN d 0x0102 = fieldN e 0x0102 := by
  have hdest : (FieldMap.find? 0x0102).map (·.1.dest) = some .none := by decide +kernel
  unfold fieldN fieldOf
  cases hf : FieldMap.find? 0x0102 with
  | none => rfl
  | some ri =>
    obtain ⟨r, i⟩ := ri
    rw [hf] at hdest
    simp only [Option.map_some, Option.some.injEq] at hdest
    simp only [hdest, h]

theorem scrubPass_single {single t : Nat} {d : Device} (hpos : 0 < single) (hlim : single < fieldN d 0x0102) :
    scrubPass single 0 t d = countBy d Addr.SYS_ECC_CE_CNT single := by
  have hcnt : ¬ fieldN (countBy d Addr.SYS_ECC_CE_CNT single) 0x0102 ≤ single := by
    rw [fieldN_eccLimit_congr (countBy_fields d _ _)]
    exact hlim.not_ge
  simp only [scrubPass, hpos.ne', if_false, hcnt, if_true]

theorem scrubPass_double {double t : Nat} {d : Device} (hpos : 0 < double) (hlim : 0 < fieldN d 0x0102) :
    scrubPass 0 double t d = selfDiag (countBy d Addr.SYS_ECC_UE_CNT double) 3 t := by
  simp only [scrubPass, if_true, if_neg hlim.not_ge, if_neg hpos.ne']

/-! ### The configuration -/

theorem cfgApply_waits {v : Word} (t : Nat) {d : Device} (hv : bit v 0 = true) (hn : transferNow d = false) :
    cfgApply v t d =
      { wrB d Addr.SYS_CFG_STAT 0 true with cfg := { d.cfg with applyAt := some (d.cfg.applyAt.getD t) } } := by
  simp only [cfgApply, hv, hn, if_true]
  rfl

theorem cfgApply_now {v : Word} (t : Nat) {d : Device} (hv : bit v 0 = true) (hn : transferNow d = true) :
    cfgApply v t d = shadowTransfer t d := by
  simp only [cfgApply, hv, hn, if_true]

/-- Settles O10: each access is the one branch of the fabric that its target, its cause and its register's row select. -/
theorem accessesThroughTheFabric : Obligations.AccessesThroughTheFabric := by
  refine ⟨?plain, ?sram, ?unmapped, ?rc, ?low, ?noResponse, ?single, ?double, ?waits, ?now⟩
  case plain =>
    rintro s t d i a b v r rfl hb hr hcom hcfg hc hcmd
    exact done_eq s <| (fabricWrite_store_of_accessCause v t hc).trans <|
      (storeAt_word_of_block i v t _ hb).trans (regWrite_plain hr hcom hcfg hcmd)
  case sram =>
    rintro s t d i width a v rfl hs hc
    exact done_eq s (fabricWrite_store_sram v t hs hc)
  case unmapped =>
    rintro s t d i width a v rfl hc
    exact done_eq s (fabricWrite_store_unmapped v t hc)
  case rc =>
    rintro s t d i a b r rfl hb hr hrc hlow hhigh hwho hc
    refine done_eq s ((fabricRead_word_of_block i t _ hb hc).trans ?_)
    rw [regRead_rc t _ hr hrc hlow hhigh hwho, answer]
  case low =>
    rintro s t d i a b r rfl hb hr hrc hlow hhigh hc
    refine done_eq s ((fabricRead_word_of_block i t _ hb hc).trans ?_)
    rw [regRead_low t _ hr hrc hlow hhigh, answer]
  case noResponse =>
    rintro s t d i write a rfl hdom hval
    exact done_whileOn_one s hdom (noResponse_of_invalid i write a hval)
  case single =>
    rintro s t d single rfl hdom hpos hlim
    exact done_whileOn_one s hdom (scrubPass_single hpos hlim)
  case double =>
    rintro s t d double rfl hdom hpos hlim
    exact done_whileOn_one s hdom (scrubPass_double hpos hlim)
  case waits =>
    rintro s t d v rfl hdom hv hn
    exact done_whileOn_one s hdom (cfgApply_waits t hv hn)
  case now =>
    rintro s t d v rfl hdom hv hn
    exact done_whileOn_one s hdom (cfgApply_now t hv hn)

end Sys2Proof.Proofs.Fabric

/-! The loom's commands (R189 to R193, R195 to R197, R203, R204): each function of the loom under the condition that a
command meets. -/

namespace Sys2Proof.Proofs.LoomCommands

open Sys2Proof Sys2Proof.Machine Sys2Proof.Laws Sys2Proof.Proofs.Commands

/-! ### Tasks -/

/-- A release of a latch that does not carry the kernel's parameters. -/
theorem taskRelease_of_latched {task core : Fin 4} {ws : List Word} {d : Device}
    (hl : d.loom.latched.find? (fun l => l.1 == task.1 && l.2.1 == core.1) = some (task.1, core.1, ws))
    (hp : (ws.getD 1 0).getLsbD 4 = false) :
    taskRelease task core d = setMip (updTask
      (let e := each ws.zipIdx (fun e w =>
        dmaPutNat e (dtcmBase core.1 + [0, 0x800, 0x1040, 0x1880].getD task.1 0 + 4 * w.2) 4 w.1.toNat) d
       { e with loom := { e.loom with
          latched := e.loom.latched.filter (fun l => !(l.1 == task.1 && l.2.1 == core.1)) } })
      task (fun k => { k with released := k.released ||| 2 ^ core.1 })) core (16 + task.1) true := by
  simp only [taskRelease, hl, hp, Bool.false_eq_true, if_false]

/-- No overrun waits for the completion: the word counts alone. -/
theorem loomDone_of_active {core task : Fin 4} (t : Nat) {d : Device} (hm : loomMode d ≠ .stop)
    (ha : (d.loom.tasks[task.1]).active = true) (hc : (taskCores d task.1).testBit core.1 = true)
    (hh : coreHalted d core = false) (ho : d.loom.overrun = none) :
    loomDone core task t d =
      updTask (setMip d core (16 + task.1) false) task (fun k => { k with done := k.done ||| 2 ^ core.1 }) := by
  have hrun : ¬ (loomMode d = .stop ∨ (d.loom.tasks[task.1]).active = false ∨
      (taskCores d task.1).testBit core.1 = false ∨ coreHalted d core = true) := by simp [hm, ha, hc, hh]
  have hover : (updTask (setMip d core (16 + task.1) false) task
      (fun k => { k with done := k.done ||| 2 ^ core.1 })).loom.overrun = none := ho
  simp only [loomDone, if_neg hrun, hover]

theorem cbAppend_of_open {task core : Fin 4} {a : Nat} (v : Word) {d : Device} (hh : coreHalted d core = false)
    (hm : loomMode d ≠ .stop) (ht : task ≠ 3) (ha : (d.loom.tasks[task.1]).active = true)
    (hr : (d.loom.tasks[task.1]).released.testBit core.1 = true)
    (hd : (d.loom.tasks[task.1]).done.testBit core.1 = false) (hc : committedReg a = true)
    (hroom : (d.loom.tasks[task.1]).buffer.length < 256) :
    cbAppend task core a v d = showLevel (updTask (updTask d task (fun k => { k with addr := word a })) task
      (fun k => { k with buffer := k.buffer ++ [⟨a, v⟩] })) task := by
  have hh' : coreHalted (updTask d task (fun k => { k with addr := word a })) core = false := hh
  have hm' : loomMode (updTask d task (fun k => { k with addr := word a })) ≠ .stop := hm
  simp [cbAppend, hh, hh', hm', ht, ha, hr, hd, hc, Nat.not_le.2 hroom]

/-! ### Modes -/

theorem autorun_of_ready (t : Nat) {d : Device} (hr : unitReady d = true) (ha : rdB d Addr.LOOM_CFG 0 = true)
    (hs : d.cfg.degraded = false) (he : d.loom.everRun = false) : autorun t d = runStart 1 t d := by
  simp only [autorun, hr, ha, hs, he, Bool.not_false, Bool.and_self, if_true]

theorem runStart_of_mayRun (cause t : Nat) {d : Device} (hm : loomMode d = .stop) (hc : d.loom.change = none)
    (hr : mayRun d = true) :
    runStart cause t d =
      (let code := imageCode d (loomBank d) false
       let i := readImage d (loomBank d)
       if code = 0 then
         let e := showLoaded (loadImage (showImage d 0) i) i
         let e := stationsInit t (objectsInit { e with loom := { e.loom with image := some i } } i)
         { e with loom := { e.loom with change := some ⟨cause, true⟩, paramReq := true } }
       else opFinish (showImage d code) [0x0301] (0x8400 + code) 100 t) := by
  unfold runStart
  rw [if_pos ⟨hm, hc, hr⟩]
  by_cases h : imageCode d (loomBank d) false = 0
  · have hi : readImage (showImage d 0) (loomBank d) = readImage d (loomBank d) := rfl
    simp only [h, if_true, hi]
  · simp only [if_neg h]

theorem runEntry_of_loaded (t : Nat) {d : Device} {c : RunChange} (hc : d.loom.change = some c) (hl : c.loaded = true)
    (hm : loomMode d = .stop) : runEntry t d = boundary t d := by
  simp only [runEntry, hc, hl, hm, and_self, if_true]

theorem loomStop_of_running (t : Nat) {d : Device} (hm : loomMode d ≠ .stop) : loomStop t d = enterStop 3 t d := by
  unfold loomStop
  split
  case h_1 h => exact absurd h hm
  case h_2 => rfl

theorem loomStop_of_change (t : Nat) {d : Device} {c : RunChange} (hm : loomMode d = .stop)
    (hc : d.loom.change = some c) :
    loomStop t d = opFinish { d with loom := { d.loom with change := none } } [0x0301] 0x000D 100 t := by
  simp only [loomStop, hm, hc, Option.isSome_some, if_true]

theorem loomResume_of_hold {d : Device} (hm : loomMode d = .hold) :
    loomResume d = { d with loom := { d.loom with resume := true } } :=
  if_pos hm

/-! ### Overruns, faults and breaks -/

/-- With no task at work, no core that carries T3 runs a higher task: a watchdog that has run out is judged. -/
theorem t3Expiry_of_due {t : Nat} {d : Device} {i : LoomImage} (hi : d.loom.image = some i) (hw : i.t3Wdog ≠ 0)
    (hm : loomMode d = .run) (ho : d.loom.overrun = none) (hk : d.loom.kickAt + us i.t3Wdog ≤ t)
    (ha : ∀ k : Fin 4, (d.loom.tasks[k.1]).active = false) (hb : bitsOf 4 (taskCores d 3) ≠ []) :
    t3Expiry t d =
      if (d.loom.tasks[3]).tolOk = true ∧ d.loom.t3Missed = false then
        count { d with loom := { d.loom with t3Missed := true, kickAt := d.loom.kickAt + us i.t3Wdog } } Addr.LOOM_TOL_CNT
      else overrunBegin 3 t d := by
  have hidle : ∀ k : Fin 3, (d.loom.tasks[k.1]).active = false := fun k => ha (k.castLE (by decide))
  have haway : (bitsOf 4 (taskCores d 3)).all (fun c => (List.finRange 3).any (fun k =>
      (d.loom.tasks[k.1]).active && (taskCores d k.1).testBit c && (d.loom.tasks[k.1]).released.testBit c &&
        !(d.loom.tasks[k.1]).done.testBit c)) = false := by
    obtain ⟨c, hc⟩ := List.exists_mem_of_ne_nil _ hb
    simp only [hidle, Bool.false_and, List.any_eq_true, List.all_eq_false]
    exact ⟨c, hc, by simp⟩
  simp only [t3Expiry, hi]
  exact if_pos ⟨hm, ho, hw, hk, haway⟩

theorem loomOverrun_of_late {task : Fin 4} {t : Nat} {d : Device} {k : Task} (hk : d.loom.tasks[task.1] = k)
    (hm : loomMode d = .run) (ho : d.loom.overrun = none) (ht : task ≠ 3) (ha : k.active = true)
    (hc : taskComplete d task = false) (hl : doneLimit (taskDeadline d task) ≤ t) (he : k.extended = false) :
    loomOverrun task t d =
      if task = 2 ∧ k.tolOk = true ∧ k.tolUsed = false then
        count (updTask d task (fun k => { k with extended := true, tolUsed := true })) Addr.LOOM_TOL_CNT
      else overrunBegin task t d := by
  have ht3 : task.1 < 3 := by omega
  simp only [loomOverrun, hk, hm, ho, ht3, ha, hc, hl, he, and_self, if_true]

theorem overrunEnd_of_finished (t : Nat) {d : Device} {o : Overrun} (ho : d.loom.overrun = some o)
    (hf : o.finished = true) : overrunEnd t d = enterStop 4 t d := by
  simp only [overrunEnd, ho, hf, true_or, if_true]

theorem faultStop_of_running (core : Fin 4) (mcause mepc mtval : Word) (t : Nat) {d : Device} (hm : loomMode d ≠ .stop) :
    faultStop core mcause mepc mtval false t d =
      selfDiag (enterStop 5 t (
        let e := updCore (wr (wr (wr d Addr.LOOM_EXC_CAUSE (setField mcause 30 2 core.1)) Addr.LOOM_EXC_PC mepc)
          Addr.LOOM_EXC_TVAL mtval) core (fun x => { x with mcause := mcause, mepc := mepc, mtval := mtval })
        raise { e with loom := { e.loom with suppress := true } } .faultStop core.1)) 1 t := by
  simp only [faultStop, if_neg hm, Bool.false_eq_true, if_false]

theorem debugBreak_holds (core : Fin 4) (pc : Word) (t : Nat) {d : Device} (hm : loomMode d = .run)
    (hd : rdB d Addr.LOOM_CFG 1 = true) (hb : rdB d Addr.LOOM_CFG 2 = true) :
    debugBreak core pc t d = enterHold 8 t (updCore d core (fun x => { x with pc := pc })) := by
  simp only [debugBreak, hm, hd, hb, ne_eq, not_true_eq_false, Bool.and_self, if_false, if_true]

theorem debugBreak_faults (core : Fin 4) (pc : Word) (t : Nat) {d : Device} (hm : loomMode d = .run)
    (hb : rdB d Addr.LOOM_CFG 2 = false) : debugBreak core pc t d = faultStop core 3 pc 0 false t d := by
  simp only [debugBreak, hm, hb, ne_eq, not_true_eq_false, Bool.and_false, Bool.false_eq_true, if_false]

/-- Settles O11: each function of a task on the state that its clause describes. -/
theorem theTasksOfTheLoom : Obligations.TheTasksOfTheLoom := by
  refine ⟨?deadline, ?release, ?done, ?append, ?flush, ?kick, ?ipi⟩
  case deadline =>
    rintro s t d rfl h1 h5
    exact done_whileOn_two s h1 h5 rfl
  case release =>
    rintro s t d task core ws rfl h1 hl hp
    exact done_whileOn_one s h1 (taskRelease_of_latched hl hp)
  case done =>
    rintro s t d core task rfl h1 hm ha hc hh ho
    exact done_whileOn_one s h1 (loomDone_of_active t hm ha hc hh ho)
  case append =>
    rintro s t d core task a v rfl h1 hh hm ht ha hr hd hc hroom
    exact done_whileOn_one s h1 (cbAppend_of_open v hh hm ht ha hr hd hc hroom)
  case flush =>
    rintro s t d rfl h1
    exact done_whileOn_one s h1 rfl
  case kick =>
    rintro s t d rfl h1
    exact done_whileOn_one s h1 rfl
  case ipi =>
    rintro s t d v rfl h1
    exact done_whileOn_one s h1 rfl

/-- Settles O12: each change of mode on the state that its clause describes. RUN takes effect at the boundary at which the
image is loaded (log 59), with the parameters requested (log 60). -/
theorem theModesOfTheLoom : Obligations.TheModesOfTheLoom := by
  refine ⟨?autorun, ?run, ?entry, ?stop, ?cancel, ?hold, ?resume⟩
  case autorun =>
    rintro s t d rfl h1 hr ha hs he
    exact done_whileOn_one s h1 (autorun_of_ready t hr ha hs he)
  case run =>
    rintro s t d rfl h1 hm hc hr
    exact done_whileOn_one s h1 (runStart_of_mayRun 2 t hm hc hr)
  case entry =>
    rintro s t d c rfl h1 h5 hc hl hm
    exact done_whileOn_two s h1 h5 (settled_eq (runEntry_of_loaded t hc hl hm))
  case stop =>
    rintro s t d rfl h1 hm
    exact done_whileOn_one s h1 (settled_eq (loomStop_of_running t hm))
  case cancel =>
    rintro s t d c rfl h1 hm hc
    exact done_whileOn_one s h1 (settled_eq (loomStop_of_change t hm hc))
  case hold =>
    rintro s t d rfl h1 - - -
    exact ⟨done_whileOn_one s h1 rfl, done_whileOn_one s h1 rfl⟩
  case resume =>
    rintro s t d rfl h1 hm
    exact done_whileOn_one s h1 (loomResume_of_hold hm)

/-- Settles O14: each judgement of an overrun, a fault or a break on the state that its clause describes. -/
theorem overrunsFaultsAndBreaks : Obligations.OverrunsFaultsAndBreaks := by
  refine ⟨?tolerated, ?watchdog, ?tolerated2, ?overrun, ?ended, ?fault, ?holds, ?faults⟩
  case tolerated =>
    rintro s t d i rfl h1 hi hw hm ho hk ha hb htol hmiss
    exact done_whileOn_one s h1 ((t3Expiry_of_due hi hw hm ho hk ha hb).trans (if_pos ⟨htol, hmiss⟩))
  case watchdog =>
    rintro s t d i rfl h1 hi hw hm ho hk ha hb hno
    refine done_whileOn_one s h1 ((t3Expiry_of_due hi hw hm ho hk ha hb).trans (if_neg ?_))
    rintro ⟨htol, hmiss⟩
    rcases hno with h | h
    · exact Bool.false_ne_true (h.symm.trans htol)
    · exact Bool.false_ne_true (hmiss.symm.trans h)
  case tolerated2 =>
    rintro s t d rfl h1 hm ho ha hc hl he htol hused
    exact done_whileOn_one s h1 ((loomOverrun_of_late rfl hm ho (by decide) ha hc hl he).trans (if_pos ⟨rfl, htol, hused⟩))
  case overrun =>
    rintro s t d task rfl h1 hm ho ht ha hc hl he
    refine done_whileOn_one s h1 ((loomOverrun_of_late rfl hm ho (by omega) ha hc hl he).trans (if_neg ?_))
    rintro ⟨rfl, -⟩
    exact absurd ht (by decide)
  case ended =>
    rintro s t d o rfl h1 ho hf
    exact done_whileOn_one s h1 (settled_eq (overrunEnd_of_finished t ho hf))
  case fault =>
    rintro s t d core mcause mepc mtval rfl h1 hm
    exact done_whileOn_one s h1 (settled_eq (faultStop_of_running core mcause mepc mtval t hm))
  case holds =>
    rintro s t d core pc rfl h1 hm hd hb
    exact done_whileOn_one s h1 (settled_eq (debugBreak_holds core pc t hm hd hb))
  case faults =>
    rintro s t d core pc rfl h1 hm hb
    exact done_whileOn_one s h1 (settled_eq (debugBreak_faults core pc t hm hb))

end Sys2Proof.Proofs.LoomCommands

/-! Gate ownership, the islands and the selvedge (R16, R132, R133, R143 to R149, R392): each function on the state that a
command finds. -/

namespace Sys2Proof.Proofs.Selvedge

open Sys2Proof Sys2Proof.Machine Sys2Proof.Laws Sys2Proof.Proofs.Commands

/-! ### Ownership -/

theorem ownWrite_of_pending (v t : Nat) {d : Device} (hp : rdB d Addr.GATE_OWN_STAT 3 = true) :
    ownWrite v t d = wrB d Addr.GATE_OWN_STAT 2 true := by
  simp only [ownWrite, hp, if_true]

theorem ownWrite_of_adjacent {v : Nat} (t : Nat) {d : Device} (hp : rdB d Addr.GATE_OWN_STAT 3 = false)
    (hv : v = 1 ∧ ownMode d = 0 ∨ v = 0 ∧ ownMode d = 1 ∨ v = 2 ∧ ownMode d = 1) :
    ownWrite v t d = ownForce (wrB d Addr.GATE_OWN_STAT 2 false) v t := by
  have hne : v ≠ ownMode d := by omega
  simp only [ownWrite, hp, Bool.false_eq_true, if_false, if_neg hne, if_pos hv]

/-- From mode 2 the way leads through the selvedge, to mode 1 alone. -/
theorem ownWrite_of_mode_two {v : Nat} (t : Nat) {d : Device} (hp : rdB d Addr.GATE_OWN_STAT 3 = false)
    (hm : ownMode d = 2) (hv : v ≠ 2) :
    ownWrite v t d =
      if v = 1 then selvedgeAll (wrB (wrB d Addr.GATE_OWN_STAT 2 false) Addr.GATE_OWN_STAT 3 true) t 0x0F
      else wrB d Addr.GATE_OWN_STAT 2 true := by
  simp [ownWrite, hp, hm, hv]

theorem ownDone_of_out (t : Nat) {d : Device} (hp : rdB d Addr.GATE_OWN_STAT 3 = true) (ho : allGatesOut d = true)
    (hr : redState (ownForce d 1 t) ≠ 4) (hd : (ownForce d 1 t).red.dropOwn = false) :
    ownDone t d = ownForce d 1 t := by
  simp only [ownDone, hp, ho, and_self, if_true, if_neg hr, hd, Bool.false_eq_true, if_false]

/-! ### Islands -/

theorem islandTimeout_of_entry_none {c : Fin 48} (t : Nat) {d : Device} (hs : (d.gchan[c.1]).supplyUp = true)
    (he : (d.gchan[c.1]).entry = .none) :
    islandTimeout c t d = (let e := turnOff d t false c
      setCstate { e with gchan := upd e.gchan c (fun g => { g with entryAt := some t }) } c.1 .hiz) := by
  simp only [islandTimeout, hs, he, Bool.not_true, Bool.false_eq_true, if_false]

theorem islandHiz_of_due {c : Fin 48} {t since : Nat} {d : Device} (he : (d.gchan[c.1]).entryAt = some since)
    (hp : paired d = true) (ht : since + us 18 ≤ t) :
    islandHiz c t d =
      setCstate { d with gchan := upd d.gchan c (fun g => { g with hizAt := none, softFrom := none }) } c.1 .hiz := by
  simp only [islandHiz, he, hp, ht, and_self, if_true]

theorem islandLinkLost_of_harness {c : Fin 48} {h : Fin 4} (t : Nat) {d : Device}
    (hh : chanHar (raise (wrB d (Addr.GATE_CSTAT c.1) 7 false) .gateLink c.1) c.1 = some h) :
    islandLinkLost c t d =
      selfDiag (selvedge (raise (wrB d (Addr.GATE_CSTAT c.1) 7 false) .gateLink c.1) h t 8) 4 t := by
  simp only [islandLinkLost, hh]

theorem islandSupplyUp_of_no_harness {c : Fin 48} {d : Device} (hh : chanHar d c.1 = none) :
    islandSupplyUp c d =
      (let e := wrB (wrB (wrB (setCstate d c.1 .hiz) (Addr.GATE_CSTAT c.1) 5 true) (Addr.GATE_CSTAT c.1) 6 false)
        (Addr.GATE_CSTAT c.1) 7 true
       { e with gchan := upd e.gchan c (fun g =>
          { g with supplyUp := true, entry := .none, sensing := false, onAt := none, softFrom := none, hizAt := none,
                   entryAt := none }) }) := by
  simp only [islandSupplyUp, hh]

/-- Settles O16: the refusals, the adjacent changes and the way from mode 2 are the branches of `ownWrite`; an island on its
own follows its entry. The 18 µs are the 20 µs of R392 less their tolerance (log 44). -/
theorem ownershipAndIslands : Obligations.OwnershipAndIslands := by
  refine ⟨?adjacent, ?fromTwo, ?pending, ?changed, ?timeout, ?hiz, ?lost, ?supply⟩
  case adjacent =>
    rintro s t d mode rfl h1 hp hv
    exact done_whileOn_one s h1 (ownWrite_of_adjacent t hp hv)
  case fromTwo =>
    rintro s t d rfl h1 hp hm
    exact ⟨done_whileOn_one s h1 (ownWrite_of_mode_two t hp hm (by decide)),
      done_whileOn_one s h1 (ownWrite_of_mode_two t hp hm (by decide))⟩
  case pending =>
    rintro s t d mode rfl h1 hp
    exact done_whileOn_one s h1 (ownWrite_of_pending mode.1 t hp)
  case changed =>
    rintro s t d rfl h1 hp ho hr hd
    exact done_whileOn_one s h1 (congrArg (sleepGo t) (ownDone_of_out t hp ho hr hd))
  case timeout =>
    rintro s t d c rfl hs he
    exact done_eq s (islandTimeout_of_entry_none t hs he)
  case hiz =>
    rintro s t d c since rfl he hp ht
    exact done_eq s (islandHiz_of_due he hp ht)
  case lost =>
    rintro s t d c h rfl h1 hh
    exact done_whileOn_one s h1 (islandLinkLost_of_harness t hh)
  case supply =>
    rintro s t d c rfl hh
    exact done_eq s (islandSupplyUp_of_no_harness hh)

/-! ### Entry to the selvedge -/

theorem selvedge_of_ready {h : Fin 4} (t : Nat) {c : Nat} {d : Device} (hs : hstate (addCause d h.1 c) h.1 = .ready) :
    selvedge d h t c = selvGates (setHstate (addCause d h.1 c) h.1 .selvedge) h t c := by
  simp only [selvedge, hs]

/-- A cause that is no fault of the harness's own begins no try. -/
theorem selvedge_of_running {h : Fin 4} (t : Nat) {c : Nat} {d : Device} (hs : hstate (addCause d h.1 c) h.1 = .running)
    (hc : 7 < c) : selvedge d h t c = selvGates (setHstate (addCause d h.1 c) h.1 .selvedge) h t c := by
  simp only [selvedge, hs, if_neg hc.not_ge]

theorem selvedge_latches {h : Fin 4} {t c : Nat} {d : Device} (hs : hstate (addCause d h.1 c) h.1 = .running)
    (hc : c ≤ 7) (hn : retryTries (addCause d h.1 c) h.1 < nextTry (addCause d h.1 c) h t) :
    selvedge d h t c = selvGates (setHstate (addCause d h.1 c) h.1 .latched) h t c := by
  simp only [selvedge, hs, if_pos hc, if_pos hn]

/-! ### The sequence and the table -/

theorem selvStep_of_single {h : Fin 4} {n : Fin 24} {due t : Nat} {d : Device} (hl : legsOf d h.1 = [n])
    (hd : (d.legs[n.1]).leaveAt = some due) (ht : due ≤ t) :
    selvStep h t d = legOut d due (d.legs[n.1]).leaveSoft n := by
  simp only [selvStep, hl, each, List.foldl_cons, List.foldl_nil, hd, if_pos ht]

theorem selvHiz_of_due {c : Fin 48} {x t : Nat} {d : Device} (hx : (d.gchan[c.1]).hizAt = some x) (ht : x ≤ t)
    (hc : cstate d c.1 = .off) :
    selvHiz c t d = setCstate { d with gchan := upd d.gchan c (fun g => { g with hizAt := none }) } c.1 .hiz := by
  simp only [selvHiz, hx, ht, hc, and_self, if_true]

/-- A table that has changed comes into force; an island without supply takes no entry. -/
theorem selvReload_of_next {d : Device} (hn : d.selvNext = true) :
    (selvReload d).selv = selvTable d ∧ (selvReload d).selvNext = false ∧ (selvReload d).regs = d.regs ∧
      ∀ c : Fin 48, (d.gchan[c.1]).supplyUp = false → (selvReload d).gchan[c.1] = d.gchan[c.1] := by
  unfold selvReload
  rw [if_pos hn]
  refine ⟨rfl, rfl, rfl, fun c hc => ?_⟩
  simp [hc]

/-! ### Release and retries -/

/-- A harness without legs waits for the hold-off of its own entry alone. -/
theorem holdoffEnd_of_no_legs {h : Fin 4} {t : Nat} {d : Device} (hl : legsOf d h.1 = []) (hs : hstate d h.1 = .selvedge)
    (ht : (d.har[h.1]).selvAt + us 20 ≤ t) :
    holdoffEnd h t d = tryRelease { d with har := upd d.har h (fun a => { a with offDone := true }) } h t := by
  have hoff : offFor20 d [] (d.har[h.1]).selvAt t = true := by simp [offFor20, ht]
  simp only [holdoffEnd, hl, each, List.foldl_nil, hs, hoff, if_true]

theorem retryWait_releases {h : Fin 4} {t w : Nat} {d : Device} (ha : rdB d (Addr.GATE_HCFG h.1) 0 = true)
    (hs : hstate d h.1 = .selvedge) (hw : (d.har[h.1]).waitFrom = some w)
    (ht : w + ms (rdF d (Addr.GATE_RWAIT h.1) 0 14) ≤ t) (hc : causes (refreshCauses d h) h.1 = 0)
    (ho : ((refreshCauses d h).har[h.1]).offDone = true) :
    retryWait h none t d = releaseHarness (refreshCauses d h) h t := by
  simp only [retryWait, ha, Bool.not_true, Bool.false_eq_true, if_false, hs, hw, if_pos ht, hc, ho, and_self, if_true]

theorem retryForget_of_quiet {h : Fin 4} {t : Nat} {d : Device} (hs : hstate d h.1 = .running)
    (ht : (legsOf d h.1).foldl (fun x n => max x (d.legs[n.1]).heldAt) (max (d.har[h.1]).runAt (d.har[h.1]).faultAt)
      + sec (rdF d (Addr.GATE_RFORGET h.1) 0 12) ≤ t) :
    retryForget h t d = wrF d (Addr.GATE_HSTAT h.1) 4 4 0 := by
  simp only [retryForget, hs, ht, and_self, if_true]

/-- Settles O18: each clause is the branch of the selvedge for the harness state, the due time or the retry that it names. -/
theorem theSelvedgeOfAHarness : Obligations.TheSelvedgeOfAHarness := by
  refine ⟨?ready, ?running, ?latches, ?sequence, ?hiz, ?table, ?holdoff, ?wait, ?forget⟩
  case ready =>
    rintro s t d h cause rfl h1 hs
    exact done_whileOn_one s h1 (selvedge_of_ready t hs)
  case running =>
    rintro s t d h cause rfl h1 hc hs
    exact done_whileOn_one s h1 (selvedge_of_running t hs hc)
  case latches =>
    rintro s t d h cause rfl h1 hc hs hn
    exact done_whileOn_one s h1 (selvedge_latches hs hc hn)
  case sequence =>
    rintro s t d h n due rfl h1 hl hd ht
    exact done_whileOn_one s h1 (selvStep_of_single hl hd ht)
  case hiz =>
    rintro s t d c x rfl hx ht hc
    exact done_eq s (selvHiz_of_due hx ht hc)
  case table =>
    rintro s t d rfl h1 hn
    exact ⟨_, done_whileOn_one s h1 rfl, selvReload_of_next hn⟩
  case holdoff =>
    rintro s t d h rfl h1 hl hs ht
    exact done_whileOn_one s h1 (holdoffEnd_of_no_legs hl hs ht)
  case wait =>
    rintro s t d h w rfl h1 ha hs hw ht hc ho
    exact done_whileOn_one s h1 (retryWait_releases ha hs hw ht hc ho)
  case forget =>
    rintro s t d h rfl h1 hs ht
    exact done_whileOn_one s h1 (retryForget_of_quiet hs ht)

end Sys2Proof.Proofs.Selvedge

/-! Clearing and the self-test of the gates (R149, R150), the validity of the channels (R47 to R50) and the words of their
paths (R72 to R78, R120). -/

namespace Sys2Proof.Proofs.Measurement

open Sys2Proof Sys2Proof.Machine Sys2Proof.Laws Sys2Proof.Proofs.Commands

/-- An iteration whose every step leaves the unit alone. -/
theorem each_eq_self {α : Type} {l : List α} {f : Device → α → Device} {d : Device} (h : ∀ x ∈ l, f d x = d) :
    each l f d = d := by
  induction l with
  | nil => rfl
  | cons x xs ih =>
    calc each xs f (f d x)
        = each xs f d := by rw [h x List.mem_cons_self]
      _ = d := ih fun y hy => h y (List.mem_cons_of_mem x hy)

theorem each_nil {α : Type} (f : Device → α → Device) (d : Device) : each [] f d = d := rfl

theorem upd_getElem_same {α : Type} {n : Nat} (v : Vector α n) (i : Fin n) (f : α → α) : (upd v i f)[i.1] = f v[i.1] := by
  simp [upd]

/-! ### The self-test of the gates -/

theorem gateTestWrite_allowed {v : Word} {t : Nat} {d : Device} (hn : d.gtest = none)
    (ha : testAllowed d (field v 8 3) (field v 0 6) = true) :
    gateTestWrite v t d = wrN { d with gtest := some { kind := field v 8 3, target := field v 0 6, since := t } }
      Addr.GATE_TEST_STAT (2 ^ 31) := by
  simp only [gateTestWrite, hn, ha, Option.isSome_none, Bool.false_eq_true, if_false, if_true]

theorem gateTestWrite_refused {v : Word} (t : Nat) {d : Device} (hn : d.gtest = none)
    (ha : testAllowed d (field v 8 3) (field v 0 6) = false) :
    gateTestWrite v t d = wrN d Addr.GATE_TEST_STAT (3 * 2 ^ 28) := by
  simp only [gateTestWrite, hn, ha, Option.isSome_none, Bool.false_eq_true, if_false]

/-- A test that trips in a time the register can show passes within the limit of its kind, and fails beyond. -/
theorem gateTestDone_of_trip {g : GateTest} {n : Nat} {d : Device} (hg : d.gtest = some g) (hn : n < 2 ^ 16) :
    gateTestDone (some n) d = wrN { d with gtest := none } Addr.GATE_TEST_STAT
      ((if n ≤ testLimit g.kind then 1 else 2) * 2 ^ 28 + n) := by
  have hmin : min n 0xFFFF = n := by omega
  simp only [gateTestDone, hg, hmin, decide_eq_true_eq]

/-- Settles O19: `GATE_CLEAR` is the same loop over the harnesses; a test passes, fails or is refused by its limit and its
conditions. A pass of type 1 leaves the channel's status (log 151). -/
theorem clearingAndTheSelfTest : Obligations.ClearingAndTheSelfTest := by
  refine ⟨?clear, ?allowed, ?refused, ?pass, ?fail⟩
  case clear =>
    rintro s t d mask rfl h1
    exact done_whileOn_one s h1 rfl
  case allowed =>
    rintro s t d v rfl h1 hn ha
    exact done_whileOn_one s h1 (gateTestWrite_allowed hn ha)
  case refused =>
    rintro s t d v rfl h1 hn ha
    exact done_whileOn_one s h1 (gateTestWrite_refused t hn ha)
  case pass =>
    rintro s t d g n rfl h1 hg hl hn
    refine done_whileOn_one s h1 (settled_eq ((gateTestDone_of_trip hg hn).trans ?_))
    rw [if_pos hl, Nat.one_mul]
  case fail =>
    rintro s t d g n rfl h1 hg hl hn
    refine done_whileOn_one s h1 (settled_eq ((gateTestDone_of_trip hg hn).trans ?_))
    rw [if_neg hl.not_ge]

/-! ### The validity of the channels -/

theorem fastMissing_of_gone {c : Fin 32} {t : Nat} {d : Device} (h : wordsGone d c t = true) :
    fastMissing c t d = each (List.finRange 4) (fun e h => if (wordChannels e h.1).contains c.1 then selvedge e h t 7 else e)
      { d with chans := upd d.chans c (fun h => { h with good := 0 }) } := by
  simp only [fastMissing, h, if_true]

theorem stuck_of_external {c : Fin 32} (t : Nat) {d : Device} (h : external d c.1 = true) :
    stuck c t d =
      (let e := wrB (count (wrB d Addr.MOD_FAULT c.1 true) Addr.MOD_FAULT_CNT) Addr.MOD_VALID c.1 false
       { e with chans := upd e.chans c (fun h => { h with stuckAt := some t }) }) := by
  simp only [stuck, h, if_true]

theorem stuckRecovery_of_due {c : Fin 32} {first since t : Nat} {d : Device} (hs : (d.chans[c.1]).stuckAt = some since)
    (hf : since ≤ first) (ht : first + max 256 (2 * rdF d Addr.MOD_DET_CFG 16 10) * ckm ≤ t) :
    stuckRecovery c first t d =
      revalidate { d with chans := upd d.chans c (fun h => { h with stuckAt := none }) } c := by
  simp only [stuckRecovery, hs, hf, ht, and_self, if_true]

/-- An island that was good loses its bit, its channels' validity, and is counted. -/
theorem islandLoss_of_good {current : Bool} (powerGood : Bool) {d : Device} {i : Nat} (hi : i = if current then 3 else 0)
    (hp : rdB d Addr.MOD_ISL_STAT i = true) (hf : rdB d Addr.MOD_ISL_STAT (i + 1) = true) :
    islandLoss current powerGood d =
      each (List.finRange 32) (fun e c => if currentIsland c.1 == current then wrB e Addr.MOD_VALID c.1 false else e)
        (count (wrB d Addr.MOD_ISL_STAT (if powerGood then i else i + 1) false) Addr.MOD_ISL_LOSS_CNT) := by
  simp only [islandLoss, ← hi, hp, hf, Bool.and_self, if_true]

/-- Settles O20: each event on the channel or island that its clause describes; the loss of an island that was good counts
once (log 133). -/
theorem theValidityOfTheChannels : Obligations.TheValidityOfTheChannels := by
  refine ⟨?missing, ?overload, ?stuck, ?recovery, ?voltageLoss, ?currentLoss, ?island⟩
  case missing =>
    rintro s t d c rfl h1 hg
    exact done_whileOn_one s h1 (fastMissing_of_gone hg)
  case overload =>
    rintro s t d c rfl h1
    exact done_whileOn_one s h1 rfl
  case stuck =>
    rintro s t d c rfl h1 he
    exact done_whileOn_one s h1 (stuck_of_external t he)
  case recovery =>
    rintro s t d c since first rfl h1 hs hf ht
    exact done_whileOn_one s h1 (stuckRecovery_of_due hs hf ht)
  case voltageLoss =>
    rintro s t d powerGood rfl h1 hp hf
    exact done_whileOn_one s h1 (islandLoss_of_good powerGood rfl hp hf)
  case currentLoss =>
    rintro s t d powerGood rfl h1 hp hf
    exact done_whileOn_one s h1 (islandLoss_of_good powerGood rfl hp hf)
  case island =>
    rintro s t d current rfl h1
    exact done_whileOn_one s h1 rfl

/-! ### The words of the paths -/

/-- A valid channel within range delivers its word and leaves the unit alone. -/
theorem pathWord_of_valid {d : Device} {c : Fin 32} {y : Int} (ovl uns : Bool) (seq : Nat) (hv : chanValid d c.1 = true)
    (hy : clampI (-dataMax) dataMax y = y) : pathWord d c y ovl uns seq = (formatWord false ovl uns false seq y, d) := by
  simp [pathWord, hv, hy]

/-- A fast word that no leg uses and that ends no loss of words is delivered, and counts as good without `UNS`. -/
theorem fastWord_of_unused {c : Fin 32} {bits t : Nat} {d e f : Device} {h : Channel} {w : Word}
    (hv : chanValid d c.1 = true) (hh : h = takeBits (d.chans[c.1]) bits)
    (hf : f = { d with chans := upd d.chans c (fun _ => h) })
    (hy : clampI (-dataMax) dataMax (scaled f c (sinc3 h 8) 512 256) = scaled f c (sinc3 h 8) 512 256)
    (hw : w = formatWord false (windowOverload h (rdF d Addr.MOD_DET_CFG 0 7) 22 0) (decide (h.since < 22)) false
      (pathIndex d fastPeriod t) (scaled f c (sinc3 h 8) 512 256))
    (hinv : bit w 31 = false) (hc : c.1 ≠ 31)
    (he : e = { wr f (Addr.DEC_FAST c.1) w with chans := upd f.chans c (fun h =>
      { h with good := if bit w 29 then 0 else h.good + 1, lastFast := some t, goodFast := w }) })
    (hlegs : legsOnChannel e c.1 = []) (hcause : ∀ h : Fin 4, rdB e (Addr.GATE_HSTAT h.1) (causeBit 7) = false) :
    fastWord c bits t d = e := by
  have hfeq : { d with chans := upd d.chans c (fun h => takeBits h bits) } = f := by rw [hf, hh]; rfl
  have hget : (upd d.chans c (fun h => takeBits h bits))[c.1] = h := (upd_getElem_same ..).trans hh.symm
  have hpath : pathWord f c (scaled f c (sinc3 h 8) 512 256) (windowOverload h (rdF f Addr.MOD_DET_CFG 0 7) 22 0)
      (decide (h.since < 22)) (pathIndex f fastPeriod t) = (w, f) := by
    rw [pathWord_of_valid _ _ _ (by rw [hf]; exact hv) hy, hw]
    rw [hf]
    rfl
  have hnext : { wr f (Addr.DEC_FAST c.1) w with chans := upd (wr f (Addr.DEC_FAST c.1) w).chans c (fun h =>
      { h with good := if (false || bit w 29) = true then 0 else h.good + 1, lastFast := some t, goodFast := w }) } = e := by
    rw [he]; rfl
  have hquiet : each (List.finRange 4) (fun d h =>
      if (wordChannels d h.1).contains c.1 && rdB d (Addr.GATE_HSTAT h.1) (causeBit 7) && wordsBack d h.1 then
        tryRelease d h t
      else d) e = e := each_eq_self fun q _ => by simp [hcause q]
  simp only [fastWord, hfeq, hget, hpath, hinv, Bool.false_eq_true, if_false, hnext, hc, false_and, hlegs, each_nil,
    ite_self, hquiet]

theorem mediumWord_of_valid {c : Fin 32} {t : Nat} {d e : Device} {w : Word} (hv : chanValid d c.1 = true)
    (hy : clampI (-dataMax) dataMax (scaled d c (sinc3 (d.chans[c.1]) 32) 32768 16)
      = scaled d c (sinc3 (d.chans[c.1]) 32) 32768 16)
    (hw : w = formatWord false (windowOverload (d.chans[c.1]) (rdF d Addr.MOD_DET_CFG 0 7) 94 0)
      (decide ((d.chans[c.1]).since < 94)) false (pathIndex d mediumPeriod t)
      (scaled d c (sinc3 (d.chans[c.1]) 32) 32768 16))
    (he : e = { wr d (Addr.DEC_MED c.1) w with chans := upd d.chans c (fun h =>
      { h with medIndex := some (pathIndex d mediumPeriod t), goodMed := if bit w 31 then h.goodMed else w }) })
    (hq : ∀ q : Fin 4, rdB e (Addr.DCMP_CFG q.1) 31 = false) : mediumWord c t d = conduction e c.1 := by
  have hpath := pathWord_of_valid (windowOverload (d.chans[c.1]) (rdF d Addr.MOD_DET_CFG 0 7) 94 0)
    (decide ((d.chans[c.1]).since < 94)) (pathIndex d mediumPeriod t) hv hy
  have hnext : { wr d (Addr.DEC_MED c.1) w with chans := upd (wr d (Addr.DEC_MED c.1) w).chans c (fun h =>
      { h with medIndex := some (pathIndex d mediumPeriod t), goodMed := if bit w 31 = true then h.goodMed else w }) } = e := by
    rw [he]; rfl
  refine congrArg (conduction · c.1) ?_
  simp only [mediumPath, hpath, ← hw, hnext]
  exact each_eq_self fun q _ => by simp [hq q]

theorem precisionWord_of_path {c : Fin 32} {t : Nat} {d e : Device} {w : Word} {raw : Int}
    (h : precisionPath c t d = (w, raw, e)) :
    precisionWord c t d =
      calTake (rsmTake (ledgerWord e c (pathIndex e precisionPeriod t) t) c (pathIndex e precisionPeriod t) w) c.1 raw
        (bit w 31 || bit w 30) (bit w 29) := by
  simp only [precisionWord, h]

/-- Settles O21: the word of a valid channel is what its path computes; nothing else in the unit follows it under the
clause's conditions. -/
theorem theWordsOfThePaths : Obligations.TheWordsOfThePaths := by
  refine ⟨?fast, ?medium, ?precision, ?decomposer⟩
  case fast =>
    rintro s t d e f c bits h w rfl h1 h5 hv hh hf hy hw hinv hc he hlegs hcause
    exact done_whileOn_two s h1 h5 (fastWord_of_unused hv hh hf hy hw hinv hc he hlegs hcause)
  case medium =>
    rintro s t d e c w rfl h1 h5 hv hy hw he hq
    exact done_whileOn_two s h1 h5 (mediumWord_of_valid hv hy hw he hq)
  case precision =>
    rintro s t d e c w raw rfl h1 h5 hp
    exact done_whileOn_two s h1 h5 (precisionWord_of_path hp)
  case decomposer =>
    rintro s t d k rfl h1 ht
    exact done_whileOn_one s h1 (if_pos ht)

end Sys2Proof.Proofs.Measurement

/-! The resampler (R82 to R87, R91). -/

namespace Sys2Proof.Proofs.Resampler

open Sys2Proof Sys2Proof.Machine Sys2Proof.Laws Sys2Proof.Proofs.Commands

/-! ### Outputs -/

theorem rsmOutput_of_ready (t : Nat) {d : Device} (he : rdB d Addr.RSM_CFG 0 = true) (hp : d.rsm.paused = false)
    (hn : rsmNeeds d.rsm.pos ≤ d.rsm.newest) :
    rsmOutput t d = if d.rsm.index = 0 then rsmBoundary d t else rsmEmit d false := by
  simp only [rsmOutput, he, hp, hn, Bool.not_false, decide_true, Bool.and_self, if_true]

/-- With the source at its nominal frequency a boundary starts a cycle. -/
theorem rsmBoundary_of_nominal (t : Nat) {d : Device} (hc : d.rsm.srcChange = false) (hs : rsmSource d = 0) :
    rsmBoundary d t = rsmEmit (rsmStart (rsmSetFreq d (rsmLimit (rsmSourceFreq d)) 0)) true := by
  simp only [rsmBoundary, hc, hs, Bool.false_eq_true, if_false, if_true]

/-- While the source is held the pause ends where the outputs stand. -/
theorem rsmPauseEnd_of_held (t : Nat) {d : Device} (he : rdB d Addr.RSM_CFG 0 = true) (hp : d.rsm.paused = true)
    (hh : rdB d Addr.RSM_STAT 2 = true) (hn : rsmNeeds d.rsm.pos ≤ d.rsm.newest) :
    rsmPauseEnd t d =
      rsmOutput t (wrB { d with rsm := { d.rsm with paused := false, index := 0 } } Addr.RSM_STAT 3 false) := by
  simp only [rsmPauseEnd, he, hp, hh, hn, if_true, decide_true, Bool.and_self]

theorem rsmHold_of_late {t c : Nat} {d : Device} (he : rdB d Addr.RSM_CFG 0 = true) (hs : rsmSource d = 1)
    (hk : d.rsm.kfreqAt = some c) (ht : c + rsmTwoCycles d ≤ t) :
    rsmHold t d =
      wrB (wrB { d with rsm := { d.rsm with goodCycles := 0 } } Addr.RSM_STAT 2 true) Addr.RSM_STAT 0 false := by
  simp only [rsmHold, he, hs, hk, ht, decide_true, Bool.and_self, if_true]

/-! ### The coefficient banks -/

theorem rsmSwitch_of_fading {d : Device} (hf : rdB d Addr.RSM_COEF_CTRL 2 = true) :
    rsmSwitch d = count d Addr.RSM_XF_REFUSED_CNT := by
  simp only [rsmSwitch, hf, Bool.true_or, if_true]

/-- Outside a fade and with the new bank's CRC good, the switch waits for a boundary in RUN and begins at once elsewhere. -/
theorem rsmSwitch_of_good {d : Device} (hf : rdB d Addr.RSM_COEF_CTRL 2 = false)
    (hc : rd d (if !rdB d Addr.RSM_COEF_CTRL 1 then Addr.RSM_COEF_CRCB else Addr.RSM_COEF_CRCA) = rd d Addr.RSM_COEF_EXP) :
    rsmSwitch d = if loomMode d = .run then { d with rsm := { d.rsm with switchReq := true } } else rsmFade d := by
  simp only [rsmSwitch, hf, hc, bne_self_eq_false, Bool.or_self, Bool.false_eq_true, if_false]

theorem rsmFadeEnd_of_done {d : Device} (hf : rdB d Addr.RSM_COEF_CTRL 2 = true) (hl : d.rsm.fadeLeft = 0) :
    rsmFadeEnd d = wrB (wrB d Addr.RSM_COEF_CTRL 2 false) Addr.RSM_COEF_CTRL 1 (!rdB d Addr.RSM_COEF_CTRL 1) := by
  simp only [rsmFadeEnd, hf, hl, beq_self_eq_true, Bool.and_self, if_true]

/-- Settles O22: an output by its index, a pause and a hold by their source, a switch by the fade, the CRC and the mode. -/
theorem theResampler : Obligations.TheResampler := by
  refine ⟨?output, ?boundary, ?pause, ?hold, ?request, ?fade, ?refused, ?fadeEnd⟩
  case output =>
    rintro s t d rfl h1 h5 he hp hn hi
    exact done_whileOn_two s h1 h5 ((rsmOutput_of_ready t he hp hn).trans (if_neg hi))
  case boundary =>
    rintro s t d rfl h1 h5 he hp hn hi hc hs
    exact done_whileOn_two s h1 h5
      ((rsmOutput_of_ready t he hp hn).trans ((if_pos hi).trans (rsmBoundary_of_nominal t hc hs)))
  case pause =>
    rintro s t d rfl h1 he hp hh hn
    exact done_whileOn_one s h1 (rsmPauseEnd_of_held t he hp hh hn)
  case hold =>
    rintro s t d c rfl h1 he hs hk ht
    exact done_whileOn_one s h1 (rsmHold_of_late he hs hk ht)
  case request =>
    rintro s t d rfl h1 hb hf hc hm
    exact done_whileOn_one s h1 ((rsmSwitch_of_good hf (by rw [hb]; exact hc)).trans (if_pos hm))
  case fade =>
    rintro s t d rfl h1 hb hf hc hm
    exact done_whileOn_one s h1 ((rsmSwitch_of_good hf (by rw [hb]; exact hc)).trans (if_neg hm))
  case refused =>
    rintro s t d rfl h1 hf
    exact done_whileOn_one s h1 (rsmSwitch_of_fading hf)
  case fadeEnd =>
    rintro s t d rfl h1 hf hl
    exact done_whileOn_one s h1 (rsmFadeEnd_of_done hf hl)

end Sys2Proof.Proofs.Resampler

/-! The shed units (R99, R103, R107, R109, R110). -/

namespace Sys2Proof.Proofs.Shed

open Sys2Proof Sys2Proof.Machine Sys2Proof.Laws Sys2Proof.Proofs.Commands

/-! ### Taps and starts -/

/-- The tap of a step that is not the start, with no up-step before it: no period to adapt to. -/
theorem tapStep_of_due {n : Fin 24} {t : Nat} {d : Device} {h : Fin 4} {p : PendingStep} (hh : harOf d n.1 = some h)
    (hp : (d.shed[n.1]).pending = some p) (ht : p.tap ≤ t) (hs : p.start = false) (hu : (d.shed[n.1]).upTap = none)
    (hr : rdB d (Addr.SHED_STAT n.1) 30 = true) :
    tapStep n t d =
      (let row := heddleRow d h.1 p.target p.up
       let e := { d with shed := upd d.shed n (fun u =>
         { u with pending := none, lastUp := some p.up, upTap := if p.up then some p.tap else u.upTap,
                  quiet := (p.tap + p.lat : Nat), lastTap := p.tap, lastOn := lastTurnOn d n.1 row p.tap }) }
       let e := wrF (wrB e (Addr.SHED_STAT n.1) 24 false) (Addr.SHED_STAT n.1) 0 3 p.target
       countTap (rowChange e h n.1 p.tap row) n.1) := by
  simp only [tapStep, hh, hp, ht, hs, hu, hr, whenB, and_self, if_true, Bool.false_eq_true, if_false, Bool.not_false,
    Bool.and_true]

theorem deadTimeOver_of_due {c : Fin 48} {u t : Nat} {d : Device} (hu : (d.gchan[c.1]).onAt = some u) (ht : u ≤ t) :
    deadTimeOver c t d = turnOn d u c := by
  simp only [deadTimeOver, hu, ht, if_true]

theorem startStep_of_word {n : Fin 24} {t since : Nat} {d : Device} {h : Fin 4} (hh : harOf d n.1 = some h)
    (hw : (d.shed[n.1]).waitStart = some since) (hr : rdB d (Addr.SHED_STAT n.1) 30 = true) (hm : shedMode d n.1 = 1)
    (ht : since < t) (hinv : bit (rd d (Addr.DEC_FAST (shedChan d n.1))) 31 = false)
    (huns : bit (rd d (Addr.DEC_FAST (shedChan d n.1))) 29 = false) :
    startStep n t d =
      (let e := { d with shed := upd d.shed n (fun u => { u with waitStart := none, lastUp := none, upTap := none }) }
       let e := wrN e (Addr.SHED_HNOW n.1) (rdF e (Addr.SHED_BAND n.1) 0 22)
       place e n h { up := true, target := min (rdF e (Addr.SHED_HCFG h.1) 0 3) (topLevel e h.1),
                     tap := t + 14 * ckf, lat := stepLat e h.1 true, start := true }) := by
  simp only [startStep, hh, hw, hr, hm, ht, hinv, huns, and_self, if_true]

/-! ### The reference generator -/

theorem genSettle_of_none {n : Fin 24} (t : Nat) {d : Device} (h : (d.shed[n.1]).gen.due = none) : genSettle d n t = d := by
  simp only [genSettle, h]

theorem refPop_of_entry {n : Fin 24} {t : Nat} {d : Device} {h : Fin 4} {v : Int} {rest : List Int}
    (hh : harOf d n.1 = some h) (hd : (d.shed[n.1]).gen.due = none) (ha : (d.shed[n.1]).gen.active = true)
    (hf : (d.shed[n.1]).gen.fifo = v :: rest) :
    refPop n t d =
      (let per := max 1 (rdF d (Addr.SHED_REFP h.1) 0 13) * mediumPeriod
       let e := { d with shed := upd d.shed n (fun u => { u with gen :=
         { u.gen with g := v, fromVal := ((d.shed[n.1]).gen).value t, toVal := v, moveFrom := t, moveTo := t + per,
                      moving := true, fifo := rest } }) }
       showLevels (wrB e (Addr.SHED_STAT n.1) 28 false) n) := by
  simp only [refPop, genSettle_of_none t hd, hh, ha, hf, Option.getD_some, if_true]

theorem fifoWrite_of_settled {n : Fin 24} (v : Word) {t : Nat} {d : Device} (hd : (d.shed[n.1]).gen.due = none) :
    fifoWrite n v t d =
      if 64 ≤ ((d.shed[n.1]).gen.fifo).length then count d (Addr.SHED_DROP_CNT n.1)
      else showLevels { d with shed := upd d.shed n (fun u => { u with gen :=
        { u.gen with fifo := u.gen.fifo ++ [dataOf v], active := true } }) } n := by
  simp only [fifoWrite, genSettle_of_none t hd]

/-! ### The edge list -/

/-- An entry that is neither late nor raised acts at its own time. -/
theorem edgeEntry_of_due {n : Fin 24} {t lvl tm : Nat} {d : Device} {h : Fin 4} {rest : List (Nat × Nat)}
    (hh : harOf d n.1 = some h) (he : (d.shed[n.1]).edges = (lvl, tm) :: rest)
    (hr : rdB d (Addr.SHED_STAT n.1) 30 = true) (hm : shedMode d n.1 = 2) (hprev : (d.shed[n.1]).prevEdge ≤ tm)
    (ht : tm ≤ t) (hlate : t ≤ tm + ckf)
    (hfloor : stepFloor d n h (heddleRow d h.1 lvl (decide (levelOf d n.1 < lvl))) false ≤ tm) (hl : lvl ≠ levelOf d n.1) :
    edgeEntry n t d =
      (let row := heddleRow d h.1 lvl (decide (levelOf d n.1 < lvl))
       let e := { d with shed := upd d.shed n (fun u =>
         { u with edges := rest, prevEdge := tm, lastTap := tm, lastOn := lastTurnOn d n.1 row tm,
                  lastUp := some (decide (levelOf d n.1 < lvl)) }) }
       let e := wrF (showLevels e n) (Addr.SHED_STAT n.1) 0 3 lvl
       countTap (rowChange (wrB e (Addr.SHED_STAT n.1) 29 true) h n.1 tm row) n.1) := by
  have hontime : decide (tm < (d.shed[n.1]).prevEdge ∨ tm + ckf < t) = false := by
    simp only [decide_eq_false_iff_not]
    omega
  have hunraised : decide ((tm : Int) < stepFloor d n h (heddleRow d h.1 lvl (decide (levelOf d n.1 < lvl))) false) = false := by
    simp only [decide_eq_false_iff_not]
    omega
  have htap : max tm (stepFloor d n h (heddleRow d h.1 lvl (decide (levelOf d n.1 < lvl))) false).toNat = tm := by omega
  simp only [edgeEntry, hh, he, hr, hm, hontime, hunraised, htap, ht, hl, whenB, false_and, and_self, if_true,
    Bool.false_eq_true, if_false]

theorem edgeWrite_of_room {n : Fin 24} (v : Word) (t : Nat) {d : Device} (h : ((d.shed[n.1]).edges).length < 32) :
    edgeWrite n v t d =
      showLevels { d with shed := upd d.shed n (fun u =>
        { u with edges := u.edges ++ [(field v 29 3, nextDeadline d t + field v 0 29)] }) } n :=
  if_neg h.not_ge

/-- Settles O23: the taps, the two streamed lists with their limits of 64 and 32 entries, and the start step. -/
theorem theShedUnits : Obligations.TheShedUnits := by
  refine ⟨?tap, ?deadTime, ?pop, ?fifo, ?fifoFull, ?edge, ?edgeFull, ?entry, ?start⟩
  case tap =>
    rintro s t d n h p rfl h1 hh hp ht hs hu hr
    exact done_whileOn_one s h1 (tapStep_of_due hh hp ht hs hu hr)
  case deadTime =>
    rintro s t d c u rfl h1 hu ht
    exact done_whileOn_one s h1 (deadTimeOver_of_due hu ht)
  case pop =>
    rintro s t d n h v rest rfl h1 hh hd ha hf
    exact done_whileOn_one s h1 (refPop_of_entry hh hd ha hf)
  case fifo =>
    rintro s t d n v rfl h1 hd hl
    exact done_whileOn_one s h1 ((fifoWrite_of_settled v hd).trans (if_neg hl.not_ge))
  case fifoFull =>
    rintro s t d n v rfl h1 hd hl
    exact done_whileOn_one s h1 ((fifoWrite_of_settled v hd).trans (if_pos hl))
  case edge =>
    rintro s t d n v rfl h1 hl
    exact done_whileOn_one s h1 (edgeWrite_of_room v t hl)
  case edgeFull =>
    rintro s t d n v rfl h1 hl
    exact done_whileOn_one s h1 (if_pos hl)
  case entry =>
    rintro s t d n h lvl tm rest rfl h1 hh he hr hm hprev ht hlate hfloor hl
    exact done_whileOn_one s h1 (edgeEntry_of_due hh he hr hm hprev ht hlate hfloor hl)
  case start =>
    rintro s t d n h since rfl h1 hh hw hr hm ht hinv huns
    exact done_whileOn_one s h1 (startStep_of_word hh hw hr hm ht hinv huns)

end Sys2Proof.Proofs.Shed

/-! Set-points, injectors and rotators (R100, R115, R119), and the housekeeping converter (R54 to R59). -/

namespace Sys2Proof.Proofs.SetPoints

open Sys2Proof Sys2Proof.Machine Sys2Proof.Laws Sys2Proof.Proofs.Commands

/-! ### Set-points -/

/-- A period that is not too short gives the pulse width as the set-point. -/
theorem setpRise_of_period {high t r : Nat} {d : Device} (hm : rdF d Addr.SHED_GCFG 0 2 = 1) (hr : d.setp.riseAt = some r)
    (hp : us 20 / ckf ≤ (t - r) / ckf) :
    setpRise high t d =
      gainSetp { d with setp := { d.setp with riseAt := some t } } false
        (roundDiv ((2 * (high : Int) - ((t - r) / ckf : Nat)) * 4194304) ((t - r) / ckf)) := by
  simp only [setpRise, hm, hr, if_true, if_neg hp.not_gt]

theorem setpLoss_of_gone {seta : Bool} {t : Nat} {d : Device} (h : setpGone d seta t = true) :
    setpLoss seta t d = loseSetp d seta :=
  if_pos h

/-- `SETA` is gone while its modulator is not in use. -/
theorem setpGone_seta {t : Nat} {d : Device} (h : rdB d Addr.MOD_EXT_CFG 0 = false) : setpGone d true t = true := by
  simp [setpGone, h]

/-- The analogue set-point is gone while input 44 is stale. -/
theorem setpGone_analogue {t : Nat} {d : Device} (hm : rdF d Addr.SHED_GCFG 0 2 = 2)
    (h : rdB d (Addr.HK_RESULT 44) 30 = true) : setpGone d false t = true := by
  simp [setpGone, hm, h]

/-! ### Injectors and rotators -/

theorem chirpEnd_of_due {j : Fin 4} {t since : Nat} {d : Device} (hs : (d.inj[j.1]).startAt = some since)
    (he : rdB d (Addr.INJ_CTRL j.1) 0 = true) (hk : rdF d (Addr.INJ_CTRL j.1) 1 2 = 1)
    (ht : since + max 1 (rdN d (Addr.INJ_P2 j.1)) * fastPeriod ≤ t) :
    chirpEnd j t d =
      if rdB d (Addr.INJ_CTRL j.1) 3 = true then
        { d with inj := upd d.inj j (fun i =>
          { i with startAt := some (since + max 1 (rdN d (Addr.INJ_P2 j.1)) * fastPeriod) }) }
      else wrB { d with inj := upd d.inj j (fun i => { i with startAt := none }) } (Addr.INJ_CTRL j.1) 0 false := by
  simp only [chirpEnd, hs, he, hk, ht, and_self, if_true]

theorem cordicDone_of_due {c : Fin 8} {cmd since t : Nat} {d : Device} (hb : (d.cordic[c.1]).busy = some (cmd, since))
    (ht : since + 24 * ckf ≤ t) :
    cordicDone c t d =
      (let e := { d with cordic := upd d.cordic c (fun r => { r with busy := none }) }
       wrB (if cmd = 1 then
         let p := Config.cordicRotate (d.cordic[c.1]).x (d.cordic[c.1]).y (d.cordic[c.1]).ang
         wr (wr e (Addr.CRD_RX c.1 0) p.1) (Addr.CRD_RX c.1 1) p.2
       else
         let p := Config.cordicVector (d.cordic[c.1]).x (d.cordic[c.1]).y
         wr (wr (wr e (Addr.CRD_RX c.1 0) p.1) (Addr.CRD_RX c.1 1) 0) (Addr.CRD_RX c.1 2) p.2) (Addr.CRD_STAT c.1) 0 true) := by
  simp only [cordicDone, hb, ht, if_true]

/-- Settles O24: each end and each loss on the state that its clause describes. -/
theorem setPointsInjectorsAndRotators : Obligations.SetPointsInjectorsAndRotators := by
  refine ⟨?rise, ?seta, ?setp, ?repeats, ?ends, ?command, ?rotate, ?vector⟩
  case rise =>
    rintro s t d high r rfl h1 hm hr hp
    exact done_whileOn_one s h1 (setpRise_of_period hm hr hp)
  case seta =>
    rintro s t d rfl h1 h
    exact done_whileOn_one s h1 (setpLoss_of_gone (setpGone_seta h))
  case setp =>
    rintro s t d rfl h1 hm h
    exact done_whileOn_one s h1 (setpLoss_of_gone (setpGone_analogue hm h))
  case repeats =>
    rintro s t d j since rfl h1 hs he hk hr ht
    exact done_whileOn_one s h1 ((chirpEnd_of_due hs he hk ht).trans (if_pos hr))
  case ends =>
    rintro s t d j since rfl h1 hs he hk hr ht
    exact done_whileOn_one s h1 ((chirpEnd_of_due hs he hk ht).trans (if_neg (by simp [hr])))
  case command =>
    rintro s t d c cmd rfl h1 hc
    exact done_whileOn_one s h1 (if_pos hc)
  case rotate =>
    rintro s t d c since rfl h1 hb ht
    exact done_whileOn_one s h1 (cordicDone_of_due hb ht)
  case vector =>
    rintro s t d c since rfl h1 hb ht
    exact done_whileOn_one s h1 (cordicDone_of_due hb ht)

end Sys2Proof.Proofs.SetPoints

namespace Sys2Proof.Proofs.Housekeeping

open Sys2Proof Sys2Proof.Machine Sys2Proof.Laws Sys2Proof.Proofs.Commands

/-! ### Conversions -/

/-- A conversion of an injected sequence that is not the engine's, with another to follow. -/
theorem hkDone_of_injected {raw t j i code next : Nat} {d e : Device} (hon : rdB d Addr.HK_CFG 0 = true)
    (hj : d.hk.injected = some j) (hi : i = (d.hk.injList[j]?).getD 0) (hc : code = hkCalibrated d i (raw % 2 ^ 20))
    (he : e = thConvert (wrN d (Addr.HK_INJ_RESULT j) (hkWord d i code)) i code) (hr : e.hk.calRun = false)
    (hn : e.hk.injList[j + 1]? = some next) :
    hkDone raw t d = hkBegin { e with hk := { e.hk with injected := some (j + 1) } } 2 next 0x7F := by
  simp only [hkDone, hon, hj, ← hi, ← hc, ← he, hr, hn, Bool.true_eq_false, Bool.false_eq_true, if_false]

/-- A regular conversion of an input other than the analogue set-point. -/
theorem hkDone_of_regular {raw t i code : Nat} {d e : Device} (hon : rdB d Addr.HK_CFG 0 = true)
    (hj : d.hk.injected = none) (hr : d.hk.regular = true) (hi : i = (d.hk.seq[d.hk.slot]?).getD 0)
    (hc : code = hkCalibrated d i (raw % 2 ^ 20)) (h44 : i ≠ 44)
    (he : e = monitor (showStale (thConvert (
      let x := wrN d (Addr.HK_RESULT i) (hkWord d i code)
      { x with hk := { x.hk with lastDone := Sparse.insert i t x.hk.lastDone, regular := false } }) i code)) i) :
    hkDone raw t d =
      (let x := { e with hk := { e.hk with slot := e.hk.slot + 1 } }
       hkNext (if x.hk.slot < x.hk.seq.length then x else hkRoundComplete x)) := by
  simp only [hkDone, hon, hj, hr, ← hi, ← hc, ← he, h44, false_and, Bool.true_eq_false, if_false, if_true]

/-! ### Rounds and triggers -/

theorem hkRoundTick_of_idle {d : Device} (hon : rdB d Addr.HK_CFG 0 = true) (hr : d.hk.inRound = false)
    (hj : d.hk.injected = none) : hkRoundTick d = hkNext { d with hk := { d.hk with roundWaits := true } } := by
  simp only [hkRoundTick, hon, hr, hj, Bool.true_eq_false, Bool.false_eq_true, Option.isSome_none, Bool.or_self, if_false]

theorem hkRoundTick_of_round {d : Device} (hon : rdB d Addr.HK_CFG 0 = true) (hr : d.hk.inRound = true) :
    hkRoundTick d =
      (let e := count d Addr.HK_ROUND_LATE_CNT
       { e with hk := { e.hk with roundWaits := true } }) := by
  simp only [hkRoundTick, hon, hr, count_hk, Bool.true_eq_false, Bool.true_or, if_false, if_true]

theorem hkRoundEnd_of_loaded {d e : Device} (hr : d.therm.roundEnd = true)
    (he : e = ntcSettle (each (List.finRange 16) (ntcCheck { d with therm := { d.therm with roundEnd := false } })
      { d with therm := { d.therm with roundEnd := false } })) (hl : e.cfg.loaded = true) :
    hkRoundEnd d =
      (let x := refRound (xtalRound e)
       if x.hk.recovering && unitReady x then wrB { x with hk := { x.hk with recovering := false } } Addr.HK_CFG 1 false
       else x) := by
  simp only [hkRoundEnd, hr, ← he, hl, if_true]

/-- A trigger of an enabled source while the converter is free and no sequence is queued. -/
theorem hkTrigger_of_free {source : Nat} {d : Device} (hon : rdB d Addr.HK_CFG 0 = true)
    (hs : rdB d Addr.HK_INJ_CFG (8 + source) = true) (hq : rdB d Addr.HK_STAT 7 = false) (hj : d.hk.injected = none)
    (hr : d.hk.regular = false) : hkTrigger d source = hkStartInjected d false (hkInjSequence d) := by
  simp only [hkTrigger, hkInject, hon, hs, hq, hj, hr, Bool.and_self, Option.isSome_none, Bool.false_eq_true, if_true,
    if_false]

theorem hkStale_of_unused {i t since : Nat} {d : Device} (hi : i < 64) (h44 : i ≠ 44)
    (hl : Sparse.find i d.hk.lastDone = some since) (ht : since + hkTwoRounds d ≤ t)
    (hs : rdB d (Addr.HK_RESULT i) 30 = false) (hu : thInput (wrB d (Addr.HK_RESULT i) 30 true) i = false) :
    hkStale i t d = wrB d (Addr.HK_RESULT i) 30 true := by
  simp only [hkStale, hi, h44, hl, ht, hs, hu, decide_true, and_self, false_and, if_true, Bool.false_eq_true, if_false]

/-- Settles O25: a conversion by what it is part of, a round by what is in progress, a trigger and a stale input. -/
theorem theHousekeepingConverter : Obligations.TheHousekeepingConverter := by
  refine ⟨?injected, ?regular, ?tick, ?late, ?roundEnd, ?trigger, ?stale⟩
  case injected =>
    rintro s t d e raw j i code next rfl h1 hon hj hi hc he hr hn
    exact done_whileOn_one s h1 (settled_eq (hkDone_of_injected hon hj hi hc he hr hn))
  case regular =>
    rintro s t d e raw i code rfl h1 hon hj hr hi hc h44 he
    exact done_whileOn_one s h1 (settled_eq (hkDone_of_regular hon hj hr hi hc h44 he))
  case tick =>
    rintro s t d rfl h1 hon hr hj
    exact done_whileOn_one s h1 (hkRoundTick_of_idle hon hr hj)
  case late =>
    rintro s t d rfl h1 hon hr
    exact done_whileOn_one s h1 (hkRoundTick_of_round hon hr)
  case roundEnd =>
    rintro s t d e rfl h1 hr he hl
    exact done_whileOn_one s h1 (hkRoundEnd_of_loaded hr he hl)
  case trigger =>
    rintro s t d source rfl h1 hon hs hq hj hr
    exact done_whileOn_one s h1 (hkTrigger_of_free hon hs hq hj hr)
  case stale =>
    rintro s t d i since rfl h1 hi h44 hl ht hs hu
    exact done_whileOn_one s h1 (hkStale_of_unused hi h44 hl ht hs hu)

end Sys2Proof.Proofs.Housekeeping

/-! The calibration engine (R63 to R67): its commands, and what it does of itself. -/

namespace Sys2Proof.Proofs.Calibration

open Sys2Proof Sys2Proof.Machine Sys2Proof.Laws Sys2Proof.Proofs.Commands

/-- The unit with the instant of the engine's last command. -/
def commanded (t : Nat) (d : Device) : Device := { d with cal := { d.cal with cmdAt := t } }

@[simp] theorem calState_commanded (t : Nat) (d : Device) : calState (commanded t d) = calState d := rfl

@[simp] theorem rd_commanded (t : Nat) (d : Device) (a : Nat) : rd (commanded t d) a = rd d a := rfl

@[simp] theorem rdI_commanded (t : Nat) (d : Device) (a : Nat) : rdI (commanded t d) a = rdI d a := rfl

@[simp] theorem calEntry_commanded (t : Nat) (d : Device) : calEntry (commanded t d) = calEntry d := rfl

/-- Only a metering channel has a seal and a logbook to check. -/
theorem calSealCheck_of_ge {c : Nat} (d : Device) (h : 32 ≤ c) : calSealCheck d c = 0 :=
  if_neg fun hc => h.not_gt hc.1

/-! ### Commands -/

theorem calStart_of_idle {chan : Nat} (t : Nat) {d : Device} (hs : calState d = 0) (hlo : 64 ≤ chan) (hhi : chan < 80) :
    calStart chan t d = calSet (wrF (commanded t d) Addr.CAL_STAT 16 7 chan) 1 0 := by
  have hidle : ¬ calState (commanded t d) ≠ 0 := not_not.2 hs
  have hentry : ¬ (32 ≤ chan ∧ chan < 64 ∨ 80 ≤ chan) := by omega
  have hmod : ¬ chan < 32 := by omega
  have hseal : calSealCheck (commanded t d) chan = 0 := calSealCheck_of_ge _ (by omega)
  simp only [calStart, ← commanded.eq_def, if_neg hidle, if_neg hentry, hmod, false_and, if_false, hseal]

theorem calZero_eq (t : Nat) (d : Device) :
    calZero t d = if calState d = 1 then calMeasure (commanded t d) 2 t else calRefuse (commanded t d) 12 := rfl

theorem calFull_eq (t : Nat) {d : Device} (hs : calState d = 3) :
    calFull t d = if (rdI d Addr.CAL_REF).natAbs < 2 ^ 28 then calSet (commanded t d) 1 8
      else calMeasure (commanded t d) 4 t :=
  if_neg (not_not.2 hs)

theorem calAbort_of_measuring (t : Nat) {d : Device} (hs : calState d = 2 ∨ calState d = 4) :
    calAbort t d = calIdle (commanded t d) 14 t := by
  rcases hs with hs | hs <;> simp [calAbort, ← commanded.eq_def, hs]

/-- A restore of an entry that is no metering channel's, with values in range. -/
theorem calRestore_of_good (t : Nat) {d : Device} (hs : calState d = 1) (ho : offsetOk (rdI d Addr.CAL_RST_OFF) = true)
    (hg : gainOk (rdN d Addr.CAL_RST_GAIN) = true) (he : 64 ≤ calEntry d) :
    calRestore t d =
      calCommitWith (wr (wr (commanded t d) Addr.CAL_NEW_OFF (rd d Addr.CAL_RST_OFF))
        Addr.CAL_NEW_GAIN (rd d Addr.CAL_RST_GAIN)) 3 := by
  have ho' : offsetOk (rd d Addr.CAL_RST_OFF).toInt = true := ho
  have hg' : gainOk (rd d Addr.CAL_RST_GAIN).toNat = true := hg
  have hseal : calSealCheck (commanded t d) (calEntry d) = 0 := calSealCheck_of_ge _ (by omega)
  simp only [calRestore, ← commanded.eq_def, calState_commanded, rd_commanded, calEntry_commanded, hs, ho', hg', hseal,
    ne_eq, not_true_eq_false, Bool.true_eq_false, if_false]

/-- Settles O26: each command by the state of the engine, with the results of R63 and R66. -/
theorem theCalibrationEngine : Obligations.TheCalibrationEngine := by
  refine ⟨?start, ?zero, ?zeroRefused, ?full, ?fullLow, ?commit, ?abort, ?restore⟩
  case start =>
    rintro s t d chan rfl h1 hs hlo hhi
    exact done_whileOn_one s h1 (calStart_of_idle t hs hlo hhi)
  case zero =>
    rintro s t d rfl h1 hs
    exact done_whileOn_one s h1 ((calZero_eq t _).trans (if_pos hs))
  case zeroRefused =>
    rintro s t d rfl h1 hs
    exact done_whileOn_one s h1 ((calZero_eq t _).trans (if_neg hs))
  case full =>
    rintro s t d rfl h1 hs hr
    exact done_whileOn_one s h1 ((calFull_eq t hs).trans (if_neg hr.not_gt))
  case fullLow =>
    rintro s t d rfl h1 hs hr
    exact done_whileOn_one s h1 ((calFull_eq t hs).trans (if_pos hr))
  case commit =>
    rintro s t d rfl h1 hs
    exact done_whileOn_one s h1 (if_pos hs)
  case abort =>
    rintro s t d rfl h1 hs
    exact done_whileOn_one s h1 (settled_eq (calAbort_of_measuring t hs))
  case restore =>
    rintro s t d rfl h1 hs ho hg he
    exact done_whileOn_one s h1 (calRestore_of_good t hs ho hg he)

/-! ### The course of a calibration -/

/-- The averaging of a modulator channel wants no reading of the converter. -/
theorem calSettle_of_modulator {t till : Nat} {d : Device} (hs : d.cal.settleTill = some till) (ht : till ≤ t)
    (he : calEntry d < 64) :
    calSettle t d = { d with cal := { d.cal with settleTill := none, count := 0, sum := 0, wants := false } } := by
  have hwants : decide (64 ≤ calEntry d) = false := decide_eq_false he.not_ge
  simp only [calSettle, calSettled, hs, if_pos ht, hwants, hkWanted, Bool.false_and, Bool.false_eq_true, if_false]

theorem calAveraging_of_settled {d : Device} (hs : calState d = 2 ∨ calState d = 4) (ht : d.cal.settleTill = none) :
    calAveraging d = true := by
  rcases hs with hs | hs <;> simp [calAveraging, hs, ht]

theorem calDone_of_zero {d : Device} (hs : calState d = 2) (ht : d.cal.settleTill = none)
    (hc : d.cal.count = calReadings d)
    (hs' : calState (wrN d Addr.CAL_SPREAD
      (roundDiv ((d.cal.most - d.cal.least).toNat * 1000000 : Nat) (2 ^ 30)).toNat) = 2) :
    calDone d =
      (let spread := (d.cal.most - d.cal.least).toNat
       let e := wrN d Addr.CAL_SPREAD (roundDiv (spread * 1000000 : Nat) (2 ^ 30)).toNat
       calSet (wrI { e with cal := { e.cal with zeroSpread := spread } } Addr.CAL_ZERO_MEAS
         (roundDiv d.cal.sum (calReadings d))) 3 0) := by
  have hav : calAveraging d = true := calAveraging_of_settled (.inl hs) ht
  simp only [calDone, hav, hc, beq_self_eq_true, Bool.and_self, if_true, hs']

theorem calFlagged_of_averaging {d : Device} (h : calAveraging d = true) :
    calFlagged d = calSet { d with cal := { d.cal with wants := false } } 1 11 :=
  if_pos h

theorem calTimeout_of_late {t : Nat} {d : Device} (h0 : calState d ≠ 0) (h6 : calState d ≠ 6)
    (ht : d.cal.cmdAt + sec (fieldN d 0x02B3) ≤ t) : calTimeout t d = calIdle d 10 t :=
  if_pos ⟨h0, h6, ht⟩

/-- In RUN the new values wait for the next T0 boundary; of an entry that is no metering channel's an event tells. -/
theorem calCommitDone_of_run {t : Nat} {d : Device} {p : CalPass} (hs : calState d = 6) (hw : d.cal.written = true)
    (hm : loomMode d = .run) (hmeter : calMeter d = false)
    (hp : p = { entry := calEntry d, offset := rd d Addr.CAL_NEW_OFF, gain := rd d Addr.CAL_NEW_GAIN,
                info := word (d.cal.origin * 2 ^ 24 + memNat d (calAddr (calEntry d) + 9) 1 / 2 * 2 ^ 21
                  + memNat d (calAddr (calEntry d) + 10) 2) }) :
    calCommitDone t d =
      calIdle (raise { d with calPass := d.calPass ++ [p] } .calCommitted (calEntry d)) 0 t := by
  have hm' : loomMode { d with calPass := d.calPass ++ [p] } = .run := hm
  have hmeter' : calMeter { d with calPass := d.calPass ++ [p] } = false := hmeter
  simp only [calCommitDone, hs, hw, and_self, if_true, ← hp, hm', hmeter', Bool.false_eq_true, if_false]

/-- Settles O27: each end of a measurement by the state of the engine and what it has counted. -/
theorem theCourseOfACalibration : Obligations.TheCourseOfACalibration := by
  refine ⟨?settled, ?zeroDone, ?flagged, ?timeout, ?committed⟩
  case settled =>
    rintro s t d till rfl h1 hs ht he
    exact done_whileOn_one s h1 (calSettle_of_modulator hs ht he)
  case zeroDone =>
    rintro s t d rfl h1 hs ht hc hs'
    exact done_whileOn_one s h1 (settled_eq (calDone_of_zero hs ht hc hs'))
  case flagged =>
    rintro s t d rfl h1 hs ht
    exact done_whileOn_one s h1 (settled_eq (calFlagged_of_averaging (calAveraging_of_settled hs ht)))
  case timeout =>
    rintro s t d rfl h1 h0 h6 ht
    exact done_whileOn_one s h1 (settled_eq (calTimeout_of_late h0 h6 ht))
  case committed =>
    rintro s t d p rfl h1 hs hw hm hmeter hp
    exact done_whileOn_one s h1 (settled_eq (calCommitDone_of_run hs hw hm hmeter hp))

end Sys2Proof.Proofs.Calibration

/-! Heat and the slow stores (R290, R299, R302, R316, R323, R419). -/

namespace Sys2Proof.Proofs.Heat

open Sys2Proof Sys2Proof.Machine Sys2Proof.Laws Sys2Proof.Proofs.Commands Sys2Proof.Proofs.ThermalWarning

/-- With the thermal model off a tick moves the crystal trim alone (log 80). -/
theorem thTick_of_disabled {d : Device} (t : Nat) (h : rdB d Addr.TH_CFG 0 = false) : thTick t d = ThermalWarning.trimStep d := by
  have hcfg : rdB (ThermalWarning.trimStep d) Addr.TH_CFG 0 = false :=
    (congrArg (bit · 0) (rd_trimStep not_showsEstimate_TH_CFG d)).trans h
  exact if_neg (Bool.eq_false_iff.1 hcfg)

theorem thRecordWrite_of_free {d : Device} {r : List Byte} (hr : d.therm.record = some r)
    (hm : d.mram.any (·.running) = false) :
    thRecordWrite d = thermalPut { d with therm := { d.therm with record := none } } r := by
  simp only [thRecordWrite, hr, hm, Bool.false_eq_true, if_false]

/-- While some harness of the scope is still in shutdown the record is not written again. -/
theorem thRestart_of_remaining {mask t : Nat} {d e : Device}
    (he : e = each (List.finRange 4) (fun e h =>
      if mask.testBit h.1 && rdB e Addr.TH_STAT h.1 then
        match restartFails e h.1 with
        | 0 => tryRelease (dropCause (wrB e Addr.TH_STAT h.1 false) h.1 12) h t
        | r => if e.therm.refused = 0 then { e with therm := { e.therm with refused := r } } else e
      else e) { d with therm := { d.therm with refused := 0 } })
    (hr : rdF e Addr.TH_STAT 0 4 ≠ 0) : thRestart mask t d = e := by
  have hremain : ¬ ((rdF e Addr.TH_STAT 0 4 = 0 ∧ sliceLE (thLast e) 3 1 = 1) ∧ mask % 16 ≠ 0) := fun h => hr h.1.1
  rw [he] at hremain
  unfold thRestart
  rw [he]
  exact if_neg hremain

/-- The running transaction of MRAM loses its first operation. -/
theorem mramDone_of_running {t i : Nat} {d : Device} {x : MramTx} {op : MramOp} {rest : List MramOp}
    (hi : d.mram.findIdx? (·.running) = some i) (hx : d.mram[i]? = some x) (ho : x.ops = op :: rest) :
    mramDone t d =
      (let e := mramApply d op
       if rest.isEmpty then mramKick (txDone x.note t { e with mram := e.mram.eraseIdx i })
       else mramKick { e with mram := (e.mram.set i
         { x with running := false, ops := rest, committed := x.committed || op == .commit || x.writer == 0 }) }) := by
  have hcommit : (some op == some MramOp.commit) = (op == .commit) := rfl
  simp only [mramDone, hi, hx, ho, List.headD_cons, List.drop_one, List.tail_cons, List.head?_cons, hcommit]

theorem stackResolve_of_unpaired {t : Nat} {d : Device} {c : CfgChange} (hr : redState d = 0) (hc : d.cfg.change = some c)
    (hn : c.resolved = false) :
    stackResolve t d = cfgApply 1 t { d with cfg := { d.cfg with change := some (resolveChange d c) } } := by
  have hforward : forwardApply d = d := if_neg (by simp [hr])
  simp only [stackResolve, hr, hc, hn, hforward, stackResolved, OfNat.zero_ne_ofNat, false_and, Bool.false_eq_true, if_false]

/-- Settles O28: the tick, the record and the restart; one operation of the controller is one entry of the front transaction
(log 123), and within a tick the warnings stand before the comparison (log 152). -/
theorem heatAndTheSlowStores : Obligations.HeatAndTheSlowStores := by
  refine ⟨?tickOff, ?tickOn, ?record, ?restart, ?operation, ?last, ?resolved⟩
  case tickOff =>
    rintro s t d e rfl h1 he hoff
    exact done_whileOn_one s h1 ((thTick_of_disabled t hoff).trans he.symm)
  case tickOn =>
    rintro s t d e rfl h1 he hon
    subst he
    exact done_whileOn_one s h1 (thTick_of_enabled t hon)
  case record =>
    rintro s t d r rfl h1 hr hm
    exact done_whileOn_one s h1 (thRecordWrite_of_free hr hm)
  case restart =>
    rintro s t d e mask rfl h1 he hr
    exact done_whileOn_one s h1 (thRestart_of_remaining he hr)
  case operation =>
    rintro s t d i x op next ops rfl h1 hi hx ho
    exact done_whileOn_one s h1 (settled_eq (congrArg (sleepGo t) (mramDone_of_running hi hx ho)))
  case last =>
    rintro s t d i x op rfl h1 hi hx ho
    exact done_whileOn_one s h1 (settled_eq (congrArg (sleepGo t) (mramDone_of_running hi hx ho)))
  case resolved =>
    rintro s t d c rfl h1 hr hc hn
    exact done_whileOn_one s h1 (stackResolve_of_unpaired hr hc hn)

end Sys2Proof.Proofs.Heat

/-! Supplies, power failure, domains and sleep (R401, R404 to R407, R413, R414). -/

namespace Sys2Proof.Proofs.Power

open Sys2Proof Sys2Proof.Machine Sys2Proof.Laws Sys2Proof.Proofs.Commands

/-! ### The supplies -/

/-- `VIN` on an empty store starts the unit: cold with the backup lost, which also lost the clock, else by power-on. -/
theorem vinValid_of_empty (t : Nat) {d : Device} (hv : d.power.vinValid = false) (hs : d.power.storeEmpty = true) :
    vinValid t d =
      (let kind := if d.power.vbakLost then 1 else 2
       let e := restart kind 0 d
       let e := { e with power := { e.power with vinValid := true, startAt := t, storeEmpty := false } }
       let e := if kind = 1 then { e with power := { e.power with rtcSeconds := 0, rtcNanos := 0, rtcAt := t } } else e
       setDom e 0 true) :=
  if_pos ⟨hv, hs⟩

theorem vinfDeclared_of_first {t : Nat} {d e : Device} (hv : d.power.vinValid = true) (ha : d.power.vinfAt = none)
    (he : e = count (wrB (wrB d Addr.PWR_STAT 21 true) Addr.PWR_STAT 22 false) Addr.PWR_VINF_CNT)
    (hp : e.power = d.power) :
    vinfDeclared t d =
      (let e := wrB { e with power := { d.power with vinValid := false, vinBack := false } } Addr.PWR_STAT 17 true
       let e := { e with power := { e.power with vinfAt := some t, resetReq := none, sleepEntry := none } }
       ledgerSave (if domOn e 1 then hkTrigger e 2 else e)) := by
  unfold vinfDeclared
  rw [if_pos hv, ← he, ← hp]
  exact if_neg (by simp [hp, ha])

theorem vinfClear_in_grace {d : Device} (t : Nat) (hv : d.power.vinValid = false) (ha : d.power.vinfAt.isSome = true)
    (hg : d.power.graceDone = false) :
    vinfClear t d =
      (let e := wrB { d with power := { d.power with vinValid := true } } Addr.PWR_STAT 21 false
       wrB { e with power := { e.power with vinfAt := none } } Addr.PWR_STAT 17 false) := by
  have hg' : (wrB { d with power := { d.power with vinValid := true } } Addr.PWR_STAT 21 false).power.graceDone = false := by
    rw [wrB_power]
    exact hg
  simp only [vinfClear, hv, ha, and_self, if_true, hg']

theorem graceExpiry_of_due {t since : Nat} {d : Device} (ha : d.power.vinfAt = some since) (hg : d.power.graceDone = false)
    (ht : since + vinfGrace d ≤ t) :
    graceExpiry t d = domSwitchOff 3 t (domSwitchOff 2 t { d with power := { d.power with graceDone := true } }) := by
  simp only [graceExpiry, ha, hg, ht, and_self, if_true]

theorem shedTimeout_of_due {t since : Nat} {d : Device} (ha : d.power.vinfAt = some since) (hg : d.power.graceDone = true)
    (hs : d.power.shedDone = false) (ht : ownMode d = 0 ∨ since + vinfGrace d + us 200 ≤ t) :
    shedTimeout t d =
      each [6, 7, 8, 9, 10] (fun e n => domSwitchOff n t e) { d with power := { d.power with shedDone := true } } := by
  simp only [shedTimeout, ha, hg, hs, ht, and_self, if_true]

/-- At 14 V or less no last record is written. -/
theorem powerFinal_of_low {mv t : Nat} {d : Device} (hs : d.power.shedDone = true) (hf : d.power.finalDone = false)
    (hm : mv ≤ 14000) (hb : (each [4, 1, 5] (fun e n => domSwitchOff n t e) (mramHalt d)).power.vinBack = false) :
    powerFinal mv t d =
      (let e := each [4, 1, 5] (fun e n => domSwitchOff n t e) (mramHalt d)
       wrB { e with power := { e.power with finalDone := true, starting := false } } Addr.PWR_STAT 20 false) := by
  simp only [powerFinal, hs, hf, hm, or_true, and_self, if_true, if_neg hm.not_gt, wrB_power, hb, Bool.false_eq_true,
    if_false]

/-- Settles O29: the cases of `VIN` and of the power-fail sequence. That `VINF` clears the store's bit, that `VIN` acts on an
empty store and that a cold start needs the backup lost are log 91. -/
theorem suppliesAndPowerFailure : Obligations.SuppliesAndPowerFailure := by
  refine ⟨?powerOn, ?coldStart, ?declared, ?clear, ?grace, ?shed, ?final, ?low, ?full, ?backup⟩
  case powerOn =>
    rintro s t d rfl hv hs hb
    exact done_eq s ((vinValid_of_empty t hv hs).trans (by simp only [hb]; rfl))
  case coldStart =>
    rintro s t d rfl hv hs hb
    exact done_eq s ((vinValid_of_empty t hv hs).trans (by simp only [hb]; rfl))
  case declared =>
    rintro s t d e rfl hv ha he hp
    exact done_eq s (vinfDeclared_of_first hv ha he hp)
  case clear =>
    rintro s t d rfl hv ha hg
    exact done_eq s (vinfClear_in_grace t hv ha hg)
  case grace =>
    rintro s t d since rfl ha hg ht
    exact done_eq s (graceExpiry_of_due ha hg ht)
  case shed =>
    rintro s t d since rfl ha hg hs ht
    exact done_eq s (shedTimeout_of_due ha hg hs ht)
  case final =>
    rintro s t d mv rfl hs hf hm hb
    exact done_eq s (powerFinal_of_low hs hf hm hb)
  case low =>
    rintro s t d rfl hf hv
    exact done_eq s (if_pos ⟨hf, hv⟩)
  case full =>
    rintro s t d rfl hv
    exact done_eq s (if_pos hv)
  case backup =>
    rintro s t d rfl hp
    exact done_eq s (if_pos hp)

/-! ### Domains and sleep -/

theorem domainOn_of_free {n : Nat} {d : Device} (hb : powerBusy d = false) (hn : ¬ (n = 0 ∨ n = 1 ∨ n = 5 ∨ 11 ≤ n)) :
    domainOn n d = domSwitchOn n d := by
  simp only [domainOn, hb, Bool.false_eq_true, if_false, if_neg hn]

theorem domainOn_of_busy (n : Nat) {d : Device} (hb : powerBusy d = true) : domainOn n d = refuseRequest 6 n d :=
  if_pos hb

theorem bridlePowerUp_power (d : Device) : (bridlePowerUp d).power = d.power :=
  each_proj (p := Device.power) (fun d a => wrN_power d a 0) _ d

theorem domSwitchOff_eleven_power (t : Nat) (d : Device) : (domSwitchOff 11 t d).power = d.power := by
  unfold domSwitchOff
  split
  · exact (bridlePowerUp_power _).trans (wrB_power ..)
  · rfl

theorem domainCycle_of_allowed {n : Nat} {steward : Bool} (t : Nat) {d : Device} (hc : cycleCode d n steward = 0) :
    domainCycle n steward t d =
      { domSwitchOff 11 t d with power := { (domSwitchOff 11 t d).power with pd11OffAt := some t } } := by
  simp only [domainCycle, hc, if_true, domSwitchOff_eleven_power]

theorem pd11Restart_of_due {t since : Nat} {d : Device} (ha : d.power.pd11OffAt = some since) (ht : since + ms 100 ≤ t) :
    pd11Restart t d = domSwitchOn 11 { d with power := { d.power with pd11OffAt := none } } := by
  simp only [pd11Restart, ha, if_pos ht]

/-- With the gates in mode 0 already, sleep waits for the ledger alone. -/
theorem sleepEnter_of_mode_zero {level t : Nat} {d : Device} (hc : sleepCode d = 0) (hm : ownMode d = 0) :
    sleepEnter level t d =
      (let e := { d with power := { d.power with sleepEntry := some level, wakePending := false } }
       sleepGo t (if level = 2 then ledgerSave e else e)) := by
  have hm' : ownMode { d with power := { d.power with sleepEntry := some level, wakePending := false } } = 0 := hm
  simp only [sleepEnter, hc, if_true, hm']

theorem sleepEnter_of_refused {level t : Nat} {d : Device} (hc : sleepCode d ≠ 0) :
    sleepEnter level t d = refuseRequest (sleepCode d) 0 d :=
  if_neg hc

theorem wakeBy_of_asleep {d : Device} (h : d.power.sleepEntry = none) : wakeBy d = wake d := by
  simp only [wakeBy, h, Option.isSome_none, Bool.false_eq_true, if_false]

/-- Settles O30: the requests by their refusal codes, and the sources of a wake. -/
theorem domainsAndSleep : Obligations.DomainsAndSleep := by
  refine ⟨?on, ?onBusy, ?off, ?offRefused, ?cycle, ?restart, ?sleep, ?sleepRefused, ?exit, ?wakeN, ?alarm⟩
  case on =>
    rintro s t d n rfl h1 hb h0 hn1 h5 hlt
    exact done_whileOn_one s h1 (domainOn_of_free hb (by omega))
  case onBusy =>
    rintro s t d n rfl h1 hb
    exact done_whileOn_one s h1 (domainOn_of_busy n.1 hb)
  case off =>
    rintro s t d n steward rfl h1 hc
    exact done_whileOn_one s h1 (if_pos hc)
  case offRefused =>
    rintro s t d n steward rfl h1 hc
    exact done_whileOn_one s h1 (if_neg hc)
  case cycle =>
    rintro s t d steward rfl h1 hc
    exact done_whileOn_one s h1 (domainCycle_of_allowed t hc)
  case restart =>
    rintro s t d since rfl ha ht
    exact done_eq s (pd11Restart_of_due ha ht)
  case sleep =>
    rintro s t d rfl h1 hc hm
    exact ⟨done_whileOn_one s h1 (sleepEnter_of_mode_zero hc hm), done_whileOn_one s h1 (sleepEnter_of_mode_zero hc hm)⟩
  case sleepRefused =>
    rintro s t d rfl h1 hc
    exact ⟨done_whileOn_one s h1 (sleepEnter_of_refused hc), done_whileOn_one s h1 (sleepEnter_of_refused hc)⟩
  case exit =>
    rintro s t d rfl h1 hs he
    exact done_whileOn_one s h1 ((if_pos (.inl hs)).trans (wakeBy_of_asleep he))
  case wakeN =>
    rintro s t d low rfl h0 hl hm he
    exact done_whileOn_one s h0 ((if_pos ⟨hl, hm⟩).trans (wakeBy_of_asleep he))
  case alarm =>
    rintro s t d rfl h0 ha hn hm he
    exact done_whileOn_one s h0 ((if_pos ⟨ha, hn, hm⟩).trans (wakeBy_of_asleep he))

end Sys2Proof.Proofs.Power

/-! Resets, start-up, and the lock of the MDLL (R408 to R411, R423 to R427, R430). -/

namespace Sys2Proof.Proofs.Clock

open Sys2Proof Sys2Proof.Machine Sys2Proof.Laws Sys2Proof.Proofs.Commands

/-! ### Resets and start-up -/

theorem within_of_above {x lo hi : Nat} (d : Device) (h : hi ≤ x) : within x lo hi d = (true, d) :=
  if_pos h

theorem within_of_below {x lo hi : Nat} (d : Device) (hh : ¬ hi ≤ x) (h : x < lo) : within x lo hi d = (false, d) :=
  (if_neg hh).trans (if_pos h)

theorem pinReset_of_long {low : Nat} (t : Nat) (d : Device) (h : 10000 ≤ low) : pinReset low t d = resetBegin 4 t d := by
  simp only [pinReset, within_of_above d h, if_true]

theorem pinReset_of_short {low : Nat} (t : Nat) (d : Device) (h : low < 2000) : pinReset low t d = d := by
  simp only [pinReset, within_of_below d (show ¬ 10000 ≤ low by omega) h, Bool.false_eq_true, if_false]

theorem watchdogExpiry_of_long {idle : Nat} (t : Nat) (d : Device) (h : 105000 ≤ idle) :
    watchdogExpiry idle t d = resetBegin 5 t d := by
  simp only [watchdogExpiry, within_of_above d h, if_true]

/-- A reset other than the core supervisor's waits for the ledger's write. -/
theorem resetBegin_of_free {kind t : Nat} {d : Device} (hv : d.power.vinfAt = none) (hr : d.power.resetReq = none)
    (h5 : domOn d 5 = true) (h1 : domOn d 1 = true) (hk : kind ≠ 7) :
    resetBegin kind t d =
      (let e := each (List.finRange 4) coreReset (selvedgeAll d t 0x0A)
       ledgerSave { e with power := { e.power with resetReq := some (kind, t), starting := true } }) := by
  simp only [resetBegin, hv, hr, h5, h1, Option.isSome_none, Bool.not_true, Bool.or_self, Bool.false_eq_true, if_false,
    if_neg hk]

theorem startupStep_of_complete {t : Nat} {d : Device} (hr : d.power.resetReq = none) (hs : d.power.starting = true)
    (hv : d.power.vinfAt = none) (hc : stepComplete d (rdF d Addr.PWR_STEP 0 4) = true) :
    startupStep t d = stepBegin (rdF d Addr.PWR_STEP 0 4 + 1) t d := by
  simp only [startupStep, hr, hs, hv, hc, and_self, if_true]

theorem startupStep_of_overdue {t kind since : Nat} {d : Device} (hr : d.power.resetReq = some (kind, since))
    (ht : since + ms 2 ≤ t) : startupStep t d = resetHold kind t d := by
  simp only [startupStep, hr, ht, or_true, if_true]

theorem readyReport_of_bad {t : Nat} {d : Device} (hr : d.power.resetReq = none) (hs : d.power.starting = true)
    (hv : d.power.vinfAt = none) (hn : notReady d ≠ 0) :
    readyReport t d = wrN d Addr.PWR_NOT_READY (notReady d) := by
  simp only [readyReport, hr, hs, hv, and_self, if_true, if_neg hn]

theorem readyReport_of_good {t : Nat} {d e : Device} (hr : d.power.resetReq = none) (hs : d.power.starting = true)
    (hv : d.power.vinfAt = none) (hn : notReady d = 0)
    (he : e = wrB (wrB (wrF (wrN d Addr.PWR_NOT_READY 0) Addr.PWR_STEP 0 4 11) Addr.PWR_STAT 20 true) Addr.HK_CFG 1 false) :
    readyReport t d =
      (let e := if rdN e Addr.PWR_START_TIME = 0 then wrN e Addr.PWR_START_TIME ((t - e.power.startAt) / ms 1) else e
       let e := { e with power := { e.power with starting := false }, red := { e.red with readyAt := some t } }
       let e := if loomMode e = .stop then selvedgeAll e t 0x0A else e
       if paired e then e
       else if (ownWrite 1 t e).cfg.degraded then ownWrite 1 t e
       else ownWrite 2 t (ownWrite 1 t e)) := by
  subst he
  simp only [readyReport, hr, hs, hv, hn, and_self, if_true]

/-- Settles O31: the resets by the length of their cause, and the report of ready by its conditions. That ready in STOP
records cause 0x0A in every harness is log 130, and the order of the reset log 90. -/
theorem resetsAndStartUp : Obligations.ResetsAndStartUp := by
  refine ⟨?pin, ?pinShort, ?watchdog, ?software, ?softwareOther, ?core, ?begin, ?next, ?hold, ?notReady, ?ready⟩
  case pin =>
    rintro s t d low rfl hl
    exact done_eq s (pinReset_of_long t _ hl)
  case pinShort =>
    rintro s t d low rfl hl
    exact done_eq s (pinReset_of_short t _ hl)
  case watchdog =>
    rintro s t d idle rfl h1 hi
    exact done_whileOn_one s h1 (watchdogExpiry_of_long t _ hi)
  case software =>
    rintro s t d rfl h1
    exact done_whileOn_one s h1 (if_pos rfl)
  case softwareOther =>
    rintro s t d v rfl h1 hv
    exact done_whileOn_one s h1 (if_neg hv)
  case core =>
    rintro s t d low rfl h1 hl
    exact done_whileOn_one s h1 (if_pos hl)
  case begin =>
    intro d kind t hv hr h5 h1 hk
    exact resetBegin_of_free hv hr h5 h1 hk
  case next =>
    rintro s t d rfl hr hs hv hc
    exact done_eq s (startupStep_of_complete hr hs hv hc)
  case hold =>
    rintro s t d kind since rfl hr ht
    exact done_eq s (startupStep_of_overdue hr ht)
  case notReady =>
    rintro s t d rfl hr hs hv hn
    exact done_eq s (readyReport_of_bad hr hs hv hn)
  case ready =>
    rintro s t d e rfl hr hs hv hn he
    exact done_eq s (readyReport_of_good hr hs hv hn he)

/-! ### Lock and coast -/

/-- A shown sample touches no other register. -/
theorem rdB_showLockf {d : Device} (mv : Nat) {a : Nat} (i : Nat) (h : a ≠ Addr.CLK_LOCKF_MV) :
    rdB (showLockf d mv) a i = rdB d a i :=
  rdB_wrF_ne d _ _ _ _ _ _ (.inl h)

theorem rdF_showLockf {d : Device} (mv : Nat) {a : Nat} (lo len : Nat) (h : a ≠ Addr.CLK_LOCKF_MV) :
    rdF (showLockf d mv) a lo len = rdF d a lo len :=
  rdF_wrF_ne d _ _ _ _ _ _ _ (.inl h)

theorem domOn_showLockf (d : Device) (mv n : Nat) : domOn (showLockf d mv) n = domOn d n :=
  rdB_showLockf mv n (by decide)

theorem lockfInside_showLockf (d : Device) (mv mv' : Nat) : lockfInside (showLockf d mv) mv' = lockfInside d mv' := by
  simp only [lockfInside, rdF_showLockf mv _ _ (show Addr.CLK_LOCKF ≠ Addr.CLK_LOCKF_MV by decide)]

/-- What a declared lock shows. -/
def lockWrites (v : Nat) (d : Device) : Device :=
  wrF (wrB (wrB d Addr.CLK_STAT 0 true) Addr.CLK_STAT 1 true) Addr.CLK_CTRL_VAL 0 16 v

theorem coasting_lockWrites (v : Nat) (d : Device) : coasting (lockWrites v d) = coasting d := by
  unfold coasting lockWrites
  rw [rdB_wrF_ne _ _ _ _ _ _ _ (.inl (by decide)), rdB_wrB_ne _ _ _ _ _ _ (.inr (by decide)),
    rdB_wrB_ne _ _ _ _ _ _ (.inr (by decide))]

theorem coasting_showLockf (d : Device) (mv : Nat) : coasting (showLockf d mv) = coasting d :=
  rdB_showLockf mv 3 (by decide)

theorem coasting_eq_of_regs {d e : Device} (h : e.regs = d.regs) : coasting e = coasting d := by
  simp only [coasting, rdB, rd, h]

/-- Lock declared: the first lock starts the counters, and a relock sets `HOLD`. -/
theorem lockDeclared_of_inside {mv t : Nat} {d : Device} (h5 : domOn d 5 = true) (hl : rdB d Addr.CLK_STAT 0 = false)
    (ha : d.clock.acquiring = true) (hi : lockfInside d mv = true) :
    lockDeclared mv t d =
      (let e := { lockWrites (Config.freeWord d.freeCtr).toNat (showLockf d mv) with
          freeCtr := d.freeCtr + 1,
          clock := { d.clock with acquiring := false, firstLock := some (d.clock.firstLock.getD t) } }
       if coasting d then wrB { e with clock := { e.clock with holdFrom := some t } } Addr.CLK_STAT 2 true else e) := by
  have hs : rdB (showLockf d mv) Addr.CLK_STAT 0 = false := (rdB_showLockf mv 0 (by decide)).trans hl
  have hk : (showLockf d mv).clock = d.clock := wrF_clock ..
  have hf : (showLockf d mv).freeCtr = d.freeCtr := wrF_freeCtr ..
  have hc : coasting (lockWrites (Config.freeWord d.freeCtr).toNat (showLockf d mv)) = coasting d :=
    (coasting_lockWrites ..).trans (coasting_showLockf ..)
  rw [← hc, lockDeclared, if_pos ⟨(domOn_showLockf d mv 5).trans h5, hs, hk ▸ ha, (lockfInside_showLockf d mv mv).trans hi⟩]
  simp only [fresh, hf, wrF_clock, wrB_clock, hk, lockWrites]
  exact if_congr (Eq.to_iff (congrArg (· = true) (coasting_eq_of_regs rfl))) rfl rfl

theorem lockDeclared_first {mv t : Nat} {d : Device} (h5 : domOn d 5 = true) (hl : rdB d Addr.CLK_STAT 0 = false)
    (ha : d.clock.acquiring = true) (hi : lockfInside d mv = true) (hc : coasting d = false) :
    lockDeclared mv t d =
      { wrF (wrB (wrB (wrF d Addr.CLK_LOCKF_MV 0 12 mv) Addr.CLK_STAT 0 true) Addr.CLK_STAT 1 true)
          Addr.CLK_CTRL_VAL 0 16 (Config.freeWord d.freeCtr).toNat with
        freeCtr := d.freeCtr + 1,
        clock := { d.clock with acquiring := false, firstLock := some (d.clock.firstLock.getD t) } } := by
  simp only [lockDeclared_of_inside h5 hl ha hi, hc, Bool.false_eq_true, if_false, lockWrites, showLockf]

theorem lockDeclared_relock {mv t : Nat} {d : Device} (h5 : domOn d 5 = true) (hl : rdB d Addr.CLK_STAT 0 = false)
    (ha : d.clock.acquiring = true) (hi : lockfInside d mv = true) (hc : coasting d = true) :
    lockDeclared mv t d =
      wrB { wrF (wrB (wrB (wrF d Addr.CLK_LOCKF_MV 0 12 mv) Addr.CLK_STAT 0 true) Addr.CLK_STAT 1 true)
          Addr.CLK_CTRL_VAL 0 16 (Config.freeWord d.freeCtr).toNat with
        freeCtr := d.freeCtr + 1,
        clock := { d.clock with
          acquiring := false, firstLock := some (d.clock.firstLock.getD t), holdFrom := some t } }
        Addr.CLK_STAT 2 true := by
  simp only [lockDeclared_of_inside h5 hl ha hi, hc, if_true, lockWrites, showLockf]

theorem lossOfLock_of_digital {mv held t : Nat} {d : Device} (hl : rdB d Addr.CLK_STAT 0 = true) :
    lossOfLock true mv held t d = clockLoss false t { d with clock := { d.clock with acquiring := rdB d Addr.CLK_STAT 1 } } :=
  if_pos ⟨hl, .inl rfl⟩

theorem lossOfLock_of_high {mv held t : Nat} {d : Device} (hl : rdB d Addr.CLK_STAT 0 = true)
    (hm : rdF d Addr.CLK_LOCKF 16 16 < mv) (ht : rdF d Addr.CLK_LOCKF_T 0 14 ≤ held) :
    lossOfLock false mv held t d =
      clockLoss false t { showLockf d mv with clock := { d.clock with acquiring := rdB d Addr.CLK_STAT 1 } } := by
  have hk : (showLockf d mv).clock = d.clock := wrF_clock ..
  simp only [lossOfLock, Bool.false_eq_true, if_false, rdB_showLockf mv _ (show Addr.CLK_STAT ≠ Addr.CLK_LOCKF_MV by decide),
    rdF_showLockf mv _ _ (show Addr.CLK_LOCKF ≠ Addr.CLK_LOCKF_MV by decide),
    rdF_showLockf mv _ _ (show Addr.CLK_LOCKF_T ≠ Addr.CLK_LOCKF_MV by decide), hl, hm, ht, hk, and_self, or_true, if_true]

theorem lossOfReference_of_locked {t : Nat} {d : Device} (h5 : domOn d 5 = true) (hr : rdB d Addr.CLK_STAT 1 = true)
    (hf : d.clock.firstLock.isSome = true) :
    lossOfReference t d =
      clockLoss true t (wrB { d with clock := { d.clock with acquiring := false } } Addr.CLK_STAT 1 false) := by
  simp only [lossOfReference, h5, hr, and_self, if_true, wrB_clock, hf]

theorem redState_wrB_clkStat (d : Device) (i : Nat) (b : Bool) : redState (wrB d Addr.CLK_STAT i b) = redState d :=
  rdF_wrB_ne d _ _ _ _ _ _ (.inl (by decide))

theorem redState_count_lossOfLock (d : Device) : redState (count d Addr.CLK_LOL_CNT) = redState d := by
  refine congrArg (field · 0 3) (rd_countBy_ne d _ 1 _ (by decide) fun r j h => ?_)
  have hovf : CntMap.ovf? Addr.CLK_LOL_CNT = some (1073840156, 0) := by decide +kernel
  rw [hovf] at h
  simp only [Option.some.injEq, Prod.mk.injEq] at h
  rw [← h.1]
  decide

/-- A loss while the unit does not coast begins a coast. -/
theorem clockLoss_of_locked {t : Nat} {d : Device} (hc : coasting d = false) (hr : redState d ≠ 3) :
    clockLoss false t d =
      (let e := wrB (wrB d Addr.CLK_STAT 0 false) Addr.CLK_STAT 2 false
       let e := wrB (wrB (wrB e Addr.CLK_STAT 3 true) Addr.CLK_STAT 4 true) Addr.CLK_STAT 5 true
       let e := wr64 (count e Addr.CLK_LOL_CNT) Addr.CLK_LOSS_TIME_LO (d.time.read (nextCkf d t))
       let e := { e with clock := { d.clock with holdFrom := none, lossAt := some (nextCkf d t) } }
       selfDiag (cutFrame (selvedgeAll e (nextCkf d t) 0x0D) (nextCkf d t)) 2 (nextCkf d t)) := by
  have hr' : redState (count (wrB (wrB (wrB (wrB (wrB d Addr.CLK_STAT 0 false) Addr.CLK_STAT 2 false) Addr.CLK_STAT 3 true)
      Addr.CLK_STAT 4 true) Addr.CLK_STAT 5 true) Addr.CLK_LOL_CNT) ≠ 3 := by
    rwa [redState_count_lossOfLock, redState_wrB_clkStat, redState_wrB_clkStat, redState_wrB_clkStat, redState_wrB_clkStat,
      redState_wrB_clkStat]
  simp only [clockLoss, hc, Bool.false_eq_true, if_false, if_neg hr', wr64, wr_clock, count_clock, wrB_clock, wr_time,
    count_time, wrB_time]

theorem lockfFault_of_low {mv : Nat} {d : Device} (hl : rdB d Addr.CLK_STAT 0 = true) (hf : rdB d Addr.CLK_STAT 6 = false)
    (hm : mv < rdF d Addr.CLK_LOCKF 0 16) :
    lockfFault mv d = raise (count (wrB (showLockf d mv) Addr.CLK_STAT 6 true) Addr.CLK_FILT_CNT) .clockFilter mv := by
  simp only [lockfFault, rdB_showLockf mv _ (show Addr.CLK_STAT ≠ Addr.CLK_LOCKF_MV by decide),
    rdF_showLockf mv _ _ (show Addr.CLK_LOCKF ≠ Addr.CLK_LOCKF_MV by decide), hl, hf, hm, and_self, if_true]

theorem lockfClear_of_inside {mv : Nat} {d : Device} (hf : rdB d Addr.CLK_STAT 6 = true) (hi : lockfInside d mv = true) :
    lockfClear mv d = wrB (showLockf d mv) Addr.CLK_STAT 6 false := by
  simp only [lockfClear, rdB_showLockf mv _ (show Addr.CLK_STAT ≠ Addr.CLK_LOCKF_MV by decide), lockfInside_showLockf, hf,
    hi, and_self, if_true]

theorem referenceRecovered_of_unlocked {d : Device} (h5 : domOn d 5 = true) (hl : rdB d Addr.CLK_STAT 0 = false) :
    referenceRecovered d =
      { wrB (wrB d Addr.CLK_STAT 1 true) Addr.CLK_STAT 7 false with clock := { d.clock with acquiring := true } } := by
  simp only [referenceRecovered, h5, hl, and_self, if_true, wrB_clock]

theorem relockExpiry_of_due {t h since : Nat} {d : Device} (hh : d.clock.holdFrom = some h)
    (hb : rdB d Addr.CLK_STAT 2 = true) (ht : h + ms (rdF d Addr.CLK_CFG 0 10) ≤ t) (hl : d.clock.lossAt = some since) :
    relockExpiry t d =
      (let e := wrN (wrF d Addr.CLK_STAT 2 4 0) Addr.CLK_COAST_LAST (min ((t - since) / us 1) 0xFFFFFFFF)
       let e := { e with clock := { d.clock with holdFrom := none, lossAt := none } }
       hkRecover (each (List.finRange 4) (fun e h => ownerRelease e h t 0x0D) e)) := by
  simp only [relockExpiry, hh, hb, ht, hl, and_self, if_true, Option.getD_some, wrN_clock, wrF_clock]

/-- Settles O32: the events of the MDLL by the bits of `CLK_STAT`. The CKF edge of a loss and the acquisition are log 93,
the free control value at lock logs 94 and 5. -/
theorem lockAndCoast : Obligations.LockAndCoast := by
  refine ⟨?lock, ?relock, ?digital, ?high, ?reference, ?loss, ?fault, ?clear, ?recovered, ?hold⟩
  case lock =>
    rintro s t d mv rfl h5 hl ha hi hc
    exact done_whileOn_one s h5 (lockDeclared_first h5 hl ha hi hc)
  case relock =>
    rintro s t d mv rfl h5 hl ha hi hc
    exact done_whileOn_one s h5 (lockDeclared_relock h5 hl ha hi hc)
  case digital =>
    rintro s t d mv held rfl h5 hl
    exact done_whileOn_one s h5 (lossOfLock_of_digital hl)
  case high =>
    rintro s t d e mv held rfl h5 hl hm ht rfl
    exact done_whileOn_one s h5 (lossOfLock_of_high hl hm ht)
  case reference =>
    rintro s t d rfl h5 hr hf
    exact done_whileOn_one s h5 (lossOfReference_of_locked h5 hr hf)
  case loss =>
    intro d t hc hr
    exact clockLoss_of_locked hc hr
  case fault =>
    rintro s t d mv rfl h5 hl hf hm
    exact done_whileOn_one s h5 (lockfFault_of_low hl hf hm)
  case clear =>
    rintro s t d mv rfl h5 hf hi
    exact done_whileOn_one s h5 (lockfClear_of_inside hf hi)
  case recovered =>
    rintro s t d rfl h5 hl
    exact done_whileOn_one s h5 (referenceRecovered_of_unlocked h5 hl)
  case hold =>
    rintro s t d h since rfl h5 hh hb ht hl
    exact done_whileOn_one s h5 (relockExpiry_of_due hh hb ht hl)

end Sys2Proof.Proofs.Clock

/-! Redundancy: the handover of control, the takeover boundary and the start of a pair (R391 to R399). -/

namespace Sys2Proof.Proofs.Redundancy

open Sys2Proof Sys2Proof.Machine Sys2Proof.Laws Sys2Proof.Proofs.Commands

/-! ### `RED_STAT` and what its writes leave -/

theorem redState_wrB (d : Device) {i : Nat} (b : Bool) (h : 3 ≤ i) : redState (wrB d Addr.RED_STAT i b) = redState d :=
  rdF_wrB_ne d _ _ _ _ _ _ (.inr (.inr h))

theorem ownMode_wrB_redStat (d : Device) (i : Nat) (b : Bool) : ownMode (wrB d Addr.RED_STAT i b) = ownMode d :=
  rdF_wrB_ne d _ _ _ _ _ _ (.inl (by decide))

theorem redState_setRedState (d : Device) (n : Nat) : redState (setRedState d n) = n % 8 :=
  rdF_wrF_same d _ _ _ _ (by decide)

theorem paired_wrB_redStat (d : Device) (i : Nat) (b : Bool) : paired (wrB d Addr.RED_STAT i b) = paired d :=
  rdB_wrB_ne d _ _ _ _ _ (.inl (by decide))

theorem pairSync_wrB (d : Device) {i : Nat} (b : Bool) (h : i ≠ 5) : pairSync (wrB d Addr.RED_STAT i b) = pairSync d :=
  rdB_wrB_ne d _ _ _ _ _ (.inr h)

theorem lostBoundaries_wrB (d : Device) (t i : Nat) (b : Bool) :
    lostBoundaries t (wrB d Addr.RED_STAT i b) = lostBoundaries t d := by
  unfold lostBoundaries t0Time rdN
  rw [wrB_red, wrB_loom, show rd (wrB d Addr.RED_STAT i b) Addr.LOOM_T0_CKF = _ from rd_wr_ne d _ (by decide),
    show rd (wrB d Addr.RED_STAT i b) Addr.LOOM_CYCLE = _ from rd_wr_ne d _ (by decide)]

/-- Whether the state is stale does not depend on the partner's signals. -/
theorem stateStale_wrB (d : Device) (t : Nat) {i : Nat} (b : Bool) (h : i ≠ 5) :
    stateStale t (wrB d Addr.RED_STAT i b) = stateStale t d := by
  unfold stateStale
  rw [pairSync_wrB d b h, lostBoundaries_wrB, rdF_wrB_ne d _ _ _ _ _ _ (.inl (by decide))]

/-! ### The handover -/

theorem phandFall_of_standby {t : Nat} {d : Device} (hp : paired d = true) (hr : redState d = 3)
    (hs : stateStale t d = false) :
    phandFall t d =
      (let e := wrB d Addr.RED_STAT 11 true
       setHand (ownWrite 1 t (setRedState { e with red := { e.red with takeFrom := some t } } 5)) true (t + 952)) := by
  simp only [phandFall, paired_wrB_redStat, hp, redState_wrB d true (show 3 ≤ 11 by decide), hr,
    stateStale_wrB d t true (show 11 ≠ 5 by decide), hs, Bool.not_true, Bool.false_eq_true, if_false, if_true]

theorem phandFall_of_stale {t : Nat} {d : Device} (hp : paired d = true) (hr : redState d = 3)
    (hs : stateStale t d = true) : phandFall t d = staleStay (wrB d Addr.RED_STAT 11 true) := by
  simp only [phandFall, paired_wrB_redStat, hp, redState_wrB d true (show 3 ≤ 11 by decide), hr,
    stateStale_wrB d t true (show 11 ≠ 5 by decide), hs, Bool.not_true, Bool.false_eq_true, if_false, if_true]

theorem phandFall_of_yielding {t : Nat} {d : Device} (hp : paired d = true) (hr : redState d = 4) (hm : ownMode d = 1) :
    phandFall t d = yieldEnd t (wrB d Addr.RED_STAT 11 true) := by
  simp only [phandFall, paired_wrB_redStat, hp, redState_wrB d true (show 3 ≤ 11 by decide), hr, ownMode_wrB_redStat, hm,
    Bool.not_true, Bool.false_eq_true, if_false, if_neg (show ¬ (4 : Nat) = 3 by decide), and_self, if_true]

/-- The signals of the partner, once `POWN_N` has risen. -/
def pownHigh (t : Nat) (d : Device) : Device :=
  wrB (wrB { d with red := { d.red with pownHighAt := some t } } Addr.RED_STAT 10 false) Addr.RED_STAT 11 false

theorem redState_pownHigh (t : Nat) (d : Device) : redState (pownHigh t d) = redState d :=
  (redState_wrB _ _ (by decide)).trans (redState_wrB { d with red := _ } _ (by decide))

theorem ownMode_pownHigh (t : Nat) (d : Device) : ownMode (pownHigh t d) = ownMode d :=
  (ownMode_wrB_redStat ..).trans (ownMode_wrB_redStat { d with red := _ } ..)

theorem pownRise_eq (t : Nat) (d : Device) :
    pownRise t d = if redState d = 5 ∧ ownMode d = 1 then ownWrite 2 t (pownHigh t d) else pownHigh t d := by
  have h : pownRise t d =
      if redState (pownHigh t d) = 5 ∧ ownMode (pownHigh t d) = 1 then ownWrite 2 t (pownHigh t d) else pownHigh t d := rfl
  rw [h, redState_pownHigh, ownMode_pownHigh]

theorem handoverTimeout_of_due {t h : Nat} {d : Device} (hh : d.red.handAt = some h) (hr : redState d = 4)
    (hm : ownMode d = 1) (ht : h + us 50 ≤ t) : handoverTimeout t d = setRedState d 6 := by
  simp only [handoverTimeout, hh, hr, hm, ht, and_self, if_true]

theorem silentTakeover_of_quiet {t r f : Nat} {d : Device} (hr : redState d = 3) (hl : d.red.lastRx = some r)
    (ht : r + 2 * t0Time d ≤ t) (hp : d.red.pownHighAt = some f) (hf : f + us 25 ≤ t) :
    silentTakeover t d =
      if stateStale t d then staleStay d
      else ownWrite 2 t (ownWrite 1 t (setRedState { d with red := { d.red with takeFrom := some t } } 5)) := by
  simp only [silentTakeover, hr, hl, ht, hp, hf, decide_true, and_self, if_true]

/-- Settles O33: the commands of `RED_CTRL` and the edges of the partner's signals, by the state of the unit. The control
frame of a yield is log 95, the signals' bits log 101, the stop cause 3 of a yield log 102. -/
theorem theHandover : Obligations.TheHandover := by
  refine ⟨?yield, ?inhibit, ?fall, ?stale, ?yieldEnds, ?rise, ?riseElse, ?timeout, ?silent, ?silentStale⟩
  case yield =>
    rintro s t d rfl h1 h6 hp hr hs
    exact ⟨_, done_whileOn_two s h1 h6 (if_pos ⟨hp, hr, hs⟩), _, rfl, rfl⟩
  case inhibit =>
    rintro s t d rfl h1 h6
    exact ⟨done_whileOn_two s h1 h6 rfl, done_whileOn_two s h1 h6 rfl⟩
  case fall =>
    rintro s t d e rfl h1 hp hr rfl hs
    exact done_whileOn_one s h1 (phandFall_of_standby hp hr hs)
  case stale =>
    rintro s t d rfl h1 hp hr hs
    exact done_whileOn_one s h1 (phandFall_of_stale hp hr hs)
  case yieldEnds =>
    rintro s t d rfl h1 hp hr hm
    exact done_whileOn_one s h1 (phandFall_of_yielding hp hr hm)
  case rise =>
    rintro s t d rfl h1 hr hm
    exact done_whileOn_one s h1 ((pownRise_eq t _).trans (if_pos ⟨hr, hm⟩))
  case riseElse =>
    rintro s t d rfl h1 hr
    exact done_whileOn_one s h1 ((pownRise_eq t _).trans (if_neg fun h => hr h.1))
  case timeout =>
    rintro s t d h rfl h1 hh hr hm ht
    exact done_whileOn_one s h1 (handoverTimeout_of_due hh hr hm ht)
  case silent =>
    rintro s t d r f rfl h1 hr hl ht hp hf hs
    exact done_whileOn_one s h1 ((silentTakeover_of_quiet hr hl ht hp hf).trans (if_neg (Bool.eq_false_iff.mp hs)))
  case silentStale =>
    rintro s t d r f rfl h1 hr hl ht hp hf hs
    exact done_whileOn_one s h1 ((silentTakeover_of_quiet hr hl ht hp hf).trans (if_pos hs))

/-! ### The takeover boundary -/

theorem calUse_red (d : Device) (p : CalPass) : (calUse d p).red = d.red := by
  unfold calUse
  extract_lets
  rw [wrB_red, wr_red, wr_red, wr_red]

theorem calUse_tomus (d : Device) (p : CalPass) : (calUse d p).tomus = d.tomus := by
  unfold calUse
  extract_lets
  rw [wrB_tomus, wr_tomus, wr_tomus, wr_tomus]

theorem rsmBoundaryT0_red (d : Device) : (rsmBoundaryT0 d).red = d.red := by
  unfold rsmBoundaryT0
  split
  · unfold rsmFade rsmUnsettle
    extract_lets n
    dsimp only
    rw [wrB_red]
  · rfl

theorem rsmBoundaryT0_tomus (d : Device) : (rsmBoundaryT0 d).tomus = d.tomus := by
  unfold rsmBoundaryT0
  split
  · unfold rsmFade rsmUnsettle
    extract_lets n
    dsimp only
    rw [wrB_tomus]
  · rfl

theorem calBoundaryT0_red (d : Device) : (calBoundaryT0 d).red = d.red :=
  each_proj (p := Device.red) calUse_red _ d

theorem calBoundaryT0_tomus (d : Device) : (calBoundaryT0 d).tomus = d.tomus :=
  each_proj (p := Device.tomus) calUse_tomus _ d

theorem refBoundaryT0_red (d : Device) : (refBoundaryT0 d).red = d.red :=
  (wrI_red ..).trans (wrI_red ..)

theorem refBoundaryT0_tomus (d : Device) : (refBoundaryT0 d).tomus = d.tomus :=
  (wrI_tomus ..).trans (wrI_tomus ..)

/-- What the takeover boundary abandons: the changes of the configuration, the sessions and the forwarded entries. -/
def takeoverAbandon (d : Device) : Device :=
  { d with cfg := { d.cfg with change := none, applyAt := none },
           tomus := { d.tomus with sessions := [] },
           red := { d.red with takeFrom := none, forwarded := [], stopTx := false, mirrorDue := true } }

/-- What the takeover boundary does of every T0 boundary's work. -/
def takeoverPass (d : Device) : Device :=
  refBoundaryT0 (calBoundaryT0 (rsmBoundaryT0 (wrB d Addr.SYS_CFG_STAT 0 false)))

/-- The end of a takeover: ACTIVE, the handover counted and its time shown. -/
def takeoverEnd (t : Nat) (d : Device) : Device :=
  let d := setHand (wrB (setRedState d 2) Addr.RED_STAT 13 false) false t
  wr64 (count d Addr.RED_HANDOVER_CNT) Addr.RED_HO_TIME_LO (d.time.read t)

theorem takeoverPass_red (d : Device) : (takeoverPass d).red = d.red := by
  simp only [takeoverPass, refBoundaryT0_red, calBoundaryT0_red, rsmBoundaryT0_red, wrB_red]

theorem takeoverPass_tomus (d : Device) : (takeoverPass d).tomus = d.tomus := by
  simp only [takeoverPass, refBoundaryT0_tomus, calBoundaryT0_tomus, rsmBoundaryT0_tomus, wrB_tomus]

theorem takeoverEnd_red (t : Nat) (d : Device) : (takeoverEnd t d).red = { d.red with handAt := none } := by
  simp only [takeoverEnd, wr64, wr_red, count_red, setHand, wrB_red, setRedState, wrF_red, Bool.false_eq_true, if_false]

theorem takeoverEnd_tomus (t : Nat) (d : Device) : (takeoverEnd t d).tomus = d.tomus := by
  simp only [takeoverEnd, wr64, wr_tomus, count_tomus, setHand, wrB_tomus, setRedState, wrF_tomus]

theorem rd_setHand (d : Device) (low : Bool) (t : Nat) :
    rd (setHand d low t) Addr.RED_STAT = rd (wrB d Addr.RED_STAT 12 low) Addr.RED_STAT := rfl

/-- `RED_STAT` after a takeover: the count and the time of the handover leave it alone. -/
theorem takeoverEnd_redStat (t : Nat) (d : Device) :
    rd (takeoverEnd t d) Addr.RED_STAT =
      rd (wrB (wrB (setRedState d 2) Addr.RED_STAT 13 false) Addr.RED_STAT 12 false) Addr.RED_STAT := by
  unfold takeoverEnd wr64
  rw [rd_wr_ne _ _ (by decide), rd_wr_ne _ _ (by decide), ← rd_setHand _ false t]
  refine rd_countBy_ne _ _ 1 _ (by decide) fun r j h => ?_
  have hovf : CntMap.ovf? Addr.RED_HANDOVER_CNT = some (1081114672, 5) := by decide +kernel
  rw [hovf] at h
  simp only [Option.some.injEq, Prod.mk.injEq] at h
  rw [← h.1]
  decide

theorem takeoverEnd_state (t : Nat) (d : Device) : redState (takeoverEnd t d) = 2 :=
  calc redState (takeoverEnd t d)
    _ = redState (wrB (wrB (setRedState d 2) Addr.RED_STAT 13 false) Addr.RED_STAT 12 false) :=
        congrArg (field · 0 3) (takeoverEnd_redStat t d)
    _ = 2 := by rw [redState_wrB _ _ (by decide), redState_wrB _ _ (by decide), redState_setRedState]

theorem takeoverEnd_fresh (t : Nat) (d : Device) : rdB (takeoverEnd t d) Addr.RED_STAT 13 = false :=
  calc rdB (takeoverEnd t d) Addr.RED_STAT 13
    _ = rdB (wrB (wrB (setRedState d 2) Addr.RED_STAT 13 false) Addr.RED_STAT 12 false) Addr.RED_STAT 13 :=
        congrArg (bit · 13) (takeoverEnd_redStat t d)
    _ = false := by rw [rdB_wrB_ne _ _ _ _ _ _ (.inr (by decide)), rdB_wrB_same _ _ _ _ (by decide)]

theorem takeoverEnd_hand (t : Nat) (d : Device) : rdB (takeoverEnd t d) Addr.RED_STAT 12 = false :=
  calc rdB (takeoverEnd t d) Addr.RED_STAT 12
    _ = rdB (wrB (wrB (setRedState d 2) Addr.RED_STAT 13 false) Addr.RED_STAT 12 false) Addr.RED_STAT 12 :=
        congrArg (bit · 12) (takeoverEnd_redStat t d)
    _ = false := rdB_wrB_same _ _ _ _ (by decide)

/-- The takeover boundary ends with the latch of the tasks that begin, and with the first image of the new active unit. -/
theorem takeoverBoundary_of_due {t f cycle : Nat} {bs : List Byte} {d : Device} (hf : d.red.takeFrom = some f)
    (hi : d.red.image = some (cycle, bs)) (hr : redState d = 5) (hm : ownMode d = 2) (ht : f + us 9 ≤ t) :
    ∃ (y : Device) (cs : List CommitEntry),
      takeoverBoundary t d =
        (let x := takeoverEnd t (takeoverPass (takeoverAbandon y))
         imageSend cs false true t (latchTasks (startingTasks x) (t + 2 * ckf) x)) := by
  unfold takeoverBoundary
  simp only [hf, hi, hr, hm, ht, and_self, if_true]
  exact ⟨_, _, rfl⟩

/-! ### Takeback, and the start of a pair -/

theorem takebackRequest_of_allowed {t since : Nat} {d : Device} (hp : paired d = true) (hb : unitB d = false)
    (hr : redState d = 3) (hs : pairSync d = true) (ha : d.red.syncAt = some since)
    (ht : since + sec (rdF d Addr.RED_TIMES 16 12) ≤ t) (hm : 1000 ≤ rdN d Addr.RED_MATCH)
    (h7 : rdB d Addr.RED_STAT 7 = false) (h8 : rdB d Addr.RED_STAT 8 = false) (ho : (rdI d Addr.RED_OFFSET).natAbs < 1000)
    (h14 : rdB d Addr.RED_STAT 14 = false)
    (hc : rdF d Addr.RED_CFG 1 2 = 1 ∨ rdF d Addr.RED_CFG 1 2 = 2 ∧ partnerDisabled d = true) :
    takebackRequest t d = controlFrame d 0 1 [] := by
  unfold takebackRequest
  rw [ha]
  exact if_pos ⟨hp, hb, hr, hs, decide_eq_true ht, hm, h7, h8, ho, h14, hc⟩

/-- The level of `POWN_N` is no part of the partner's state, the kind of the reset or the unit's place. -/
theorem pownRead_partner (low : Bool) (t : Nat) (d : Device) : (pownRead low t d).red.partner = d.red.partner := by
  simp only [pownRead, wrB_red]

theorem pownRead_resetCause (low : Bool) (t : Nat) (d : Device) :
    rdF (pownRead low t d) Addr.PWR_RST_CAUSE 0 8 = rdF d Addr.PWR_RST_CAUSE 0 8 :=
  rdF_wrB_ne d _ _ _ _ _ _ (.inl (by decide))

theorem pownRead_unitB (low : Bool) (t : Nat) (d : Device) : unitB (pownRead low t d) = unitB d :=
  rdB_wrB_ne d _ _ _ _ _ (.inr (by decide))

/-- How a paired unit settles that has reported ready. -/
theorem pairStart_of_starting {low lowThen : Bool} {t : Nat} {d : Device} (hp : paired d = true) (hr : redState d = 1)
    (hu : unitReady d = true) :
    pairStart low lowThen t d =
      if d.red.partner = 2 ∨ low = true ∨ rdF d Addr.PWR_RST_CAUSE 0 8 = 8 then standbyEnter t (pownRead low t d)
      else if unitB d then pownRead low t d
      else tryActive (!lowThen) t (pownRead low t d) := by
  simp only [pairStart, hp, hr, hu, and_self, if_true, pownRead_partner, pownRead_resetCause, pownRead_unitB]

theorem startWaitExpiry_of_unheard {low lowThen : Bool} {t r : Nat} {d : Device} (ha : d.red.readyAt = some r)
    (hl : d.red.lastRx = none) (hp : paired d = true) (hr : redState d = 1) (hb : unitB d = true)
    (ht : r + ms (rdF d Addr.RED_TIMES 0 14) ≤ t) :
    startWaitExpiry low lowThen t d =
      if low then standbyEnter t (pownRead low t d) else tryActive (!lowThen) t (pownRead low t d) := by
  simp only [startWaitExpiry, ha, hl, hp, hr, hb, ht, and_self, if_true]

/-- Settles O34: the takeover boundary by its last steps, the takeback by its conditions, and the start of a pair by what
each unit reads. The takeback's control code is log 95. -/
theorem takingControl : Obligations.TakingControl := by
  refine ⟨?boundary, ?takeback, ?low, ?high, ?standby, ?wait, fun _ _ => rfl⟩
  case boundary =>
    rintro s t d f cycle bs rfl h1 hf hi hr hm ht
    obtain ⟨y, cs, h⟩ := takeoverBoundary_of_due hf hi hr hm ht
    refine ⟨_, done_whileOn_one s h1 h, takeoverEnd t (takeoverPass (takeoverAbandon y)), cs, takeoverEnd_state ..,
      takeoverEnd_fresh .., takeoverEnd_hand .., ?_, ?_, ?_, rfl⟩
    · rw [takeoverEnd_red, takeoverPass_red]
      rfl
    · rw [takeoverEnd_red, takeoverPass_red]
      rfl
    · rw [takeoverEnd_tomus, takeoverPass_tomus]
      rfl
  case takeback =>
    rintro s t d since rfl h1 h6 hp hb hr hs ha ht hm h7 h8 ho h14 hc
    exact done_whileOn_two s h1 h6 (takebackRequest_of_allowed hp hb hr hs ha ht hm h7 h8 ho h14 hc)
  case low =>
    rintro s t d e lowThen rfl h1 hp hr hu rfl
    exact done_whileOn_one s h1 ((pairStart_of_starting hp hr hu).trans (if_pos (.inr (.inl rfl))))
  case high =>
    rintro s t d e lowThen rfl h1 hp hr hu hb hn hc rfl
    refine done_whileOn_one s h1 ((pairStart_of_starting hp hr hu).trans ((if_neg ?_).trans ?_))
    · exact fun h => h.elim hn fun h => h.elim Bool.false_ne_true hc
    · exact if_neg (Bool.eq_false_iff.mp hb)
  case standby =>
    rintro s t d e lowThen rfl h1 hp hr hu hc rfl
    exact done_whileOn_one s h1 ((pairStart_of_starting hp hr hu).trans (if_pos (hc.imp_right .inr)))
  case wait =>
    rintro s t d e r low lowThen rfl h1 ha hl hp hr hb ht rfl
    exact done_whileOn_one s h1 (startWaitExpiry_of_unheard ha hl hp hr hb ht)

end Sys2Proof.Proofs.Redundancy

/-! The Filut link, Ethernet and PRP, CAN FD, PTP and the timebase (R355 to R372, R380 to R386). -/

namespace Sys2Proof.Proofs.Network

open Sys2Proof Sys2Proof.Machine Sys2Proof.Laws Sys2Proof.Proofs.Commands Sys2Proof.Proofs.Redundancy

/-! ### The Filut link -/

theorem filutRx_of_badCrc {bs : List Byte} {start t : Nat} {d : Device} (hr : filutRuns d = true)
    (hc : crc32c (bs.take (bs.length - 4)) ≠ sliceLE bs (bs.length - 4) 4) :
    filutRx bs start t d =
      { count d Addr.RED_CRC_CNT with red := { (count d Addr.RED_CRC_CNT).red with rxRun := 0 } } := by
  simp only [filutRx, hr, if_true]
  exact if_pos (.inr hc)

/-- The first status frame is taken whatever its sequence. -/
theorem filutRx_first_status {bs : List Byte} {start t : Nat} {d : Device} (hr : filutRuns d = true) (hl : 36 ≤ bs.length)
    (hc : crc32c (bs.take (bs.length - 4)) = sliceLE bs (bs.length - 4) 4) (hm : sliceLE bs 0 2 = 0x5057)
    (hy : sliceLE bs 2 1 = 4) (hn : bs.length = sliceLE bs 28 2 + 36) (hs : d.red.rxSeq[4]? = some none) :
    filutRx bs start t d =
      showLink (statusTake ((bs.drop 32).take (sliceLE bs 28 2)) { d with red := { d.red with
        rxSeq := d.red.rxSeq.set! 4 (some (sliceLE bs 4 4)), rxRun := d.red.rxRun + 1, lastRx := some t } }) := by
  have hgood : ¬ (bs.length < 36 ∨ crc32c (bs.take (bs.length - 4)) ≠ sliceLE bs (bs.length - 4) 4) := by
    rintro (h | h)
    · exact h.not_ge hl
    · exact h hc
  have hform : ¬ (sliceLE bs 0 2 ≠ 0x5057 ∨ (4 : Nat) = 0 ∨ 5 < 4 ∨ bs.length ≠ sliceLE bs 28 2 + 36) := by
    rintro (h | h | h | h)
    · exact h hm
    · exact absurd h (by decide)
    · exact absurd h (by decide)
    · exact h hn
  simp only [filutRx, hr, if_true, hy, if_neg hgood, if_neg hform, hs, Option.getD_some]

/-- The unit that hears no partner. -/
def filutQuiet (d : Device) : Device :=
  wrB { d with red := { d.red with rxRun := 0, peerUp := false } } Addr.RED_STAT 6 false

theorem redState_filutQuiet (d : Device) : redState (filutQuiet d) = redState d :=
  redState_wrB { d with red := _ } _ (by decide)

theorem filutDown_of_quiet {t r : Nat} {d : Device} (hl : d.red.lastRx = some r) (ht : r + 2 * t0Time d ≤ t) :
    filutDown t d = if redState d = 2 then wrB (filutQuiet d) Addr.RED_STAT 5 false else filutQuiet d := by
  rw [← redState_filutQuiet]
  simp only [filutDown, hl, ht, decide_true, if_true, filutQuiet]

theorem filutSend_of_running {type flags cycle time : Nat} {payload : List Byte} {d : Device} (h : filutRuns d = true) :
    filutSend d type flags cycle time payload =
      (let seq := (d.red.txSeq[type]?).getD 0
       let body := filutHeader d type flags seq cycle time payload.length ++ payload
       let e := countWrap d Addr.RED_TX_CNT Addr.RED_TX_WRAP
       { e with red := { e.red with txSeq := e.red.txSeq.set! type ((seq + 1) % 2 ^ 32) },
                out := e.out ++ [(.filut, body ++ bytesLE 4 (crc32c body))] }) :=
  if_pos h

/-- A segment of the T1 image, where no mirror is due or under way. -/
theorem segmentSend_of_image {t : Nat} {d : Device} (hr : redState d = 2) (hs : d.red.stopTx = false)
    (hf : filutRuns d = true) (hd : d.red.mirrorDue = false) (hm : d.red.mirrorTx = []) (h1 : d.red.t1Tx ≠ [])
    (hn : 0 < segmentRoom d (max t d.red.txEnd)) :
    segmentSend t d =
      (let start := max t d.red.txEnd
       let bs := d.red.t1Tx.take (min 4088 (segmentRoom d start))
       let e := filutSend d 2 0 d.red.t1TxAt (ialos d) (bytesLE 4 d.red.t1TxOff ++ bytesLE 4 d.red.t1TxAt ++ bs)
       { e with red := { e.red with
         t1Tx := e.red.t1Tx.drop (min 4088 (segmentRoom d start)), t1TxOff := e.red.t1TxOff + bs.length,
         txEnd := start + linkTime (bs.length + 52) } }) := by
  have hz : ¬ min 4088 (segmentRoom d (max t d.red.txEnd)) = 0 := by omega
  simp only [segmentSend, hr, hs, hf, hd, hm, and_self, if_true, Bool.false_eq_true, if_false, ne_eq, not_true_eq_false,
    not_false_eq_true, h1, if_neg hz]

/-- Settles O35: the frames by the checks that they pass. That the first frame of a type is taken is log 98, that the loss
of the link keeps SYNC outside the active unit log 103, the status payload log 95. -/
theorem theFilutLink : Obligations.TheFilutLink := by
  refine ⟨?crc, ?status, ?down, ?downActive, ?segment, fun _ _ _ _ _ _ h => filutSend_of_running h⟩
  case crc =>
    rintro s t d start bs rfl h1 h6 hr hc
    exact done_whileOn_two s h1 h6 (filutRx_of_badCrc hr hc)
  case status =>
    rintro s t d start bs rfl h1 h6 hr hl hc hm hy hn hs
    exact done_whileOn_two s h1 h6 (filutRx_first_status hr hl hc hm hy hn hs)
  case down =>
    rintro s t d r rfl h1 h6 hl ht hr
    exact done_whileOn_two s h1 h6 ((filutDown_of_quiet hl ht).trans (if_neg hr))
  case downActive =>
    rintro s t d e r rfl h1 h6 hl ht hr rfl
    exact done_whileOn_two s h1 h6 ((filutDown_of_quiet hl ht).trans (if_pos hr))
  case segment =>
    rintro s t d rfl h1 h6 hr hs hf hd hm h1' hn
    exact done_whileOn_two s h1 h6 (segmentSend_of_image hr hs hf hd hm h1' hn)

/-! ### Ethernet and PRP -/

theorem ethRx_of_dropped {n : Fin 2} {f : List Byte} {ts tx t : Nat} {d : Device} (ho : ethOn d n.1 = true)
    (hm : macTakes d f = false) : ethRx n f ts tx t d = count d (Addr.ETH_RXDROP_CNT n.1) := by
  simp only [ethRx, ho, hm, if_true, Bool.false_eq_true, if_false]

theorem ethRx_ptp {n : Fin 2} {f p : List Byte} {ts tx t : Nat} {d : Device} (ho : ethOn d n.1 = true)
    (hm : macTakes d f = true) (hb : frameBody f = (0x88F7, p)) : ethRx n f ts tx t d = ptpRx n p ts tx t d := by
  simp only [ethRx, ho, hm, hb, if_true]

/-- Without PRP no frame is a duplicate. -/
theorem ethRx_arp {n : Fin 2} {f p : List Byte} {ts tx t : Nat} {d : Device} (ho : ethOn d n.1 = true)
    (hm : macTakes d f = true) (hb : frameBody f = (0x0806, p)) (hp : prpOn d = false) :
    ethRx n f ts tx t d = arpRx n.1 p d := by
  simp only [ethRx, ho, hm, hb, hp, if_true, if_neg (show ¬ (0x0806 : Nat) = 0x88F7 by decide), Bool.false_eq_true, if_false]

theorem ethRx_ip {n : Fin 2} {f p : List Byte} {ts tx t : Nat} {d : Device} (ho : ethOn d n.1 = true)
    (hm : macTakes d f = true) (hb : frameBody f = (0x0800, p)) (hp : prpOn d = false) :
    ethRx n f ts tx t d = ipRx n.1 ((f.drop 6).take 6) p t d := by
  simp only [ethRx, ho, hm, hb, hp, if_true, if_neg (show ¬ (0x0800 : Nat) = 0x88F7 by decide), Bool.false_eq_true, if_false]

theorem ethRx_of_duplicate {n : Fin 2} {f : List Byte} {ts tx t seq : Nat} {d : Device} (ho : ethOn d n.1 = true)
    (hm : macTakes d f = true) (hn : (frameBody f).1 ≠ 0x88F7) (hp : prpOn d = true) (hs : prpSeq? f = some seq)
    (hd : (prpSee (natBE ((f.drop 6).take 6)) seq n.1 t d).1 = true) :
    ethRx n f ts tx t d = (prpSee (natBE ((f.drop 6).take 6)) seq n.1 t d).2 := by
  simp only [ethRx, ho, hm, if_true, if_neg hn, hp, hs, hd]

/-- A port that gains link at the PHY's speed. -/
theorem linkChange_up {n : Fin 2} {speed t : Nat} {d : Device} (hf : rdF d Addr.NET_CFG (4 + 2 * n.1) 2 = 0) :
    linkChange n true speed t d =
      (let e := wrF (wrB d Addr.ETH_LINK n.1 true) Addr.ETH_LINK (2 + 2 * n.1) 2 (speed % 4)
       let y := stationsFollow (elect false (updPort e n (fun p => { p with heardAt := t })))
       if rdF y Addr.ETH_LINK 0 2 = 0 then timeHoldover t y else y) := by
  simp only [linkChange, hf, if_true]

theorem ethOut_of_plain {n : Nat} {f : List Byte} {d : Device} (hp : prpOn d = false) (ho : ethOn d n = true) :
    ethOut n f d = { d with out := d.out ++ [(.eth n, f)] } :=
  (if_neg (Bool.eq_false_iff.mp hp)).trans (if_pos ho)

/-- Settles O36: the frames by what the MAC takes and by their type. The bytes of the supervision frame are log 114, the
duplicates log 116. -/
theorem ethernetAndPrp : Obligations.EthernetAndPrp := by
  refine ⟨?dropped, ?ptp, ?arp, ?ip, ?duplicate, ?link, ?supervision, fun _ _ _ hp ho => ethOut_of_plain hp ho⟩
  case dropped =>
    rintro s t d n f ts tx rfl h1 h6 ho hm
    exact done_whileOn_two s h1 h6 (ethRx_of_dropped ho hm)
  case ptp =>
    rintro s t d n f ts tx rfl h1 h6 ho hm hb
    exact done_whileOn_two s h1 h6 (ethRx_ptp ho hm (Prod.ext hb rfl))
  case arp =>
    rintro s t d n f ts tx rfl h1 h6 ho hm hb hp
    exact done_whileOn_two s h1 h6 (ethRx_arp ho hm (Prod.ext hb rfl) hp)
  case ip =>
    rintro s t d n f ts tx rfl h1 h6 ho hm hb hp
    exact done_whileOn_two s h1 h6 (ethRx_ip ho hm (Prod.ext hb rfl) hp)
  case duplicate =>
    rintro s t d n f ts tx seq rfl h1 h6 ho hm hn hp hs hd
    exact done_whileOn_two s h1 h6 (ethRx_of_duplicate ho hm hn hp hs hd)
  case link =>
    rintro s t d e n speed rfl h1 h6 hf rfl
    exact ⟨_, done_whileOn_two s h1 h6 (linkChange_up hf), _, rfl, rfl⟩
  case supervision =>
    rintro s t d rfl h1 h6 hp
    exact done_whileOn_two s h1 h6 (if_pos hp)

/-! ### CAN FD -/

theorem canRx_of_room {c : Fin 2} {ident t : Nat} {ext : Bool} {bs : List Byte} {d : Device} (hc : canOn d c.1 = true)
    (he : ext = rdB d (Addr.CAN_CFG c.1) 1) :
    canRx c ident ext true true bs t d =
      if ident = rdF d (Addr.CAN_TRXID c.1) 0 29 then packetRx (3 + c.1) (.can c.1) bs t d
      else stationFrame (1 + c.1) ident bs t d := by
  simp only [canRx, hc, he, Bool.and_self, if_true, Bool.true_eq_false, if_false, ne_eq, not_true_eq_false]

/-- A classical frame is ignored. -/
theorem canRx_classical {c : Fin 2} {ident t : Nat} {ext room : Bool} {bs : List Byte} (d : Device) :
    canRx c ident ext false room bs t d = d := by
  simp only [canRx, Bool.and_false, Bool.false_eq_true, if_false]

theorem canRx_of_full {c : Fin 2} {ident t : Nat} {ext : Bool} {bs : List Byte} {d : Device} (hc : canOn d c.1 = true) :
    canRx c ident ext true false bs t d = count d (Addr.CAN_RXLOST_CNT c.1) := by
  simp only [canRx, hc, Bool.and_self, if_true]

/-- Settles O37: a received frame by its kind, the room and its identifier, and the controller's bus-off. That the error
counters read 0 after the recovery is log 122. -/
theorem canFd : Obligations.CanFd := by
  refine ⟨?classical, ?full, ?tomus, ?station, ?busOff, ?recovery⟩
  case classical =>
    rintro s t d c ident ext room bs rfl h1 h6
    exact done_whileOn_two s h1 h6 (canRx_classical _)
  case full =>
    rintro s t d c ident ext bs rfl h1 h6 hc
    exact done_whileOn_two s h1 h6 (canRx_of_full hc)
  case tomus =>
    rintro s t d c ident ext bs rfl h1 h6 hc he hi
    exact done_whileOn_two s h1 h6 ((canRx_of_room hc he).trans (if_pos hi))
  case station =>
    rintro s t d c ident ext bs rfl h1 h6 hc he hi
    exact done_whileOn_two s h1 h6 ((canRx_of_room hc he).trans (if_neg hi))
  case busOff =>
    rintro s t d c rfl h1 h6 hc
    exact done_whileOn_two s h1 h6 (if_pos hc)
  case recovery =>
    rintro s t d c rfl h1 h6 hs
    exact done_whileOn_two s h1 h6 (if_pos ⟨h6, hs⟩)

/-! ### The messages of PTP -/

section
variable {n : Fin 2} {m : List Byte} {ts tx t src : Nat} {a : Announce} {d : Device}

/-- A Sync on the slave port from its master, or a message of the same length. -/
theorem syncRx_of_slave (hp : ptpOn d n.1 = true) (hv : ptpValid d m = true) (hr : (d.net.ports[n.1]).role = .slave)
    (hb : (d.net.ports[n.1]).best = some (src, a)) (hs : src = ptpSource m) (hl : 44 ≤ m.length) (ht : ptpType m = 0) :
    syncRx n m ts t d =
      if ptpTwoStep m then updPort d n (fun p => { p with sync := some (ptpSeq m, rxStamp d n.1 ts, ptpCorrection m) })
      else syncTaken n (ptpTime m 34) (ptpCorrection m) (rxStamp d n.1 ts) t d := by
  simp only [syncRx, hp, hv, hr, hb, hs, hl, ht, Option.map_some, and_self, if_true]

theorem announceRx_of_better (hp : ptpOn d n.1 = true) (hv : ptpValid d m = true) (ht : ptpType m = 11)
    (hl : 64 ≤ m.length) (hi : (readAnnounce m).identity ≠ natBE (clockIdentity d)) (hs : (readAnnounce m).steps < 255)
    (hk : keepOffer (d.net.ports[n.1]).best (ptpSource m) (readAnnounce m) = true) :
    announceRx n m t d =
      elect false (updPort d n (fun p => { p with best := some (ptpSource m, readAnnounce m), heardAt := t })) := by
  simp only [announceRx, hp, hv, ht, hl, hi, hs, hk, ne_eq, not_false_eq_true, and_self, if_true]

theorem pdelayRx_request (hp : ptpOn d n.1 = true) (hv : ptpValid d m = true) (hl : 54 ≤ m.length) (ht : ptpType m = 2) :
    pdelayRx n m ts tx d =
      ptpSend n.1 true (ptpMessage d n.1 3 (ptpSeq m)
        (ptpCorrection m + (txStamp d n.1 tx - rxStamp d n.1 ts) * 65536) 5 0x7F
        (zeros 10 ++ bytesBE 10 (ptpSource m))) d := by
  simp only [pdelayRx, hp, hv, hl, ht, and_self, if_true]

theorem pdelayRx_response {left : Int} (hp : ptpOn d n.1 = true) (hv : ptpValid d m = true) (hl : 54 ≤ m.length)
    (ht : ptpType m = 3) (ha : (d.net.ports[n.1]).pdelayAt = some left) (hi : (m.drop 44).take 10 = portIdentity d n.1)
    (hs : ptpSeq m = (d.net.ports[n.1]).seq) (h2 : ptpTwoStep m = false) :
    pdelayRx n m ts tx d = showPdelay n.1 ((rxStamp d n.1 ts - left) * 65536 - ptpCorrection m) d := by
  simp only [pdelayRx, hp, hv, hl, ht, ha, hi, hs, h2, beq_self_eq_true, Bool.and_self, Bool.true_eq_false,
    Bool.false_eq_true, and_self, if_true, if_false]

theorem intervalTx_of_not_master {tsSync tsReq : Nat} (hp : ptpOn d n.1 = true) (hr : (d.net.ports[n.1]).role ≠ .master) :
    intervalTx n tsSync tsReq d =
      (let seq := ((d.net.ports[n.1]).seq + 1) % 65536
       let e := ptpSend n.1 true (ptpMessage d n.1 2 seq 0 5 0 (zeros 20)) d
       updPort e n (fun p => { p with seq := seq, pdelayAt := some (txStamp e n.1 tsReq), resp := none })) := by
  simp only [intervalTx, hp, if_true, if_neg hr]

end

/-- Settles O38: the messages by their type and by the role of the port. Their layouts are log 114, the election log 118. -/
theorem thePtpMessages : Obligations.ThePtpMessages := by
  refine ⟨?sync, ?twoStep, ?announce, ?forget, ?request, ?response, ?interval⟩
  case sync =>
    rintro s t d n m ts src a rfl h1 h6 hp hv hr hb hs hl ht h2
    exact done_whileOn_two s h1 h6 ((syncRx_of_slave hp hv hr hb hs hl ht).trans (if_neg (Bool.eq_false_iff.mp h2)))
  case twoStep =>
    rintro s t d n m ts src a rfl h1 h6 hp hv hr hb hs hl ht h2
    exact done_whileOn_two s h1 h6 ((syncRx_of_slave hp hv hr hb hs hl ht).trans (if_pos h2))
  case announce =>
    rintro s t d n m rfl h1 h6 hp hv ht hl hi hs hk
    exact done_whileOn_two s h1 h6 (announceRx_of_better hp hv ht hl hi hs hk)
  case forget =>
    rintro s t d n rfl h1 h6 hp ht
    exact done_whileOn_two s h1 h6 (if_pos ⟨hp, ht⟩)
  case request =>
    rintro s t d n m ts tx rfl h1 h6 hp hv hl ht
    exact done_whileOn_two s h1 h6 (pdelayRx_request hp hv hl ht)
  case response =>
    rintro s t d n m ts tx left rfl h1 h6 hp hv hl ht ha hi hs h2
    exact done_whileOn_two s h1 h6 (pdelayRx_response hp hv hl ht ha hi hs h2)
  case interval =>
    rintro s t d n tsSync tsReq rfl h1 h6 hp hr
    exact done_whileOn_two s h1 h6 (intervalTx_of_not_master hp hr)

/-! ### The timebase -/

theorem rd_wr64_ne (d : Device) (a n : Nat) {b : Nat} (h : b ≠ a) (h' : b ≠ a + 4) : rd (wr64 d a n) b = rd d b :=
  (rd_wr_ne _ _ h').trans (rd_wr_ne d _ h)

theorem syncTimeout_of_due {t : Nat} {d : Device} (ht : d.net.syncAt + sec 3 ≤ t) (hs : timeState d = 2 ∨ timeState d = 3) :
    syncTimeout t d =
      updNet (setTimeState 4 d) (fun x => { x with holdFrom := some t, runIn := 0, runOut := 0 }) :=
  (if_pos ht).trans (if_pos hs)

theorem holdoverExpiry_of_due {t since : Nat} {d : Device} (hh : d.net.holdFrom = some since) (hs : timeState d = 4)
    (ht : since + sec (rdF d Addr.TIME_LIMS 20 12) ≤ t) : holdoverExpiry t d = wrB d Addr.TIME_STAT 3 true := by
  simp only [holdoverExpiry, hh, hs, ht, and_self, if_true]

theorem tppsFall_of_due {t since : Nat} {d : Device} (hp : d.net.tpps = some since) (ht : since + ms 100 ≤ t) :
    tppsFall t d = updNet d (fun x => { x with tpps := none }) := by
  simp only [tppsFall, hp, ht, if_true]

/-- The two captures of a second that begins at an instant. -/
def secondCapture (t : Nat) (d : Device) : Device :=
  wr64 (wr64 d (Addr.TIME_XCAP_IALOS_LO 0) (d.time.read t)) (Addr.TIME_XCAP_EDGE_LO 0) (edgeNow d t)

/-- The captures leave every register but their own. -/
theorem rd_secondCapture (t : Nat) (d : Device) {b : Nat}
    (h : b ∉ [Addr.TIME_XCAP_IALOS_LO 0, Addr.TIME_XCAP_IALOS_LO 0 + 4, Addr.TIME_XCAP_EDGE_LO 0,
      Addr.TIME_XCAP_EDGE_LO 0 + 4]) : rd (secondCapture t d) b = rd d b := by
  simp only [List.mem_cons, List.not_mem_nil, or_false, not_or] at h
  obtain ⟨h0, h1, h2, h3⟩ := h
  exact (rd_wr64_ne _ _ _ h2 h3).trans (rd_wr64_ne _ _ _ h0 h1)

theorem timeState_secondCapture (t : Nat) (d : Device) : timeState (secondCapture t d) = timeState d :=
  congrArg (field · 0 3) (rd_secondCapture t d (by decide))

/-- A second that begins in SYNC, its first edge at the instant itself. -/
theorem secondBoundary_of_sync {t : Nat} {d : Device} (hn : d.time.tickRead t / 1000000000 ≠ d.net.lastSec)
    (hw : d.time.total t < 2 ^ 64) (he : d.time.read t / 1000000000 = d.time.tickRead t / 1000000000)
    (hs : timeState d = 3) :
    secondBoundary t d =
      (let e := secondCapture t d
       updNet { e with power := { e.power with
           rtcSeconds := d.time.read t / 1000000000, rtcNanos := d.time.read t % 1000000000, rtcAt := t, vbakLost := false } }
         (fun x => { x with
           lastSec := d.time.tickRead t / 1000000000, tpps := if rdB d Addr.NET_CFG 3 then some t else x.tpps })) := by
  have hedge : ([t, t + 64].find? fun x => d.time.read x / 1000000000 == d.time.tickRead t / 1000000000) = some t :=
    List.find?_cons_of_pos (by rw [he]; exact beq_self_eq_true _)
  have hstate : timeState (secondCapture t d) = 3 := (timeState_secondCapture t d).trans hs
  have hshown (p : Power) : timeState { secondCapture t d with power := p } = 3 := hstate
  have hcfg (p : Power) : rdB { secondCapture t d with power := p } Addr.NET_CFG 3 = rdB d Addr.NET_CFG 3 :=
    congrArg (bit · 3) (rd_secondCapture t d (by decide))
  simp only [secondCapture] at hstate hshown hcfg
  simp only [secondBoundary, if_neg hn, hedge, Option.getD_some, if_neg hw.not_ge, hstate, hshown, hcfg, if_true,
    secondCapture, bne, Nat.reduceBEq, Bool.not_false, Bool.and_true]

/-- A counter told from an instant on counts as before. -/
theorem TimeBase.settle_fraction (b : TimeBase) {t u : Nat} (ht : b.at50 ≤ t) (hu : t ≤ u) :
    b.fraction t / 2 ^ 33 + (b.settle t).fraction u / 2 ^ 33 = b.fraction u / 2 ^ 33 := by
  have hsplit : b.fraction u = b.fraction t + (u / 64 - t / 64) * b.inc := by
    have hsum : u / 64 - b.at50 / 64 = (t / 64 - b.at50 / 64) + (u / 64 - t / 64) := by omega
    simp only [TimeBase.fraction, hsum, Nat.add_mul, Nat.add_assoc]
  have hafter : (b.settle t).fraction u = b.fraction t % 2 ^ 33 + (u / 64 - t / 64) * b.inc := by
    simp only [TimeBase.settle, TimeBase.fraction, Nat.mul_div_cancel _ (show 0 < 64 by decide)]
  rw [hsplit, hafter]
  omega

theorem TimeBase.settle_read (b : TimeBase) {t u : Nat} (ht : b.at50 ≤ t) (hu : t ≤ u) :
    (b.settle t).read u = b.read u := by
  have hf := settle_fraction b ht hu
  have hns : (b.settle t).ns = (b.ns + b.fraction t / 2 ^ 33) % 2 ^ 64 := rfl
  simp only [TimeBase.read, TimeBase.total, hns, ← hf]
  omega

theorem wr64_time (d : Device) (a n : Nat) : (wr64 d a n).time = d.time :=
  (wr_time ..).trans (wr_time ..)

theorem setTimeState_time (n : Nat) (d : Device) : (setTimeState n d).time = d.time := by
  unfold setTimeState
  extract_lets e
  rw [wrB_time, wrF_time]
  unfold e
  split
  · exact count_time ..
  · rfl

theorem timeRebase_time (ns' at' : Nat) (d : Device) :
    (timeRebase ns' at' d).time = { d.time with ns := ns', frac := 0, at50 := at' } := rfl

/-- The first offset steps the counter; it counts from there at the next tick. -/
theorem timeStep_time (offset : Int) (t : Nat) (d : Device) :
    (timeStep offset t d).time = { d.time with
      ns := (Int.emod ((d.time.read (nextTick t) : Int) - offset) (2 ^ 64)).toNat, frac := 0, at50 := nextTick t } := by
  unfold timeStep
  extract_lets at' now e
  rw [setTimeState_time, wrB_time, timeRebase_time]
  unfold e
  rw [wr64_time, wr64_time]

theorem timeOffset_first (offset : Int) (t : Nat) {d : Device} (h : rdB d Addr.TIME_STAT 4 = false) :
    timeOffset offset t d =
      (let e := wrI d Addr.TIME_OFFSET (clampI (-(2 ^ 31 - 1)) (2 ^ 31 - 1) offset)
       updNet (timeStep offset t (updNet e (fun x => { x with syncAt := t })))
         (fun x => { x with runIn := 0, runOut := 0, integral := 0 })) :=
  if_pos ((congrArg (bit · 4) (rd_wr_ne d _ (by decide))).trans h)

/-- Settles O39: the states of the timebase by what has passed, a second that begins in SYNC, and the counter. HOLDOVER
from LOCKING or SYNC only is log 119, the instant of a second's boundary log 121. -/
theorem theTimebase : Obligations.TheTimebase := by
  refine ⟨?timeout, ?holdover, ?second, ?tpps, fun o t _ h => timeOffset_first o t h, timeStep_time, ?settle⟩
  case timeout =>
    rintro s t d rfl h1 ht hs
    exact done_whileOn_one s h1 (syncTimeout_of_due ht hs)
  case holdover =>
    rintro s t d since rfl h1 hh hs ht
    exact done_whileOn_one s h1 (holdoverExpiry_of_due hh hs ht)
  case second =>
    rintro s t d e rfl h1 hn hw he hs rfl
    exact done_whileOn_one s h1 (secondBoundary_of_sync hn hw he hs)
  case tpps =>
    rintro s t d since rfl h1 hp ht
    exact done_whileOn_one s h1 (tppsFall_of_due hp ht)
  case settle =>
    intro b t ht
    exact ⟨Nat.div_mul_le_self t 64, Nat.mod_lt _ (by decide), Nat.mod_lt _ (by decide),
      fun u hu => TimeBase.settle_read b ht hu⟩

end Sys2Proof.Proofs.Network

/-! The grid-forming kernel: its calls, its transitions, and what a call may touch (R154 to R181). -/

namespace Sys2Proof.Proofs.Kernel

open Sys2Proof Sys2Proof.Machine Sys2Proof.Laws Sys2Proof.Proofs.Commands

/-! ### What a call may touch -/

/-- A unit that differs from another in the kernel's state part and in the result of a call only. -/
structure Keeps (ctx : Nat) (d e : Device) : Prop where
  rest : e = { d with mem := e.mem, busData := e.busData }
  bytes : ∀ a, a < ctx + 0x1C0 ∨ ctx + 0x3C0 ≤ a → memByte e a = memByte d a

theorem Keeps.refl (ctx : Nat) (d : Device) : Keeps ctx d d := ⟨rfl, fun _ _ => rfl⟩

/-- Every variable has its place in the state part. -/
theorem GfkVar.addr_bounds (ctx : Nat) (v : GfkVar) : ctx + 0x1C0 ≤ v.addr ctx ∧ v.addr ctx + 8 ≤ ctx + 0x3C0 := by
  have hidx : GfkVar.all.idxOf v < 64 := List.idxOf_lt_length_of_mem (by cases v <;> decide)
  simp only [GfkVar.addr]
  omega

section
variable {ctx : Nat} {d e : Device}

theorem Keeps.ksetN (h : Keeps ctx d e) (v : GfkVar) (n : Nat) : Keeps ctx d (ksetN e ctx v n) := by
  obtain ⟨hlo, hhi⟩ := GfkVar.addr_bounds ctx v
  refine ⟨?_, fun a ha => ?_⟩
  · rw [Machine.ksetN, putNat, putBytes_mem_only, h.rest]
  · rw [Machine.ksetN, putNat, memByte_putBytes_ne _ _ _ _ (by rw [length_bytesLE]; omega), h.bytes a ha]

theorem Keeps.ksetB (h : Keeps ctx d e) (v : GfkVar) (b : Bool) : Keeps ctx d (ksetB e ctx v b) := h.ksetN v _

theorem Keeps.kset (h : Keeps ctx d e) (v : GfkVar) (w : Word) : Keeps ctx d (kset e ctx v w) := h.ksetN v _

theorem Keeps.kreason (h : Keeps ctx d e) (r : Nat) : Keeps ctx d (kreason ctx r e) := h.ksetN _ _

theorem Keeps.krun (h : Keeps ctx d e) (v : GfkVar) (on : Bool) (dt : Nat) : Keeps ctx d (krun ctx v on dt e) :=
  h.ksetN _ _

theorem Keeps.ite {p : Prop} [Decidable p] {e' : Device} (h : Keeps ctx d e) (h' : Keeps ctx d e') :
    Keeps ctx d (if p then e else e') := by
  split <;> assumption

theorem Keeps.kgo (h : Keeps ctx d e) (s : Nat) : Keeps ctx d (kgo ctx s e) := by
  have hleft : Keeps ctx d (if kstate e ctx = 6 ∧ s ≠ 6 then _ else e) :=
    .ite ((((((h.ksetB .frt false).ksetB .recon false).ksetB .reconClose false).ksetB .hold false).kset .wOfs 0).ksetB
      .holdMax false) h
  exact ((((hleft.ksetN _ _).ksetN _ _).ksetN _ _).ksetN _ _).ksetN _ _

theorem Keeps.kOff (h : Keeps ctx d e) (r : Nat) : Keeps ctx d (kOff ctx r e) := ((h.kgo 0).ksetB _ _).kreason r

theorem Keeps.kTrip (h : Keeps ctx d e) (r : Nat) : Keeps ctx d (kTrip ctx r e) :=
  (((h.kgo 7).ksetB _ _).ksetB _ _).kreason r

theorem Keeps.kWait (h : Keeps ctx d e) : Keeps ctx d (kWait ctx e) := (h.kgo 1).ksetB _ _

theorem Keeps.kFromBus (h : Keeps ctx d e) : Keeps ctx d (kFromBus ctx e) := ((h.kset _ _).kset _ _).kset _ _

theorem Keeps.kSync (h : Keeps ctx d e) : Keeps ctx d (kSync ctx e) :=
  ((((h.kgo 4).ksetB _ _).kFromBus).kset _ _).kset _ _

theorem Keeps.kRamp (h : Keeps ctx d e) : Keeps ctx d (kRamp ctx e) :=
  (((((h.kgo 3).kset _ _).kset _ _).kset _ _).kset _ _).kset _ _

theorem Keeps.kForm (h : Keeps ctx d e) : Keeps ctx d (kForm ctx e) := (((h.kgo 6).kset _ _).kset _ _).kset _ _

variable (inp : Nat)

theorem Keeps.trimOne (h : Keeps ctx d e) (off : Nat) (last now : GfkVar) (step : Word) :
    Keeps ctx d (trimOne ctx inp off last now step e) := by
  unfold Machine.trimOne
  exact .kset (.ite (.ksetB (.ite (h.kset _ _) h) _ _) (.ite (h.kset _ _) h)) _ _

theorem Keeps.trims (h : Keeps ctx d e) : Keeps ctx d (trims ctx inp e) :=
  ((((h.ksetB _ _).trimOne inp _ _ _ _).trimOne inp _ _ _ _).trimOne inp _ _ _ _).trimOne inp _ _ _ _

theorem Keeps.estimate (h : Keeps ctx d e) : Keeps ctx d (estimate ctx inp e) :=
  (((((h.kset _ _).kset _ _).kset _ _).kset _ _).kset _ _).kset _ _

theorem Keeps.frtTrack (h : Keeps ctx d e) : Keeps ctx d (frtTrack ctx inp e) := by
  have hrun := h.ksetN .frtNs (kn e ctx .frtNs + gfkT0 e inp)
  unfold Machine.frtTrack
  exact .ite (.ite (.ite (hrun.ksetB _ _) (hrun.ksetN _ _)) (hrun.ksetN _ _))
    (.ite h (((h.ksetB _ _).ksetN _ _).ksetN _ _))

theorem Keeps.measCheck (h : Keeps ctx d e) : Keeps ctx d (measCheck ctx inp e) := by
  unfold Machine.measCheck
  exact .ite ((h.ksetB _ _).kTrip 3) (h.ksetB _ _)

theorem Keeps.kcommand (h : Keeps ctx d e) (cmd : Nat) : Keeps ctx d (kcommand ctx inp cmd e) := by
  have hclear := h.ksetB .open_ false
  unfold Machine.kcommand
  split
  · exact .ite h (.ite (h.kreason _) (.ite (h.kWait.ksetB _ _) (.ite (hclear.kFromBus.kset _ _).kForm (.ite hclear.kRamp h))))
  · exact .ite h ((h.kOff _).ksetB _ _)
  · exact .ite ((h.kgo _).ksetB _ _) h
  · exact .ite ((h.ksetB _ _).ksetN _ _) (h.kreason _)
  · exact (h.ksetB _ _).ksetB _ _
  · exact h

theorem Keeps.kmove (h : Keeps ctx d e) : Keeps ctx d (kmove ctx inp e) := by
  unfold Machine.kmove
  extract_lets dt kf rose dDead dLive wait dRun win dSync dWin
  have hl : Keeps ctx d dLive := (h.krun _ _ _).krun _ _ _
  have hr : Keeps ctx d dRun := h.krun _ _ _
  have hs : Keeps ctx d dSync := (hr.ksetB _ _).krun _ _ _
  have hw : Keeps ctx d dWin := hr.ksetB _ _
  split
  · exact .ite (hl.kTrip _) (.ite ((hl.kgo _).ksetB _ _) (.ite hl.kSync hl))
  · exact .ite (.ite hr.kRamp (hr.kTrip _)) (.ite hr.kWait (.ite (hr.kOff _) hr))
  · exact .ite h (h.kOff _)
  · exact .ite (hs.kTrip _) (.ite hs.kWait (.ite ((hs.kgo _).ksetB _ _) (.ite (hs.kOff _) hs)))
  · exact .ite hw.kForm (.ite (hw.kOff _) hw)
  · exact .ite h (.ite h.kSync (h.kOff _))
  · exact h

theorem Keeps.kreconnect (h : Keeps ctx d e) : Keeps ctx d (kreconnect ctx inp e) := by
  unfold Machine.kreconnect
  extract_lets live d1 c d2 win d3
  have h1 : Keeps ctx d d1 := h.krun _ _ _
  have h3 : Keeps ctx d d3 := ((h1.kset _ _).ksetB _ _).krun _ _ _
  exact .ite h (.ite ((h.ksetB _ _).ksetB _ _) (.ite (.ite (h3.ksetB _ _) h3) (h1.ksetN _ _)))

theorem Keeps.eLaw (h : Keeps ctx d e) : Keeps ctx d (eLaw ctx inp e) := by
  have hramp : Keeps ctx d (if kstate e ctx = 3 ∨ kstate e ctx = 4 ∨ kstate e ctx = 5 then _ else e) :=
    .ite (h.kset .ramp (F32.min (F32.ofInt 1) (F32.add (kv e ctx .ramp) (F32.div (gfkDt e inp) (kparF e ctx 0x63B 1000))))) h
  exact ((hramp.kset _ _).ksetB _ _).kset _ _

theorem Keeps.kholdTrack (h : Keeps ctx d e) (sum : Word) : Keeps ctx d (kholdTrack ctx inp sum e) := by
  unfold Machine.kholdTrack
  extract_lets lim past s ang top d1 below n dl d2
  have h1 : Keeps ctx d d1 := h.ksetB _ _
  have h2 : Keeps ctx d d2 := h1.ksetB _ _
  exact .ite ((h1.ksetB _ _).ksetB _ _) (.ite (.ite ((((h1.kset _ _).ksetB _ _).ksetB _ _).ksetB _ _) (h1.ksetN _ _))
    (.ite (((h2.kset _ _).ksetB _ _).ksetN _ _) h1))

theorem Keeps.terminal (h : Keeps ctx d e) : Keeps ctx d (terminal ctx inp e).2.2 := (h.kset _ _).ksetB _ _

theorem Keeps.swing (h : Keeps ctx d e) (wv : Word) : Keeps ctx d (swing ctx inp wv e) := by
  unfold Machine.swing
  extract_lets dt w wf td tq qf s lo hi
  split
  extract_lets dQ dW c fn wSync wset pset pref damp h2 wNext lim dLim
  have hq : Keeps ctx d dQ := .ite (h.kset _ _) h
  have hw : Keeps ctx d dW := .ite (hq.kset _ _) hq
  have hl : Keeps ctx d dLim := (hw.kset _ _).ksetB _ _
  exact .ite (((hw.kset _ _).kset _ _).ksetB _ _) (.ite (.ite ((hw.kset _ _).ksetB _ _) (hl.kset _ _)) (hw.ksetB _ _))

end

/-- The three phase references. -/
theorem length_gfkAbc (d : Device) (ctx : Nat) (i : Word × Word × Word × Word) (th : Word) :
    (gfkAbc d ctx i th).length = 3 := rfl

/-- The output block written into a unit that differs in the state part only. -/
def LeavesOutput (ctx inp out : Nat) (d e : Device) : Prop :=
  ∃ (x : Device) (i : Word × Word × Word × Word) (mid next : Word), Keeps ctx d x ∧
    e = gfkOut ctx inp out (gfkAbc x ctx i mid) next x

theorem Keeps.gfkLaw {ctx : Nat} {d e : Device} (h : Keeps ctx d e) (inp out : Nat) :
    LeavesOutput ctx inp out d (gfkLaw ctx inp out e) := by
  unfold Machine.gfkLaw
  extract_lets dWin dE refs sum dHold
  have hh : Keeps ctx d dHold := ((h.ksetB _ _).eLaw inp).kholdTrack inp _
  have ht : Keeps ctx d (Machine.terminal ctx inp dHold).2.2 := hh.terminal inp
  split
  rename_i thv wv dTerm hterm
  rw [hterm] at ht
  extract_lets held th w dSwing wb adv next mid i dTheta dForm
  have hs : Keeps ctx d dSwing := Keeps.swing inp ht wv
  split
  extract_lets values dTrip
  have hf : Keeps ctx d dForm := .ite (((hs.kset _ _).kForm.kset _ _).kset _ _) (hs.kset _ _)
  exact ⟨dTrip, i, mid, next, .ite hf (hf.kTrip 4), rfl⟩

/-- A call writes the output block, and before it the state part only. -/
theorem leavesOutput_gfkCall (ctx inp out cmd : Nat) (d : Device) :
    LeavesOutput ctx inp out d (gfkCall ctx inp out cmd d) := by
  unfold gfkCall
  extract_lets dTrims dMeas dFrt r dTrip dCmd s h dMove dRec dPrev
  have hm : Keeps ctx d dMeas := (((Keeps.refl ctx d).estimate inp).trims inp).measCheck inp
  have hf : Keeps ctx d dFrt := .ite (hm.frtTrack inp) hm
  have hc : Keeps ctx d dCmd := (Keeps.ite (hf.kTrip _) hf).kcommand inp cmd
  have hv : Keeps ctx d dMove := .ite (hc.kOff 7) (hc.kmove inp)
  exact (((hv.kreconnect inp).ksetB _ _).ksetB _ _).gfkLaw inp out

/-- The length of the words of the output block. -/
theorem length_words (l : List Word) : (l.flatMap fun w => bytesLE 4 w.toNat).length = 4 * l.length := by
  induction l with
  | nil => rfl
  | cons w l ih => rw [List.flatMap_cons, List.length_append, length_bytesLE, ih, List.length_cons]; omega

/-- A unit with 60 bytes and a result written. -/
def WritesOutput (out : Nat) (d e : Device) : Prop :=
  ∃ (bs : List Byte) (v : DWord), bs.length = 60 ∧ e = { putBytes d out bs with busData := v }

/-- The length of the phase references of the output block. -/
theorem length_phases (l : List Int) : (l.flatMap fun z => bytesLE 4 (wordOfInt z).toNat).length = 4 * l.length := by
  induction l with
  | nil => rfl
  | cons z l ih => rw [List.flatMap_cons, List.length_append, length_bytesLE, ih, List.length_cons]; omega

theorem gfkOut_writesOutput (ctx inp out : Nat) {l : List Int} (hl : l.length = 3) (th : Word) (d : Device) :
    WritesOutput out d (gfkOut ctx inp out l th d) := by
  unfold gfkOut
  extract_lets fn freq idle iref delta
  have hi : iref.length = 3 := by
    unfold iref
    split
    · rfl
    · exact hl
  split
  extract_lets bytes written
  refine ⟨bytes, _, ?_, rfl⟩
  simp only [bytes, List.length_append, length_phases, length_words, length_bytesLE, hi, List.length_cons, List.length_nil]

/-- Settles O43: every step of a call keeps to the state part, and the output block is written last. The bounds of the state
part are the layout of log 48. -/
theorem aKernelCallWritesItsOwnBlocks : Obligations.AKernelCallWritesItsOwnBlocks := by
  intro d ctx inp out cmd
  obtain ⟨x, i, mid, next, hx, heq⟩ := leavesOutput_gfkCall ctx inp out cmd d
  obtain ⟨bs, v, hbs, hout⟩ := gfkOut_writesOutput ctx inp out (length_gfkAbc x ctx i mid) next x
  rw [heq, hout]
  refine ⟨?_, fun a hctx ha => ?_⟩
  · rw [putBytes_mem_only, hx.rest]
  · exact (memByte_putBytes_ne x out a bs (by omega)).trans (hx.bytes a hctx)

/-! ### Transitions -/

section
variable {ctx inp : Nat} {d : Device}

/-- The unit as the call in CLOSE finds it, its timer run. -/
def closing (ctx inp : Nat) (d : Device) : Device := krun ctx .stateNs true (gfkT0 d inp) d

theorem kmove_of_closed (hs : kstate d ctx = 2) (hf : kfOwn d inp = true) :
    kmove ctx inp d =
      if busDead (closing ctx inp d) ctx inp then kRamp ctx (closing ctx inp d) else kTrip ctx 5 (closing ctx inp d) := by
  simp only [kmove, hs, hf, if_true, closing]
  exact if_congr Iff.rfl rfl rfl

theorem kmove_of_alive (hs : kstate d ctx = 2) (hf : kfOwn d inp = false)
    (hb : busDead (closing ctx inp d) ctx inp = false) : kmove ctx inp d = kWait ctx (closing ctx inp d) := by
  unfold closing at hb ⊢
  simp only [kmove, hs, hf, Bool.false_eq_true, if_false, hb, if_true]

theorem kmove_of_late (hs : kstate d ctx = 2) (hf : kfOwn d inp = false)
    (hb : busDead (closing ctx inp d) ctx inp = true)
    (ht : kms (closing ctx inp d) ctx 0x668 ≤ kn (closing ctx inp d) ctx .stateNs) :
    kmove ctx inp d = kOff ctx 8 (closing ctx inp d) := by
  unfold closing at hb ht ⊢
  simp only [kmove, hs, hf, Bool.false_eq_true, Bool.true_eq_false, if_false, hb, ht, if_true]

theorem kmove_of_ramp (hs : kstate d ctx = 3) : kmove ctx inp d = if kfOwn d inp then d else kOff ctx 6 d := by
  simp only [kmove, hs]

theorem kmove_of_form (hs : kstate d ctx = 6) :
    kmove ctx inp d =
      if kfOwn d inp then d else if kparN d ctx 0x66A = 1 then kSync ctx d else kOff ctx 6 d := by
  simp only [kmove, hs]

theorem kmove_of_idle (hs : kstate d ctx = 0 ∨ kstate d ctx = 7) : kmove ctx inp d = d := by
  obtain hs | hs := hs <;> simp only [kmove, hs]

/-- START from OFF. -/
theorem kcommand_start (hs : kstate d ctx = 0) (hk : kn d ctx .harness ≠ 15) (hf : kfOwn d inp = false) :
    kcommand ctx inp 1 d = ksetB (kWait ctx d) ctx .open_ false := by
  simp only [kcommand, hs, ne_eq, not_true_eq_false, if_false, if_neg hk, hf, if_true]

theorem kcommand_stop (h0 : kstate d ctx ≠ 0) (h7 : kstate d ctx ≠ 7) :
    kcommand ctx inp 2 d = ksetB (kOff ctx 10 d) ctx .open_ true := by
  simp only [kcommand, h0, h7, or_self, if_false]

theorem kcommand_reset :
    kcommand ctx inp 3 d = if kstate d ctx = 7 then ksetB (kgo ctx 0 d) ctx .selv false else d := by
  simp only [kcommand]

theorem kcommand_reconnect :
    kcommand ctx inp 4 d =
      if kstate d ctx = 6 ∧ kn d ctx .vrCh ≠ 255 then ksetN (ksetB d ctx .recon true) ctx .reconNs 0
      else kreason ctx 13 d := by
  simp only [kcommand]

theorem kcommand_start_unconfigured (hs : kstate d ctx = 0) (hk : kn d ctx .harness = 15) :
    kcommand ctx inp 1 d = kreason ctx 11 d := by
  simp only [kcommand, hs, ne_eq, not_true_eq_false, if_false, hk, if_true]

end

/-- Settles O42: each transition by the state's code and its condition. That START clears `OPEN` is log 51. -/
theorem theTransitionsOfTheKernel : Obligations.TheTransitionsOfTheKernel := by
  intro d ctx inp
  refine ⟨?unconfigured, ?start, ?stop, ?reset, ?resetElse, ?recon, ?reconElse, rfl, ?rampOn, ?rampOff, ?formOn,
    ?formSync, ?formOff, ?closed, ?alive, ?late, kmove_of_idle⟩
  case unconfigured => exact kcommand_start_unconfigured
  case start => exact kcommand_start
  case stop => exact kcommand_stop
  case reset => exact fun h => kcommand_reset.trans (if_pos h)
  case resetElse => exact fun h => kcommand_reset.trans (if_neg h)
  case recon => exact fun h hc => kcommand_reconnect.trans (if_pos ⟨h, hc⟩)
  case reconElse => exact fun h => kcommand_reconnect.trans (if_neg fun hc => h hc.1)
  case rampOn => exact fun hs hf => (kmove_of_ramp hs).trans (if_pos hf)
  case rampOff => exact fun hs hf => (kmove_of_ramp hs).trans (if_neg (Bool.eq_false_iff.mp hf))
  case formOn => exact fun hs hf => (kmove_of_form hs).trans (if_pos hf)
  case formSync =>
    exact fun hs hf hp => (kmove_of_form hs).trans ((if_neg (Bool.eq_false_iff.mp hf)).trans (if_pos hp))
  case formOff =>
    exact fun hs hf hp => (kmove_of_form hs).trans ((if_neg (Bool.eq_false_iff.mp hf)).trans (if_neg hp))
  case closed =>
    rintro e hs hf rfl
    exact kmove_of_closed hs hf
  case alive =>
    rintro e hs hf rfl hb
    exact kmove_of_alive hs hf hb
  case late =>
    rintro e hs hf rfl hb ht
    exact kmove_of_late hs hf hb ht

/-! ### Calls -/

theorem done_whileCores (s : State) {f : Device → Device} {d e : Device} (hc : (domOn d 2 || domOn d 3) = true)
    (h : f d = e) : done s (whileCores f d) = .next { s with dev := e } :=
  done_eq s ((if_pos hc).trans h)

theorem gfkCmd_of_block {ctx inp : Nat} {d : Device} (h : memNat d (inp + 4) 4 ≠ 0) :
    gfkCmd ctx inp d = memNat d (inp + 4) 4 := by
  unfold gfkCmd
  split
  · next h0 _ => exact absurd h0 h
  · rfl

theorem gfkCmd_of_placed {ctx inp k : Nat} {i : LoomImage} {d : Device} (h : memNat d (inp + 4) 4 = 0)
    (hk : d.loom.kernelNow = some k) (hi : d.loom.image = some i) (hc : i.kctx = ctx) : gfkCmd ctx inp d = k := by
  simp only [gfkCmd, h, hk, hi, hc, Option.map_some, Option.getD_some, if_true]

/-- A command code placed in the input block is the call's command. -/
theorem gfkCommand_eq {code ctx inp out : Nat} {d : Device} (hr : ∀ k < 4, loomReserved (inp + 4 + k) = false)
    (h0 : code ≠ 0) (hlt : code < 256 ^ 4) :
    gfkCommand code ctx inp out d = gfkCall ctx inp out code (putNat d (inp + 4) 4 code) := by
  have hread : memNat (putNat d (inp + 4) 4 code) (inp + 4) 4 = code :=
    (memNat_putNat_same d _ _ _ hr).trans (Nat.mod_eq_of_lt hlt)
  unfold gfkCommand gfkStep
  rw [gfkCmd_of_block (by rw [hread]; exact h0), hread]

/-- Settles O40: a call runs while some core has power, with the command that its input block carries, or with the one that
is placed. The code that a `GFK_CMD_*` writes and the way of a placed command are log 54. -/
theorem theCallsOfTheKernel : Obligations.TheCallsOfTheKernel := by
  refine ⟨?init, ?step, ?placed, ?commands⟩
  case init =>
    rintro s t d ctx rfl hc
    exact done_whileCores s hc rfl
  case step =>
    rintro s t d ctx inp out rfl hc h0
    exact done_whileCores s hc (congrArg (gfkCall ctx inp out · _) (gfkCmd_of_block h0))
  case placed =>
    rintro s t d ctx inp out k i rfl hc h0 hk hi hx
    exact done_whileCores s hc (congrArg (gfkCall ctx inp out · _) (gfkCmd_of_placed h0 hk hi hx))
  case commands =>
    rintro s t d ctx inp out rfl hc hr
    exact ⟨done_whileCores s hc (gfkCommand_eq hr (by decide) (by decide)),
      done_whileCores s hc (gfkCommand_eq hr (by decide) (by decide)),
      done_whileCores s hc (gfkCommand_eq hr (by decide) (by decide)),
      done_whileCores s hc (gfkCommand_eq hr (by decide) (by decide)),
      done_whileCores s hc (gfkCommand_eq hr (by decide) (by decide))⟩

/-- A timer's call in its state. -/
theorem gfkTimer_of_wanted {ctx inp out : Nat} {want : Device → Bool} {v : GfkVar} {lim : Device → Nat} {d : Device}
    (h : want d = true) : gfkTimer ctx inp out want v lim d = gfkStep ctx inp out (ksetN d ctx v (lim d)) :=
  if_pos h

theorem gfkSyncExpiry_of_waiting {ctx inp out : Nat} {d : Device}
    (h : kstate d ctx = 4 ∨ kstate d ctx = 6 ∧ kb d ctx .recon = true) :
    gfkSyncExpiry ctx inp out d = gfkStep ctx inp out (ksetN d ctx .syncNs (kms d ctx 0x663)) := by
  refine gfkTimer_of_wanted ?_
  simpa only [Bool.or_eq_true, Bool.and_eq_true, beq_iff_eq] using h

theorem gfkCloseExpiry_of_closing {ctx inp out : Nat} {d : Device} (h : kstate d ctx = 2 ∨ kstate d ctx = 5) :
    gfkCloseExpiry ctx inp out d = gfkStep ctx inp out (ksetN d ctx .stateNs (kms d ctx 0x668)) := by
  refine gfkTimer_of_wanted ?_
  simpa only [Bool.or_eq_true, beq_iff_eq] using h

/-- Settles O41: a timer's call comes in its state only, with the timer at its limit (log 55). -/
theorem theTimersOfTheKernel : Obligations.TheTimersOfTheKernel := by
  rintro s t d ctx inp out rfl hc
  refine ⟨?wait, ?sync, ?recon, ?close, ?ramp, ?ride, ?hold, ?delay⟩
  case wait =>
    intro hs
    exact ⟨done_whileCores s hc (gfkTimer_of_wanted (beq_iff_eq.2 hs)),
      done_whileCores s hc (gfkTimer_of_wanted (beq_iff_eq.2 hs))⟩
  case sync =>
    intro hs
    exact ⟨done_whileCores s hc (gfkSyncExpiry_of_waiting (.inl hs)),
      done_whileCores s hc (gfkTimer_of_wanted (beq_iff_eq.2 hs))⟩
  case recon => exact fun hs hr => done_whileCores s hc (gfkSyncExpiry_of_waiting (.inr ⟨hs, hr⟩))
  case close => exact fun hs => done_whileCores s hc (gfkCloseExpiry_of_closing hs)
  case ramp => exact fun hs => done_whileCores s hc (gfkTimer_of_wanted (beq_iff_eq.2 hs))
  case ride => exact fun hb => done_whileCores s hc (gfkTimer_of_wanted hb)
  case hold => exact fun hb => done_whileCores s hc (gfkTimer_of_wanted hb)
  case delay => exact fun hb => done_whileCores s hc (gfkTimer_of_wanted hb)

/-! ### `gfk_init` -/

theorem kn_ksetN_same {ctx : Nat} (hr : ∀ k < 0x200, loomReserved (ctx + 0x1C0 + k) = false) (d : Device) (v : GfkVar)
    (n : Nat) : kn (ksetN d ctx v n) ctx v = n % 256 ^ 8 := by
  obtain ⟨hlo, hhi⟩ := GfkVar.addr_bounds ctx v
  refine memNat_putNat_same d _ 8 n fun i hi => ?_
  obtain ⟨k, hk⟩ := Nat.exists_eq_add_of_le (show ctx + 0x1C0 ≤ v.addr ctx + i by omega)
  rw [hk]
  exact hr k (by omega)

theorem kn_ksetN_ne (d : Device) (ctx : Nat) {v w : GfkVar} (h : w ≠ v) (n : Nat) :
    kn (ksetN d ctx v n) ctx w = kn d ctx w := by
  have hidx : GfkVar.all.idxOf w ≠ GfkVar.all.idxOf v := fun he => h ((List.idxOf_inj (by cases w <;> decide)).1 he)
  refine memNat_putNat_ne d _ _ _ _ _ ?_
  simp only [GfkVar.addr]
  omega

/-- The parameters lie below the state part. -/
theorem kparN_ksetN (d : Device) (ctx : Nat) (v : GfkVar) (n : Nat) {id : Nat} (h : id < 0x670) :
    kparN (ksetN d ctx v n) ctx id = kparN d ctx id := by
  obtain ⟨hlo, hhi⟩ := GfkVar.addr_bounds ctx v
  have hread : memNat (ksetN d ctx v n) (ctx + 4 * (id - 0x600)) 4 = memNat d (ctx + 4 * (id - 0x600)) 4 :=
    memNat_putNat_ne d _ _ _ _ _ (by omega)
  simp only [kparN, kpar, hread]

/-- The variables from zero. -/
def kernelCleared (ctx : Nat) (d : Device) : Device := each GfkVar.all (fun d v => ksetN d ctx v 0) d

/-- Parameters taken over into variables. -/
def kernelTakes (ctx : Nat) (l : List (GfkVar × Nat)) (d : Device) : Device :=
  each l (fun d p => ksetN d ctx p.1 (kparN d ctx p.2)) d

theorem each_cons {α : Type} (x : α) (l : List α) (f : Device → α → Device) (d : Device) :
    each (x :: l) f d = each l f (f d x) := rfl

theorem kn_each_clear {ctx : Nat} (hr : ∀ k < 0x200, loomReserved (ctx + 0x1C0 + k) = false) (w : GfkVar)
    (l : List GfkVar) (d : Device) (h : w ∈ l ∨ kn d ctx w = 0) :
    kn (each l (fun d v => ksetN d ctx v 0) d) ctx w = 0 := by
  induction l generalizing d with
  | nil => exact h.resolve_left (List.not_mem_nil)
  | cons v l ih =>
    rw [each_cons]
    refine ih (ksetN d ctx v 0) ?_
    by_cases hv : w = v
    · exact .inr (by rw [hv, kn_ksetN_same hr, Nat.zero_mod])
    · rw [kn_ksetN_ne d ctx hv]
      exact h.imp_left fun hm => (List.mem_cons.1 hm).resolve_left hv

theorem kn_kernelCleared {ctx : Nat} (hr : ∀ k < 0x200, loomReserved (ctx + 0x1C0 + k) = false) (w : GfkVar) (d : Device) :
    kn (kernelCleared ctx d) ctx w = 0 :=
  kn_each_clear hr w _ d (.inl (by cases w <;> decide))

theorem kparN_kernelCleared (ctx : Nat) (d : Device) {id : Nat} (h : id < 0x670) :
    kparN (kernelCleared ctx d) ctx id = kparN d ctx id :=
  each_proj (p := fun d => kparN d ctx id) (fun d v => kparN_ksetN d ctx v 0 h) _ d

/-- What is taken over leaves the other variables. -/
theorem kn_kernelTakes_ne (ctx : Nat) {w : GfkVar} (l : List (GfkVar × Nat)) (d : Device) (h : ∀ p ∈ l, w ≠ p.1) :
    kn (kernelTakes ctx l d) ctx w = kn d ctx w := by
  induction l generalizing d with
  | nil => rfl
  | cons p l ih =>
    rw [kernelTakes, each_cons]
    exact (ih _ fun q hq => h q (List.mem_cons_of_mem _ hq)).trans (kn_ksetN_ne d ctx (h p List.mem_cons_self) _)

/-- The harness is the first parameter taken over. -/
theorem kernelTakes_harness (ctx : Nat) (d : Device) :
    kernelTakes ctx gfkInitParams d =
      kernelTakes ctx gfkInitParams.tail (ksetN d ctx .harness (kparN d ctx 0x600)) := by
  have hlist : gfkInitParams = (.harness, 0x600) :: gfkInitParams.tail := rfl
  unfold kernelTakes
  rw [hlist, each_cons, List.tail_cons]

/-- The kernel's variables as `gfk_init` leaves them. -/
def kernelInit (ctx : Nat) (d : Device) : Device :=
  kset (kset (kernelTakes ctx gfkInitParams (kernelCleared ctx d)) ctx .omega (F32.ofInt 1)) ctx .omegaF (F32.ofInt 1)

theorem kn_kernelInit (ctx : Nat) (d : Device) {w : GfkVar} (h : w ≠ .omega) (hf : w ≠ .omegaF) :
    kn (kernelInit ctx d) ctx w = kn (kernelTakes ctx gfkInitParams (kernelCleared ctx d)) ctx w :=
  (kn_ksetN_ne _ ctx hf _).trans (kn_ksetN_ne _ ctx h _)

/-- A variable that no parameter gives is zero. -/
theorem kn_kernelInit_zero {ctx : Nat} (hr : ∀ k < 0x200, loomReserved (ctx + 0x1C0 + k) = false) (d : Device) {w : GfkVar}
    (h : w ≠ .omega) (hf : w ≠ .omegaF) (hp : ∀ p ∈ gfkInitParams, w ≠ p.1) : kn (kernelInit ctx d) ctx w = 0 :=
  (kn_kernelInit ctx d h hf).trans ((kn_kernelTakes_ne ctx _ _ hp).trans (kn_kernelCleared hr w d))

theorem kn_kernelInit_harness {ctx : Nat} (hr : ∀ k < 0x200, loomReserved (ctx + 0x1C0 + k) = false) (d : Device)
    (h : kparN d ctx 0x600 = 15) : kn (kernelInit ctx d) ctx .harness = 15 :=
  calc kn (kernelInit ctx d) ctx .harness
    _ = kn (kernelTakes ctx gfkInitParams (kernelCleared ctx d)) ctx .harness := kn_kernelInit ctx d (by decide) (by decide)
    _ = kn (ksetN (kernelCleared ctx d) ctx .harness (kparN (kernelCleared ctx d) ctx 0x600)) ctx .harness := by
        rw [kernelTakes_harness, kn_kernelTakes_ne ctx _ _ (by decide)]
    _ = 15 := by rw [kn_ksetN_same hr, kparN_kernelCleared ctx d (by decide), h]; rfl

/-- `gfk_init` leaves its variables and a result code, which is 1 for no harness. -/
theorem gfkInit_eq (ctx : Nat) (d : Device) : ∃ other : Nat,
    gfkInit ctx d =
      { kernelInit ctx d with
        busData := BitVec.ofNat 64 (if kn (kernelInit ctx d) ctx .harness = 15 then 1 else other) } := by
  unfold gfkInit kernelInit kernelTakes kernelCleared
  exact ⟨_, rfl⟩

theorem kn_busData (d : Device) (v : DWord) (ctx : Nat) (w : GfkVar) : kn { d with busData := v } ctx w = kn d ctx w := rfl

/-- Settles O44: the variables that make the state and the requests are cleared and taken from no parameter. -/
theorem theKernelAfterInit : Obligations.TheKernelAfterInit := by
  intro d ctx hr
  obtain ⟨other, heq⟩ := gfkInit_eq ctx d
  have hzero (w : GfkVar) (h : w ≠ .omega) (hf : w ≠ .omegaF) (hp : ∀ p ∈ gfkInitParams, w ≠ p.1) :
      kn (gfkInit ctx d) ctx w = 0 := by rw [heq, kn_busData, kn_kernelInit_zero hr d h hf hp]
  have hstate : kstate (gfkInit ctx d) ctx = 0 := hzero .state (by decide) (by decide) (by decide)
  refine ⟨hstate, ?requests, fun hp => ?result⟩
  case requests =>
    simp only [gfkReq, kb, hstate, hzero .selv (by decide) (by decide) (by decide),
      hzero .close (by decide) (by decide) (by decide), hzero .open_ (by decide) (by decide) (by decide),
      hzero .reconClose (by decide) (by decide) (by decide)]
    decide
  case result =>
    rw [heq]
    exact congrArg (BitVec.ofNat 64) (if_pos (kn_kernelInit_harness hr d hp))

end Sys2Proof.Proofs.Kernel

/-! The ledger: its request frames, what it does with a request, and its own events (R213 to R240, R370, R438). -/

namespace Sys2Proof.Proofs.Ledger

open Sys2Proof Sys2Proof.Machine Sys2Proof.Laws Sys2Proof.Proofs.Commands Sys2Proof.Proofs.Measurement

/-! ### Request frames -/

/-- A number read from bytes at the place where it was written. -/
theorem sliceLE_append (a c : List Byte) (n v : Nat) : sliceLE (a ++ (bytesLE n v ++ c)) a.length n = v % 256 ^ n := by
  have htake : (bytesLE n v ++ c).take n = bytesLE n v := by
    rw [List.take_append_of_le_length (by rw [length_bytesLE]), List.take_of_length_le (by rw [length_bytesLE])]
  rw [sliceLE, List.drop_left, htake, natLE_bytesLE]

/-- A request frame of 48 bytes. -/
def requestFrame (seq type mp : Nat) (params : List Byte) : List Byte :=
  bytesLE 2 seq ++ bytesLE 1 type ++ bytesLE 1 mp ++ (params ++ List.replicate 44 0).take 44

section
variable (seq type mp : Nat) (params : List Byte)

theorem requestFrame_seq : sliceLE (requestFrame seq type mp params) 0 2 = seq % 256 ^ 2 := by
  simpa only [requestFrame, List.append_assoc, List.nil_append, List.length_nil] using sliceLE_append [] _ 2 seq

theorem requestFrame_type : sliceLE (requestFrame seq type mp params) 2 1 = type % 256 := by
  simpa only [requestFrame, List.append_assoc, length_bytesLE, pow_one] using sliceLE_append (bytesLE 2 seq) _ 1 type

theorem requestFrame_point : sliceLE (requestFrame seq type mp params) 3 1 = mp % 256 := by
  simpa only [requestFrame, List.append_assoc, List.length_append, length_bytesLE, pow_one] using
    sliceLE_append (bytesLE 2 seq ++ bytesLE 1 type) _ 1 mp

theorem requestFrame_params :
    (requestFrame seq type mp params).drop 4 = (params ++ List.replicate 44 0).take 44 := by
  have hlen : (bytesLE 2 seq ++ bytesLE 1 type ++ bytesLE 1 mp).length = 4 := by
    simp only [List.length_append, length_bytesLE]
  rw [requestFrame, ← hlen, List.drop_left]

end

/-- The parameters of a frame: those that fit, padded with zeros. -/
theorem requestFrame_take {seq type mp n : Nat} {params : List Byte} (h : params.length ≤ 44) (hn : n = params.length) :
    ((requestFrame seq type mp params).drop 4).take n = params := by
  rw [requestFrame_params, List.take_take, Nat.min_eq_left (hn ▸ h), hn, List.take_left]

/-- A number among the parameters of a frame. -/
theorem requestFrame_number {seq type mp : Nat} {a c : List Byte} {lo n v : Nat} (hlo : lo = 4 + a.length)
    (h : a.length + n ≤ 44) : sliceLE (requestFrame seq type mp (a ++ (bytesLE n v ++ c))) lo n = v % 256 ^ n := by
  have hdrop : (requestFrame seq type mp (a ++ (bytesLE n v ++ c))).drop lo =
      (bytesLE n v ++ (c ++ List.replicate 44 0)).take (44 - a.length) := by
    rw [hlo, ← List.drop_drop, requestFrame_params, List.drop_take, List.append_assoc, List.append_assoc, List.drop_left]
  rw [sliceLE, hdrop, List.take_take, Nat.min_eq_left (by omega),
    List.take_append_of_le_length (by rw [length_bytesLE]), List.take_of_length_le (by rw [length_bytesLE]), natLE_bytesLE]

/-- The number that alone makes the parameters of a frame. -/
theorem requestFrame_only {seq type mp n v : Nat} (h : n ≤ 44) (hv : v < 256 ^ n) :
    sliceLE (requestFrame seq type mp (bytesLE n v)) 4 n = v := by
  have hnum := requestFrame_number (seq := seq) (type := type) (mp := mp) (a := []) (c := []) (lo := 4) (n := n) (v := v) rfl
    (by simpa only [List.length_nil, Nat.zero_add] using h)
  rw [List.nil_append, List.append_nil] at hnum
  rw [hnum, Nat.mod_eq_of_lt hv]

section
variable {seq mp t time : Nat} {d : Device}

/-- A frame that reaches the ledger: a refused `SET_FIELD` alone counts at the seal. -/
theorem ledgerFrame_of_ready {type : Nat} {params : List Byte} (hr : d.meter.ready = true) (ht : type ≠ 4) :
    ledgerFrame seq type mp params t d =
      lreqAct d (requestFrame seq type mp params) (d.time.tickRead t / 1000000 * 1000000) := by
  simp only [ledgerFrame, hr, if_true, ht, decide_false, Bool.false_and, Bool.false_eq_true, if_false, requestFrame]

theorem ledgerFrame_setField {params : List Byte} (hr : d.meter.ready = true) :
    ledgerFrame seq 4 mp params t d =
      (let e := lreqAct d (requestFrame seq 4 mp params) (d.time.tickRead t / 1000000 * 1000000)
       if e.meter.ack / 65536 = 3 then sealRefused e 0 else e) := by
  simp only [ledgerFrame, hr, if_true, decide_true, Bool.true_and, decide_eq_true_eq, requestFrame]
  exact if_congr Iff.rfl rfl rfl

theorem ledgerFrame_of_unready {type : Nat} {params : List Byte} (hr : d.meter.ready = false) :
    ledgerFrame seq type mp params t d = ledgerEarly (requestFrame seq type mp params) d := by
  simp only [ledgerFrame, hr, Bool.false_eq_true, if_false, requestFrame]

/-- The code of an answer stands in the acknowledgement. -/
theorem lreqAnswer_ack (seq : Nat) (r : Nat × Device) :
    (lreqAnswer seq r).meter.ack = seq % 65536 + r.1 * 65536 := by
  unfold lreqAnswer
  extract_lets d1 d2
  split <;> rfl

theorem lreqAnswer_code (seq : Nat) (r : Nat × Device) : (lreqAnswer seq r).meter.ack / 65536 = r.1 := by
  rw [lreqAnswer_ack]
  omega

theorem lreqAct_open {sid : List Byte} (hs : seq < 65536) (hm : mp < 256) (hl : sid.length = 24) :
    lreqAct d (requestFrame seq 1 mp sid) time = lreqAnswer seq (lreqOpen mp sid time d) := by
  have htake := requestFrame_take (seq := seq) (type := 1) (mp := mp) (params := sid) (by omega) hl.symm
  simp only [lreqAct, requestFrame_seq, requestFrame_type, requestFrame_point, Nat.reduceMod, htake, Nat.mod_eq_of_lt hm,
    Nat.mod_eq_of_lt (show seq < 256 ^ 2 from hs)]

theorem lreqAct_close (hs : seq < 65536) (hm : mp < 256) :
    lreqAct d (requestFrame seq 2 mp []) time = lreqAnswer seq (lreqClose mp time d) := by
  simp only [lreqAct, requestFrame_seq, requestFrame_type, requestFrame_point, Nat.reduceMod, Nat.mod_eq_of_lt hm,
    Nat.mod_eq_of_lt (show seq < 256 ^ 2 from hs)]

theorem lreqAct_ack {upto : Nat} (hs : seq < 65536) (hu : upto < 2 ^ 64) :
    lreqAct d (requestFrame seq 3 0xFF (bytesLE 8 upto)) time = lreqAnswer seq (lreqAck upto d) := by
  have hnum := requestFrame_only (seq := seq) (type := 3) (mp := 0xFF) (show 8 ≤ 44 by decide) hu
  simp only [lreqAct, requestFrame_seq, requestFrame_type, Nat.reduceMod, hnum, Nat.mod_eq_of_lt (show seq < 256 ^ 2 from hs)]

theorem lreqAct_setField {id : Nat} {v : Word} (hs : seq < 65536) (hi : id < 65536) :
    lreqAct d (requestFrame seq 4 mp (bytesLE 2 id ++ [0, 0] ++ bytesLE 4 v.toNat)) time =
      lreqAnswer seq (lreqSetField id v d) := by
  have hid : sliceLE (requestFrame seq 4 mp (bytesLE 2 id ++ [0, 0] ++ bytesLE 4 v.toNat)) 4 2 = id := by
    rw [List.append_assoc]
    exact (requestFrame_number (a := []) rfl (show 0 + 2 ≤ 44 by decide)).trans (Nat.mod_eq_of_lt hi)
  have hlen : (bytesLE 2 id ++ [(0 : Byte), 0]).length = 4 := by
    simp only [List.length_append, length_bytesLE, List.length_cons, List.length_nil]
  have hv : sliceLE (requestFrame seq 4 mp (bytesLE 2 id ++ [0, 0] ++ bytesLE 4 v.toNat)) 8 4 = v.toNat := by
    have hnum := requestFrame_number (seq := seq) (type := 4) (mp := mp) (a := bytesLE 2 id ++ [0, 0]) (c := []) (lo := 8)
      (n := 4) (v := v.toNat) (by rw [hlen]) (by rw [hlen]; decide)
    rw [List.append_nil] at hnum
    rw [hnum, Nat.mod_eq_of_lt (show v.toNat < 256 ^ 4 from v.isLt)]
  have hword : word v.toNat = v := by rw [word, BitVec.ofNat_toNat, BitVec.setWidth_eq]
  simp only [lreqAct, requestFrame_seq, requestFrame_type, Nat.reduceMod, hid, hv, hword,
    Nat.mod_eq_of_lt (show seq < 256 ^ 2 from hs)]

theorem lreqAct_clear {mask : Word} (hs : seq < 65536) :
    lreqAct d (requestFrame seq 5 0xFF (bytesLE 4 mask.toNat)) time = lreqAnswer seq (lreqClear mask.toNat d) := by
  have hnum := requestFrame_only (seq := seq) (type := 5) (mp := 0xFF) (show 4 ≤ 44 by decide) mask.isLt
  simp only [lreqAct, requestFrame_seq, requestFrame_type, Nat.reduceMod, hnum, Nat.mod_eq_of_lt (show seq < 256 ^ 2 from hs)]

theorem lreqAct_calBegin {c : Fin 32} (hs : seq < 65536) :
    lreqAct d (requestFrame seq 6 0xFF (bytesLE 1 c.1)) time = lreqAnswer seq (lreqCal true c.1 d) := by
  have hnum := requestFrame_only (seq := seq) (type := 6) (mp := 0xFF) (n := 1) (v := c.1) (by decide) (by omega)
  simp only [lreqAct, requestFrame_seq, requestFrame_type, Nat.reduceMod, hnum, Nat.mod_eq_of_lt (show seq < 256 ^ 2 from hs)]

theorem lreqAct_calEnd {c : Fin 32} (hs : seq < 65536) :
    lreqAct d (requestFrame seq 7 0xFF (bytesLE 1 c.1)) time = lreqAnswer seq (lreqCal false c.1 d) := by
  have hnum := requestFrame_only (seq := seq) (type := 7) (mp := 0xFF) (n := 1) (v := c.1) (by decide) (by omega)
  simp only [lreqAct, requestFrame_seq, requestFrame_type, Nat.reduceMod, hnum, Nat.mod_eq_of_lt (show seq < 256 ^ 2 from hs)]

end

/-- Settles O45: each frame read back as its parameters. That a frame acts at the millisecond boundary at or before its
instant is log 75; before the ledger is ready `OPEN` is refused and the others leave no trace (logs 4 and 129). -/
theorem theRequestFrames : Obligations.TheRequestFrames := by
  rintro s t d seq time rfl h4 hs rfl
  refine ⟨fun hr => ⟨?opening, ?closing, ?ack, ?set, ?setRefused, ?clear, ?cal⟩, fun hr => ⟨?earlyOpen, ?earlyClose⟩⟩
  case opening =>
    intro mp sid hm hl
    exact done_whileOn_one s h4 ((ledgerFrame_of_ready hr (by decide)).trans (lreqAct_open hs hm hl))
  case closing =>
    intro mp hm
    exact done_whileOn_one s h4 ((ledgerFrame_of_ready hr (by decide)).trans (lreqAct_close hs hm))
  case ack =>
    intro upto hu
    exact done_whileOn_one s h4 ((ledgerFrame_of_ready hr (by decide)).trans (lreqAct_ack hs hu))
  case set =>
    intro mp id v hm hi hc
    refine done_whileOn_one s h4 ((ledgerFrame_setField hr).trans ?_)
    simp only [lreqAct_setField hs hi, lreqAnswer_code, if_neg hc]
  case setRefused =>
    intro mp id v hm hi hc
    refine done_whileOn_one s h4 ((ledgerFrame_setField hr).trans ?_)
    simp only [lreqAct_setField hs hi, lreqAnswer_code, if_pos hc]
  case clear =>
    intro mask
    exact done_whileOn_one s h4 ((ledgerFrame_of_ready hr (by decide)).trans (lreqAct_clear hs))
  case cal =>
    intro c
    exact ⟨done_whileOn_one s h4 ((ledgerFrame_of_ready hr (by decide)).trans (lreqAct_calBegin hs)),
      done_whileOn_one s h4 ((ledgerFrame_of_ready hr (by decide)).trans (lreqAct_calEnd hs))⟩
  case earlyOpen =>
    intro mp sid
    refine done_whileOn_one s h4 ((ledgerFrame_of_unready hr).trans ?_)
    simp only [ledgerEarly, requestFrame_type, requestFrame_seq, Nat.mod_eq_of_lt (show seq < 256 ^ 2 from hs)]
    exact if_pos trivial
  case earlyClose =>
    intro mp
    refine done_whileOn_one s h4 ((ledgerFrame_of_unready hr).trans ?_)
    simp only [ledgerEarly, requestFrame_type]
    exact if_neg (by decide)

/-! ### What a request does -/

theorem mramKick_meter (d : Device) : (mramKick d).meter = d.meter := by
  unfold mramKick
  split
  · rfl
  · split <;> rfl

theorem mramPut_meter (d : Device) (writer : Nat) (note : TxNote) (targets : List (Nat × List Byte)) :
    (mramPut d writer note targets).meter = d.meter := by
  unfold mramPut
  rw [mramKick_meter]

theorem fin?_fin {n : Nat} (m : Fin n) : fin? n m.1 = some m := dif_pos m.2

theorem fin?_of_le {n i : Nat} (h : n ≤ i) : fin? n i = none := dif_neg h.not_gt

/-- The unit with a session opened: its start record in slot `a`, its stop record to come in slot `b`. -/
def opened (d : Device) (m : Fin 4) (sid : List Byte) (a b : Nat) : Device :=
  let n := d.meter.recSeq + 1
  let e := updMp d m (fun p => { p with
    session := some { start := n, slot := b, sid := sid }, flags := p.msFlags ||| standingFlags d m })
  { e with meter := { e.meter with
    recSeq := n + 1, ackRec := n, sealFirst := e.meter.sealFirst &&& (15 ^^^ 2 ^ m.1),
    slots := e.meter.slots ++ [(a, n, true), (b, n + 1, false)], saveAt := ialos e } }

theorem opened_session (d : Device) (m : Fin 4) (sid : List Byte) (a b : Nat) :
    ((opened d m sid a b).meter.points[m.1]).session = some { start := d.meter.recSeq + 1, slot := b, sid := sid } := by
  simp only [opened, updMp, upd_getElem_same]

section
variable {d : Device} {m : Fin 4} {sid : List Byte} {time : Nat}

/-- `OPEN` of a point of the ledger, the reasons of refusal in their order. -/
theorem lreqOpen_of_refused (hr : d.meter.ready = true) :
    (mpOn d m.1 = false → lreqOpen m.1 sid time d = (2, d)) ∧
    (mpOn d m.1 = true → (d.meter.points[m.1]).session.isSome = true → lreqOpen m.1 sid time d = (5, d)) ∧
    (mpOn d m.1 = true → (d.meter.points[m.1]).session = none → (d.meter.points[m.1]).sat = true →
      lreqOpen m.1 sid time d = (6, d)) := by
  refine ⟨fun ho => ?_, fun ho hs => ?_, fun ho hs ht => ?_⟩
  · simp only [lreqOpen, fin?_fin, ho, or_true, if_true]
  · simp only [lreqOpen, fin?_fin, hr, ho, Bool.true_eq_false, or_self, if_false, hs, if_true]
  · simp only [lreqOpen, fin?_fin, hr, ho, Bool.true_eq_false, or_self, if_false, hs, Option.isSome_none, Bool.false_eq_true,
      ht, if_true]

variable (hr : d.meter.ready = true) (ho : mpOn d m.1 = true) (hs : (d.meter.points[m.1]).session = none)
  (ht : (d.meter.points[m.1]).sat = false)
include hr ho hs ht

theorem lreqOpen_of_uncal (hu : mpUncal d m.1 = true) : lreqOpen m.1 sid time d = (7, d) := by
  simp only [lreqOpen, fin?_fin, hr, ho, Bool.true_eq_false, or_self, if_false, hs, Option.isSome_none, Bool.false_eq_true,
    ht, hu, if_true]

theorem lreqOpen_of_cal (hu : mpUncal d m.1 = false) (hc : mpCal d m.1 = true) : lreqOpen m.1 sid time d = (8, d) := by
  simp only [lreqOpen, fin?_fin, hr, ho, Bool.true_eq_false, or_self, if_false, hs, Option.isSome_none, Bool.false_eq_true,
    ht, hu, hc, if_true]

theorem lreqOpen_of_full (hu : mpUncal d m.1 = false) (hc : mpCal d m.1 = false) (hf : (freeSlots d).length < 2) :
    lreqOpen m.1 sid time d = (9, d) := by
  simp only [lreqOpen, fin?_fin, hr, ho, Bool.true_eq_false, or_self, if_false, hs, Option.isSome_none, Bool.false_eq_true,
    ht, hu, hc]
  split
  · next a b l hl =>
    rw [hl, List.length_cons, List.length_cons] at hf
    omega
  · rfl

/-- `OPEN` carried out: two slots taken, two record numbers given. -/
theorem lreqOpen_done (hu : mpUncal d m.1 = false) (hc : mpCal d m.1 = false) {a b : Nat} {l : List Nat}
    (hf : freeSlots d = a :: b :: l) (hn : d.meter.recSeq + 2 ≤ 2 ^ 64 - 2) :
    ∃ ts, lreqOpen m.1 sid time d = (0, mramPut (opened d m sid a b) 1 (.record a) ts) := by
  simp only [lreqOpen, fin?_fin, hr, ho, Bool.true_eq_false, or_self, if_false, hs, Option.isSome_none, Bool.false_eq_true,
    ht, hu, hc, hf, if_neg hn.not_gt]
  exact ⟨_, rfl⟩

end

theorem lreqClose_of_open {d : Device} {m : Fin 4} (time : Nat) (h : mpSession d m = true) :
    lreqClose m.1 time d = (0, closeSession d m 0 time) := by
  simp only [lreqClose, fin?_fin, h, if_true]

theorem lreqClose_of_closed {d : Device} {m : Fin 4} (time : Nat) (h : mpSession d m = false) :
    lreqClose m.1 time d = (5, d) := by
  simp only [lreqClose, fin?_fin, h, Bool.false_eq_true, if_false]

section
variable {d : Device} {id : Nat} {v : Word} {r : FieldRow} {i : Nat} (hf : FieldMap.find? id = some (r, i))
  (hlo : 0x0800 ≤ id) (hhi : id < 0x0900)
include hf hlo hhi

theorem lreqSetField_of_sealed (hs : sealOpen d 0 = false) : lreqSetField id v d = (3, d) := by
  simp only [lreqSetField, hf, hlo.not_gt, hhi.not_ge, or_self, if_false, hs, if_true]

theorem lreqSetField_of_full (hs : sealOpen d 0 = true) (hl : 8192 ≤ d.meter.logUsed) : lreqSetField id v d = (4, d) := by
  have hroom : logRoom d = false := decide_eq_false hl.not_gt
  simp only [lreqSetField, hf, hlo.not_gt, hhi.not_ge, or_self, if_false, hs, Bool.true_eq_false, hroom, if_true]

/-- A field under an open seal, with room in the logbook and no session: it waits for the boundary, and it is logged. -/
theorem lreqSetField_done (hs : sealOpen d 0 = true) (hl : d.meter.logUsed < 8192)
    (hm : mpAll.all (fun m => !mpSession d m) = true) :
    (lreqSetField id v d).2.meter.sets = d.meter.sets ++ [(id, (firstPass r i v).1)] ∧
    (lreqSetField id v d).2.meter.logUsed = d.meter.logUsed + 1 := by
  have hroom : logRoom d = true := decide_eq_true hl
  have hidle (b : Fin 4 → Bool) : mpAll.any (fun n => mpSession d n && b n) = false := by
    rw [List.any_eq_false]
    intro n hn
    have hclosed := List.all_eq_true.1 hm n hn
    simp only [Bool.not_eq_true'] at hclosed
    simp only [hclosed, Bool.false_and, Bool.false_eq_true, not_false_eq_true]
  simp only [lreqSetField, hf, hlo.not_gt, hhi.not_ge, or_self, if_false, hs, Bool.true_eq_false, hroom, hidle,
    Bool.false_eq_true, mramPut_meter, logEntry, and_self]

end

/-- A refusal below the limit of its counter is counted. -/
theorem lreqAnswer_refusal (d : Device) (seq : Nat) {code : Nat} (h0 : code ≠ 0) (h10 : code ≠ 10)
    (hn : d.meter.refused + 1 < 0xFFFFFFFF) : (lreqAnswer seq (code, d)).meter.refused = d.meter.refused + 1 := by
  simp only [lreqAnswer, h0, h10, or_self, if_false, bumpMeter, hn, if_true]

/-- Settles O46: the refusals in the order of their codes, the record numbers of a session, and a field set. -/
theorem whatARequestDoes : Obligations.WhatARequestDoes := by
  refine ⟨?opening, ?closing, ?closed, ?unknown, ?set, ?refusal⟩
  case opening =>
    intro d m sid time hr
    obtain ⟨hoff, hbusy, hsat⟩ := lreqOpen_of_refused (sid := sid) (time := time) (m := m) hr
    refine ⟨hoff, hbusy, hsat, fun ho hs ht hu => lreqOpen_of_uncal hr ho hs ht hu,
      fun ho hs ht hu hc => lreqOpen_of_cal hr ho hs ht hu hc,
      fun ho hs ht hu hc hf => lreqOpen_of_full hr ho hs ht hu hc hf, ?_⟩
    intro a b l ho hs ht hu hc hf hn
    obtain ⟨ts, heq⟩ := lreqOpen_done (sid := sid) (time := time) hr ho hs ht hu hc hf hn
    rw [heq, mramPut_meter]
    exact ⟨rfl, rfl, opened_session d m sid a b, rfl⟩
  case closing => exact fun d m time h => lreqClose_of_open time h
  case closed => exact fun d m time h => lreqClose_of_closed time h
  case unknown =>
    intro d m sid time hm
    constructor
    · simp only [lreqOpen, fin?_of_le hm]
    · simp only [lreqClose, fin?_of_le hm]
  case set =>
    intro d id v r i hf hlo hhi
    exact ⟨lreqSetField_of_sealed hf hlo hhi, lreqSetField_of_full hf hlo hhi, lreqSetField_done hf hlo hhi⟩
  case refusal =>
    intro d seq code h0 h10 hn
    exact ⟨lreqAnswer_ack seq (code, d), lreqAnswer_refusal d seq h0 h10 hn⟩

/-! ### The ledger by itself -/

theorem lreqGo_of_free (t : Nat) {d : Device} (h : rdB d Addr.TIME_LREQ_STAT 0 = false) :
    lreqGo t d = wrB { d with meter := { d.meter with goAt := t } } Addr.TIME_LREQ_STAT 0 true := by
  simp only [lreqGo, h, Bool.false_eq_true, if_false]

theorem rdB_with_meter (d : Device) (m : Meter) (a i : Nat) : rdB { d with meter := m } a i = rdB d a i := rfl

theorem domOn_with_meter (d : Device) (m : Meter) (n : Nat) : domOn { d with meter := m } n = domOn d n := rfl

/-- A new millisecond with no frame marked to go. -/
theorem msBoundary_of_new {t n : Nat} {d : Device} (hn : n = d.time.tickRead t / 1000000) (hl : n ≠ d.meter.lastMs)
    (ht : d.meter.lastMsAt + us 500 ≤ t) (hg : rdB d Addr.TIME_LREQ_STAT 0 = false) (hr : d.meter.ready = true)
    (h4 : domOn d 4 = true) :
    msBoundary t d =
      lreqPlace (ledgerBoundary { d with meter := { d.meter with lastMs := n, lastMsAt := t } } none (n * 1000000)) t := by
  simp only [msBoundary, msBoundary.ialosAt50, ← hn, hl, ne_eq, not_false_eq_true, ht, and_self, if_true, rdB_with_meter, hg,
    Bool.false_and, Bool.false_eq_true, if_false, domOn_with_meter, h4, hr, Bool.and_self]

theorem msBoundary_of_same {t n : Nat} {d : Device} (hn : n = d.time.tickRead t / 1000000) (hl : n = d.meter.lastMs) :
    msBoundary t d = d :=
  if_neg fun h => h.1 (hn.symm.trans hl)

theorem energySaveTick_of_due {d : Device} (hr : d.meter.ready = true)
    (ht : d.meter.saveAt + 1000000000 * mtrN d 0x0880 ≤ ialos d) : energySaveTick d = energySave d := by
  simp only [energySaveTick, hr, ht, decide_true, Bool.and_self, if_true]

theorem ledgerInterruption_of_gone {t since : Nat} {m : Fin 4} {d : Device} (hr : d.meter.ready = true)
    (ho : mpOn d m.1 = true) (hm : (d.meter.points[m.1]).missing = false)
    (hs : (d.meter.points[m.1]).since = some since) (ht : since + 2 * 1024 * ckm ≤ t)
    (hn : d.meter.intrs + 1 < 0xFFFFFFFF) :
    ledgerInterruption m t d =
      updMp { d with meter := { d.meter with intrs := d.meter.intrs + 1 } } m
        (fun p => { p with missing := true, msFlags := p.msFlags ||| 8 }) := by
  simp only [ledgerInterruption, hr, ho, hm, hs, ht, decide_true, Bool.not_false, Bool.and_self, if_true, bumpMeter, hn]

theorem wr64_meter (d : Device) (a n : Nat) : (wr64 d a n).meter = d.meter :=
  (wr_meter ..).trans (wr_meter ..)

theorem each_wrN_meter {α : Type} (l : List α) (a v : Device → α → Nat) (d : Device) :
    (each l (fun d i => wrN d (a d i) (v d i)) d).meter = d.meter :=
  each_proj (p := Device.meter) (fun _ _ => wrN_meter ..) l d

theorem mpShow_meter (d : Device) (m : Fin 4) : (mpShow d m).meter = d.meter := by
  unfold mpShow
  extract_lets p base on vfs ifs ac acc stat dStat dEnergy words dP dQ dV dF sid
  have hs : dStat.meter = d.meter := (wrN_meter ..).trans (wrN_meter ..)
  have he : dEnergy.meter = dStat.meter := each_proj (p := Device.meter) (fun _ _ => wr64_meter ..) _ _
  have hq : dQ.meter = dEnergy.meter := (wr_meter ..).trans (wr_meter ..)
  have hv : dV.meter = dQ.meter := by
    unfold dV
    split
    · exact (wr_meter ..).trans (wr_meter ..)
    · exact (wr_meter ..).trans (wr_meter ..)
  have hf : dF.meter = dV.meter := wr_meter ..
  rw [each_wrN_meter, hf, hv, hq, he, hs]

/-- The refresh of the mailbox writes registers only. -/
theorem mailbox_meter (d : Device) (time : Nat) : (mailbox d time).meter = d.meter := by
  unfold mailbox
  extract_lets dGen m free stat dTime dLog dFree dMask dCnt dVer hash key dHash dKey
  have ht : dTime.meter = d.meter := (wr64_meter ..).trans ((wrN_meter ..).trans (wrN_meter ..))
  have hl : dLog.meter = dTime.meter := (wrN_meter ..).trans (wrN_meter ..)
  have hf : dFree.meter = dLog.meter := (wrN_meter ..).trans (wr64_meter ..)
  have hm : dMask.meter = dFree.meter := (wrN_meter ..).trans (wrN_meter ..)
  have hc : dCnt.meter = dMask.meter := (wrN_meter ..).trans ((wrN_meter ..).trans (wrN_meter ..))
  have hv : dVer.meter = dCnt.meter := wr_meter ..
  have hh : dHash.meter = dVer.meter := each_wrN_meter ..
  have hk : dKey.meter = dHash.meter := each_wrN_meter ..
  rw [each_proj (p := Device.meter) mpShow_meter, hk, hh, hv, hc, hm, hf, hl, ht]

/-- The boot ends with the ledger ready. -/
theorem ledgerReady_ready {t : Nat} {d : Device} (hr : d.meter.ready = false) (h4 : domOn d 4 = true) :
    (ledgerReady t d).meter.ready = true := by
  simp only [ledgerReady, hr, h4, and_self, if_true, mailbox_meter]

theorem ledgerUp_of_unready {t : Nat} {d : Device} (hr : d.meter.ready = false) (h4 : domOn d 4 = true) :
    ledgerUp t d = ledgerPrune (ledgerReady t d) := by
  simp only [ledgerUp, hr, Bool.false_eq_true, if_false, ledgerReady_ready hr h4, if_true]

/-- A bank changes by what the change makes of its entry alone. -/
theorem upd_congr {α : Type} {n : Nat} (v : Vector α n) (i : Fin n) {f g : α → α} (h : f v[i.1] = g v[i.1]) :
    upd v i f = upd v i g := by
  rw [upd, upd, h]

theorem sealMeasure_of_open {ohms : Nat} (n : Fin 4) (d : Device) (h : ohms < 8000 ∨ 12000 < ohms) :
    sealMeasure n ohms d = { d with seals := upd d.seals n (fun _ => { openNow := true, run := 0, latch := true }) } := by
  have hout : ¬ (8000 ≤ ohms ∧ ohms ≤ 12000) := by omega
  simp only [sealMeasure, if_neg hout, bne, Nat.reduceBEq, Bool.not_false, Bool.or_true]

theorem sealMeasure_of_closed {ohms : Nat} {n : Fin 4} {d : Device} (hlo : 8000 ≤ ohms) (hhi : ohms ≤ 12000)
    (hr : 1 ≤ (d.seals[n.1]).run) :
    sealMeasure n ohms d =
      { d with seals := upd d.seals n (fun x => { openNow := false, run := 2, latch := x.latch }) } := by
  have hrun : min 2 ((d.seals[n.1]).run + 1) = 2 := by omega
  unfold sealMeasure
  refine congrArg (fun x => { d with seals := x }) (upd_congr _ _ ?_)
  simp only [hlo, hhi, and_self, if_true, hrun, bne_self_eq_false, Bool.or_false]

theorem addEnergy_exact {p : MeterPoint} {r : Fin 6} {x : Nat}
    (h : p.energy[r.1] + (p.rem[r.1] + x) / 2 ^ 32 < 2 ^ 64 - 1) :
    ((addEnergy p r x).energy[r.1]) * 2 ^ 32 + (addEnergy p r x).rem[r.1]
      = p.energy[r.1] * 2 ^ 32 + p.rem[r.1] + x := by
  simp only [addEnergy, if_pos h, upd_getElem_same]
  omega

theorem addEnergy_saturated {p : MeterPoint} {r : Fin 6} {x : Nat}
    (h : 2 ^ 64 - 1 ≤ p.energy[r.1] + (p.rem[r.1] + x) / 2 ^ 32) :
    (addEnergy p r x).energy[r.1] = 2 ^ 64 - 1 ∧ (addEnergy p r x).sat = true := by
  simp only [addEnergy, if_neg h.not_gt, upd_getElem_same, and_self]

/-- Settles O47: the events by what is due, the seal loop by its window, and an energy register by its limit. -/
theorem theLedgerByItself : Obligations.TheLedgerByItself := by
  refine ⟨?go, ?boundary, ?same, ?save, ?interruption, ?ready, ?again, ?sealOpens, ?sealCloses, fun _ _ _ h => addEnergy_exact h,
    fun _ _ _ h => addEnergy_saturated h⟩
  case go =>
    rintro s t d rfl h1 hg
    exact done_whileOn_one s h1 (lreqGo_of_free t hg)
  case boundary =>
    rintro s t d n rfl h1 hn hl ht hg hr h4
    exact done_whileOn_one s h1 (settled_eq (msBoundary_of_new hn hl ht hg hr h4))
  case same =>
    rintro s t d n rfl h1 hn hl
    exact done_whileOn_one s h1 (settled_eq (msBoundary_of_same hn hl))
  case save =>
    rintro s t d rfl h4 hr ht
    exact done_whileOn_one s h4 (energySaveTick_of_due hr ht)
  case interruption =>
    rintro s t d since m rfl h4 hr ho hm hs ht hn
    exact done_whileOn_one s h4 (ledgerInterruption_of_gone hr ho hm hs ht hn)
  case ready =>
    rintro s t d rfl h4 hr
    exact done_whileOn_one s h4 (ledgerUp_of_unready hr h4)
  case again =>
    rintro s t d rfl h4 hr
    exact done_whileOn_one s h4 (if_pos hr)
  case sealOpens =>
    rintro s t d ohms n rfl h0 ho
    exact done_whileOn_one s h0 (sealMeasure_of_open n _ ho)
  case sealCloses =>
    rintro s t d ohms n rfl h0 hlo hhi hr
    exact done_whileOn_one s h0 (sealMeasure_of_closed hlo hhi hr)

end Sys2Proof.Proofs.Ledger

/-! The bridle: its inputs and pairs, its faults and its resets (R241 to R254, R258). -/

namespace Sys2Proof.Proofs.Bridle

open Sys2Proof Sys2Proof.Machine Sys2Proof.Laws Sys2Proof.Proofs.Commands Sys2Proof.Proofs.Measurement

/-! ### Inputs -/

theorem bridleInput_pairA : ∀ p : Fin 8, bridleInput (2 * p.1) = some (.pairA p) := by decide

theorem bridleInput_pairB : ∀ p : Fin 8, bridleInput (2 * p.1 + 1) = some (.pairB p) := by decide

theorem bridleInput_feedback : ∀ n : Fin 4, bridleInput (18 + n.1) = some (.feedback n) := by decide

/-- The shown feedback is no part of what the contactor's reading means. -/
theorem kfOpen_wrB_outStat (d : Device) (n : Fin 4) (i : Nat) (b : Bool) :
    kfOpen (wrB d Addr.BRD_OUT_STAT i b) n = kfOpen d n := by
  have hne : ∀ n : Fin 4, Addr.BRD_K_CFG n.1 ≠ Addr.BRD_OUT_STAT := by decide
  unfold kfOpen
  rw [wrB_bridle, rdB_wrB_ne d _ _ _ _ _ (.inl (hne n))]

section
variable {t : Nat} {d : Device} (h11 : domOn d 11 = true)
include h11

theorem bridleInputChange_pairA (p : Fin 8) (r : Reading) (hs : d.bridle.started = true) :
    bridleInputChange (2 * p.1) r t d =
      bridleSettle (pairChange { d with bridle := { d.bridle with
        pairs := upd d.bridle.pairs p (fun a => { a with chA := r }) } } p t) t := by
  simp only [bridleInputChange, h11, Bool.not_true, Bool.false_eq_true, if_false, bridleInput_pairA, hs, if_true]

theorem bridleInputChange_pairB (p : Fin 8) (r : Reading) (hs : d.bridle.started = true) :
    bridleInputChange (2 * p.1 + 1) r t d =
      bridleSettle (pairChange { d with bridle := { d.bridle with
        pairs := upd d.bridle.pairs p (fun a => { a with chB := r }) } } p t) t := by
  simp only [bridleInputChange, h11, Bool.not_true, Bool.false_eq_true, if_false, bridleInput_pairB, hs, if_true]

theorem bridleInputChange_imd (r : Reading) :
    bridleInputChange 16 r t d =
      { d with bridle := { d.bridle with
        imd := r, imdLowAt := if r = .one then none else some (d.bridle.imdLowAt.getD t) } } := by
  have hin : bridleInput 16 = some .imd := by decide
  simp only [bridleInputChange, h11, Bool.not_true, Bool.false_eq_true, if_false, hin]

theorem bridleInputChange_lock (r : Reading) :
    bridleInputChange 17 r t d = bridleSettle (lockFollow { d with bridle := { d.bridle with lock := r } }) t := by
  have hin : bridleInput 17 = some .lock := by decide
  simp only [bridleInputChange, h11, Bool.not_true, Bool.false_eq_true, if_false, hin]

/-- A feedback that changes while its check is still due. -/
theorem bridleInputChange_feedback (n : Fin 4) (r : Reading) (hc : (d.bridle.konts[n.1]).checkFrom.isSome = true) :
    bridleInputChange (18 + n.1) r t d =
      (let e := { d with bridle := { d.bridle with konts := upd d.bridle.konts n (fun k => { k with feedback := r }) } }
       let x := wrB e Addr.BRD_OUT_STAT (8 + n.1) (kfClosed e n)
       bridleSettle { x with bridle := { x.bridle with konts := upd x.bridle.konts n (fun k =>
         { k with openSince := if kfOpen e n then some (k.openSince.getD t) else none }) } } t) := by
  simp only [bridleInputChange, h11, Bool.not_true, Bool.false_eq_true, if_false, bridleInput_feedback, upd_getElem_same,
    kfOpen_wrB_outStat, wrB_bridle, hc, Bool.true_or, if_true]

end

section
variable {t : Nat} {d : Device}

theorem saDisc_of_late {p : Fin 8} {c : Nat} (ha : (d.bridle.pairs[p.1]).changeAt = some c)
    (hc : c + ms (rdF d (Addr.BRD_SA_CFG p.1) 0 9) ≤ t) (he : pairBit d p.1 31 = true) (hs : pairState d p.1 = 1) :
    saDisc p t d =
      (let e := setPairState { d with bridle := { d.bridle with pairs := upd d.bridle.pairs p (fun a =>
        { a with changeAt := none, settled := false, clean := false }) } } p.1 2
       bridleSettle (if pairHeld d p.1 then e else pairReact e p t) t) := by
  simp only [saDisc, ha, hc, he, hs, and_self, if_true]

theorem stop1Expiry_of_due {p : Fin 8} {x : Nat} (hx : (d.bridle.pairs[p.1]).stop1Till = some x) (ht : x ≤ t) :
    stop1Expiry p t d =
      bridleSettle { d with bridle := { d.bridle with
        pairs := upd d.bridle.pairs p (fun a => { a with stop1Till := none }) } } t := by
  simp only [stop1Expiry, hx, ht, if_true]

theorem imdFault_of_due {x : Nat} (h11 : domOn d 11 = true) (hx : d.bridle.imdLowAt = some x) (he : rdB d Addr.BRD_IMD_CFG 31 = true)
    (ho : rdB d Addr.BRD_OUT_STAT 24 = false) (ht : max x (d.bridle.blankTill.getD 0) + ms (rdF d Addr.BRD_IMD_T 0 11) ≤ t) :
    imdFault t d = bridleSettle (critical (wrB d Addr.BRD_OUT_STAT 24 true) t) t := by
  simp only [imdFault, hx, he, ho, ht, h11, and_self, if_true]

theorem imdBlankEnd_of_due {b : Nat} (hb : d.bridle.blankTill = some b) (ht : b ≤ t) :
    imdBlankEnd t d =
      { d with bridle := { d.bridle with blankTill := none, imdLowAt := d.bridle.imdLowAt.map (max b) } } := by
  simp only [imdBlankEnd, hb, ht, if_true]

end

/-- What becomes of a pair that is OK, by its readings. -/
theorem pairNext_of_ok (settled inTime : Bool) (b : Reading) :
    pairNext 0 settled inTime .one .zero = (0, false) ∧ pairNext 0 settled inTime .zero .one = (1, true) ∧
    pairNext 0 settled inTime .lost .zero = (3, false) ∧ pairNext 0 settled inTime .one .lost = (3, false) ∧
    pairNext 0 settled inTime .lost .lost = (4, false) ∧ (pairNext 0 settled inTime b b).1 ≠ 0 := by
  cases b with
  | zero => decide +revert
  | one => decide +revert
  | lost => decide +revert

/-- Settles O48: the inputs by their numbers, a pair's discrepancy, the delays, and the next state of a pair that is OK. -/
theorem theBridleInputs : Obligations.TheBridleInputs := by
  refine ⟨?pair, ?other, ?feedback, ?discrepancy, ?stop, ?imd, ?blank, pairNext_of_ok⟩
  case pair =>
    rintro s t d p r rfl h11 hs
    exact ⟨done_whileOn_one s h11 (bridleInputChange_pairA h11 p r hs),
      done_whileOn_one s h11 (bridleInputChange_pairB h11 p r hs)⟩
  case other =>
    rintro s t d r rfl h11
    exact ⟨done_whileOn_one s h11 (bridleInputChange_imd h11 r), done_whileOn_one s h11 (bridleInputChange_lock h11 r)⟩
  case feedback =>
    rintro s t d e n r rfl h11 rfl hc
    exact done_whileOn_one s h11 (bridleInputChange_feedback h11 n r hc)
  case discrepancy =>
    rintro s t d p c rfl h11 ha hc he hs
    exact done_whileOn_one s h11 (saDisc_of_late ha hc he hs)
  case stop =>
    rintro s t d p x rfl h11 hx ht
    exact done_whileOn_one s h11 (stop1Expiry_of_due hx ht)
  case imd =>
    rintro s t d x rfl h11 hx he ho ht
    exact done_whileOn_one s h11 (imdFault_of_due h11 hx he ho ht)
  case blank =>
    rintro s t d b rfl h11 hb ht
    exact done_whileOn_one s h11 (imdBlankEnd_of_due hb ht)

/-! ### What an event leaves of the bridle's own state -/

theorem wr64_bridle (d : Device) (a n : Nat) : (wr64 d a n).bridle = d.bridle := (wr_bridle ..).trans (wr_bridle ..)

theorem hkShow_bridle (d : Device) (phase input slot : Nat) : (hkShow d phase input slot).bridle = d.bridle := by
  rw [hkShow, wrF_bridle, wrF_bridle, wrF_bridle]

theorem hkStartInjected_bridle (d : Device) (cal : Bool) (seq : List Nat) :
    (hkStartInjected d cal seq).bridle = d.bridle := by
  cases seq with
  | nil => rfl
  | cons i _ =>
    unfold hkStartInjected
    dsimp only
    rw [wr64_bridle, hkBegin, hkShow_bridle]

theorem hkInject_bridle (d : Device) (seq : List Nat) : (hkInject d seq).bridle = d.bridle := by
  unfold hkInject
  extract_lets queue
  have hq : (queue d).bridle = d.bridle := wrB_bridle d Addr.HK_STAT 7 true
  split
  · rw [count_bridle]
  · split
    · exact hq
    · split
      · split
        · rw [hkAbort, hkStartInjected_bridle, count_bridle]
        · exact hq
      · rw [hkStartInjected_bridle]

theorem hkTrigger_bridle (d : Device) (src : Nat) : (hkTrigger d src).bridle = d.bridle := by
  unfold hkTrigger
  split
  · exact hkInject_bridle ..
  · rfl

theorem recToPost_bridle (d : Device) (e : Fin 4) (p : Nat) : (recToPost d e p).bridle = d.bridle := by
  unfold recToPost
  rw [count_bridle]
  dsimp only
  rw [wrF_bridle, wrB_bridle, wrB_bridle]

theorem recStamp_bridle (d : Device) (e : Fin 4) (t : Nat) : (recStamp d e t).bridle = d.bridle := by
  unfold recStamp
  split
  · rw [recToPost_bridle, recPlace, wr64_bridle, wr64_bridle]
  · rw [recToPost_bridle, recPlace, wr64_bridle, wr64_bridle, fresh, fresh]

theorem recEvent_bridle (fuel : Nat) (d : Device) (code t : Nat) : (recEvent fuel d code t).bridle = d.bridle := by
  induction fuel generalizing d code with
  | zero => rfl
  | succ fuel ih =>
    rw [recEvent]
    refine each_proj (p := Device.bridle) (fun d e => ?_) _ d
    extract_lets want hit
    split
    · rw [ih, hkTrigger_bridle, recStamp_bridle]
    · rfl

theorem critical_bridle (d : Device) (t : Nat) : (critical d t).bridle = d.bridle := by
  unfold critical bridleEvent
  rw [recEvent_bridle, hkTrigger_bridle, wr64_bridle, count_bridle]

theorem weld_bridle (d : Device) (n : Fin 4) (t : Nat) : (weld d n t).bridle = d.bridle := by
  unfold weld
  split
  · rfl
  · rw [critical_bridle, wrB_bridle]

/-! ### Faults -/

section
variable {t : Nat} {d : Device}

theorem bridleFault_of_first (h11 : domOn d 11 = true) (hf : bridleFaulty d = false) :
    bridleFault t d = bridleSettle (critical (raise (wrB d Addr.BRD_STAT 2 true) .bridleFault 0) t) t := by
  simp only [bridleFault, h11, hf, Bool.not_false, Bool.and_self, if_true]

theorem senTest_of_stuck {low : Nat} {i : Fin 2} (h11 : domOn d 11 = true) (hc : rdB d Addr.BRD_GCFG 9 = true)
    (ho : rdB d Addr.BRD_OUT_STAT i.1 = true) (hl : low.testBit i.1 = false) : senTest low t d = bridleFault t d := by
  have hany : (List.range 2).any (fun i => rdB d Addr.BRD_OUT_STAT i && !low.testBit i) = true :=
    List.any_eq_true.2 ⟨i.1, List.mem_range.2 i.2, by rw [ho, hl]; rfl⟩
  simp only [senTest, hc, h11, hany, Bool.and_self, if_true]

/-- Both enables read back low. -/
theorem senTest_of_both (t : Nat) (d : Device) : senTest 3 t d = d := by
  have hbits : ∀ i ∈ List.range 2, Nat.testBit 3 i = true := by decide
  have hany : (List.range 2).any (fun i => rdB d Addr.BRD_OUT_STAT i && !Nat.testBit 3 i) = false :=
    List.any_eq_false.2 fun i hi => by simp only [hbits i hi, Bool.not_true, Bool.and_false, Bool.false_eq_true, not_false_eq_true]
  simp only [senTest, hany, Bool.and_false, Bool.false_eq_true, if_false]

theorem ckfWindow_of_outside {cycles : Nat} (h11 : domOn d 11 = true) (hc : cycles < 2875 ∨ 3375 < cycles)
    (hs : supvFault d = false) :
    ckfWindow cycles t d =
      bridleSettle (critical (wrB { d with bridle := { d.bridle with supvGood := none } } Addr.BRD_STAT 3 true) t) t := by
  simp only [ckfWindow, h11, Bool.not_true, Bool.false_eq_true, if_false, hc, if_true, hs]

theorem ckfWindow_of_inside {cycles : Nat} (h11 : domOn d 11 = true) (hlo : 2875 ≤ cycles) (hhi : cycles ≤ 3375) :
    ckfWindow cycles t d =
      { d with bridle := { d.bridle with supvGood := some (d.bridle.supvGood.getD t) } } := by
  simp only [ckfWindow, h11, Bool.not_true, Bool.false_eq_true, if_false, hlo.not_gt, hhi.not_gt, or_self]

theorem bridleReset_of_short {low high : Nat} (h : low < ms 50) : bridleReset low high t d = d :=
  if_neg fun hc => h.not_ge hc.2.1

theorem kfCheck_of_due {n : Fin 4} {c : Nat} (hk : (d.bridle.konts[n.1]).checkFrom = some c)
    (hc : c + ms (rdF d (Addr.BRD_K_CFG n.1) 0 9) ≤ t) :
    kfCheck n t d =
      bridleSettle (judgeFeedback { d with bridle := { d.bridle with
        konts := upd d.bridle.konts n (fun k => { k with checkFrom := none }) } } n t true) t := by
  simp only [kfCheck, hk, hc, if_true]

theorem pairHeld_degradedEnd (d : Device) (p : Nat) : pairHeld (degradedEnd d) p = pairHeld d p := by
  unfold pairHeld degradedEnd rdB wrN
  rw [rd_wr_ne _ _ (by decide)]
  exact rdB_wrB_ne { d with bridle := _ } _ _ _ _ _ (.inl (by decide))

theorem atFin_fin {n : Nat} (i : Fin n) (f : Fin n → Device → Device) (d : Device) : atFin n i.1 f d = f i d :=
  dif_pos i.2

theorem degradedExpiry_of_due {p : Fin 8} (hp : d.bridle.degrPair = some p.1) (hd : degraded d = true)
    (ht : d.bridle.degrTill ≤ t) (hh : pairHeld d p.1 = false) :
    degradedExpiry t d = bridleSettle (pairReact (degradedEnd d) p t) t := by
  simp only [degradedExpiry, hp, hd, ht, and_self, if_true, atFin_fin, pairHeld_degradedEnd, hh, Bool.false_eq_true, if_false]

theorem bridleCfgWrite_of_open {offset : Nat} {v : Word} {r : RegRow} (hr : RegMap.row? (0x40800000 + offset) = some r)
    (ho : offset < 0x8000) (hw : r.rws ≠ 0) (hs : sealOpen d 1 = true) :
    bridleCfgWrite offset v t d =
      bridleSettle (lockFollow (pairsFollow (bridleStore
        (wr d (0x40800000 + offset) (BitVec.ofNat 32 (v.toNat &&& r.rws)))) t)) t := by
  simp only [bridleCfgWrite, hr, ho, hw, hs, ne_eq, not_false_eq_true, and_self, if_true]

theorem bridleCfgWrite_of_sealed {offset : Nat} {v : Word} {r : RegRow} (hr : RegMap.row? (0x40800000 + offset) = some r)
    (ho : offset < 0x8000) (hw : r.rws ≠ 0) (hs : sealOpen d 1 = false) :
    bridleCfgWrite offset v t d = sealRefused d 1 := by
  simp only [bridleCfgWrite, hr, ho, hw, hs, ne_eq, not_false_eq_true, and_self, if_true, Bool.false_eq_true, if_false]

theorem bridleCheck_of_started (hs : d.bridle.started = true) : bridleCheck t d = d := by
  simp only [bridleCheck, hs, Bool.or_true, if_true]

theorem bridleCheck_of_bad (h11 : domOn d 11 = true) (hs : d.bridle.started = false) (hb : bridleStored d = none) :
    bridleCheck t d = bridleFault t d := by
  simp only [bridleCheck, h11, hs, hb, Bool.not_true, Bool.or_self, Bool.false_eq_true, if_false]

end

theorem pairReact_started (d : Device) (p : Fin 8) (t : Nat) : (pairReact d p t).bridle.started = d.bridle.started := by
  unfold pairReact
  rw [critical_bridle, wrB_bridle]
  split <;> rfl

/-- The check of a sound configuration starts the bridle. -/
theorem bridleCheck_of_sound {t : Nat} {d : Device} {recs : List (Nat × Word)} (h11 : domOn d 11 = true)
    (hs : d.bridle.started = false) (hb : bridleStored d = some recs) :
    ∃ x : Device, bridleCheck t d = bridleSettle (bridleRole (lockFollow x) t) t ∧ x.bridle.started = true := by
  simp only [bridleCheck, h11, hs, hb, Bool.not_true, Bool.or_self, Bool.false_eq_true, if_false]
  refine ⟨_, rfl, ?_⟩
  rw [each_proj (p := fun d => d.bridle.started)]
  · rw [each_proj (p := fun d => d.bridle.started)]
    · rw [wrB_bridle]
    · intro d p
      split
      · exact pairReact_started ..
      · rfl
  · intro d n
    split
    · rw [weld_bridle]
    · rfl

/-! ### A valid reset -/

/-- A unit that shows the same resets, the same `STUCK` bit and the same pairs. -/
structure ResetKeeps (d e : Device) : Prop where
  cnt : rd e Addr.BRD_RESET_CNT = rd d Addr.BRD_RESET_CNT
  stuck : rdB e Addr.BRD_STAT 4 = rdB d Addr.BRD_STAT 4
  pairs : rd e Addr.BRD_SA_STAT = rd d Addr.BRD_SA_STAT

section
variable {d e : Device}

theorem ResetKeeps.refl (d : Device) : ResetKeeps d d := ⟨rfl, rfl, rfl⟩

theorem ResetKeeps.bridle (h : ResetKeeps d e) (b : Bridle) : ResetKeeps d { e with bridle := b } := ⟨h.cnt, h.stuck, h.pairs⟩

theorem ResetKeeps.wr (h : ResetKeeps d e) {a : Nat} (v : Word) (hc : Addr.BRD_RESET_CNT ≠ a) (hs : Addr.BRD_STAT ≠ a)
    (hp : Addr.BRD_SA_STAT ≠ a) : ResetKeeps d (wr e a v) :=
  ⟨(rd_wr_ne e v hc).trans h.cnt, (congrArg (bit · 4) (rd_wr_ne e v hs)).trans h.stuck, (rd_wr_ne e v hp).trans h.pairs⟩

theorem ResetKeeps.outStat (h : ResetKeeps d e) (i : Nat) (b : Bool) : ResetKeeps d (wrB e Addr.BRD_OUT_STAT i b) :=
  h.wr _ (by decide) (by decide) (by decide)

theorem ResetKeeps.stat (h : ResetKeeps d e) {i : Nat} (b : Bool) (hi : i ≠ 4) : ResetKeeps d (wrB e Addr.BRD_STAT i b) :=
  ⟨(rd_wr_ne e _ (by decide)).trans h.cnt, (rdB_wrB_ne e _ _ _ _ b (.inr hi)).trans h.stuck,
    (rd_wr_ne e _ (by decide)).trans h.pairs⟩

theorem ResetKeeps.degradedEnd (h : ResetKeeps d e) : ResetKeeps d (degradedEnd e) :=
  ((h.bridle _).stat false (by decide)).wr _ (by decide) (by decide) (by decide)

theorem ResetKeeps.ite {p : Prop} [Decidable p] {e' : Device} (h : ResetKeeps d e) (h' : ResetKeeps d e') :
    ResetKeeps d (if p then e else e') := by
  split <;> assumption

theorem ResetKeeps.each {α : Type} {f : Device → α → Device} (hf : ∀ {e} x, ResetKeeps d e → ResetKeeps d (f e x))
    (l : List α) (h : ResetKeeps d e) : ResetKeeps d (each l f e) := by
  induction l generalizing e with
  | nil => exact h
  | cons x l ih => exact ih (hf x h)

theorem ResetKeeps.pairState (h : ResetKeeps d e) (p : Nat) : pairState e p = pairState d p :=
  congrArg (field · (3 * p) 3) h.pairs

theorem ResetKeeps.pairHeld (h : ResetKeeps d e) (p : Nat) : pairHeld e p = pairHeld d p :=
  congrArg (bit · (24 + p)) h.pairs

end

/-- A counter whose overflow bit stands in another register reads one more, up to its limit. -/
theorem rdN_count {d : Device} {a r i : Nat} (hovf : CntMap.ovf? a = some (r, i)) (hr : a ≠ r) :
    rdN (count d a) a = min (rdN d a + 1) 0xFFFFFFFF := by
  have hlt : rdN d a < 2 ^ 32 := (rd d a).isLt
  unfold count
  by_cases h : rdN d a + 1 < 0xFFFFFFFF
  · rw [countBy_small d a 1 h, rdN, wrN, rd_wr_same, word, BitVec.toNat_ofNat]
    omega
  · rw [countBy_full d a 1 (by omega), setOvf, hovf]
    dsimp only
    rw [rdN, wrB, rd_wr_ne _ _ hr, wrN, rd_wr_same, word, BitVec.toNat_ofNat]
    omega

/-- The count of a reset, with the `STUCK` bit cleared. -/
def resetCounted (d : Device) : Device := count (wrB d Addr.BRD_STAT 4 false) Addr.BRD_RESET_CNT

theorem ovf_resetCount : CntMap.ovf? Addr.BRD_RESET_CNT = some (1082163244, 2) := by decide +kernel

theorem rd_resetCounted {d : Device} {a : Nat} (hc : a ≠ Addr.BRD_RESET_CNT) (ho : a ≠ 1082163244) :
    rd (resetCounted d) a = rd (wrB d Addr.BRD_STAT 4 false) a := by
  refine rd_countBy_ne _ _ 1 _ hc fun r i h => ?_
  rw [ovf_resetCount] at h
  simp only [Option.some.injEq, Prod.mk.injEq] at h
  rwa [← h.1]

theorem resetCounted_cnt (d : Device) :
    rdN (resetCounted d) Addr.BRD_RESET_CNT = min (rdN d Addr.BRD_RESET_CNT + 1) 0xFFFFFFFF := by
  rw [resetCounted, rdN_count ovf_resetCount (by decide), rdN, wrB, rd_wr_ne d _ (by decide), rdN]

theorem resetCounted_stuck (d : Device) : rdB (resetCounted d) Addr.BRD_STAT 4 = false :=
  (congrArg (bit · 4) (rd_resetCounted (by decide) (by decide))).trans (rdB_wrB_same d _ _ _ (by decide))

theorem resetCounted_pairs (d : Device) : rd (resetCounted d) Addr.BRD_SA_STAT = rd d Addr.BRD_SA_STAT :=
  (rd_resetCounted (by decide) (by decide)).trans (rd_wr_ne d _ (by decide))

/-- A pair whose demand has gone is released. -/
def releaseGone (d : Device) (p : Fin 8) : Device :=
  if pairState d p.1 = 0 then
    wrB { d with bridle := { d.bridle with pairs := upd d.bridle.pairs p (fun a =>
      { a with stop1Till := none, degraded := false }) } } Addr.BRD_SA_STAT (24 + p.1) false
  else d

theorem releaseGone_state (d : Device) (p q : Fin 8) : pairState (releaseGone d p) q.1 = pairState d q.1 := by
  unfold releaseGone
  split
  · exact rdF_wrB_ne { d with bridle := _ } _ _ _ _ _ _ (.inr (.inr (by omega)))
  · rfl

theorem releaseGone_held_same {d : Device} {p : Fin 8} (h : pairState d p.1 = 0) : pairHeld (releaseGone d p) p.1 = false := by
  rw [releaseGone, if_pos h]
  exact rdB_wrB_same _ _ _ _ (by omega)

theorem releaseGone_held_ne {d : Device} {p q : Fin 8} (h : q ≠ p ∨ pairState d p.1 ≠ 0) :
    pairHeld (releaseGone d p) q.1 = pairHeld d q.1 := by
  unfold releaseGone
  split
  · next hs =>
    have hne : p.1 ≠ q.1 := fun he => h.elim (fun hq => hq (Fin.ext he.symm)) (absurd hs)
    exact rdB_wrB_ne { d with bridle := _ } _ _ _ _ _ (.inr (by omega))
  · rfl

theorem releaseGone_rd (d : Device) (p : Fin 8) {a : Nat} (ha : a ≠ Addr.BRD_SA_STAT) :
    rd (releaseGone d p) a = rd d a := by
  unfold releaseGone
  split
  · exact rd_wr_ne { d with bridle := _ } _ ha
  · rfl

/-- The pairs after the release: the states as they were, and no reaction held on a pair that is OK. -/
theorem each_releaseGone (l : List (Fin 8)) (d : Device) (q : Fin 8) :
    pairState (each l releaseGone d) q.1 = pairState d q.1 ∧
    (q ∈ l → pairState d q.1 = 0 → pairHeld (each l releaseGone d) q.1 = false) ∧
    (pairState d q.1 ≠ 0 → pairHeld (each l releaseGone d) q.1 = pairHeld d q.1) ∧
    (pairHeld d q.1 = false → pairHeld (each l releaseGone d) q.1 = false) := by
  induction l generalizing d with
  | nil => exact ⟨rfl, fun h => absurd h List.not_mem_nil, fun _ => rfl, id⟩
  | cons p l ih =>
    obtain ⟨hs, hin, hne, hk⟩ := ih (releaseGone d p)
    rw [releaseGone_state] at hs hin hne
    refine ⟨hs, fun hq h0 => ?_, fun h0 => ?_, fun hh => hk ?_⟩
    · by_cases hp : q = p
      · subst hp
        exact hk (releaseGone_held_same h0)
      · exact hin ((List.mem_cons.1 hq).resolve_left hp) h0
    · by_cases hp : q = p
      · subst hp
        exact (hne h0).trans (releaseGone_held_ne (.inr h0))
      · exact (hne h0).trans (releaseGone_held_ne (.inl hp))
    · by_cases hp : q = p ∧ pairState d p.1 = 0
      · obtain ⟨rfl, h0⟩ := hp
        exact releaseGone_held_same h0
      · rw [releaseGone_held_ne (by tauto)]
        exact hh

theorem each_releaseGone_rd (l : List (Fin 8)) (d : Device) {a : Nat} (ha : a ≠ Addr.BRD_SA_STAT) :
    rd (each l releaseGone d) a = rd d a :=
  each_proj (p := fun d => rd d a) (fun d p => releaseGone_rd d p ha) l d

/-- What a reset clears beside the pairs leaves the count, the `STUCK` bit and the pairs. -/
theorem bridleReset_of_valid {low high t : Nat} {d : Device} (h11 : domOn d 11 = true) (hlo : ms 50 ≤ low)
    (hhi : low ≤ sec 5) (hs : rdB d Addr.BRD_STAT 4 = false ∨ ms 50 ≤ high) :
    ∃ x : Device, bridleReset low high t d = bridleSettle x t ∧
      ResetKeeps (each (List.finRange 8) releaseGone (resetCounted d)) x := by
  unfold bridleReset
  extract_lets stuck dCount dPairs dDegr dImd dKonts dSupv allOk src dDone
  rw [if_pos ⟨h11, hlo, hhi, hs⟩]
  refine ⟨dDone, rfl, ?_⟩
  have hp : ResetKeeps (each (List.finRange 8) releaseGone (resetCounted d)) dPairs := .refl _
  have hd : ResetKeeps (each (List.finRange 8) releaseGone (resetCounted d)) dDegr := by
    unfold dDegr
    split
    · exact .ite hp.degradedEnd hp
    · exact hp
  have hi : ResetKeeps (each (List.finRange 8) releaseGone (resetCounted d)) dImd := .ite (hd.outStat _ _) hd
  have hk : ResetKeeps (each (List.finRange 8) releaseGone (resetCounted d)) dKonts :=
    .each (fun n h => .ite (((h.outStat _ _).bridle _).outStat _ _) ((h.outStat _ _).bridle _)) _ hi
  have hv : ResetKeeps (each (List.finRange 8) releaseGone (resetCounted d)) dSupv := by
    unfold dSupv
    split
    · exact .ite (hk.stat _ (by decide)) hk
    · exact hk
  exact .ite (hv.bridle _) hv

/-- Settles O49: each fault by its condition, the resets by the length of the low, and the pairs after one. -/
theorem theBridleFaults : Obligations.TheBridleFaults := by
  refine ⟨?fault, ?stuck, ?both, ?outside, ?inside, ?reset, ?short, ?long, ?feedback, ?expiry, ?absent, ?write, ?sealed,
    ?started, ?check⟩
  case fault =>
    rintro s t d rfl h11 hf
    exact done_whileOn_one s h11 (bridleFault_of_first h11 hf)
  case stuck =>
    rintro s t d low i rfl h11 hc ho hl
    exact done_whileOn_one s h11 (senTest_of_stuck h11 hc ho hl)
  case both =>
    rintro s t d rfl h11
    exact done_whileOn_one s h11 (senTest_of_both t _)
  case outside =>
    rintro s t d cycles rfl h11 hc hs
    exact done_whileOn_one s h11 (ckfWindow_of_outside h11 hc hs)
  case inside =>
    rintro s t d cycles rfl h11 hlo hhi
    exact done_whileOn_one s h11 (ckfWindow_of_inside h11 hlo hhi)
  case reset =>
    rintro s t d low high rfl h11 hlo hhi hs
    obtain ⟨x, heq, hx⟩ := bridleReset_of_valid (t := t) h11 hlo hhi hs
    refine ⟨_, done_whileOn_one s h11 heq, x, rfl, ?_, ?_, fun p => ?_⟩
    · rw [rdN, hx.cnt, each_releaseGone_rd _ _ (by decide), ← rdN, resetCounted_cnt]
    · rw [hx.stuck, rdB, each_releaseGone_rd _ _ (by decide), ← rdB, resetCounted_stuck]
    · obtain ⟨hst, hin, hne, -⟩ := each_releaseGone (List.finRange 8) (resetCounted (at50 s.dev t)) p
      have hstate : pairState (resetCounted (at50 s.dev t)) p.1 = pairState (at50 s.dev t) p.1 :=
        congrArg (field · (3 * p.1) 3) (resetCounted_pairs _)
      have hheld : pairHeld (resetCounted (at50 s.dev t)) p.1 = pairHeld (at50 s.dev t) p.1 :=
        congrArg (bit · (24 + p.1)) (resetCounted_pairs _)
      rw [hstate] at hst hin hne
      rw [hx.pairState, hx.pairHeld]
      exact ⟨hst, hin (List.mem_finRange p), fun h => (hne h).trans hheld⟩
  case short =>
    rintro s t d low high rfl h11 hl
    exact done_whileOn_one s h11 (bridleReset_of_short hl)
  case long =>
    rintro s t d low rfl h11 hl
    exact done_whileOn_one s h11 (if_pos ⟨h11, hl⟩)
  case feedback =>
    rintro s t d n c rfl h11 hk hc
    exact done_whileOn_one s h11 (kfCheck_of_due hk hc)
  case expiry =>
    rintro s t d p rfl h11 hp hd ht hh
    exact done_whileOn_one s h11 (degradedExpiry_of_due hp hd ht hh)
  case absent =>
    rintro s t d rfl h11
    exact done_eq s (if_pos h11)
  case write =>
    rintro s t d offset v r rfl h1 h11 hr ho hw hs
    exact done_whileOn_two s h1 h11 (bridleCfgWrite_of_open hr ho hw hs)
  case sealed =>
    rintro s t d offset v r rfl h1 h11 hr ho hw hs
    exact done_whileOn_two s h1 h11 (bridleCfgWrite_of_sealed hr ho hw hs)
  case started =>
    rintro s t d rfl h11 hs
    exact done_whileOn_one s h11 (bridleCheck_of_started hs)
  case check =>
    rintro s t d rfl h11 hs
    exact ⟨_, done_whileOn_one s h11 rfl, bridleCheck_of_bad h11 hs, fun recs hb => bridleCheck_of_sound h11 hs hb⟩

end Sys2Proof.Proofs.Bridle

/-! The recorder engines and the bobbins (R263 to R280). -/

namespace Sys2Proof.Proofs.Recorder

open Sys2Proof Sys2Proof.Machine Sys2Proof.Laws Sys2Proof.Proofs.Commands Sys2Proof.Proofs.Measurement

/-! ### Engines -/

section
variable {t : Nat} {d : Device} {e : Fin 4}

theorem recArm_of_idle (h : recState d e.1 = 0) : recArm e t d = recFlow (recBegin d e) e t := by
  have hlive : decide (1 ≤ recState d e.1 ∧ recState d e.1 ≤ 4) = false := decide_eq_false (by omega)
  simp only [recArm, hlive, Bool.false_eq_true, if_false]

/-- A live capture ends before the next one begins. -/
theorem recArm_of_live (hlo : 1 ≤ recState d e.1) (hhi : recState d e.1 ≤ 4) :
    recArm e t d = recFlow (recBegin (recEnd d e true) e) e t := by
  simp only [recArm, hlo, hhi, and_self, decide_true, if_true]

/-- An external edge reaches the engines in mode 2 alone. -/
theorem rtrigEdge_last (h0 : rdF d (Addr.REC_TRG 0) 0 2 ≠ 2) (h1 : rdF d (Addr.REC_TRG 1) 0 2 ≠ 2)
    (h2 : rdF d (Addr.REC_TRG 2) 0 2 ≠ 2) (h3 : rdF d (Addr.REC_TRG 3) 0 2 = 2) : rtrigEdge t d = recForce d 3 t := by
  have hlist : List.finRange 4 = [0, 1, 2, 3] := rfl
  have e0 : (0 : Fin 4).1 = 0 := rfl
  have e1 : (1 : Fin 4).1 = 1 := rfl
  have e2 : (2 : Fin 4).1 = 2 := rfl
  have e3 : (3 : Fin 4).1 = 3 := rfl
  simp only [rtrigEdge, hlist, each, List.foldl_cons, List.foldl_nil, e0, e1, e2, e3, if_neg h0, if_neg h1, if_neg h2, h3, if_true]

theorem recPostEnd_of_running (h : recState d e.1 = 1 ∨ recState d e.1 = 2) : recPostEnd e t d = d :=
  if_neg fun hc => by omega

theorem recPostEnd_of_idle (h : recState d e.1 = 0) : recPostEnd e t d = d :=
  if_neg fun hc => by omega

theorem recFrame_of_idle (h : recState d e.1 = 0) : recFrame e t d = d := by
  simp only [recFrame, recPostEnd_of_idle h, h, true_or, if_true]

theorem recEdge_of_other_mode (d : Device) (e : Fin 4) (f : RecFrame) (t : Nat) (h : rdF d (Addr.REC_TRG e.1) 0 2 ≠ 1) :
    recEdge d e f t = d :=
  if_pos (.inl h)

/-- The frame counter of an engine is no register of its state or trigger. -/
theorem rd_frames_ne {a : Nat} (v : Nat) (h : a ≠ Addr.REC_FRAMES_LO e.1 0) (h' : a ≠ Addr.REC_FRAMES_LO e.1 0 + 4) :
    rd (wr64 d (Addr.REC_FRAMES_LO e.1 0) v) a = rd d a :=
  (rd_wr_ne _ _ h').trans (rd_wr_ne d _ h)

theorem recState_frames (d : Device) (v : Nat) : recState (wr64 d (Addr.REC_FRAMES_LO e.1 0) v) e.1 = recState d e.1 := by
  have hne : ∀ e : Fin 4, Addr.REC_STAT e.1 ≠ Addr.REC_FRAMES_LO e.1 0 ∧
    Addr.REC_STAT e.1 ≠ Addr.REC_FRAMES_LO e.1 0 + 4 := by decide
  exact congrArg (field · 0 3) (rd_frames_ne v (hne e).1 (hne e).2)

theorem recTrigger_frames (d : Device) (v : Nat) :
    rdF (wr64 d (Addr.REC_FRAMES_LO e.1 0) v) (Addr.REC_TRG e.1) 0 2 = rdF d (Addr.REC_TRG e.1) 0 2 := by
  have hne : ∀ e : Fin 4, Addr.REC_TRG e.1 ≠ Addr.REC_FRAMES_LO e.1 0 ∧
    Addr.REC_TRG e.1 ≠ Addr.REC_FRAMES_LO e.1 0 + 4 := by decide
  exact congrArg (field · 0 2) (rd_frames_ne v (hne e).1 (hne e).2)

/-- The frame of an engine that waits for its trigger goes to the ring. -/
theorem recFrame_of_waiting {f : RecFrame} (hs : recState d e.1 = 1 ∨ recState d e.1 = 2) (hn : recSources d e.1 ≠ [])
    (hc : rd64 d (Addr.REC_FRAMES_LO e.1 0) + 1 < 2 ^ 64) (hm : rdF d (Addr.REC_TRG e.1) 0 2 ≠ 1)
    (hf : f = { cap := (d.recs[e.1]).cap, index := rd64 d (Addr.REC_FRAMES_LO e.1 0), inst := t, time := recTime d e.1 t,
                words := (recSources d e.1).map (recWord d) }) :
    recFrame e t d =
      recRing (updRec (wr64 d (Addr.REC_FRAMES_LO e.1 0) (rd64 d (Addr.REC_FRAMES_LO e.1 0) + 1)) e
        (fun r => { r with last := some f })) e f := by
  have hempty : (recSources d e.1).isEmpty = false := List.isEmpty_eq_false_iff.2 hn
  have hrun : ¬ (recState d e.1 = 0 ∨ 5 ≤ recState d e.1 ∨ (recSources d e.1).isEmpty = true) := by
    rw [hempty]
    rintro (h | h | h)
    · omega
    · omega
    · exact Bool.false_ne_true h
  have hstate (g : RecEngine → RecEngine) :
      recState (updRec (wr64 d (Addr.REC_FRAMES_LO e.1 0) (rd64 d (Addr.REC_FRAMES_LO e.1 0) + 1)) e g) e.1 = recState d e.1 :=
    recState_frames d _
  subst hf
  simp only [recFrame, recPostEnd_of_running hs, if_neg hrun, if_pos hc,
    recEdge_of_other_mode _ _ _ _ ((recTrigger_frames d _).trans_ne hm), hstate]
  obtain hs | hs := hs
  · simp only [hs]
  · simp only [hs]

theorem recPostEnd_of_end (hs : recState d e.1 = 3) (hp : (d.recs[e.1]).postLeft = some 0)
    (ha : rdB d (Addr.REC_CFG e.1) 31 = false) :
    recPostEnd e t d = recFlow (setRecState (recEnd d e false) e.1 5) e t := by
  have hne : ∀ e : Fin 4, Addr.REC_CFG e.1 ≠ Addr.REC_STAT e.1 := by decide
  have hauto : rdB (setRecState (recEnd d e false) e.1 5) (Addr.REC_CFG e.1) 31 = false :=
    (rdB_wrF_ne (recEnd d e false) _ _ _ _ _ _ (.inl (hne e))).trans ha
  simp only [recPostEnd, hs, hp, and_self, if_true, hauto, Bool.false_eq_true, if_false]

theorem recFlush_of_due (hf : rdF d (Addr.REC_FLUSH e.1) 0 14 ≠ 0) (hb : (d.recs[e.1]).block ≠ [])
    (ht : (d.recs[e.1]).blockAt + ms (rdF d (Addr.REC_FLUSH e.1) 0 14) ≤ t) :
    recFlush e t d = updRec d e (fun r => { r with closed := true }) :=
  if_pos ⟨hf, hb, ht⟩

theorem recDrained_of_low {g : Gap} (hg : (d.recs[e.1]).missing = some g)
    (hl : (d.recs[e.1]).history.length * (recSources d e.1).length ≤ 4096) :
    recDrained e d =
      wrB (addGap (updRec d e (fun r => { r with missing := none })) e g) (Addr.REC_STAT e.1) 5 false := by
  simp only [recDrained, hg, hl, if_true]

end

theorem upd_getElem_ne {α : Type} {n : Nat} (v : Vector α n) {i k : Fin n} (h : k ≠ i) (f : α → α) :
    (upd v i f)[k.1] = v[k.1] :=
  Vector.getElem_set_ne _ _ fun he => h (Fin.ext he.symm)

/-- What the end of a capture keeps: the ring passes into the history. -/
theorem recEnd_recs (d : Device) (e : Fin 4) :
    (recEnd d e true).recs[e.1].history = (d.recs[e.1]).history ++ (d.recs[e.1]).ring ∧
    (recEnd d e true).recs[e.1].ring = [] ∧ (∀ k : Fin 4, k ≠ e → (recEnd d e true).recs[k.1] = d.recs[k.1]) := by
  refine ⟨?_, ?_, fun k hk => ?_⟩
  · simp only [recEnd, updRec, upd_getElem_same]
  · simp only [recEnd, updRec, upd_getElem_same]
  · simp only [recEnd, updRec, upd_getElem_ne _ hk]

/-- Settles O50: the commands by the engine's state, a frame before the trigger, and the ends. -/
theorem theRecorderEngines : Obligations.TheRecorderEngines := by
  refine ⟨?arm, ?live, ?force, ?edge, ?frame, ?idle, ?post, ?flush, ?drained, recEnd_recs⟩
  case arm =>
    rintro s t d e rfl h1 hs
    exact done_whileOn_one s h1 (recArm_of_idle hs)
  case live =>
    rintro s t d e rfl h1 hlo hhi
    exact ⟨done_whileOn_one s h1 (recArm_of_live hlo hhi), done_whileOn_one s h1 (if_pos ⟨hlo, hhi⟩)⟩
  case force =>
    rintro s t d e rfl h1
    exact done_whileOn_one s h1 rfl
  case edge =>
    rintro s t d rfl h1 h0 h1' h2 h3
    exact done_whileOn_one s h1 (rtrigEdge_last h0 h1' h2 h3)
  case frame =>
    rintro s t d e1 e2 e f rfl h1 hs hn hc hm hf rfl rfl
    exact done_whileOn_one s h1 (recFrame_of_waiting hs hn hc hm hf)
  case idle =>
    rintro s t d e rfl h1 hs
    exact done_whileOn_one s h1 (recFrame_of_idle hs)
  case post =>
    rintro s t d e rfl h1 hs hp ha
    exact done_whileOn_one s h1 (recPostEnd_of_end hs hp ha)
  case flush =>
    rintro s t d e rfl h1 hf hb ht
    exact done_whileOn_one s h1 (recFlush_of_due hf hb ht)
  case drained =>
    rintro s t d e g rfl h1 hg hl
    exact done_whileOn_one s h1 (recDrained_of_low hg hl)

/-! ### Bobbins -/

section
variable {t : Nat} {d : Device} {b : Fin 16}

/-- A fetch from where the bobbin stands. -/
def bobRetry (d : Device) (b : Fin 16) (walk t : Nat) : Device :=
  bobFlow (bobFetch 65536 d b (rdN d (Addr.BOB_CUR b.1)) walk t) b t

theorem bobRefetch_of_data (hs : bobState d b.1 = 2) (hd : bobHasData d b = true)
    (ht : (d.bobs[b.1]).waitFrom + 1024 * ckf ≤ t) :
    bobRefetch b t d = bobRetry d b (rdF d (Addr.BOB_STAT b.1) 16 16) t := by
  simp only [bobRefetch, hd, ht, decide_true, Bool.and_self, if_true, bobDoorbell, hs, bobRetry]

theorem bobRefetch_of_other (hs : bobState d b.1 ≠ 2) : bobRefetch b t d = d := by
  simp only [bobRefetch, bobDoorbell, if_neg hs, ite_self]

theorem bobResume_of_halt (hs : bobState d b.1 = 3) :
    bobResume b t d = bobRetry d b (rdF d (Addr.BOB_STAT b.1) 16 16) t := by
  simp only [bobResume, hs, bobRetry]

/-- After a loop the walk begins again. -/
theorem bobResume_of_loop (hs : bobState d b.1 = 4) : bobResume b t d = bobRetry d b 0 t := by
  simp only [bobResume, hs, bobRetry]

theorem bobResume_of_working (hs : bobState d b.1 < 3) : bobResume b t d = d := by
  unfold bobResume
  split
  · omega
  · omega
  · omega
  · rfl

/-- A return whose write-back does not fail. -/
theorem bobFinish_of_moved (d : Device) (b : Fin 16) (bad : Option (Nat × Nat)) (late : Option Nat) (stat info t : Nat) :
    bobFinish d b ⟨bad, late, none⟩ stat info t = bobFlow (bobReturn d b stat info t) b t := rfl

theorem descriptorComplete_write {desc : Nat} {bytes : List Byte} (hi : (d.bobs[b.1]).inHand = some desc)
    (hr : (d.bobs[b.1]).retry = none) (hb : bobReads b.1 = false) (hd : bobData d b = some bytes)
    (hl : bytes.length ≤ descLen d desc)
    (hf : dmaFail d (bobSteward b.1) true (descAddr d desc) (max 1 bytes.length) = none) :
    descriptorComplete b ⟨none, none, none⟩ t d =
      bobFlow (bobReturn (bobTaken (dmaPut d (descAddr d desc) bytes) b none) b
        (retStat false false 0 bytes.length) 0 t) b t := by
  simp only [descriptorComplete, hi, hr, hb, hd, Bool.false_eq_true, if_false, Bool.not_false, hf, if_neg hl.not_gt,
    bobFinish_of_moved]

theorem descriptorComplete_read {desc : Nat} (hi : (d.bobs[b.1]).inHand = some desc)
    (hr : (d.bobs[b.1]).retry = none) (hb : bobReads b.1 = true)
    (hf : dmaFail d (bobSteward b.1) false (descAddr d desc) (max 1 (descLen d desc)) = none) :
    descriptorComplete b ⟨none, none, none⟩ t d =
      bobFlow (bobReturn { d with
        out := d.out ++ [(bobPort b.1, memBytes d (descAddr d desc) (descLen d desc))] } b
        (retStat false false 0 (descLen d desc)) 0 t) b t := by
  have hlen : (memBytes d (descAddr d desc) (descLen d desc)).length = descLen d desc := by
    rw [memBytes, List.length_map, List.length_range]
  simp only [descriptorComplete, hi, hr, hb, if_true, hlen, Bool.not_true, hf, lt_irrefl, if_false, bobFinish_of_moved]

/-- Data that does not fit is returned as `BAD`. -/
theorem descriptorComplete_long {desc : Nat} {bytes : List Byte} (hi : (d.bobs[b.1]).inHand = some desc)
    (hr : (d.bobs[b.1]).retry = none) (hb : bobReads b.1 = false) (hd : bobData d b = some bytes)
    (hl : descLen d desc < bytes.length) :
    descriptorComplete b ⟨none, none, none⟩ t d = bobFlow (bobReturn d b (retStat true false 9 0) 0 t) b t := by
  simp only [descriptorComplete, hi, hr, hb, hd, Bool.false_eq_true, if_false, if_pos hl, bobFinish_of_moved]

theorem descriptorComplete_of_none (hi : (d.bobs[b.1]).inHand = none) (m : Moved) : descriptorComplete b m t d = d := by
  simp only [descriptorComplete, hi]

/-- The registers of a bobbin at a link. -/
def bobAt (d : Device) (b : Fin 16) (cur walk : Nat) : Device :=
  wrF (wrN d (Addr.BOB_CUR b.1) cur) (Addr.BOB_STAT b.1) 16 16 walk

theorem memNat_bobAt (d : Device) (b : Fin 16) (cur walk a n : Nat) :
    memNat (bobAt d b cur walk) a n = memNat d a n := by
  have hmem : (bobAt d b cur walk).mem = d.mem := by rw [bobAt, wrF_mem, wrN_mem]
  simp only [memNat, memBytes, memByte, hmem]

variable {fuel cur walk : Nat}

/-- A fetch at a link. -/
theorem bobFetch_succ :
    bobFetch (fuel + 1) d b cur walk t =
      (let e := bobAt d b cur walk
       let cause := dmaCause e (bobSteward b.1) false cur
       let ctrl := word (memNat e cur 4)
       let next := memNat e (cur + 4) 4
       let passed := bobAt e b next (walk + 1)
       if cur % 32 ≠ 0 then bobHalt e b 3 cur 6
       else if cause ≠ 0 then bobHalt e b 3 cur cause
       else if bit ctrl 30 then
         if next % 32 ≠ 0 then bobHalt passed b 3 next 6
         else if rdF e (Addr.BOB_LEN b.1) 0 16 < walk + 1 then bobHalt passed b 4 next 0
         else bobFetch fuel e b next (walk + 1) t
       else if bit ctrl 31 then
         wrB (setBobState (updBob (wrF e (Addr.BOB_STAT b.1) 16 16 (walk + 1)) b (fun p => { p with inHand := some cur }))
           b.1 1) Addr.DMA_INFLIGHT b.1 true
       else setBobState (updBob e b (fun p => { p with inHand := none, waitFrom := t })) b.1 2) := by
  rw [bobFetch]
  rfl

theorem bobFetch_misaligned (hc : cur % 32 ≠ 0) :
    bobFetch (fuel + 1) d b cur walk t = bobHalt (bobAt d b cur walk) b 3 cur 6 :=
  bobFetch_succ.trans (if_pos hc)

theorem bobFetch_failed (hc : cur % 32 = 0) (hf : dmaCause (bobAt d b cur walk) (bobSteward b.1) false cur ≠ 0) :
    bobFetch (fuel + 1) d b cur walk t =
      bobHalt (bobAt d b cur walk) b 3 cur (dmaCause (bobAt d b cur walk) (bobSteward b.1) false cur) :=
  bobFetch_succ.trans ((if_neg (not_not.2 hc)).trans (if_pos hf))

theorem bobFetch_waiting (hc : cur % 32 = 0) (hf : dmaCause (bobAt d b cur walk) (bobSteward b.1) false cur = 0)
    (h30 : bit (word (memNat d cur 4)) 30 = false) (h31 : bit (word (memNat d cur 4)) 31 = false) :
    bobFetch (fuel + 1) d b cur walk t =
      setBobState (updBob (bobAt d b cur walk) b (fun p => { p with inHand := none, waitFrom := t })) b.1 2 := by
  simp only [bobFetch_succ, hc, hf, ne_eq, not_true_eq_false, if_false, memNat_bobAt, h30, h31, Bool.false_eq_true]

/-- The length of the ring stands in a register of its own. -/
theorem ringLength_bobAt : rdF (bobAt d b cur walk) (Addr.BOB_LEN b.1) 0 16 = rdF d (Addr.BOB_LEN b.1) 0 16 := by
  have hne : ∀ b : Fin 16, Addr.BOB_LEN b.1 ≠ Addr.BOB_STAT b.1 ∧ Addr.BOB_LEN b.1 ≠ Addr.BOB_CUR b.1 := by decide
  exact congrArg (field · 0 16) ((rd_wr_ne _ _ (hne b).1).trans (rd_wr_ne d _ (hne b).2))

theorem bobFetch_link (hc : cur % 32 = 0) (hf : dmaCause (bobAt d b cur walk) (bobSteward b.1) false cur = 0)
    (h30 : bit (word (memNat d cur 4)) 30 = true) (hn : memNat d (cur + 4) 4 % 32 = 0)
    (hw : walk + 1 ≤ rdF d (Addr.BOB_LEN b.1) 0 16) :
    bobFetch (fuel + 1) d b cur walk t =
      bobFetch fuel (bobAt d b cur walk) b (memNat d (cur + 4) 4) (walk + 1) t := by
  simp only [bobFetch_succ, hc, hf, ne_eq, not_true_eq_false, if_false, memNat_bobAt, h30, if_true, hn, ringLength_bobAt,
    hw.not_gt]

end

/-- Settles O51: the commands by the bobbin's state, a descriptor by what it holds, and a fetch by the word at the link. What
the registers show at a misaligned link is log 147. -/
theorem theBobbins : Obligations.TheBobbins := by
  refine ⟨?doorbell, ?other, ?refetch, ?resume, ?restart, ?write, ?read, ?long, ?none, ?fetch⟩
  case doorbell =>
    rintro s t d b rfl h1 hs
    exact done_whileOn_one s h1 (if_pos hs)
  case other =>
    rintro s t d b rfl h1 hs
    exact ⟨done_whileOn_one s h1 (if_neg hs), done_whileOn_one s h1 (bobRefetch_of_other hs)⟩
  case refetch =>
    rintro s t d b rfl h1 hs hd ht
    exact done_whileOn_one s h1 (bobRefetch_of_data hs hd ht)
  case resume =>
    rintro s t d b rfl h1
    exact ⟨fun hs => done_whileOn_one s h1 (bobResume_of_halt hs), fun hs => done_whileOn_one s h1 (bobResume_of_loop hs),
      fun hs => done_whileOn_one s h1 (bobResume_of_working hs)⟩
  case restart =>
    rintro s t d b rfl h1 ho
    exact done_whileOn_one s h1 (if_pos ho)
  case write =>
    rintro s t d b desc bytes rfl h1 hi hr hb hd hl hf
    exact done_whileOn_one s h1 (descriptorComplete_write hi hr hb hd hl hf)
  case read =>
    rintro s t d b desc rfl h1 hi hr hb hf
    exact done_whileOn_one s h1 (descriptorComplete_read hi hr hb hf)
  case long =>
    rintro s t d b desc bytes rfl h1 hi hr hb hd hl
    exact done_whileOn_one s h1 (descriptorComplete_long hi hr hb hd hl)
  case none =>
    rintro s t d b rfl h1 hi
    exact done_whileOn_one s h1 (descriptorComplete_of_none hi _)
  case fetch =>
    rintro d b fuel cur walk t e rfl
    exact ⟨bobFetch_misaligned, bobFetch_failed, bobFetch_waiting, bobFetch_link⟩

end Sys2Proof.Proofs.Recorder

/-! The Tomus server: packets, frames and ends by time, and the checks that come before an opcode's own. -/

namespace Sys2Proof.Proofs.Server

open Sys2Proof Sys2Proof.Machine Sys2Proof.Laws Sys2Proof.Proofs.Commands

/-! ### Packets -/

theorem updStats_fin (d : Device) (k : Fin 5) (f : TransportStats → TransportStats) :
    updStats d k.1 f = updTomus d (fun s => { s with stats := upd s.stats k f }) :=
  dif_pos k.2

/-- A count of a transport leaves B0 alone. -/
theorem statRx_b0 (d : Device) (k : Fin 5) : (statRx d k.1).tomus.b0 = d.tomus.b0 := by
  unfold statRx
  rw [updStats_fin]
  rfl

/-- A count of a transport leaves the stored replies alone. -/
theorem statRx_stored (d : Device) (k : Fin 5) : (statRx d k.1).tomus.stored = d.tomus.stored := by
  unfold statRx
  rw [updStats_fin]
  rfl

theorem storedOf_of_stored {d e : Device} (h : e.tomus.stored = d.tomus.stored) (p : Peer) :
    storedOf e p = storedOf d p := by
  unfold storedOf
  rw [h]

/-- What the server answers alone depends on the stored replies only. -/
theorem quick_of_stored {d e : Device} (h : e.tomus.stored = d.tomus.stored) (r : Req) : quick e r = quick d r := by
  unfold quick isRepeat
  rw [storedOf_of_stored h]

/-- A unit that is awake and takes the transport is not woken by the packet. -/
theorem not_woken {d : Device} (h : rdF d Addr.PWR_STAT 18 2 = 0) :
    ¬ (rdF d Addr.PWR_STAT 18 2 = 1 ∧ rdB d Addr.PWR_WAKE_MASK 2 = true) := by
  simp [h]

theorem packetRx_discarded {d : Device} (k : Fin 5) (p : Peer) (bs : List Byte) (t : Nat)
    (h1 : transportTakes d k.1 = true) (h2 : rdF d Addr.PWR_STAT 18 2 = 0) (h3 : parsePacket k.1 p bs = none) :
    packetRx k.1 p bs t d = statDiscard (statRx d k.1) k.1 := by
  unfold packetRx
  simp only [if_pos h1, if_neg (not_woken h2), h3]

/-- A packet that is a request finds its place in B0 or none. -/
theorem packetRx_request {d : Device} (k : Fin 5) (p : Peer) (bs : List Byte) (t : Nat) {r : Req}
    (h1 : transportTakes d k.1 = true) (h2 : rdF d Addr.PWR_STAT 18 2 = 0) (h3 : parsePacket k.1 p bs = some r) :
    packetRx k.1 p bs t d = (if 16 ≤ d.tomus.b0.length then statDrop (statRx d k.1) k.1
      else drain t 16 (updTomus (statRx d k.1) (fun s => { s with b0 := s.b0 ++ [r] }))) := by
  unfold packetRx
  simp only [if_pos h1, if_neg (not_woken h2), h3, statRx_b0]

theorem packetRx_dropped {d : Device} (k : Fin 5) (p : Peer) (bs : List Byte) (t : Nat) {r : Req}
    (h1 : transportTakes d k.1 = true) (h2 : rdF d Addr.PWR_STAT 18 2 = 0) (h3 : parsePacket k.1 p bs = some r)
    (h4 : 16 ≤ d.tomus.b0.length) : packetRx k.1 p bs t d = statDrop (statRx d k.1) k.1 := by
  rw [packetRx_request k p bs t h1 h2 h3, if_pos h4]

/-- The first request of B0 stays there where the server cannot answer it alone. -/
theorem drain_stays {d : Device} {r : Req} {rest : List Req} (t n : Nat) (hb : d.tomus.b0 = r :: rest)
    (hq : quick d r = false) : drain t n d = d := by
  cases n with
  | zero => rfl
  | succ n =>
    unfold drain
    simp only [hb, hq, Bool.false_eq_true, if_false]

theorem packetRx_queued {d : Device} (k : Fin 5) (p : Peer) (bs : List Byte) (t : Nat) {r : Req}
    (h1 : transportTakes d k.1 = true) (h2 : rdF d Addr.PWR_STAT 18 2 = 0) (h3 : parsePacket k.1 p bs = some r)
    (h4 : d.tomus.b0 = []) (h5 : quick d r = false) :
    packetRx k.1 p bs t d = updTomus (statRx d k.1) (fun s => { s with b0 := [r] }) := by
  have hb : (statRx d k.1).tomus.b0 = [] := (statRx_b0 d k).trans h4
  rw [packetRx_request k p bs t h1 h2 h3, if_neg (by simp [h4])]
  simp only [updTomus, hb, List.nil_append]
  exact drain_stays t 16 rfl ((quick_of_stored (statRx_stored d k) r).trans h5)

theorem spiFrame_void (bs : List Byte) {bits : Nat} (t : Nat) (d : Device) (h : bits < 4096) : spiFrame bs bits t d = d :=
  if_pos (Or.inr h)

/-- A frame that begins with two zero bytes only collects the oldest reply. -/
theorem spiFrame_idle {d : Device} {bs answer : List Byte} {rest : List (List Byte)} {bits : Nat} (t : Nat)
    (h1 : domOn d 1 = true) (h2 : 4096 ≤ bits) (h3 : d.tomus.spiOut = answer :: rest) (h4 : sliceLE bs 0 2 = 0) :
    spiFrame bs bits t d = { d with
      out := d.out ++ [(.spi, answer ++ zeros (512 - answer.length))], tomus := { d.tomus with spiOut := rest } } := by
  have hg : ¬ (domOn d 1 = false ∨ bits < 4096) := by simp [h1, h2]
  unfold spiFrame
  rw [if_neg hg, if_pos h4]
  simp only [h3, updTomus, List.headD_cons, List.drop_succ_cons, List.drop_zero]

/-! ### Ends by time -/

/-- A time in whole milliseconds. -/
theorem le_div_ms {a b x : Nat} (h : a + ms x ≤ b) : x ≤ (b - a) / ms 1 := by
  unfold ms at *
  omega

theorem div_ms_lt {a b x : Nat} (h0 : 0 < x) (h : b < a + ms x) : (b - a) / ms 1 < x := by
  unfold ms at *
  omega

theorem within_past {x lo hi : Nat} (d : Device) (h : hi ≤ x) : within x lo hi d = (true, d) := if_pos h

theorem within_before {x lo hi : Nat} (d : Device) (h1 : x < lo) (h2 : lo ≤ hi) : within x lo hi d = (false, d) := by
  unfold within
  rw [if_neg (by omega), if_pos h1]

theorem idleTimeout_past {d : Device} {p : Peer} {x : Session'} {t : Nat} (h1 : sessionOf d p = some x)
    (h2 : x.lastAt + ms 301000 ≤ t) : idleTimeout p t d = endSession d p := by
  unfold idleTimeout
  rw [h1]
  simp only [within_past d (le_div_ms h2), if_true]

theorem idleTimeout_before {d : Device} {p : Peer} {x : Session'} {t : Nat} (h1 : sessionOf d p = some x)
    (h2 : t < x.lastAt + ms 299000) : idleTimeout p t d = d := by
  unfold idleTimeout
  rw [h1]
  simp only [within_before d (div_ms_lt (show 0 < 299000 by decide) h2) (show 299000 ≤ 301000 by decide), Bool.false_eq_true, if_false]

theorem operationDone_selftest {d : Device} {o : LongOp} (t : Nat) (h : opRunning d [0x0701] = some o) :
    operationDone 0x0701 0 t d = opFinish d [0x0701] 0 100 t := by
  unfold operationDone
  rw [h]
  rfl

theorem operationDone_imgBegin {d : Device} {o : LongOp} (t : Nat) (h : opRunning d [0x0200] = some o) :
    operationDone 0x0200 0 t d
      = opFinish (memForget d (imageBase d (o.req.num 0 1)) 0x1000000) [0x0200] 0 100 t := by
  unfold operationDone
  rw [h]
  rfl

/-- Settles O52: a packet is discarded, dropped or queued by what it says and what B0 holds (the list `b0` stands for B0,
log 106); a frame of the SPI, a timeout and an end change what they name. -/
theorem thePacketsOfTheServer : Obligations.ThePacketsOfTheServer := by
  unfold Obligations.ThePacketsOfTheServer
  refine ⟨?discarded, ?dropped, ?queued, ?void, ?idleFrame, ?prove, ?idle, ?notIdle, ?results, ?selftest, ?imgBegin⟩
  case discarded =>
    rintro s t d k p bs rfl h1 h2 h3
    exact done_eq s (packetRx_discarded k p bs t h1 h2 h3)
  case dropped =>
    rintro s t d k p bs r rfl h1 h2 h3 h4
    exact done_eq s (packetRx_dropped k p bs t h1 h2 h3 h4)
  case queued =>
    rintro s t d k p bs r rfl h1 h2 h3 h4 h5
    exact done_eq s (packetRx_queued k p bs t h1 h2 h3 h4 h5)
  case void =>
    rintro s t d bs bits rfl h
    exact done_eq s (spiFrame_void bs t _ h)
  case idleFrame =>
    rintro s t d bs answer rest bits rfl h1 h2 h3 h4
    exact done_eq s (spiFrame_idle t h1 h2 h3 h4)
  case prove =>
    rintro s t d rfl h1
    exact done_whileOn_one s h1 rfl
  case idle =>
    rintro s t d p x rfl h1 h2 h3
    exact done_whileOn_one s h1 (idleTimeout_past h2 h3)
  case notIdle =>
    rintro s t d p x rfl h1 h2 h3
    exact done_whileOn_one s h1 (idleTimeout_before h2 h3)
  case results =>
    rintro s t d rfl h1
    exact done_whileOn_one s h1 rfl
  case selftest =>
    rintro s t d o rfl h1 h2
    exact done_whileOn_one s h1 (operationDone_selftest t h2)
  case imgBegin =>
    rintro s t d o rfl h1 h2
    exact done_whileOn_one s h1 (operationDone_imgBegin t h2)

/-! ### The checks of a request -/

/-- A request of a session is no repeat of a stored reply. -/
theorem isRepeat_of_auth {r : Req} (d : Device) (h : r.auth = true) : isRepeat d r = false := by
  simp [isRepeat, h]

/-- Counting a repeat leaves the stored replies alone. -/
theorem statRepeat_stored (d : Device) (k : Nat) : (statRepeat d k).tomus.stored = d.tomus.stored := by
  unfold statRepeat updStats atFin
  split <;> rfl

/-- A first transmission that is no repeat goes on to the version, the transport and the session. -/
theorem serve_fresh (h : Req → Nat → Device → Answer) {r : Req} (t : Nat) {d : Device} (hr : r.retry = false)
    (hn : isRepeat d r = false) :
    serve h r t d = (if r.version ≠ 1 then reply r none 2 [] d
      else if 3 ≤ r.transport ∧ r.auth then reply r none 11 [] d
      else if r.auth then runTagged h r t d
      else runRequest h r none t d) := by
  unfold serve
  simp only [hr, hn, Bool.false_eq_true, if_false]

theorem serve_repeat (h : Req → Nat → Device → Answer) {r : Req} (t : Nat) {d : Device} {x : Stored}
    (hr : r.retry = false) (hn : isRepeat d r = true) (hx : storedOf d r.peer = some x) :
    serve h r t d = sendPacket r.transport r.peer x.reply (storeReply r x.reply (statRepeat d r.transport)) := by
  have hs : storedOf (statRepeat d r.transport) r.peer = some x :=
    (storedOf_of_stored (statRepeat_stored d r.transport) r.peer).trans hx
  unfold serve
  simp only [hr, hn, hs, Bool.false_eq_true, if_false, if_true]

/-- A request of a session is judged by its session. -/
theorem serve_tagged (h : Req → Nat → Device → Answer) {r : Req} (t : Nat) (d : Device) (hr : r.retry = false)
    (hv : r.version = 1) (ht : r.transport ≤ 2) (ha : r.auth = true) : serve h r t d = runTagged h r t d := by
  rw [serve_fresh h t hr (isRepeat_of_auth d ha), if_neg (not_not.2 hv), if_neg (by omega), if_pos ha]

theorem runTagged_none (h : Req → Nat → Device → Answer) {r : Req} (t : Nat) {d : Device}
    (hs : sessionOf d r.peer = none) : runTagged h r t d = reply r none 14 [] d := by
  unfold runTagged
  rw [hs]

/-- The eighth wrong tag of a session ends it. -/
theorem runTagged_badTag (h : Req → Nat → Device → Answer) {r : Req} (t : Nat) {d : Device} {x : Session'}
    (hs : sessionOf d r.peer = some x) (ht : r.tag ≠ tagOf x r.head) (hb : 7 ≤ x.bad) :
    runTagged h r t d = reply r none 7 [] (endSession (statAuth d r.transport) r.peer) := by
  unfold runTagged
  rw [hs]
  simp only [if_pos ht, show 8 ≤ x.bad + 1 by omega, if_true]

theorem runTagged_repeat (h : Req → Nat → Device → Answer) {r : Req} (t : Nat) {d : Device} {x : Session'}
    (hr : r.retry = false) (hs : sessionOf d r.peer = some x) (ht : r.tag = tagOf x r.head) (hq : r.seq = x.seq)
    (ho : r.opcode = x.opcode) (hp : x.reply ≠ []) :
    runTagged h r t d = sendPacket r.transport r.peer x.reply (statRepeat d r.transport) := by
  unfold runTagged
  rw [hs]
  dsimp only
  rw [if_neg (not_not.2 ht), if_pos ⟨hq, ho⟩, if_neg hp, hr, if_neg Bool.false_ne_true]

theorem runTagged_outOfSequence (h : Req → Nat → Device → Answer) {r : Req} (t : Nat) {d : Device} {x : Session'}
    (hs : sessionOf d r.peer = some x) (ht : r.tag = tagOf x r.head) (hn : ¬ (r.seq = x.seq ∧ r.opcode = x.opcode))
    (hq : r.seq ≠ (x.seq + 1) % 65536) : runTagged h r t d = reply r (some x) 9 [] d := by
  unfold runTagged
  rw [hs]
  dsimp only
  rw [if_neg (not_not.2 ht), if_neg hn, if_pos hq]

theorem runRequest_refused (h : Req → Nat → Device → Answer) {r : Req} (under : Option Session') (t : Nat) {d : Device}
    (hc : refusal d r ≠ 0) : runRequest h r under t d = reply r under (refusal d r) [] d := by
  unfold runRequest
  split
  · contradiction
  · rfl

/-- What refuses a request without its session comes first. -/
theorem refusal_plain {d : Device} {r : Req} {c : Nat} (hc : c ≠ 0) (h : plainRefusal d r = c) : refusal d r = c := by
  unfold refusal
  rw [h]
  exact if_pos hc

/-- What refuses a request by its role comes second. -/
theorem refusal_role {d : Device} {r : Req} {c : Nat} (hc : c ≠ 0) (hp : plainRefusal d r = 0)
    (h : roleRefusal d r = c) : refusal d r = c := by
  unfold refusal
  rw [hp, h]
  simp only [ne_eq, not_true_eq_false, if_false]
  exact if_pos hc

/-- The plain refusal of an allocated opcode on a transport that carries sessions. -/
theorem plainRefusal_allocated {d : Device} {r : Req} {i : OpInfo} (hi : opInfo r.opcode = some i)
    (ht : r.transport ≤ 2) :
    plainRefusal d r = (if Machine.unitReady d = false ∧ r.opcode / 256 ≠ 0 ∧ i.role ≠ 0 then 13
      else if redState d = 3 ∧ i.role ≠ 0 ∧ (r.opcode / 256 = 1 ∨ r.opcode / 256 = 3) ∧ r.opcode ≠ 0x0303 then 13
      else 0) := by
  unfold plainRefusal
  rw [hi]
  exact if_neg (by omega)

theorem plainRefusal_notReady {d : Device} {r : Req} {i : OpInfo} (hi : opInfo r.opcode = some i)
    (ht : r.transport ≤ 2) (hu : Machine.unitReady d = false) (hg : 0x100 ≤ r.opcode) (hro : i.role ≠ 0) :
    plainRefusal d r = 13 := by
  have hq : r.opcode / 256 ≠ 0 := by omega
  rw [plainRefusal_allocated hi ht]
  exact if_pos ⟨hu, hq, hro⟩

theorem plainRefusal_ready {d : Device} {r : Req} {i : OpInfo} (hi : opInfo r.opcode = some i)
    (ht : r.transport ≤ 2) (hu : Machine.unitReady d = true) (hs : redState d ≠ 3) : plainRefusal d r = 0 := by
  rw [plainRefusal_allocated hi ht, if_neg (by simp [hu]), if_neg (by simp [hs])]

theorem roleRefusal_noSession {d : Device} {r : Req} {i : OpInfo} (hi : opInfo r.opcode = some i) (hro : i.role ≠ 0)
    (ho : r.opcode ≠ 0x0018) (ha : r.auth = false) : roleRefusal d r = 6 := by
  unfold roleRefusal
  simp [hi, hro, ha, ho]

theorem roleRefusal_lowRole {d : Device} {r : Req} {i : OpInfo} (hi : opInfo r.opcode = some i) (ha : r.auth = true)
    (hl : reqRole d r < i.role) : roleRefusal d r = 8 := by
  have hro : i.role ≠ 0 := by omega
  unfold roleRefusal
  simp [hi, hro, ha, hl]

/-- Settles O53: the checks in the model's order (log 104), each by the first one that stops the request. -/
theorem theChecksOfARequest : Obligations.TheChecksOfARequest := by
  unfold Obligations.TheChecksOfARequest
  intro h r t d hr
  refine ⟨?repeated, ?version, ?can, ?noSession, ?badTag, ?sessionRepeat, ?sequence, ?refused, ?unknown, ?notOnCan, ?notReady,
    ?role, ?lowRole⟩
  case repeated => exact fun x h1 h2 => serve_repeat h t hr h1 h2
  case version => exact fun h1 h2 => (serve_fresh h t hr h1).trans (if_pos h2)
  case can =>
    intro h1 h2 h3 h4
    rw [serve_fresh h t hr h1, if_neg (not_not.2 h2), if_pos ⟨h3, h4⟩]
  case noSession => exact fun h1 h2 h3 h4 => (serve_tagged h t d hr h1 h2 h3).trans (runTagged_none h t h4)
  case badTag =>
    exact fun x h1 h2 h3 h4 h5 h6 => (serve_tagged h t d hr h1 h2 h3).trans (runTagged_badTag h t h4 h5 h6)
  case sessionRepeat =>
    exact fun x h1 h2 h3 h4 h5 h6 h7 h8 =>
      (serve_tagged h t d hr h1 h2 h3).trans (runTagged_repeat h t hr h4 h5 h6 h7 h8)
  case sequence =>
    exact fun x h1 h2 h3 h4 h5 h6 h7 =>
      (serve_tagged h t d hr h1 h2 h3).trans (runTagged_outOfSequence h t h4 h5 h6 h7)
  case refused =>
    intro h1 h2 h3 h4
    rw [serve_fresh h t hr h1, if_neg (not_not.2 h2), if_neg (by simp [h3]), if_neg (by simp [h3])]
    exact runRequest_refused h none t h4
  case unknown =>
    intro h1
    exact refusal_plain (by decide) (by unfold plainRefusal; rw [h1])
  case notOnCan =>
    intro i h1 h2 h3
    exact refusal_plain (by decide) (by unfold plainRefusal; rw [h1]; exact if_pos ⟨h2, h3⟩)
  case notReady => exact fun i h1 h2 h3 h4 h5 => refusal_plain (by decide) (plainRefusal_notReady h1 h2 h3 h4 h5)
  case role =>
    exact fun i h1 h2 h3 h4 h5 h6 h7 =>
      refusal_role (by decide) (plainRefusal_ready h1 h2 h3 h4) (roleRefusal_noSession h1 h5 h6 h7)
  case lowRole =>
    exact fun i h1 h2 h3 h4 h5 h6 =>
      refusal_role (by decide) (plainRefusal_ready h1 h2 h3 h4) (roleRefusal_lowRole h1 h5 h6)

end Sys2Proof.Proofs.Server

/-! The session opcodes: identity, counts, sessions and host keys. -/

namespace Sys2Proof.Proofs.SessionOpcodes

open Sys2Proof Sys2Proof.Machine Sys2Proof.Laws

/-- An answer whose only check is met. -/
theorem need_met {b : Bool} {status : Nat} {d : Device} {a a' : Answer} (hb : b = true) (ha : a = a') :
    need b status d a = a' := by
  rw [need, if_pos hb, ha]

theorem opOpStatus_running {r : Req} (t : Nat) {e : Device} {o : LongOp} (h1 : r.len = 0)
    (h2 : lastOp e r.peer = some o) (h3 : o.final = none) :
    opOpStatus r t e = okWith (bytesLE 2 o.req.opcode ++ bytesLE 2 1 ++ [BitVec.ofNat 8 o.progress]) e := by
  refine need_met (beq_iff_eq.2 h1) ?_
  simp only [h2, h3]

theorem opOpStatus_ended {r : Req} {t : Nat} {e : Device} {o : LongOp} {status f : Nat} (h1 : r.len = 0)
    (h2 : lastOp e r.peer = some o) (h3 : o.final = some (status, f)) (h4 : t < f + sec 60) :
    opOpStatus r t e = okWith (bytesLE 2 o.req.opcode ++ bytesLE 2 status ++ [BitVec.ofNat 8 o.progress]) e := by
  refine need_met (beq_iff_eq.2 h1) ?_
  simp only [h2, h3, if_pos h4]

theorem opOpStatus_none {r : Req} (t : Nat) {e : Device} (h1 : r.len = 0) (h2 : lastOp e r.peer = none) :
    opOpStatus r t e = deny 0x10 e := by
  refine need_met (beq_iff_eq.2 h1) ?_
  simp only [h2]

theorem opStats_shown {r : Req} (t : Nat) (e : Device) (h1 : r.len = 1) (h2 : r.num 0 1 = 0) :
    opStats r t e = okWith (e.tomus.stats.toList.flatMap (·.bytes)) e := by
  unfold opStats
  simp only [h1, h2, Nat.zero_testBit, ne_eq, not_true_eq_false, Bool.false_eq_true, if_false,
    show ¬ 2 ≤ 0 by decide]

theorem opStats_cleared {r : Req} (t : Nat) {e : Device} (h1 : r.len = 1) (h2 : r.num 0 1 = 1) (h3 : roleFor e r 1 = 0) :
    opStats r t e = okWith (e.tomus.stats.toList.flatMap (·.bytes)) { e with tomus := { e.tomus with
      stats := e.tomus.stats.map (fun x => { x with rxWrap := 0, discard := 0, drop := 0, auth := 0, repeats := 0 }) } } := by
  unfold opStats
  simp only [h1, h2, h3, updTomus, ne_eq, not_true_eq_false, if_false, if_true, show ¬ 2 ≤ 1 by decide,
    show (1 : Nat).testBit 0 = true by decide]

/-- A proof of possession under a key of the slot and an open handshake, where the peer may have a session. -/
theorem opProve_handshake {r : Req} (t : Nat) {e : Device} {h : Handshake} {role : Nat} {k : List Byte} (h1 : r.len = 68)
    (h2 : r.num 0 1 < 8) (h3 : r.num 1 3 = 0) (h4 : sessionRoom e r.peer = true)
    (h5 : e.tomus.hands.find? (fun h => h.peer == r.peer && decide (t < h.at50 + sec 10)) = some h)
    (h6 : (e.tomus.keys[r.num 0 1]?).getD none = some (role, k)) :
    opProve r t e = (
      let e' := { e with tomus := { e.tomus with hands := e.tomus.hands.filter (fun h => h.peer != r.peer) } }
      if Config.ecdsaVerify k (Config.sha256 (h.qh ++ h.qd ++ h.nd ++ serialBytes)) (r.bytes 4 64) = false then
        deny 7 (statAuth e' r.transport)
      else
        let ident := if Config.sessionIdent e.freeCtr = 0 then 1 else Config.sessionIdent e.freeCtr
        let s : Session' :=
          { peer := r.peer, slot := r.num 0 1, role := role, ident := ident,
            key := sessionKey (Config.ecdhX h.draw h.qh) h.nd ident, seq := r.seq, opcode := r.opcode, reply := [],
            count := 1, lastAt := t, bad := 0 }
        okWith (bytesLE 4 ident.toNat ++ [BitVec.ofNat 8 role, 0, 0, 0] ++ bytesLE 2 300)
          { e' with freeCtr := e.freeCtr + 1, tomus := { e'.tomus with
            sessions := e'.tomus.sessions.filter (fun y => y.peer != r.peer) ++ [s] } }) := by
  have hp : ¬ (8 ≤ r.num 0 1 ∨ r.num 1 3 ≠ 0) := by omega
  unfold opProve
  simp only [h1, h4, h5, h6, if_neg hp, ne_eq, not_true_eq_false, Bool.true_eq_false, if_false]
  rfl

/-- Settles O54: what each opcode of the group answers to a request that the server accepts (a list stands for B0,
log 106; a key that is not on the curve is refused with 5, log 108). -/
theorem theSessionOpcodes : Obligations.TheSessionOpcodes := by
  unfold Obligations.TheSessionOpcodes
  refine ⟨?ping, ?identity, ?deviceKey, ?running, ?ended, ?noOp, ?stats, ?cleared, ?hello, ?prove, ?close, ?keySet, ?keyClear,
    ?keyList⟩
  case ping => exact serves_of (fun _ _ _ => rfl) (fun r t e hl => need_met (decide_eq_true hl) rfl)
  case identity => exact serves_of (fun _ _ _ => rfl) (fun r t e hl => need_met (beq_iff_eq.2 hl) rfl)
  case deviceKey => exact serves_of (fun _ _ _ => rfl) (fun r t e hl => need_met (beq_iff_eq.2 hl) rfl)
  case running =>
    exact fun o => serves_of (fun _ _ _ => rfl) (fun r t e ⟨h1, h2, h3⟩ => opOpStatus_running t h1 h2 h3)
  case ended =>
    exact fun o status f => serves_of (fun _ _ _ => rfl) (fun r t e ⟨h1, h2, h3, h4⟩ => opOpStatus_ended h1 h2 h3 h4)
  case noOp => exact serves_of (fun _ _ _ => rfl) (fun r t e ⟨h1, h2⟩ => opOpStatus_none t h1 h2)
  case stats => exact serves_of (fun _ _ _ => rfl) (fun r t e ⟨h1, h2⟩ => opStats_shown t e h1 h2)
  case cleared => exact serves_of (fun _ _ _ => rfl) (fun r t e ⟨h1, h2, h3⟩ => opStats_cleared t h1 h2 h3)
  case hello =>
    refine serves_of (fun _ _ _ => rfl) (fun r t e ⟨h1, h2⟩ => ?_)
    unfold opHello
    simp only [h1, h2, ne_eq, not_true_eq_false, Bool.true_eq_false, if_false]
    rfl
  case prove =>
    exact fun h role k => serves_of (fun _ _ _ => rfl)
      (fun r t e ⟨h1, h2, h3, h4, h5, h6⟩ => opProve_handshake t h1 h2 h3 h4 h5 h6)
  case close => exact serves_of (fun _ _ _ => rfl) (fun r t e hl => need_met (beq_iff_eq.2 hl) rfl)
  case keySet =>
    refine serves_of (fun _ _ _ => rfl) (fun r t e ⟨h1, h2, h3, h4, h5⟩ => ?_)
    have n0 : ¬ 8 ≤ r.num 0 1 := by omega
    have n1 : ¬ r.num 1 1 = 0 := by omega
    have n3 : ¬ 3 < r.num 1 1 := by omega
    unfold opKeySet
    simp only [h1, n0, n1, n3, h5, ne_eq, not_true_eq_false, false_or, if_false]
  case keyClear =>
    refine serves_of (fun _ _ _ => rfl) (fun r t e ⟨h1, h2⟩ => ?_)
    unfold opKeyClear
    rw [if_neg (not_not.2 h1), if_neg (by omega)]
  case keyList => exact serves_of (fun _ _ _ => rfl) (fun r t e hl => need_met (beq_iff_eq.2 hl) rfl)

end Sys2Proof.Proofs.SessionOpcodes

/-! The configuration opcodes and the image opcodes. -/

namespace Sys2Proof.Proofs.ImageOpcodes

open Sys2Proof Sys2Proof.Machine Sys2Proof.Laws Sys2Proof.Proofs.SessionOpcodes

/-! ### Configuration -/

theorem opCfgStatus_shown {r : Req} (t : Nat) (e : Device) (h1 : r.len = 1) (h2 : r.num 0 1 = 0) :
    opCfgStatus r t e = okWith ((List.range 4).map (fun i => BitVec.ofNat 8 ((e.cfg.stack[i]?).getD 0))
      ++ bytesLE 8 (saddleGen e) ++ [BitVec.ofNat 8 e.cfg.degraded.toNat, BitVec.ofNat 8 e.cfg.change.isSome.toNat, 0, 0]
      ++ bytesLE 4 e.cfg.lost ++ padTo 32 e.cfg.hash) e := by
  unfold opCfgStatus
  simp only [h1, h2, Nat.zero_testBit, ne_eq, not_true_eq_false, Bool.false_eq_true, if_false,
    show ¬ 2 ≤ 0 by decide]

/-- Four bytes of a request that are all at most 15, as the opcodes check them. -/
theorem all_le_fifteen {r : Req} {first : Nat} (h : ∀ i < 4, r.num (first + i) 1 ≤ 15) :
    ((List.range 4).map (fun i => r.num (first + i) 1)).all (· ≤ 15) = true := by
  simpa [List.all_eq_true] using h

theorem opSaddleStore_started {r : Req} (t : Nat) {e : Device} (h1 : r.len = 12)
    (h2 : stagedOk e (r.num 0 4) (r.num 8 4) 8188 = true) (h3 : ∀ i < 4, r.num (4 + i) 1 ≤ 15) :
    opSaddleStore r t e = startLong r e (fun x => Machine.saddleStore ((List.range 4).map (fun i => r.num (4 + i) 1))
      (forwardRequest 0x0102 r.params x)) := by
  unfold opSaddleStore
  dsimp only
  rw [if_neg (not_not.2 h1), if_neg (by simp only [h2, all_le_fifteen h3, Bool.true_eq_false, or_self, not_false_eq_true])]

theorem opTackStore_started {r : Req} (t : Nat) {e : Device} (h1 : r.len = 20) (h2 : 1 ≤ r.num 0 1) (h3 : r.num 0 1 ≤ 15)
    (h4 : r.num 1 1 ≤ 1) (h5 : r.num 2 2 = 0) (h6 : r.num 11 1 = 0)
    (h7 : stagedOk e (r.num 12 4) (r.num 16 4) 508 = true) :
    opTackStore r t e = startLong r e (fun x => Machine.tackStore (r.num 0 1) (r.num 1 1) (r.bytes 4 7)
      (forwardRequest 0x0103 r.params x)) := by
  unfold opTackStore
  rw [if_neg (not_not.2 h1), if_neg]
  rintro (h | h | h | h | h | h)
  · omega
  · omega
  · omega
  · exact h h5
  · exact h h6
  · exact Bool.false_ne_true (h.symm.trans h7)

/-- A stack that may be asked for, and the result of asking. -/
theorem opStackSelect_of_result {r : Req} (t : Nat) {e x : Device} {code : Nat} (h1 : r.len = 4)
    (h2 : ∀ i < 4, r.num i 1 ≤ 15) (h3 : groupBusy e 0x0104 = false)
    (h4 : Machine.stackSelect ((List.range 4).map (fun i => r.num i 1)) e = (code, x)) :
    opStackSelect r t e = (if code ≠ 0 then deny (0x8300 + code) x else startLong r x (forwardRequest 0x0104 r.params)) := by
  have h5 : ((List.range 4).map (fun i => r.num i 1)).all (· ≤ 15) = true := by
    simpa [List.all_eq_true] using h2
  unfold opStackSelect
  simp only [h1, h3, h4, h5, ne_eq, not_true_eq_false, Bool.true_eq_false, Bool.false_eq_true, if_false]

theorem opFieldRead_shown {r : Req} (t : Nat) (e : Device) (h1 : r.len = 4) (h2 : 1 ≤ r.num 2 2) (h3 : r.num 2 2 ≤ 64)
    (h4 : r.num 0 2 + r.num 2 2 ≤ 0x10000) :
    opFieldRead r t e = okWith ((List.range (r.num 2 2)).flatMap (fun i =>
      bytesLE 2 (r.num 0 2 + i)
        ++ [BitVec.ofNat 8 (((e.cfg.origins.find? (fun o => o.1 == r.num 0 2 + i)).map (·.2)).getD 0xFF), 0]
        ++ bytesLE 4 (fieldN e (r.num 0 2 + i)))) e := by
  unfold opFieldRead
  dsimp only
  rw [if_neg (not_not.2 h1), if_neg (by omega)]

theorem opStoreRead_shown {r : Req} (t : Nat) (e : Device) {base size : Nat} (h1 : r.len = 10)
    (h2 : storeArea (r.num 0 1) = some (base, size)) (h3 : r.num 1 3 = 0) (h4 : r.num 4 4 + r.num 8 2 ≤ size) :
    opStoreRead r t e = okWith (memBytes e (base + r.num 4 4) (r.num 8 2)) e := by
  unfold opStoreRead
  rw [if_neg (not_not.2 h1), h2]
  exact if_neg (by omega)

/-- Settles O55: what each opcode of the group answers to a request that the server accepts (a list stands for B0,
log 106). -/
theorem theConfigurationOpcodes : Obligations.TheConfigurationOpcodes := by
  unfold Obligations.TheConfigurationOpcodes
  refine ⟨?status, ?stage, ?stageBeyond, ?saddle, ?tack, ?stack, ?stackRefused, ?ack, ?field, ?store⟩
  case status => exact serves_of (fun _ _ _ => rfl) (fun r t e ⟨h1, h2⟩ => opCfgStatus_shown t e h1 h2)
  case stage =>
    refine serves_of (fun _ _ _ => rfl) (fun r t e ⟨h1, h2⟩ => ?_)
    unfold opStage
    rw [if_neg (by omega), if_neg (by omega)]
  case stageBeyond =>
    refine serves_of (fun _ _ _ => rfl) (fun r t e ⟨h1, h2⟩ => ?_)
    unfold opStage
    rw [if_neg (by omega), if_pos h2]
  case saddle => exact serves_of (fun _ _ _ => rfl) (fun r t e ⟨h1, h2, h3⟩ => opSaddleStore_started t h1 h2 h3)
  case tack =>
    exact serves_of (fun _ _ _ => rfl)
      (fun r t e ⟨h1, h2, h3, h4, h5, h6, h7⟩ => opTackStore_started t h1 h2 h3 h4 h5 h6 h7)
  case stack =>
    exact fun x => serves_of (fun _ _ _ => rfl)
      (fun r t e ⟨h1, h2, h3, h4⟩ => (opStackSelect_of_result t h1 h2 h3 h4).trans (if_neg (not_not.2 rfl)))
  case stackRefused =>
    exact fun x code hc => serves_of (fun _ _ _ => rfl)
      (fun r t e ⟨h1, h2, h3, h4⟩ => (opStackSelect_of_result t h1 h2 h3 h4).trans (if_pos hc))
  case ack =>
    refine serves_of (fun _ _ _ => rfl) (fun r t e ⟨h1, h2⟩ => ?_)
    unfold opSaddleAck
    rw [if_neg (not_not.2 h1), if_neg (by simp [h2])]
  case field => exact serves_of (fun _ _ _ => rfl) (fun r t e ⟨h1, h2, h3, h4⟩ => opFieldRead_shown t e h1 h2 h3 h4)
  case store =>
    exact fun base size => serves_of (fun _ _ _ => rfl)
      (fun r t e ⟨h1, h2, h3, h4⟩ => opStoreRead_shown t e h1 h2 h3 h4)

/-! ### Images -/

/-- An erase that is sound and not of a slot that is switching. -/
theorem opImgBegin_started {r : Req} (t : Nat) {e : Device} (h1 : r.len = 8) (h2 : r.num 0 1 ≤ 2) (h3 : r.num 1 3 = 0)
    (h4 : 1 ≤ r.num 4 4) (h5 : r.num 4 4 ≤ 0x1000000) (h6 : ¬ (r.num 0 1 ≠ 1 ∧ xchgState e = 4)) :
    opImgBegin r t e = startLong r e (fun d =>
      updTomus (if r.num 0 1 = 0 then setXchg { d with loom := { d.loom with armed := none } } 1 0 else d)
        (fun s => { s with imgKind := r.num 0 1 + 1 })) := by
  unfold opImgBegin
  dsimp only
  rw [if_neg (not_not.2 h1), if_neg (by omega), if_neg h6]

theorem opImgWrite_written {r : Req} (t : Nat) {e : Device} (h1 : 4 ≤ r.len) (h2 : r.num 0 4 % 4 = 0)
    (h3 : r.num 0 4 + (r.len - 4) ≤ 0x1000000) (h4 : opRunning e [0x0200] = none) (h5 : e.tomus.imgKind ≠ 0) :
    opImgWrite r t e = okay (putBytes e (imageBase e (e.tomus.imgKind - 1) + r.num 0 4) (r.params.drop 4)) := by
  unfold opImgWrite
  dsimp only
  rw [if_neg (by omega), if_neg (by omega), h4, if_neg (by decide), if_neg h5]

theorem opImgActivate_started {r : Req} (t : Nat) {e : Device} (h1 : r.len = 1)
    (h2 : r.num 0 1 = 0 ∧ loomMode e ≠ .run ∨ r.num 0 1 = 1) : opImgActivate r t e = startLong r e id := by
  have hk : ¬ 2 < r.num 0 1 := by omega
  have h2' : ¬ r.num 0 1 = 2 := by omega
  have hr : ¬ (r.num 0 1 = 0 ∧ loomMode e = .run) := by
    rintro ⟨h, hm⟩
    rcases h2 with ⟨-, hn⟩ | h1
    · exact hn hm
    · omega
  unfold opImgActivate
  simp only [h1, hk, h2', hr, ne_eq, not_true_eq_false, false_and, or_self, if_false]

/-- A loom key whose slot and shape are sound. -/
theorem opLoomKey_of_sound {r : Req} (t : Nat) (e : Device) (h1 : r.len = 68) (h2 : r.num 0 1 < 4) (h3 : r.num 1 3 = 0) :
    opLoomKey r t e = (if Config.onCurve (r.bytes 4 64) = false then deny 5 e
      else if sealOpen e 3 = false then deny 12 (sealRefused e 3)
      else okay (raise (mramPut e 4 .plain
        [(loomKeyAddr (r.num 0 1), r.bytes 4 64 ++ bytesLE 4 (crc32c (r.bytes 4 64)))]) .loomKey (r.num 0 1))) := by
  have hs : ¬ 4 ≤ r.num 0 1 := by omega
  unfold opLoomKey
  simp only [h1, hs, h3, ne_eq, not_true_eq_false, false_or, if_false]

/-- Settles O56: what each opcode of the group answers to a request that the server accepts (a list stands for B0,
log 106; the stored form of a loom key is log 66, the status of a key off the curve log 108, the refusal of `IMG_BEGIN`
while an exchange switches log 109). -/
theorem theImageOpcodes : Obligations.TheImageOpcodes := by
  unfold Obligations.TheImageOpcodes
  refine ⟨?beginSteward, ?beginLoom, ?write, ?verify, ?activate, ?arm, ?cancel, ?status, ?key, ?keySealed⟩
  case beginSteward =>
    refine serves_of (fun _ _ _ => rfl) (fun r t e ⟨h1, h2, h3, h4, h5⟩ => ?_)
    rw [opImgBegin_started t h1 (by omega) h3 h4 h5 (by omega)]
    simp only [h2, one_ne_zero, if_false]
    rfl
  case beginLoom =>
    refine serves_of (fun _ _ _ => rfl) (fun r t e ⟨h1, h2, h3, h4, h5, h6⟩ => ?_)
    rw [opImgBegin_started t h1 (by omega) h3 h4 h5 (fun h => h6 h.2)]
    simp only [h2, if_true]
    rfl
  case write =>
    exact serves_of (fun _ _ _ => rfl) (fun r t e ⟨h1, h2, h3, h4, h5⟩ => opImgWrite_written t h1 h2 h3 h4 h5)
  case verify =>
    refine serves_of (fun _ _ _ => rfl) (fun r t e ⟨h1, h2, h3⟩ => ?_)
    unfold opImgVerify
    rw [if_neg (not_not.2 h1), if_neg (by omega), if_neg (not_not.2 h3)]
  case activate => exact serves_of (fun _ _ _ => rfl) (fun r t e ⟨h1, h2⟩ => opImgActivate_started t h1 h2)
  case arm =>
    refine serves_of (fun _ _ _ => rfl) (fun r t e ⟨h1, h2⟩ => ?_)
    unfold opXchgArm
    rw [if_neg (not_not.2 h1), if_neg (not_not.2 h2)]
  case cancel =>
    refine serves_of (fun _ _ _ => rfl) (fun r t e ⟨h1, h2⟩ => ?_)
    unfold opXchgCancel
    rw [if_neg (not_not.2 h1), if_neg (not_not.2 h2)]
  case status => exact serves_of (fun _ _ _ => rfl) (fun r t e hl => need_met (beq_iff_eq.2 hl) rfl)
  case key =>
    refine serves_of (fun _ _ _ => rfl) (fun r t e ⟨h1, h2, h3, h4⟩ => ?_)
    rw [opLoomKey_of_sound t e h1 h2 h3, h4]
    rfl
  case keySealed =>
    refine serves_of (fun _ _ _ => rfl) (fun r t e ⟨h1, h2, h3, h4⟩ => ?_)
    rw [opLoomKey_of_sound t e h1 h2 h3, h4]
    rfl

end Sys2Proof.Proofs.ImageOpcodes

/-! The run control opcodes, and the opcodes of memory access and metrology. -/

namespace Sys2Proof.Proofs.AccessOpcodes

open Sys2Proof Sys2Proof.Machine Sys2Proof.Laws Sys2Proof.Proofs.LoomCommands Sys2Proof.Proofs.SessionOpcodes

/-! ### Run control -/

theorem opLoomRun_started {r : Req} (t : Nat) {e : Device} (h1 : r.len = 0) (h2 : loomMode e = .stop)
    (h3 : e.loom.change = none) (h4 : mayRun e = true) : opLoomRun r t e = startLong r e (runStart 2 t) := by
  unfold opLoomRun
  simp only [h1, h2, h3, h4, ne_eq, not_true_eq_false, Option.isSome_none, Bool.false_eq_true, Bool.true_eq_false, or_self,
    if_false]

theorem opLoomHold_held {r : Req} (t : Nat) {e : Device} (h1 : r.len = 0) (h2 : loomMode e = .run)
    (h3 : rdB e Addr.LOOM_CFG 1 = true) (h4 : redState e ≠ 2) : opLoomHold r t e = okay (enterHold 6 t e) := by
  unfold opLoomHold
  simp only [h1, h2, h3, h4, ne_eq, not_true_eq_false, Bool.true_eq_false, false_and, or_self, if_false]

/-- A kernel command of a program that runs is placed where none is, and refused where one is. -/
theorem opKernel_running {r : Req} (t : Nat) {e : Device} (h1 : r.len = 1) (h2 : 1 ≤ r.num 0 1) (h3 : r.num 0 1 ≤ 5)
    (h4 : loomMode e = .run) :
    opKernel r t e = (if e.loom.kernelCmd.isSome then deny 10 e
      else waitFor kernelKey { e with loom := { e.loom with kernelCmd := some (r.num 0 1) } }) := by
  unfold opKernel
  dsimp only
  rw [if_neg (not_not.2 h1), if_neg (by omega), if_neg (not_not.2 h4)]

/-- A restart whose harnesses are bits of a mask of four answers what the restart says of itself. -/
theorem opThermalRestart_of_mask {r : Req} (t : Nat) (e : Device) (h1 : r.len = 1) (h2 : r.num 0 1 ≤ 15) :
    opThermalRestart r t e = (if (thRestart (r.num 0 1) t e).therm.refused ≠ 0
      then deny (0x8600 + (thRestart (r.num 0 1) t e).therm.refused) (thRestart (r.num 0 1) t e)
      else okay (thRestart (r.num 0 1) t e)) := by
  unfold opThermalRestart
  dsimp only
  rw [if_neg (not_not.2 h1), if_neg (by omega)]

/-- Settles O57: what each opcode of the group answers to a request that the server accepts (a list stands for B0,
log 106). -/
theorem theRunControlOpcodes : Obligations.TheRunControlOpcodes := by
  unfold Obligations.TheRunControlOpcodes
  refine ⟨?status, ?run, ?runRefused, ?stop, ?hold, ?resume, ?kernel, ?kernelBusy, ?clear, ?restart, ?restartRefused⟩
  case status => exact serves_of (fun _ _ _ => rfl) (fun r t e hl => need_met (beq_iff_eq.2 hl) rfl)
  case run => exact serves_of (fun _ _ _ => rfl) (fun r t e ⟨h1, h2, h3, h4⟩ => opLoomRun_started t h1 h2 h3 h4)
  case runRefused =>
    refine serves_of (fun _ _ _ => rfl) (fun r t e ⟨h1, h2⟩ => ?_)
    unfold opLoomRun
    rw [if_neg (not_not.2 h1), if_pos (Or.inl h2)]
  case stop =>
    refine servesAndSettles_of (fun _ _ _ => rfl) (fun r t e ⟨h1, h2⟩ => ?_)
    unfold opLoomStop
    rw [if_neg (not_not.2 h1), if_neg (fun h => h2 h.1), loomStop_of_running t h2]
  case hold =>
    exact servesAndSettles_of (fun _ _ _ => rfl) (fun r t e ⟨h1, h2, h3, h4⟩ => opLoomHold_held t h1 h2 h3 h4)
  case resume =>
    refine serves_of (fun _ _ _ => rfl) (fun r t e ⟨h1, h2⟩ => ?_)
    unfold opLoomResume loomResume
    rw [if_neg (not_not.2 h1), if_neg (not_not.2 h2), if_pos h2]
  case kernel =>
    refine serves_of (fun _ _ _ => rfl) (fun r t e ⟨h1, h2, h3, h4, h5⟩ => ?_)
    rw [opKernel_running t h1 h2 h3 h4, h5, if_neg (by decide)]
  case kernelBusy =>
    exact serves_of (fun _ _ _ => rfl)
      (fun r t e ⟨h1, h2, h3, h4, h5⟩ => (opKernel_running t h1 h2 h3 h4).trans (if_pos h5))
  case clear =>
    refine serves_of (fun _ _ _ => rfl) (fun r t e ⟨h1, h2⟩ => ?_)
    unfold opFaultClear
    rw [if_neg (not_not.2 h1), if_neg (by omega)]
  case restart =>
    exact serves_of (fun _ _ _ => rfl)
      (fun r t e ⟨h1, h2, h3⟩ => (opThermalRestart_of_mask t e h1 h2).trans (if_neg (not_not.2 h3)))
  case restartRefused =>
    exact serves_of (fun _ _ _ => rfl) (fun r t e ⟨h1, h2, h3⟩ => (opThermalRestart_of_mask t e h1 h2).trans (if_pos h3))

/-! ### Memory access -/

/-- A reply is at most 32 bytes longer than its data. -/
theorem replyLength_le (under : Option Session') (n : Nat) : replyLength under n ≤ 32 + n := by
  unfold replyLength
  cases under with
  | none => simp only; omega
  | some _ => simp only; omega

theorem opMemRead_read {r : Req} (t : Nat) (e : Device) (h1 : r.len = 8) (h2 : memHead r = 0)
    (h3 : (elements r).any (readsClear (r.num 4 1)) = false) (h4 : 32 + r.num 4 1 * r.num 6 2 ≤ packetLimit r.transport) :
    opMemRead r t e = (
      let x := memReads (r.num 4 1) t (elements r) ([], 0, e)
      ⟨x.2.1, x.1, x.2.2, none⟩) := by
  have hf (under : Option Session') : ¬ packetLimit r.transport < replyLength under (r.num 4 1 * r.num 6 2) := by
    have := replyLength_le under (r.num 4 1 * r.num 6 2)
    omega
  unfold opMemRead
  simp only [h1, h2, h3, if_neg (hf _), ne_eq, not_true_eq_false, Bool.false_eq_true, if_false]

/-- A write whose head is sound and whose length is that of its data. -/
theorem opMemWrite_of_head {r : Req} (t : Nat) (e : Device) (h1 : 8 ≤ r.len) (h2 : r.len = 8 + r.num 4 1 * r.num 6 2)
    (h3 : memHead r = 0) :
    opMemWrite r t e = (if loomMode e = .run ∧ (elements r).any configPage = true then deny 13 e
      else
        let x := memWrites (r.num 4 1) t
          ((elements r).zipIdx.map (fun y => (y.1, r.num (8 + y.2 * r.num 4 1) (r.num 4 1)))) e
        deny (if x.1 ≠ 0 then x.1 else if sealCounts x.2 ≠ sealCounts e then 12 else 0) x.2) := by
  unfold opMemWrite
  dsimp only
  rw [if_neg (by omega), if_neg (not_not.2 h3)]

/-! ### Metrology -/

theorem frameFor_sent {type mp : Nat} {params : List Byte} (t : Nat) {e : Device} (h1 : domOn e 4 = true)
    (h2 : e.meter.ready = true ∨ type ≠ 1) :
    frameFor type mp params t e = waitFor (frameKey e.meter.seqNo) (lreqSend e type mp params t) := by
  have hn : ¬ (domOn e 4 ∧ e.meter.ready = false ∧ type = 1) := by
    rintro ⟨-, hr, ht⟩
    rcases h2 with h2 | h2
    · exact Bool.false_ne_true (hr.symm.trans h2)
    · exact h2 ht
  unfold frameFor
  rw [if_neg hn, if_pos h1]

theorem opMtrRead_shown {r : Req} (t : Nat) {e : Device} (h1 : r.len = 1) (h2 : r.num 0 1 < 4) (h3 : domOn e 4 = true) :
    opMtrRead r t e = okWith (bytesLE 4 (rdN e (Addr.MP_STAT (r.num 0 1)))
      ++ (List.range 6).flatMap (fun k => bytesLE 8 (rd64 e (Addr.MP_REGm_r_LO (r.num 0 1) k 0)))
      ++ bytesLE 8 (rd64 e Addr.MBX_TIME_LO)) e := by
  unfold opMtrRead
  dsimp only
  rw [if_neg (not_not.2 h1), if_neg (by omega), h3, if_neg (by decide)]

theorem opMtrRecord_shown {r : Req} (t : Nat) {e : Device} {x : Nat × Nat × Bool} (h1 : r.len = 9) (h2 : r.num 8 1 = 0)
    (h3 : domOn e 4 = true) (h4 : e.meter.slots.find? (fun s => s.2.1 == r.num 0 8 && s.2.2) = some x) :
    opMtrRecord r t e = okWith (memBytes e (0x60100000 + 1024 * x.1) 192) e := by
  unfold opMtrRecord
  dsimp only
  rw [if_neg (not_not.2 h1), if_neg (by omega), h3, if_neg (by decide), h4]
  exact if_pos h2

theorem opMtrRecord_none {r : Req} (t : Nat) {e : Device} (h1 : r.len = 9) (h2 : r.num 8 1 ≤ 1) (h3 : domOn e 4 = true)
    (h4 : e.meter.slots.find? (fun s => s.2.1 == r.num 0 8 && s.2.2) = none) : opMtrRecord r t e = deny 5 e := by
  unfold opMtrRecord
  dsimp only
  rw [if_neg (not_not.2 h1), if_neg (by omega), h3, if_neg (by decide), h4]

/-- Settles O58: what each opcode of the two groups answers to a request that the server accepts (a list stands for B0,
log 106). -/
theorem theAccessAndMetrologyOpcodes : Obligations.TheAccessAndMetrologyOpcodes := by
  unfold Obligations.TheAccessAndMetrologyOpcodes
  refine ⟨?read, ?readBad, ?write, ?writeRunning, ?open', ?openEarly, ?close, ?ack, ?clear, ?meter, ?record, ?noRecord, ?keys⟩
  case read => exact serves_of (fun _ _ _ => rfl) (fun r t e ⟨h1, h2, h3, h4⟩ => opMemRead_read t e h1 h2 h3 h4)
  case readBad =>
    refine serves_of (fun _ _ _ => rfl) (fun r t e ⟨h1, h2⟩ => ?_)
    unfold opMemRead
    dsimp only
    rw [if_neg (not_not.2 h1), if_pos h2]
  case write =>
    exact serves_of (fun _ _ _ => rfl)
      (fun r t e ⟨h1, h2, h3, h4⟩ => (opMemWrite_of_head t e h1 h2 h3).trans (if_neg (fun h => h4 h.1)))
  case writeRunning =>
    exact serves_of (fun _ _ _ => rfl)
      (fun r t e ⟨h1, h2, h3, h4, h5⟩ => (opMemWrite_of_head t e h1 h2 h3).trans (if_pos ⟨h4, h5⟩))
  case open' =>
    refine serves_of (fun _ _ _ => rfl) (fun r t e ⟨h1, h2, h3, h4⟩ => ?_)
    unfold opMtrOpen
    rw [if_neg (not_not.2 h1), if_neg (not_not.2 h2), frameFor_sent t h3 (Or.inl h4)]
  case openEarly =>
    refine serves_of (fun _ _ _ => rfl) (fun r t e ⟨h1, h2, h3, h4⟩ => ?_)
    unfold opMtrOpen frameFor
    rw [if_neg (not_not.2 h1), if_neg (not_not.2 h2), if_pos ⟨h3, h4, rfl⟩]
  case close =>
    refine serves_of (fun _ _ _ => rfl) (fun r t e ⟨h1, h2⟩ => ?_)
    unfold opMtrClose
    rw [if_neg (not_not.2 h1), frameFor_sent t h2 (Or.inr (by decide))]
  case ack =>
    refine serves_of (fun _ _ _ => rfl) (fun r t e ⟨h1, h2⟩ => ?_)
    unfold opMtrAck
    rw [if_neg (not_not.2 h1), frameFor_sent t h2 (Or.inr (by decide))]
  case clear =>
    refine serves_of (fun _ _ _ => rfl) (fun r t e ⟨h1, h2⟩ => ?_)
    unfold opMtrClear
    rw [if_neg (not_not.2 h1), frameFor_sent t h2 (Or.inr (by decide))]
  case meter => exact serves_of (fun _ _ _ => rfl) (fun r t e ⟨h1, h2, h3⟩ => opMtrRead_shown t h1 h2 h3)
  case record =>
    exact fun x => serves_of (fun _ _ _ => rfl) (fun r t e ⟨h1, h2, h3, h4⟩ => opMtrRecord_shown t h1 h2 h3 h4)
  case noRecord => exact serves_of (fun _ _ _ => rfl) (fun r t e ⟨h1, h2, h3, h4⟩ => opMtrRecord_none t h1 h2 h3 h4)
  case keys =>
    refine serves_of (fun _ _ _ => rfl) (fun r t e ⟨h1, h2⟩ => ?_)
    unfold opMtrKeys
    rw [if_neg (not_not.2 h1), h2, if_neg (by decide)]

end Sys2Proof.Proofs.AccessOpcodes

/-! The service opcodes (recorder, diagnostics, calibration, coefficients), and those of time, redundancy and logs. -/

namespace Sys2Proof.Proofs.ServiceOpcodes

open Sys2Proof Sys2Proof.Machine Sys2Proof.Laws Sys2Proof.Proofs.Measurement Sys2Proof.Proofs.Ledger
  Sys2Proof.Proofs.SessionOpcodes

/-! ### The recorder -/

theorem opRecCmd_done {r : Req} {k : Fin 4} (t : Nat) (e : Device) (h1 : r.len = 2) (h2 : r.num 0 1 = k.1)
    (h3 : 1 ≤ r.num 1 1) (h4 : r.num 1 1 ≤ 3) : opRecCmd r t e = okay (recCommand k (r.num 1 1) t e) := by
  unfold opRecCmd
  rw [h2, fin?_fin]
  dsimp only
  rw [if_neg (not_not.2 h1), if_neg (by omega)]

theorem opRecRead_shown {r : Req} (t : Nat) {e : Device} {desc : Nat} (h1 : r.len = 14) (h2 : recDesc e r = some desc)
    (h3 : (memNat e desc 4).testBit 31 = false) (h4 : r.num 8 4 + r.num 12 2 ≤ descLen e desc) :
    opRecRead r t e = okWith (memBytes e (descAddr e desc + r.num 8 4) (r.num 12 2)) e := by
  unfold opRecRead
  rw [if_neg (not_not.2 h1), h2]
  dsimp only
  rw [h3, if_neg (by decide), if_neg (by omega)]

theorem opRecRelease_done {r : Req} (t : Nat) {e : Device} {desc : Nat} {b : Fin 16} (h1 : r.len = 8)
    (h2 : recDesc e r = some desc) (h3 : 2 + r.num 0 1 = b.1) :
    opRecRelease r t e
      = okay (Machine.bobDoorbell b t (memWrite steward desc (bytesLE 4 (memNat e desc 4 ||| 2 ^ 31)) e)) := by
  unfold opRecRelease
  rw [if_neg (not_not.2 h1), h2, h3, fin?_fin]

/-! ### Diagnostics -/

/-- A field of a word by the number of the word. -/
theorem field_word {n : Nat} (lo len : Nat) (h : n < 2 ^ 32) : field (word n) lo len = n / 2 ^ lo % 2 ^ len := by
  unfold field word
  rw [BitVec.toNat_ofNat, Nat.mod_eq_of_lt h]

theorem opGateTest_started {r : Req} (t : Nat) {e : Device} (h1 : r.len = 2) (h2 : 1 ≤ r.num 0 1) (h3 : r.num 0 1 ≤ 5)
    (h4 : r.num 1 1 < (if r.num 0 1 ≤ 3 then 48 else 24)) (h5 : e.gtest = none)
    (h6 : testAllowed e (r.num 0 1) (r.num 1 1) = true) :
    opGateTest r t e = waitFor testKey
      (wrN { e with gtest := some { kind := r.num 0 1, target := r.num 1 1, since := t } } Addr.GATE_TEST_STAT (2 ^ 31)) := by
  have hb : r.num 1 1 < 48 := lt_of_lt_of_le h4 (by split <;> decide)
  have hk : field (word (r.num 1 1 + 256 * r.num 0 1)) 8 3 = r.num 0 1 := by rw [field_word _ _ (by omega)]; omega
  have ht : field (word (r.num 1 1 + 256 * r.num 0 1)) 0 6 = r.num 1 1 := by rw [field_word _ _ (by omega)]; omega
  have hw : gateTestWrite (word (r.num 1 1 + 256 * r.num 0 1)) t e
      = wrN { e with gtest := some { kind := r.num 0 1, target := r.num 1 1, since := t } } Addr.GATE_TEST_STAT (2 ^ 31) := by
    rw [gateTestWrite_allowed h5 (by rw [hk, ht]; exact h6), hk, ht]
  have hc : ¬ (r.num 0 1 = 0 ∨ 5 < r.num 0 1 ∨ (if r.num 0 1 ≤ 3 then 48 else 24) ≤ r.num 1 1) := by
    rintro (h | h | h)
    · omega
    · omega
    · exact absurd h4 (not_lt.2 h)
  unfold opGateTest
  dsimp only
  rw [if_neg (not_not.2 h1), if_neg hc, h5, if_neg (by decide), hw]
  exact if_pos rfl

/-! ### Calibration and coefficients -/

/-- A calibration command whose operands are sound, other than FULL, under the entry it is for. -/
theorem opCalCmd_taken {r : Req} (t : Nat) {e : Device} (h1 : r.len = 8) (hc : r.num 0 1 = 1 ∨ r.num 0 1 = 2 ∨ r.num 0 1 = 4)
    (h2 : r.num 1 1 < 32 ∨ 64 ≤ r.num 1 1 ∧ r.num 1 1 < 128) (h3 : r.num 2 2 = 0)
    (h4 : r.num 0 1 = 1 ∧ calState e = 0 ∨ r.num 0 1 ≠ 1 ∧ r.num 1 1 = calEntry e)
    (h5 : calState (calCommand (r.num 0 1) (r.num 1 1) t e) = calReached (r.num 0 1)) :
    opCalCmd r t e = (if 2 ≤ r.num 0 1 ∧ r.num 0 1 ≤ 4 then startLong r (calCommand (r.num 0 1) (r.num 1 1) t e) id
      else okay (settleCal t (calCommand (r.num 0 1) (r.num 1 1) t e))) := by
  have c3 : ¬ r.num 0 1 = 3 := by omega
  have c5 : ¬ r.num 0 1 = 5 := by omega
  have hs : ¬ (r.num 0 1 = 0 ∨ 5 < r.num 0 1 ∨ (32 ≤ r.num 1 1 ∧ r.num 1 1 < 64) ∨ 128 ≤ r.num 1 1 ∨ r.num 2 2 ≠ 0) := by
    omega
  have he : ¬ (r.num 0 1 ≠ 1 ∧ r.num 1 1 ≠ calEntry e) := by omega
  have ht : ((r.num 0 1 != 1 || calState e == 0) && (r.num 0 1 != 5 || calState e != 6)) = true := by
    rcases h4 with ⟨h, hz⟩ | ⟨h, -⟩
    · simp [h, hz]
    · simp [h, c5]
  unfold opCalCmd
  simp only [if_neg c3]
  rw [if_neg (not_not.2 h1), if_neg hs, if_neg he, Bool.and_assoc, ht, h5, beq_self_eq_true, if_neg (by decide)]

theorem opCalRestore_judged {r : Req} (t : Nat) {e : Device} (h1 : r.len = 36) (h2 : r.num 1 3 = 0) (h3 : calState e = 1)
    (h4 : calEntry e = r.num 0 1) (h5 : sliceLE (r.bytes 12 24) 20 4 = crc32c ((r.bytes 12 24).take 20)) :
    opCalRestore r t e = (if r.bytes 4 8 ≠ serialBytes then deny 15 e
      else startLong r e (fun x => settleCal t (Machine.calRestore t
        (wrN (wrN x Addr.CAL_RST_OFF (sliceLE (r.bytes 12 24) 0 4)) Addr.CAL_RST_GAIN (sliceLE (r.bytes 12 24) 4 4))))) := by
  unfold opCalRestore
  dsimp only
  rw [if_neg (not_not.2 h1), if_neg (not_not.2 h2), if_neg (by omega), if_neg (not_not.2 h5)]

theorem opCoefWrite_written {r : Req} (t : Nat) {e : Device} (h1 : 2 ≤ r.len) (h2 : r.num 0 2 % 2 = 0)
    (h3 : r.len % 2 = 0) (h4 : r.num 0 2 + (r.len - 2) ≤ 8192)
    (h5 : rsmBankOpen e (!rdB e Addr.RSM_COEF_CTRL 1) = true) :
    opCoefWrite r t e = (
      let bankB := !rdB e Addr.RSM_COEF_CTRL 1
      let old := rsmBankBytes e bankB
      let new := old.take (r.num 0 2) ++ r.params.drop 2 ++ old.drop (r.num 0 2 + (r.params.drop 2).length)
      let touched := (List.range 2048).filter
        (fun i => decide (r.num 0 2 < 4 * i + 4 ∧ 4 * i < r.num 0 2 + (r.params.drop 2).length))
      okay (rsmShowCrc (each touched (fun x i =>
        wrN x (if bankB then Addr.RSM_COEF_B i else Addr.RSM_COEF_A i) (sliceLE new (4 * i) 4)) e) bankB)) := by
  have hl : (r.params.drop 2).length = r.len - 2 := List.length_drop
  unfold opCoefWrite
  dsimp only
  rw [if_neg (by omega), if_neg (by omega), h5, if_neg (by decide)]

/-- Settles O59: what each opcode of the three groups answers to a request that the server accepts (a list stands for B0,
log 106). -/
theorem theServiceOpcodes : Obligations.TheServiceOpcodes := by
  unfold Obligations.TheServiceOpcodes
  refine ⟨?recCmd, ?recStatus, ?recRead, ?recRelease, ?gateTest, ?selftest, ?calStart, ?calLong, ?calExport, ?calRestore,
    ?coef, ?switch⟩
  case recCmd =>
    exact fun k => serves_of (fun _ _ _ => rfl) (fun r t e ⟨h1, h2, h3, h4⟩ => opRecCmd_done t e h1 h2 h3 h4)
  case recStatus =>
    refine serves_of (fun _ _ _ => rfl) (fun r t e ⟨h1, h2⟩ => ?_)
    unfold opRecStatus
    dsimp only
    rw [if_neg (not_not.2 h1), if_neg (by omega)]
  case recRead =>
    exact fun desc => serves_of (fun _ _ _ => rfl) (fun r t e ⟨h1, h2, h3, h4⟩ => opRecRead_shown t h1 h2 h3 h4)
  case recRelease =>
    exact fun desc b => serves_of (fun _ _ _ => rfl) (fun r t e ⟨h1, h2, h3⟩ => opRecRelease_done t h1 h2 h3)
  case gateTest =>
    exact serves_of (fun _ _ _ => rfl)
      (fun r t e ⟨h1, h2, h3, h4, h5, h6⟩ => opGateTest_started t h1 h2 h3 h4 h5 h6)
  case selftest =>
    refine serves_of (fun _ _ _ => rfl) (fun r t e ⟨h1, h2⟩ => ?_)
    unfold opSelftest
    rw [if_neg (not_not.2 h1), if_neg (not_not.2 h2)]
  case calStart =>
    refine servesAndSettles_of (fun _ _ _ => rfl) (fun r t e ⟨h1, h2, h3, h4, h5, h6⟩ => ?_)
    rw [opCalCmd_taken t h1 (Or.inl h2) h3 h4 (Or.inl ⟨h2, h5⟩) (by rw [h2]; exact h6), if_neg (by omega), h2]
  case calLong =>
    refine servesAndSettles_of (fun _ _ _ => rfl) (fun r t e ⟨h1, h2, h3, h4, h5, h6⟩ => ?_)
    rw [opCalCmd_taken t h1 (Or.inr h2) h3 h4 (Or.inr ⟨by omega, h5⟩) h6, if_pos (by omega)]
  case calExport =>
    refine serves_of (fun _ _ _ => rfl) (fun r t e ⟨h1, h2⟩ => ?_)
    unfold opCalExport
    rw [if_neg (not_not.2 h1), if_neg (by omega)]
  case calRestore =>
    exact serves_of (fun _ _ _ => rfl) (fun r t e ⟨h1, h2, h3, h4, h5⟩ => opCalRestore_judged t h1 h2 h3 h4 h5)
  case coef =>
    exact serves_of (fun _ _ _ => rfl) (fun r t e ⟨h1, h2, h3, h4, h5⟩ => opCoefWrite_written t h1 h2 h3 h4 h5)
  case switch =>
    refine serves_of (fun _ _ _ => rfl) (fun r t e ⟨h1, h2⟩ => ?_)
    unfold opRsmSwitch
    dsimp only
    rw [if_neg (not_not.2 h1), if_pos (Or.inl h2)]

/-! ### Time, redundancy and logs -/

theorem opTimeSet_set {r : Req} (t : Nat) {e : Device} (h1 : r.len = 8) (h2 : timeState e < 2)
    (h3 : rdB e Addr.TIME_STAT 4 = false) :
    opTimeSet r t e = okay (setTimeState 1 { e with time := { e.time with ns := r.num 0 8, frac := 0, at50 := t } }) := by
  have hn : ¬ (2 ≤ timeState e ∨ rdB e Addr.TIME_STAT 4 = true) := by simp [h2, h3]
  unfold opTimeSet
  rw [if_neg (not_not.2 h1), if_neg hn]
  rfl

/-- A ring that holds every event answers them by their places. -/
theorem opEventRead_shown {r : Req} (t : Nat) {e : Device} (h1 : r.len = 5) (h2 : 1 ≤ r.num 4 1) (h3 : r.num 4 1 ≤ 16)
    (h4 : e.events.length ≤ 4096) :
    opEventRead r t e
      = okWith (((e.events.zipIdx.drop (r.num 0 4)).take (r.num 4 1)).flatMap (fun x => eventBytes x.1)) e := by
  have hk (i : Nat) : e.events.length ≤ i + 4096 := by omega
  unfold opEventRead
  dsimp only
  rw [if_neg (not_not.2 h1), if_neg (by omega)]
  simp only [hk, if_true]

theorem opLogbookRead_shown {r : Req} (t : Nat) (e : Device) (h1 : r.len = 5) (h2 : 1 ≤ r.num 4 1) (h3 : r.num 4 1 ≤ 16)
    (h4 : r.num 0 4 ≠ 0) :
    opLogbookRead r t e
      = okWith (((List.range (r.num 4 1)).filter (fun i => decide (r.num 0 4 + i ≤ e.meter.logUsed))).flatMap
        (fun i => memBytes e (0x60180000 + 64 * (r.num 0 4 + i - 1)) 64)) e := by
  unfold opLogbookRead
  dsimp only
  rw [if_neg (not_not.2 h1), if_neg (by omega)]

/-- Settles O60: what each opcode of the three groups answers to a request that the server accepts (a list stands for B0,
log 106; events are numbered from 0, log 17; a paired unit that is not active shows as the standby, log 108). -/
theorem theTimeAndLogOpcodes : Obligations.TheTimeAndLogOpcodes := by
  unfold Obligations.TheTimeAndLogOpcodes
  refine ⟨?timeRead, ?timeSet, ?timeRefused, ?status, ?yield, ?inhibit, ?allow, ?events, ?logbook, ?thermal⟩
  case timeRead => exact serves_of (fun _ _ _ => rfl) (fun r t e hl => need_met (beq_iff_eq.2 hl) rfl)
  case timeSet => exact serves_of (fun _ _ _ => rfl) (fun r t e ⟨h1, h2, h3⟩ => opTimeSet_set t h1 h2 h3)
  case timeRefused =>
    refine serves_of (fun _ _ _ => rfl) (fun r t e ⟨h1, h2⟩ => ?_)
    unfold opTimeSet
    rw [if_neg (not_not.2 h1), if_pos (Or.inl h2)]
  case status => exact serves_of (fun _ _ _ => rfl) (fun r t e hl => need_met (beq_iff_eq.2 hl) rfl)
  case yield =>
    refine serves_of (fun _ _ _ => rfl) (fun r t e ⟨h1, h2, h3, h4⟩ => ?_)
    unfold opPairYield
    rw [if_neg (not_not.2 h1), if_pos ⟨h2, h3, h4⟩]
  case inhibit =>
    refine serves_of (fun _ _ _ => rfl) (fun r t e ⟨h1, h2⟩ => ?_)
    unfold opPairTakeback
    rw [if_neg (not_not.2 h1), if_neg (by omega), if_pos h2]
    rfl
  case allow =>
    refine serves_of (fun _ _ _ => rfl) (fun r t e ⟨h1, h2⟩ => ?_)
    unfold opPairTakeback
    rw [if_neg (not_not.2 h1), if_neg (by omega), if_neg (by omega)]
    rfl
  case events => exact serves_of (fun _ _ _ => rfl) (fun r t e ⟨h1, h2, h3, h4⟩ => opEventRead_shown t h1 h2 h3 h4)
  case logbook => exact serves_of (fun _ _ _ => rfl) (fun r t e ⟨h1, h2, h3, h4⟩ => opLogbookRead_shown t e h1 h2 h3 h4)
  case thermal => exact serves_of (fun _ _ _ => rfl) (fun r t e hl => need_met (beq_iff_eq.2 hl) rfl)

end Sys2Proof.Proofs.ServiceOpcodes

/-! Timers, the debug overlay, the exchange and the stations of a program. -/

namespace Sys2Proof.Proofs.Objects

open Sys2Proof Sys2Proof.Machine Sys2Proof.Laws Sys2Proof.Proofs.Commands Sys2Proof.Proofs.Measurement

theorem overlayWrite_held {d : Device} {n : Fin 24} {h : Fin 4} (code t : Nat) (h1 : harOf d n.1 = some h)
    (h2 : loomMode d = .hold) (h3 : d.loom.overlay[h.1] = true) : overlayWrite n code t d = legCommand d t n (code % 4) := by
  unfold overlayWrite
  rw [h1]
  exact if_pos ⟨h2, h3⟩

/-- Bringing a timer that does not run up to an instant does not start it. -/
theorem tmrSettle_stopped {d : Device} {i : Fin 64} (t : Nat) (h : (d.loom.timers[i.1]).runFrom = none) :
    ((tmrSettle d i t).loom.timers[i.1]).runFrom = none := by
  have hs : (tmrSettle d i t).loom.timers[i.1] = { d.loom.timers[i.1] with
      base := tmrElapsed d i t, runFrom := (d.loom.timers[i.1]).runFrom.map (fun s => s + (t - s) / us 1 * us 1) } :=
    upd_getElem_same d.loom.timers i _
  rw [hs, h]
  rfl

theorem tmrPresetWrite_stopped {d : Device} {i : Fin 64} (v : Word) (t : Nat) (h : (d.loom.timers[i.1]).runFrom = none) :
    tmrPresetWrite i v t d = (
      let e := tmrSettle d i t
      wr { e with loom := { e.loom with timers := upd e.loom.timers i (fun m =>
        { m with presetWas := tmrPreset d i t, presetAt := t + us 1 }) } } (Addr.LOOM_TMR_PRESET i.1) v) := by
  unfold tmrPresetWrite
  simp only [tmrSettle_stopped t h]

theorem eq_of_fin? {n i : Nat} {k : Fin n} (h : fin? n i = some k) : i = k.1 := by
  unfold fin? at h
  split at h
  · cases h
    rfl
  · cases h

/-- A frame of a station of UDP that passes its checks is taken as the station's inputs. -/
theorem stationFrame_taken {src : Nat} {bs : List Byte} {k : Fin 16} {e : StationEntry} (t : Nat) {d : Device}
    (h1 : fin? 16 (sliceLE bs 3 1) = some k) (h2 : stationEntry d k.1 = some e) (h3 : e.transport = 3)
    (h4 : sliceLE bs 16 1 = e.inWords) (h5 : 24 + 4 * e.inWords = bs.length)
    (h6 : sliceLE bs (20 + 4 * e.inWords) 4 = crc32c (bs.take (20 + 4 * e.inWords))) (h7 : sliceLE bs 0 2 = 0x4657)
    (h8 : sliceLE bs 2 1 = 1) (h9 : src / 2 = e.address / 2)
    (h10 : laterSeq 32 (d.loom.stations[k.1]).seqIn (sliceLE bs 4 4) = true) :
    stationFrame 3 src bs t d = stationTake d k (sliceLE bs 4 4) (bs.drop 20) e.inWords t := by
  have hv : sliceLE bs 3 1 = k.1 := eq_of_fin? h1
  rw [← hv] at h2
  unfold stationFrame
  simp only [if_true, h1, h2, h3, h4, h5, h6, h7, h8, h9, h10, and_self, decide_true, Bool.and_true]

theorem stationTimeout_past {k : Fin 16} {t : Nat} {d : Device} {e : StationEntry} (h1 : stationEntry d k.1 = some e)
    (h2 : (d.loom.stations[k.1]).lastRx.getD 0 + us e.timeout ≤ t) :
    stationTimeout k t d = showLost (updStation d k (fun s => { s with timedOut := true })) k := by
  unfold stationTimeout
  rw [h1]
  exact if_pos h2

/-- Settles O15: each command under its conditions. -/
theorem timersOverlaysStationsAndExchange : Obligations.TimersOverlaysStationsAndExchange := by
  unfold Obligations.TimersOverlaysStationsAndExchange
  refine ⟨?overlay, ?lapse, ?preset, ?expiry, ?switch, ?frame, ?timeout⟩
  case overlay =>
    rintro s t d n code h rfl h1 h2 h3 h4
    exact done_whileOn_one s h1 (overlayWrite_held code t h2 h3 h4)
  case lapse =>
    rintro s t d h rfl h1 h2 h3
    exact done_whileOn_one s h1 (if_pos ⟨h2, h3⟩)
  case preset =>
    rintro s t d i v rfl h1 h2
    exact done_whileOn_one s h1 (tmrPresetWrite_stopped v t h2)
  case expiry =>
    rintro s t d i rfl h1 h2
    exact done_whileOn_one s h1 (if_pos h2)
  case switch =>
    rintro s t d rfl h1 h5 h2 h3
    exact done_whileOn_two s h1 h5 (settled_eq (if_pos ⟨h2, h3⟩))
  case frame =>
    rintro s t d src bs k e rfl h1 h6 hk he ht hw hl hc hm hv ha hs
    exact done_whileOn_two s h1 h6 (stationFrame_taken t hk he ht hw hl hc hm hv ha hs)
  case timeout =>
    rintro s t d k e rfl h1 h2 h3
    exact done_whileOn_one s h1 (stationTimeout_past h2 h3)

end Sys2Proof.Proofs.Objects

/-! What STOP and HOLD leave of a program. A selvedge leaves the program, the cores and the configuration alone; the rest
is what the two say of the tasks and the cores themselves. -/

namespace Sys2Proof.Proofs.StopAndHold

open Sys2Proof Sys2Proof.Machine Sys2Proof.Laws Sys2Proof.Proofs.Commands Sys2Proof.Proofs.Measurement

/-! ### What a selvedge leaves alone -/

/-- The loom, the cores and the configuration of a unit. -/
def program (d : Device) : Loom × Vector CoreCsr 4 × Cfg := (d.loom, d.cores, d.cfg)

section
variable {d : Device} {p : Loom × Vector CoreCsr 4 × Cfg}

theorem loom_of_program (h : program d = p) : d.loom = p.1 := congrArg Prod.fst h

theorem cores_of_program (h : program d = p) : d.cores = p.2.1 := congrArg (fun q => q.2.1) h

theorem cfg_of_program (h : program d = p) : d.cfg = p.2.2 := congrArg (fun q => q.2.2) h

end

theorem program_wr (d : Device) (a : Nat) (v : Word) : program (wr d a v) = program d := rfl

theorem program_wrN (d : Device) (a n : Nat) : program (wrN d a n) = program d := rfl

theorem program_wrF (d : Device) (a lo len v : Nat) : program (wrF d a lo len v) = program d := rfl

theorem program_wrB (d : Device) (a i : Nat) (b : Bool) : program (wrB d a i b) = program d := rfl

theorem program_wr64 (d : Device) (a n : Nat) : program (wr64 d a n) = program d := rfl

theorem program_each {α : Type} {f : Device → α → Device} (h : ∀ d x, program (f d x) = program d) (l : List α)
    (d : Device) : program (each l f d) = program d :=
  each_proj h l d

theorem program_setOvf (d : Device) (a : Nat) (b : Bool) : program (setOvf d a b) = program d := by
  unfold setOvf
  split
  · rw [program_wrB]
  · rfl

theorem program_countBy (d : Device) (a n : Nat) : program (countBy d a n) = program d := by
  unfold countBy
  split
  · rw [program_wrN]
  · rw [program_setOvf, program_wrN]

theorem program_count (d : Device) (a : Nat) : program (count d a) = program d := program_countBy d a 1

theorem program_setCstate (d : Device) (c : Nat) (s : ChanState) : program (setCstate d c s) = program d := by
  rw [setCstate, program_wrF, program_wrB]

theorem program_reachOff (d : Device) (t : Nat) (c : Fin 48) : program (reachOff d t c) = program d :=
  program_setCstate d c.1 .off

theorem program_edgeLoss (d : Device) (n : Fin 24) (on : Bool) : program (edgeLoss d n on) = program d := by
  unfold edgeLoss
  split
  · split
    · split <;> rfl
    · rfl
  · rfl

theorem program_atFin {n : Nat} {f : Fin n → Device → Device} (h : ∀ k d, program (f k d) = program d) (i : Nat)
    (d : Device) : program (atFin n i f d) = program d := by
  unfold atFin
  split
  · exact h _ d
  · rfl

theorem program_turnOff (d : Device) (t : Nat) (soft : Bool) (c : Fin 48) : program (turnOff d t soft c) = program d := by
  unfold turnOff
  extract_lets e x
  have he : program e = program d := rfl
  have hx : program x = program d :=
    (program_atFin (fun n y => program_edgeLoss y n false) _ _).trans ((program_wrN ..).trans he)
  split
  · split
    · exact (program_setCstate x c.1 .soft).trans hx
    · rw [program_reachOff, hx]
  · exact he

theorem program_showPend (d : Device) (n : Fin 24) : program (showPend d n) = program d := program_wrB ..

theorem program_legOut (d : Device) (t : Nat) (soft : Bool) (n : Fin 24) : program (legOut d t soft n) = program d := by
  unfold legOut
  rw [program_showPend, program_each (fun d c => program_turnOff d t soft c)]
  rfl

theorem program_offToHiz (d : Device) (s : Nat) (c : Fin 48) : program (offToHiz d s c) = program d := by
  unfold offToHiz
  split <;> rfl

theorem program_legBegin (d : Device) (h : Fin 4) (s t : Nat) (soft : Bool) (n : Fin 24) :
    program (legBegin d h s t soft n) = program d := by
  unfold legBegin
  split
  · rfl
  · extract_lets e due
    have he : program e = program d := program_each (fun d c => program_offToHiz d s c) _ d
    split
    · rw [program_legOut, he]
    · exact he

theorem program_stopUnits (d : Device) (h : Nat) : program (stopUnits d h) = program d := by
  refine program_each (fun d n => ?_) _ d
  extract_lets e x
  have hx : program x = program e := program_each (fun _ _ => rfl) (gatesOf n) e
  rw [program_showPend, program_wrB, program_wrB, hx]
  rfl

theorem program_stopInjectors (d : Device) (h : Nat) : program (stopInjectors d h) = program d := by
  refine program_each (fun d j => ?_) _ d
  split
  · rw [stopInjector, program_count, program_wrB]
    rfl
  · rfl

theorem program_selvContactors (d : Device) (h : Nat) : program (selvContactors d h) = program d := by
  refine program_each (fun d n => ?_) _ d
  split <;> rfl

theorem program_showSelv (d : Device) (h : Nat) : program (showSelv d h) = program d :=
  program_each (fun _ _ => program_wrB ..) _ d

theorem program_hkStartInjected (d : Device) (cal : Bool) (seq : List Nat) :
    program (hkStartInjected d cal seq) = program d := by
  cases seq with
  | nil => rfl
  | cons i _ =>
    unfold hkStartInjected hkBegin hkShow
    rw [program_wr64, program_wrF, program_wrF, program_wrF]
    rfl

theorem program_hkInject (d : Device) (seq : List Nat) : program (hkInject d seq) = program d := by
  unfold hkInject
  extract_lets queue
  have hq : program (queue d) = program d := rfl
  split
  · rw [program_count]
  · split
    · exact hq
    · split
      · split
        · rw [hkAbort, program_hkStartInjected]
          exact program_count d Addr.HK_ABORT_CNT
        · exact hq
      · rw [program_hkStartInjected]

theorem program_hkTrigger (d : Device) (src : Nat) : program (hkTrigger d src) = program d := by
  unfold hkTrigger
  split
  · rw [program_hkInject]
  · rfl

theorem program_recToPost (d : Device) (e : Fin 4) (p : Nat) : program (recToPost d e p) = program d := by
  unfold recToPost
  rw [program_count]
  rfl

theorem program_recStamp (d : Device) (e : Fin 4) (t : Nat) : program (recStamp d e t) = program d := by
  unfold recStamp
  split
  · rw [program_recToPost, recPlace, program_wr64, program_wr64]
  · rw [program_recToPost, recPlace, program_wr64, program_wr64]
    rfl

theorem program_recEvent (fuel : Nat) (d : Device) (code t : Nat) : program (recEvent fuel d code t) = program d := by
  induction fuel generalizing d code with
  | zero => rfl
  | succ fuel ih =>
    rw [recEvent]
    refine program_each (fun d e => ?_) _ d
    extract_lets want hit
    split
    · rw [ih, program_hkTrigger, program_recStamp]
    · rfl

theorem program_selvGates (d : Device) (h : Fin 4) (t c : Nat) : program (selvGates d h t c) = program d := by
  unfold selvGates
  rw [program_recEvent, program_showSelv, program_count, program_selvContactors,
    program_each (fun d n => program_legBegin d h t t _ n)]
  refine (program_stopInjectors ..).trans ?_
  rw [program_stopUnits, program_wrB]

theorem program_addCause (d : Device) (h c : Nat) : program (addCause d h c) = program d := by
  unfold addCause
  rw [program_wrB]
  split
  · rw [program_wrF]
  · rfl

theorem program_setHstate (d : Device) (h : Nat) (s : HarnessState) : program (setHstate d h s) = program d := program_wrF ..

theorem program_selvedge (d : Device) (h : Fin 4) (t c : Nat) : program (selvedge d h t c) = program d := by
  unfold selvedge
  extract_lets e n
  have he : program e = program d := program_addCause d h.1 c
  split
  · exact he
  · exact he
  · exact he
  · rw [program_selvGates, program_setHstate, he]
  · split
    · split
      · rw [program_selvGates, program_setHstate, he]
      · rw [program_selvGates, program_setHstate, program_wrF, he]
    · rw [program_selvGates, program_setHstate, he]

theorem program_selvedgeAll (d : Device) (t c : Nat) : program (selvedgeAll d t c) = program d :=
  program_each (fun d h => program_selvedge d h t c) _ d

/-! ### What the steps of a stop leave alone -/

/-- What each step establishes for its own element and keeps for the others holds of every element afterwards. -/
theorem each_establishes {α : Type} {P : α → Device → Prop} {f : Device → α → Device} (set : ∀ d x, P x (f d x))
    (keep : ∀ d x y, P y d → P y (f d x)) (l : List α) (d : Device) {x : α} (hx : x ∈ l) : P x (each l f d) := by
  have hk (l : List α) (d : Device) (h : P x d) : P x (each l f d) := by
    induction l generalizing d with
    | nil => exact h
    | cons y ys ih => exact ih (f d y) (keep d y x h)
  induction l generalizing d with
  | nil => cases hx
  | cons y ys ih =>
    rcases List.mem_cons.1 hx with rfl | hm
    · exact hk ys (f d x) (set d x)
    · exact ih (f d y) hm

theorem upd_eq_of_forall {α : Type} {n : Nat} {P : α → Prop} (v : Vector α n) (i k : Fin n) {f : α → α}
    (hf : ∀ x, P (f x)) (hk : P v[k.1]) : P (upd v i f)[k.1] := by
  by_cases h : k = i
  · rw [h, upd_getElem_same]
    exact hf _
  · rw [Recorder.upd_getElem_ne v h]
    exact hk

/-- A step of a stop that empties a commit buffer. -/
def emptied (d : Device) (k : Fin 4) : Device :=
  if d.loom.suppress then discardBuffer d k else showLevel (updTask d k (fun k => { k with buffer := [] })) k

/-- Emptying a buffer changes the tasks of the loom, by that buffer alone. -/
theorem program_emptied (d : Device) (k : Fin 4) :
    program (emptied d k)
      = ({ d.loom with tasks := upd d.loom.tasks k (fun k => { k with buffer := [] }) }, d.cores, d.cfg) := by
  unfold emptied discardBuffer showLevel
  split
  · extract_lets n e
    have he : program e = program d := by
      unfold e
      split
      · rfl
      · exact program_countBy d _ n
    exact congrArg (fun p : Loom × Vector CoreCsr 4 × Cfg =>
      ({ p.1 with tasks := upd p.1.tasks k (fun k => { k with buffer := [] }) }, p.2.1, p.2.2)) he
  · rfl

/-- A task without entries and without a release at work. -/
def Idle (k : Task) : Prop := k.active = false ∧ k.released = 0 ∧ k.buffer = []

/-- A core in reset. -/
def InReset (c : CoreCsr) : Prop := c.halted = true ∧ c.mip = 0

/-- The unit of a stop before the loom forgets what was under way: the buffers emptied, the instances abandoned, the cores
in reset. -/
def stopped (cause t : Nat) (d : Device) : Device :=
  each (List.finRange 4) coreReset (abandonTasks
    (each (List.finRange 4) emptied (selvedgeAll (setMode d 0 cause) t 0x0A)))

theorem resetInterrupts_loom (d : Device) (c : Fin 4) :
    (setMip (setMip (setMip d c 16 false) c 17 false) c 18 false).loom = d.loom := rfl

theorem resetInterrupts_cfg (d : Device) (c : Fin 4) :
    (setMip (setMip (setMip d c 16 false) c 17 false) c 18 false).cfg = d.cfg := rfl

/-- Abandoning every release changes the loom by what it says of the releases. -/
theorem abandonTasks_loom (d : Device) : (abandonTasks d).loom = { d.loom with
    latched := [], flush3 := false,
    tasks := d.loom.tasks.map (fun k => { k with active := false, released := 0, done := 0, extended := false,
                                                 tolUsed := false, tolNext := false }) } := by
  unfold abandonTasks
  exact each_proj (p := Device.loom) resetInterrupts_loom _ _

theorem abandonTasks_cfg (d : Device) : (abandonTasks d).cfg = d.cfg := by
  unfold abandonTasks
  exact each_proj (p := Device.cfg) resetInterrupts_cfg _ _

theorem coreReset_loom (d : Device) (c : Fin 4) : (coreReset d c).loom = d.loom := rfl

theorem coreReset_cfg (d : Device) (c : Fin 4) : (coreReset d c).cfg = d.cfg := rfl

theorem stopped_loom (cause t : Nat) (d : Device) :
    (stopped cause t d).loom
      = (abandonTasks (each (List.finRange 4) emptied (selvedgeAll (setMode d 0 cause) t 0x0A))).loom := by
  unfold stopped
  exact each_proj (p := Device.loom) coreReset_loom _ _

/-- Every buffer is empty when each has been emptied. -/
theorem each_emptied_buffer (d : Device) (k : Fin 4) :
    ((each (List.finRange 4) emptied d).loom.tasks[k.1]).buffer = [] := by
  refine each_establishes (P := fun k e => (e.loom.tasks[k.1]).buffer = []) (fun d k => ?_) (fun d j k h => ?_) _ d
    (List.mem_finRange k)
  · rw [loom_of_program (program_emptied d k)]
    dsimp only
    rw [upd_getElem_same]
  · rw [loom_of_program (program_emptied d j)]
    exact upd_eq_of_forall (P := fun x => x.buffer = []) (f := fun k => { k with buffer := [] }) d.loom.tasks j k
      (fun _ => rfl) h

/-- An abandoned task with an empty buffer is idle. -/
theorem abandonTasks_idle {d : Device} {k : Fin 4} (h : (d.loom.tasks[k.1]).buffer = []) :
    Idle ((abandonTasks d).loom.tasks[k.1]) := by
  rw [abandonTasks_loom]
  dsimp only
  rw [Vector.getElem_map]
  exact ⟨rfl, rfl, h⟩

theorem stopped_idle (cause t : Nat) (d : Device) (k : Fin 4) : Idle ((stopped cause t d).loom.tasks[k.1]) := by
  rw [stopped_loom]
  exact abandonTasks_idle (each_emptied_buffer _ k)

theorem stopped_inReset (cause t : Nat) (d : Device) (c : Fin 4) : InReset ((stopped cause t d).cores[c.1]) := by
  unfold stopped
  generalize abandonTasks _ = e
  have hr (d : Device) (x : CoreCsr) :
      InReset { CoreCsr.reset with cycleAt := d.now, xs := x.xs, fs := x.fs } := ⟨rfl, rfl⟩
  refine each_establishes (P := fun c e => InReset e.cores[c.1]) (fun d c => ?_) (fun d j c h => ?_) _ _ (List.mem_finRange c)
  · rw [coreReset, updCore, upd_getElem_same]
    exact hr d _
  · exact upd_eq_of_forall (P := InReset) d.cores j c (hr d) h

/-- A stop leaves the configuration alone up to a transfer that waits. -/
theorem stopped_cfg (cause t : Nat) (d : Device) : (stopped cause t d).cfg = d.cfg := by
  have he (d : Device) (k : Fin 4) : (emptied d k).cfg = d.cfg := cfg_of_program (program_emptied d k)
  have hs : (selvedgeAll (setMode d 0 cause) t 0x0A).cfg = d.cfg :=
    cfg_of_program (program_selvedgeAll (setMode d 0 cause) t 0x0A)
  unfold stopped
  rw [each_proj (p := Device.cfg) coreReset_cfg, abandonTasks_cfg, each_proj (p := Device.cfg) he, hs]

/-- The loom when it has forgotten what was under way. -/
def forgotten (l : Loom) : Loom :=
  { l with change := none, resume := false, overrun := none, suppress := false, kernelCmd := none, kernelNow := none,
           firstCommit := true, overlay := l.overlay.map (fun _ => false) }

/-- The end of a stop: an exchange that was to switch is cancelled, what was under way forgotten, and a transfer that waits
made. -/
def stopEnd (d : Device) (t : Nat) : Device :=
  let d := if xchgState d = 4 then setXchg d 2 0x15 else d
  let d := { d with loom := forgotten d.loom }
  if d.cfg.applyAt.isSome then shadowTransfer t d else d

theorem enterStop_eq (cause t : Nat) (d : Device) : enterStop cause t d = stopEnd (stopped cause t d) t := rfl

theorem program_setXchg (d : Device) (s code : Nat) : program (setXchg d s code) = program d := rfl

theorem program_forgotten (d : Device) : program { d with loom := forgotten d.loom } = (forgotten d.loom, d.cores, d.cfg) := rfl

theorem program_stopEnd {d : Device} (t : Nat) (h : d.cfg.applyAt = none) :
    program (stopEnd d t) = (forgotten d.loom, d.cores, d.cfg) := by
  unfold stopEnd
  extract_lets x y
  have hx : program x = program d := by
    unfold x
    split
    · exact program_setXchg d 2 0x15
    · rfl
  have hl : x.loom = d.loom := loom_of_program hx
  have hk : x.cores = d.cores := cores_of_program hx
  have hc : x.cfg = d.cfg := cfg_of_program hx
  have hy : program y = (forgotten d.loom, d.cores, d.cfg) := by
    rw [← hl, ← hk, ← hc]
    rfl
  have hn : y.cfg.applyAt = none := by
    rw [cfg_of_program hy, h]
  rw [hn, if_neg (by decide), hy]

/-- The loom, the cores and the configuration of a stop with no transfer waiting. -/
theorem program_enterStop (cause t : Nat) {d : Device} (h : d.cfg.applyAt = none) :
    program (enterStop cause t d) = (forgotten (stopped cause t d).loom, (stopped cause t d).cores, d.cfg) := by
  have hc := stopped_cfg cause t d
  rw [enterStop_eq, ← hc]
  exact program_stopEnd t (hc ▸ h)

/-! ### The mode -/

theorem setMode_mode (d : Device) (mode cause : Nat) : rdF (setMode d mode cause) Addr.LOOM_MODE 0 2 = mode % 2 ^ 2 := by
  rw [setMode, rdF_wrF_ne _ _ _ _ _ _ _ _ (Or.inr (Or.inr (by decide))), rdF_wrF_same _ _ _ _ _ (by decide)]

theorem setMode_cause (d : Device) (mode cause : Nat) : rdF (setMode d mode cause) Addr.LOOM_MODE 8 8 = cause % 2 ^ 8 :=
  rdF_wrF_same _ _ _ _ _ (by decide)

/-! ### HOLD -/

/-- The unit of a hold before the harnesses without an overlay leave. -/
def held (cause : Nat) (d : Device) : Device :=
  let d := each (List.finRange 4) (fun d c => updCore d c (fun x => { x with halted := true })) (setMode d 2 cause)
  { d with loom := { d.loom with overrun := none, suppress := false, kernelCmd := none, kernelNow := none, latched := [],
                                 overlay := Vector.ofFn (fun h : Fin 4 => overlayOk d h.1) } }

theorem held_halted (cause : Nat) (d : Device) (c : Fin 4) : ((held cause d).cores[c.1]).halted = true := by
  refine each_establishes (P := fun c e => (e.cores[c.1]).halted = true) (fun d c => ?_) (fun d j c h => ?_) _ _
    (List.mem_finRange c)
  · rw [updCore, upd_getElem_same]
  · exact upd_eq_of_forall (P := fun x => x.halted = true) (f := fun x => { x with halted := true }) d.cores j c
      (fun _ => rfl) h

theorem program_enterHold {cause : Nat} (t : Nat) {d : Device} (h1 : loomMode d = .run) (h2 : rdB d Addr.LOOM_CFG 1 = true)
    (h3 : redState d ≠ 2) : program (enterHold cause t d) = program (held cause d) := by
  have hg : loomMode d = .run ∧ rdB d Addr.LOOM_CFG 1 = true ∧ ¬ (redState d = 2 ∧ pairSync d = true) :=
    ⟨h1, h2, fun h => h3 h.1⟩
  unfold enterHold
  rw [if_pos hg]
  refine program_each (fun d h => ?_) _ (held cause d)
  split
  · rfl
  · exact program_selvedge d h t 0x0A

/-- Settles O13: what STOP and HOLD leave of the tasks and the cores (the buffers are emptied at a stop, log 60), and the mode
and cause that a change of mode writes. -/
theorem whatStopAndHoldLeave : Obligations.WhatStopAndHoldLeave := by
  unfold Obligations.WhatStopAndHoldLeave
  refine ⟨?stop, ?mode, ?hold⟩
  case stop =>
    intro d cause t ha e
    have hp : program e = _ := program_enterStop cause t ha
    rw [loom_of_program hp, cores_of_program hp]
    refine ⟨rfl, rfl, rfl, ?_, ?_, stopped_idle cause t d, stopped_inReset cause t d⟩
    · exact congrArg Loom.flush3 ((stopped_loom cause t d).trans (abandonTasks_loom _))
    · exact congrArg Loom.latched ((stopped_loom cause t d).trans (abandonTasks_loom _))
  case mode =>
    intro d cause hc
    have hm (mode : Nat) := setMode_mode d mode cause
    refine ⟨hm 0, (setMode_cause d 0 cause).trans (Nat.mod_eq_of_lt hc), ?_, ?_, ?_⟩
    · unfold loomMode
      rw [hm 0]
      rfl
    · unfold loomMode
      rw [hm 1]
      rfl
    · unfold loomMode
      rw [hm 2]
      rfl
  case hold =>
    intro d cause t h1 h2 h3 e
    have hp : program e = program (held cause d) := program_enterHold t h1 h2 h3
    rw [loom_of_program hp, cores_of_program hp]
    exact ⟨rfl, rfl, rfl, held_halted cause d⟩

end Sys2Proof.Proofs.StopAndHold

/-! The canonical form of the sparse data of a unit, and the rules that keep it: one per way in which the model builds one
unit from another. The files after this one apply them to every function of the model, part by part. -/

namespace Sys2Proof.Proofs.CanonicalForm

open Sys2Proof Sys2Proof.Machine Sys2Proof.Laws

/-- The registers, the memory, the field values and the shadows of a unit are in their canonical forms. -/
structure Canonical (d : Device) : Prop where
  regs : Registers.wf d.regs = true
  mem : Memory.wf d.mem = true
  fields : Sparse.wf FieldMap.defaultOf d.fields = true
  shadow : Sparse.rising d.shadow = true

theorem canonical_iff (d : Device) : d.canonical = true ↔ Canonical d := by
  unfold Device.canonical
  simp only [Bool.and_eq_true]
  exact ⟨fun ⟨⟨⟨hr, hm⟩, hf⟩, hs⟩ => ⟨hr, hm, hf, hs⟩, fun h => ⟨⟨⟨h.regs, h.mem⟩, h.fields⟩, h.shadow⟩⟩

/-- A result beside a unit that is in canonical form. -/
def CanonicalSnd {α : Type} (p : α × Device) : Prop := Canonical p.2

/-- An answer whose unit is in canonical form. -/
def CanonicalAnswer (a : Answer) : Prop := Canonical a.dev

/-- A unit, where there is one, in canonical form. -/
def CanonicalOption (o : Option Device) : Prop := ∀ e ∈ o, Canonical e

section
variable {d e : Device}

/-! ### What a unit holds beside its sparse data does not matter -/

/-- The sparse data of a unit does not depend on what else it holds. -/
theorem Canonical.update {now hiShadow busData freeCtr resv cores events power seals clock time chans cal calPass hk
    rsm shed inj setp ints cordic dcmp gchan legs har selv selvNext gtest bridle mram red out recs bobs loom meter
    therm cfg tomus net}
    (h : Canonical d) : Canonical { d with
      now := now, hiShadow := hiShadow, busData := busData, freeCtr := freeCtr, resv := resv, cores := cores,
      events := events, power := power, seals := seals, clock := clock, time := time, chans := chans, cal := cal,
      calPass := calPass, hk := hk, rsm := rsm, shed := shed, inj := inj, setp := setp, ints := ints,
      cordic := cordic, dcmp := dcmp, gchan := gchan, legs := legs, har := har, selv := selv, selvNext := selvNext,
      gtest := gtest, bridle := bridle, mram := mram, red := red, out := out, recs := recs, bobs := bobs,
      loom := loom, meter := meter, therm := therm, cfg := cfg, tomus := tomus, net := net } :=
  ⟨h.regs, h.mem, h.fields, h.shadow⟩

/-! ### The sparse data written -/

theorem Canonical.wr {a v} (h : Canonical d) : Canonical (wr d a v) :=
  ⟨sparse_write_wf a v h.regs, h.mem, h.fields, h.shadow⟩

theorem Canonical.putByte {a b} (h : Canonical d) : Canonical (putByte d a b) := by
  refine ⟨h.regs, ?_, h.fields, h.shadow⟩
  unfold Machine.putByte
  dsimp only
  split
  · exact h.mem
  · exact sparse_write_wf a b h.mem

theorem Canonical.memForget {a n} (h : Canonical d) : Canonical (memForget d a n) :=
  ⟨h.regs, sparse_filter_wf _ h.mem, h.fields, h.shadow⟩

/-- Registers dropped read as at reset. -/
theorem Canonical.filterRegs {p} (h : Canonical d) : Canonical { d with regs := d.regs.filter p } :=
  ⟨sparse_filter_wf p h.regs, h.mem, h.fields, h.shadow⟩

/-- A shadow that waits for the transfer. -/
theorem Canonical.insertShadow {a v} (h : Canonical d) : Canonical { d with shadow := Sparse.insert a v d.shadow } :=
  ⟨h.regs, h.mem, h.fields, sparse_insert_rising a v h.shadow⟩

theorem Canonical.dropShadow (h : Canonical d) : Canonical { d with shadow := [] } := ⟨h.regs, h.mem, h.fields, rfl⟩

/-- A unit as it is made has nothing listed. -/
theorem Canonical.initial : Canonical Device.initial := ⟨rfl, rfl, rfl, rfl⟩

/-! ### Branches, iterations and results -/

theorem Canonical.ite {c : Prop} [Decidable c] (hd : Canonical d) (he : Canonical e) : Canonical (if c then d else e) := by
  split <;> assumption

theorem Canonical.each {α : Type} {l : List α} {f : Device → α → Device} (h : Canonical d)
    (hf : ∀ {d x}, Canonical d → Canonical (f d x)) : Canonical (each l f d) := by
  induction l generalizing d with
  | nil => exact h
  | cons x xs ih => exact ih (hf h)

theorem Canonical.foldl {α : Type} {l : List α} {f : Device → α → Device} (h : Canonical d)
    (hf : ∀ {d x}, Canonical d → Canonical (f d x)) : Canonical (l.foldl f d) :=
  h.each hf

theorem Canonical.atFin {n i : Nat} {f : Fin n → Device → Device} (h : Canonical d)
    (hf : ∀ {k d}, Canonical d → Canonical (f k d)) : Canonical (atFin n i f d) := by
  unfold Machine.atFin
  split
  · exact hf h
  · exact h

theorem Canonical.whenB {b : Bool} {f : Device → Device} (h : Canonical d) (hf : ∀ {d}, Canonical d → Canonical (f d)) :
    Canonical (whenB b f d) :=
  .ite (hf h) h

theorem Canonical.whileOn {l : List Nat} {f : Device → Device} (h : Canonical d)
    (hf : ∀ {d}, Canonical d → Canonical (f d)) : Canonical (whileOn l f d) :=
  .ite (hf h) h

theorem Canonical.whileCores {f : Device → Device} (h : Canonical d) (hf : ∀ {d}, Canonical d → Canonical (f d)) :
    Canonical (whileCores f d) :=
  .ite (hf h) h

theorem Canonical.pair {α : Type} {a : α} (h : Canonical d) : CanonicalSnd (a, d) := h

theorem CanonicalSnd.snd {α : Type} {p : α × Device} (h : CanonicalSnd p) : Canonical p.2 := h

theorem CanonicalSnd.ite {α : Type} {p q : α × Device} {c : Prop} [Decidable c] (hp : CanonicalSnd p) (hq : CanonicalSnd q) :
    CanonicalSnd (if c then p else q) := by
  split <;> assumption

/-- The unit of a pair taken apart. -/
theorem of_snd {α : Type} {p : α × Device} {a : α} (he : p = (a, e)) (hp : CanonicalSnd p) : Canonical e := by
  subst he
  exact hp

theorem of_snd_snd {α β : Type} {p : α × β × Device} {a : α} {b : β} (he : p = (a, b, e)) (hp : Canonical p.2.2) :
    Canonical e := by
  subst he
  exact hp

theorem Canonical.some (h : Canonical d) : CanonicalOption (some d) := by
  rintro _ ⟨⟩
  exact h

theorem CanonicalOption.none : CanonicalOption none := by
  rintro _ ⟨⟩

theorem CanonicalOption.ite {o u : Option Device} {c : Prop} [Decidable c] (ho : CanonicalOption o)
    (hu : CanonicalOption u) : CanonicalOption (if c then o else u) := by
  split <;> assumption

theorem CanonicalOption.map {α : Type} {o : Option α} {f : α → Device} (hf : ∀ x, Canonical (f x)) :
    CanonicalOption (o.map f) := by
  cases o with
  | none => exact .none
  | some x => exact (hf x).some

theorem Canonical.mkAnswer {status data w} (h : Canonical d) : CanonicalAnswer ⟨status, data, d, w⟩ := h

theorem CanonicalAnswer.ite {a b : Answer} {c : Prop} [Decidable c] (ha : CanonicalAnswer a) (hb : CanonicalAnswer b) :
    CanonicalAnswer (if c then a else b) := by
  split <;> assumption

theorem CanonicalAnswer.need {b status a} (h : Canonical d) (ha : CanonicalAnswer a) :
    CanonicalAnswer (need b status d a) :=
  .ite ha h

end

end Sys2Proof.Proofs.CanonicalForm

/-! The canonical form is kept by registers, memory, hooks and staging. -/

namespace Sys2Proof.Proofs.CanonicalForm

open Sys2Proof Sys2Proof.Machine Sys2Proof.Laws

section
variable {d : Device}

/-! ### `Machine/Ops` -/

theorem Canonical.wrN {a n} (h : Canonical d) : Canonical (wrN d a n) := h.wr

theorem Canonical.wrI {a z} (h : Canonical d) : Canonical (wrI d a z) := h.wr

theorem Canonical.wrF {a lo len v} (h : Canonical d) : Canonical (wrF d a lo len v) := h.wr

theorem Canonical.wrB {a i b} (h : Canonical d) : Canonical (wrB d a i b) := h.wr

theorem Canonical.wr64 {a n} (h : Canonical d) : Canonical (wr64 d a n) := h.wr.wr

theorem Canonical.setOvf {a b} (h : Canonical d) : Canonical (setOvf d a b) := by
  unfold Machine.setOvf
  split
  · exact h.wrB
  · exact h

theorem Canonical.countBy {a n} (h : Canonical d) : Canonical (countBy d a n) := .ite h.wrN h.wrN.setOvf

theorem Canonical.count {a} (h : Canonical d) : Canonical (count d a) := h.countBy

theorem Canonical.clearCount {a} (h : Canonical d) : Canonical (clearCount d a) := h.wrN.setOvf

theorem Canonical.countWrap {a wrap} (h : Canonical d) : Canonical (countWrap d a wrap) := .ite h.wrN.count h.wrN

theorem Canonical.at50 {t} (h : Canonical d) : Canonical (at50 d t) := h.update

theorem Canonical.sealRefused {n} (h : Canonical d) : Canonical (sealRefused d n) := h.count

theorem Canonical.setDom {n b} (h : Canonical d) : Canonical (setDom d n b) := h.wrB

theorem Canonical.fresh (h : Canonical d) : CanonicalSnd (fresh d) := h.update.pair

theorem Canonical.setHstate {j s} (h : Canonical d) : Canonical (setHstate d j s) := h.wrF

/-! ### `Machine/Memory` -/

theorem Canonical.putBytes {a bs} (h : Canonical d) : Canonical (putBytes d a bs) := by
  induction bs generalizing d a with
  | nil => exact h
  | cons b bs ih => exact ih h.putByte

theorem Canonical.putNat {a n v} (h : Canonical d) : Canonical (putNat d a n v) := h.putBytes

theorem Canonical.breakResv {own a n} (h : Canonical d) : Canonical (breakResv own a n d) := h.update

theorem Canonical.dmaPut {a bs} (h : Canonical d) : Canonical (dmaPut d a bs) := h.putBytes.breakResv

theorem Canonical.dmaPutNat {a n v} (h : Canonical d) : Canonical (dmaPutNat d a n v) := h.dmaPut

theorem Canonical.memSwap {a b n} (h : Canonical d) : Canonical (memSwap d a b n) := h.putBytes.putBytes

theorem Canonical.mramKick (h : Canonical d) : Canonical (mramKick d) := by
  unfold Machine.mramKick
  split
  · exact h
  · split
    · exact h.update
    · exact h

theorem Canonical.mramPut {writer note targets} (h : Canonical d) : Canonical (mramPut d writer note targets) :=
  h.update.mramKick

theorem Canonical.raise {k arg} (h : Canonical d) : Canonical (raise d k arg) := h.update.mramPut

theorem Canonical.thermalPut {rec'} (h : Canonical d) : Canonical (thermalPut d rec') := h.update.mramKick

theorem Canonical.mramApply {x1} (h : Canonical d) : Canonical (mramApply d x1) := by
  unfold Machine.mramApply
  split
  · exact h.putBytes
  · exact h

theorem Canonical.mramRecover (h : Canonical d) : Canonical (mramRecover d) :=
  .update (h.each fun k => .ite (k.foldl fun k => k.mramApply) k)

theorem Canonical.setFieldOf {id v} (h : Canonical d) : Canonical (setFieldOf d id v) := by
  unfold Machine.setFieldOf
  split
  · exact h
  · rename_i r i hf
    split
    · have hd : FieldMap.defaultOf id = FieldMap.FieldRow.default r i := by
        unfold FieldMap.defaultOf
        rw [hf]
      exact ⟨h.regs, h.mem, hd ▸ sparse_write_wf id v h.fields, h.shadow⟩
    · exact h.wrF

/-! ### `Machine/Hooks` -/

theorem Canonical.hkShow {phase input slot} (h : Canonical d) : Canonical (hkShow d phase input slot) := h.wrF.wrF.wrF

theorem Canonical.hkBegin {phase input slot} (h : Canonical d) : Canonical (hkBegin d phase input slot) :=
  h.update.hkShow

theorem Canonical.hkStartInjected {cal seq} (h : Canonical d) : Canonical (hkStartInjected d cal seq) := by
  unfold Machine.hkStartInjected
  extract_lets _ e3
  have h3 : Canonical e3 := h.update
  split
  · exact h
  · exact h3.hkBegin.wr64

theorem Canonical.hkAbort {cal seq} (h : Canonical d) : Canonical (hkAbort d cal seq) :=
  h.count.update.hkStartInjected

theorem Canonical.hkInject {seq} (h : Canonical d) : Canonical (hkInject d seq) :=
  .ite h.count (.ite h.wrB.update (.ite (.ite h.hkAbort h.wrB.update) h.hkStartInjected))

theorem Canonical.hkTrigger {src} (h : Canonical d) : Canonical (hkTrigger d src) := .ite h.hkInject h

theorem Canonical.edgeLoss {n on} (h : Canonical d) : Canonical (edgeLoss d n on) := by
  unfold Machine.edgeLoss
  extract_lets _
  split
  · extract_lets e' den
    split
    · extract_lets x
      exact .ite h.update h
    · exact h
  · exact h

theorem Canonical.recPlace {e p time} (h : Canonical d) : Canonical (recPlace d e p time) := h.wr64.wr64

theorem Canonical.recToPost {e p} (h : Canonical d) : Canonical (recToPost d e p) := h.wrB.wrB.wrF.update.count

theorem Canonical.recStamp {e t} (h : Canonical d) : Canonical (recStamp d e t) := by
  unfold Machine.recStamp
  extract_lets per
  split
  · extract_lets frac p
    exact h.recPlace.recToPost
  · split
    rename_i _ _ e1 he1
    have h1 : Canonical e1 := of_snd he1 h.fresh
    split
    rename_i _ _ e2 he2
    have h2 : Canonical e2 := of_snd he2 h1.fresh
    exact h2.recPlace.recToPost

theorem Canonical.recEvent {fuel code t} (h : Canonical d) : Canonical (recEvent fuel d code t) := by
  induction fuel generalizing d code with
  | zero => exact h
  | succ fuel ih => exact h.each (fun k => .ite (ih k.recStamp.hkTrigger) k)

theorem Canonical.recForce {e t} (h : Canonical d) : Canonical (recForce d e t) :=
  .ite h.recStamp.hkTrigger.recEvent h

theorem Canonical.kontOff {n} (h : Canonical d) : Canonical (kontOff d n) := h.wrB.update

theorem Canonical.selvContactors {j} (h : Canonical d) : Canonical (selvContactors d j) :=
  h.each (fun k => .ite k.update.kontOff k)

theorem Canonical.opFinish {ops status progress t} (h : Canonical d) : Canonical (opFinish d ops status progress t) :=
  h.update

/-! ### `Machine/Stage` -/

theorem Canonical.setCstate {c s} (h : Canonical d) : Canonical (setCstate d c s) := h.wrB.wrF

theorem Canonical.showPend {n} (h : Canonical d) : Canonical (showPend d n) := h.wrB

theorem Canonical.reachOff {t c} (h : Canonical d) : Canonical (reachOff d t c) := h.setCstate.update

theorem Canonical.turnOff {t soft c} (h : Canonical d) : Canonical (turnOff d t soft c) := by
  unfold Machine.turnOff
  extract_lets e2 e3 e4
  have h2 : Canonical e2 := h.update
  have h3 : Canonical e3 := h2.wrN.atFin .edgeLoss
  have h4 : Canonical e4 := h3.setCstate
  split
  · exact .ite h4.update h3.reachOff
  · exact h2

theorem Canonical.interlock {t n} (h : Canonical d) : Canonical (interlock d t n) :=
  .showPend (.raise (.count (.update (h.each .turnOff))))

theorem Canonical.turnOn {t c} (h : Canonical d) : Canonical (turnOn d t c) := by
  unfold Machine.turnOn
  extract_lets e2 other
  have h2 : Canonical e2 := h.update
  exact h2.atFin (fun k => .ite k.interlock (.ite k.wrB.setCstate.wrN.wrB.edgeLoss.update.showPend k.showPend))

theorem Canonical.legCommand {t n code} (h : Canonical d) : Canonical (legCommand d t n code) := by
  unfold Machine.legCommand
  extract_lets e2 e3
  have h2 : Canonical e2 := h.update
  have h3 : Canonical e3 := h2.each (fun k => .ite (.ite k k.update) (.ite k.reachOff k.turnOff))
  exact .ite h.interlock h3.showPend

theorem Canonical.stopInjector {j} (h : Canonical d) : Canonical (stopInjector d j) := h.update.wrB.count

theorem Canonical.stopInjectors {j} (h : Canonical d) : Canonical (stopInjectors d j) :=
  h.each (fun k => .ite k.stopInjector k)

theorem Canonical.stopUnits {j} (h : Canonical d) : Canonical (stopUnits d j) :=
  h.each (fun k => .showPend (.wrB (.wrB (k.update.each .update))))

theorem Canonical.showSelv {j} (h : Canonical d) : Canonical (showSelv d j) := h.each .wrB

theorem Canonical.legOut {t soft n} (h : Canonical d) : Canonical (legOut d t soft n) :=
  .showPend (h.update.each .turnOff)

theorem Canonical.offToHiz {s c} (h : Canonical d) : Canonical (offToHiz d s c) := .ite h.update h

theorem Canonical.legBegin {j s t soft n} (h : Canonical d) : Canonical (legBegin d j s t soft n) :=
  .ite h (.ite (.legOut (h.each .offToHiz)) (.update (h.each .offToHiz)))

theorem Canonical.addCause {j c} (h : Canonical d) : Canonical (addCause d j c) := .wrB (.ite h.wrF h)

theorem Canonical.dropCause {j c} (h : Canonical d) : Canonical (dropCause d j c) := h.wrB

theorem Canonical.selvGates {j t c} (h : Canonical d) : Canonical (selvGates d j t c) := by
  unfold Machine.selvGates
  extract_lets soft e3 e4 e5 e6
  have h3 : Canonical e3 := h.wrB.stopUnits.stopInjectors
  have h4 : Canonical e4 := h3.update
  have h5 : Canonical e5 := h4.each .legBegin
  have h6 : Canonical e6 := h5.selvContactors.count
  exact h6.showSelv.recEvent

theorem Canonical.selvedge {j t c} (h : Canonical d) : Canonical (selvedge d j t c) := by
  unfold Machine.selvedge
  extract_lets e2 n
  have h2 : Canonical e2 := h.addCause
  split
  · exact h2
  · exact h2
  · exact h2
  · exact h2.setHstate.selvGates
  · exact .ite (.ite h2.setHstate.selvGates h2.wrF.setHstate.selvGates) h2.setHstate.selvGates

theorem Canonical.selvedgeAll {t c} (h : Canonical d) : Canonical (selvedgeAll d t c) := h.each .selvedge

theorem Canonical.holdGroup {j m t c} (h : Canonical d) : Canonical (holdGroup d j m t c) :=
  .ite (.ite h.addCause.setHstate.selvGates (h.wrF.each (fun k => k.update.wrB.legBegin))) h

theorem Canonical.legFault {n s t c} (h : Canonical d) : Canonical (legFault d n s t c) := by
  unfold Machine.legFault
  extract_lets e1 e2
  have h1 : Canonical e1 := h.wrF
  have h2 : Canonical e2 := h1.update
  split
  · exact h1
  · refine .ite h1 ?_
    extract_lets pair
    clear_value pair
    split
    · exact .ite h2.raise h2.wrN.wrN.count.raise.selvedge
    · split
      · exact .ite h2.selvedge h2.holdGroup
      · exact h2.addCause

theorem Canonical.refreshCauses {j} (h : Canonical d) : Canonical (refreshCauses d j) := by
  unfold Machine.refreshCauses
  extract_lets e2 holds e4 e5
  have h2 : Canonical e2 := h.each .update
  have h4 : Canonical e4 := h2.each (fun k => .ite k k.dropCause)
  have h5 : Canonical e5 := .ite h4 h4.dropCause
  exact .ite h5.dropCause h5

theorem Canonical.releaseGroup {j m t} (h : Canonical d) : Canonical (releaseGroup d j m t) :=
  .count (.update (h.each .wrB))

theorem Canonical.releaseHarness {j t} (h : Canonical d) : Canonical (releaseHarness d j t) :=
  .update (.count (.showSelv (.update (h.setHstate.each .wrB))))

theorem Canonical.tryRelease {j t} (h : Canonical d) : Canonical (tryRelease d j t) := by
  unfold Machine.tryRelease
  extract_lets e2 free
  have h2 : Canonical e2 := h.refreshCauses
  split
  · exact .ite h2.releaseHarness h2
  · exact .ite h2.releaseHarness h2
  · exact h2

theorem Canonical.ownerRelease {j t c} (h : Canonical d) : Canonical (ownerRelease d j t c) := h.dropCause.tryRelease

theorem Canonical.edgeRelease {j m t row} (h : Canonical d) : Canonical (edgeRelease d j m t row) :=
  .ite h.refreshCauses.releaseGroup h.refreshCauses

theorem Canonical.rowChange {j m t row} (h : Canonical d) : Canonical (rowChange d j m t row) :=
  h.edgeRelease.each (fun k => .ite k k.legCommand)

end

end Sys2Proof.Proofs.CanonicalForm

/-! The canonical form is kept by the bridle, ownership, the image, the shed units and the gates. -/

namespace Sys2Proof.Proofs.CanonicalForm

open Sys2Proof Sys2Proof.Machine Sys2Proof.Laws

section
variable {d : Device}

/-! ### `Machine/Bridle` -/

theorem Canonical.setPairState {p s} (h : Canonical d) : Canonical (setPairState d p s) := h.wrF

theorem Canonical.kontClose {n t} (h : Canonical d) : Canonical (kontClose d n t) :=
  .ite h.wrB.update.update h.wrB.update

theorem Canonical.driveKonts {t} (h : Canonical d) : Canonical (driveKonts d t) :=
  h.each (fun k => .ite k.kontOff (.ite (.ite k k.kontClose) (.ite k.kontOff k)))

theorem Canonical.driveEnables (h : Canonical d) : Canonical (driveEnables d) := h.wrF

theorem Canonical.drivePermits {t} (h : Canonical d) : Canonical (drivePermits d t) := h.each (fun k => k.wrB.wrB)

theorem Canonical.driveHarnesses {t} (h : Canonical d) : Canonical (driveHarnesses d t) :=
  h.wrF.each (fun k => .ite k.selvedge (.ite k.ownerRelease k))

theorem Canonical.bridleSettle {t} (h : Canonical d) : Canonical (bridleSettle d t) :=
  h.driveHarnesses.driveKonts.driveEnables.drivePermits

theorem Canonical.bridleEvent {t} (h : Canonical d) : Canonical (bridleEvent d t) := h.wr64.hkTrigger.recEvent

theorem Canonical.critical {t} (h : Canonical d) : Canonical (critical d t) := h.count.bridleEvent

theorem Canonical.pairReact {p t} (h : Canonical d) : Canonical (pairReact d p t) :=
  .critical (.wrB (.ite h h.update))

theorem Canonical.degradedStart {p t} (h : Canonical d) : Canonical (degradedStart d p t) :=
  h.update.wrB.wrN.count.bridleEvent

theorem Canonical.degradedEnd (h : Canonical d) : Canonical (degradedEnd d) := h.update.wrB.wrN

theorem Canonical.pairChange {p t} (h : Canonical d) : Canonical (pairChange d p t) := by
  unfold Machine.pairChange
  extract_lets q b s disc inTime _ demandRead
  split
  · exact h
  · split
    · extract_lets moving clean e4 e5 wasCritical _ e8 _
      have h4 : Canonical e4 := h.update
      have h5 : Canonical e5 := h4.setPairState
      have h8 : Canonical e8 := h5.degradedStart
      exact .ite (.ite h5.update.wrB h5) (.ite (.ite (.ite h5.pairReact h5) (.ite h8.update h5.pairReact)) (.ite h5
          h5.pairReact))

theorem Canonical.pairsFollow {t} (h : Canonical d) : Canonical (pairsFollow d t) :=
  h.each (fun k => .ite (.ite k.pairChange k) k.setPairState.wrB)

theorem Canonical.weld {n t} (h : Canonical d) : Canonical (weld d n t) := .ite h h.wrB.critical

theorem Canonical.judgeFeedback {n t changed} (h : Canonical d) : Canonical (judgeFeedback d n t changed) :=
  .ite (.ite (.ite h.wrB.critical h.update.critical) h) (.ite h.weld h)

theorem Canonical.kfCheck {n t} (h : Canonical d) : Canonical (kfCheck n t d) := by
  unfold Machine.kfCheck
  extract_lets _ e3
  have h3 : Canonical e3 := h.update
  split
  · exact .ite h3.judgeFeedback.bridleSettle h
  · exact h

theorem Canonical.lockFollow (h : Canonical d) : Canonical (lockFollow d) := .ite (.ite h.wrB h) h.wrB

theorem Canonical.bridleInputChange {i r t} (h : Canonical d) : Canonical (bridleInputChange i r t d) := by
  unfold Machine.bridleInputChange
  extract_lets _
  split
  · exact h
  · split
    · exact h
    · extract_lets e2
      have h2 : Canonical e2 := h.update
      exact .bridleSettle (.ite h2.pairChange h2)
    · extract_lets e2
      have h2 : Canonical e2 := h.update
      exact .bridleSettle (.ite h2.pairChange h2)
    · exact h.update
    · exact h.update.lockFollow.bridleSettle
    · extract_lets e2 e3 _ e5
      have h2 : Canonical e2 := h.update
      have h3 : Canonical e3 := h2.wrB
      have h5 : Canonical e5 := h3.update
      exact .bridleSettle (.ite h5 h5.judgeFeedback)

theorem Canonical.saDisc {p t} (h : Canonical d) : Canonical (saDisc p t d) := by
  unfold Machine.saDisc
  extract_lets held _ e4 e5
  have h4 : Canonical e4 := h.update
  have h5 : Canonical e5 := h4.setPairState
  split
  · exact .ite (.bridleSettle (.ite h5 h5.pairReact)) h
  · exact h

theorem Canonical.stop1Expiry {p t} (h : Canonical d) : Canonical (stop1Expiry p t d) := by
  unfold Machine.stop1Expiry
  extract_lets _
  split
  · exact .ite h.update.bridleSettle h
  · exact h

theorem Canonical.imdFault {t} (h : Canonical d) : Canonical (imdFault t d) := by
  unfold Machine.imdFault
  split
  · extract_lets from'
    exact .ite h.wrB.critical.bridleSettle h
  · exact h

theorem Canonical.imdBlankEnd {t} (h : Canonical d) : Canonical (imdBlankEnd t d) := by
  unfold Machine.imdBlankEnd
  extract_lets _
  split
  · exact .ite h.update h
  · exact h

theorem Canonical.bridleFault {t} (h : Canonical d) : Canonical (bridleFault t d) :=
  .ite h.wrB.raise.critical.bridleSettle h

theorem Canonical.senTest {low t} (h : Canonical d) : Canonical (senTest low t d) := .ite h.bridleFault h

theorem Canonical.ckfWindow {cycles t} (h : Canonical d) : Canonical (ckfWindow cycles t d) :=
  .ite h (.ite (.bridleSettle (.ite h.update.wrB h.update.wrB.critical)) h.update)

theorem Canonical.bridleReset {low high t} (h : Canonical d) : Canonical (bridleReset low high t d) := by
  unfold Machine.bridleReset
  extract_lets stuck e3 e4 e5 e6 e7 e8 allOk _ e11
  have h3 : Canonical e3 := h.wrB.count
  have h4 : Canonical e4 := h3.each (fun k => .ite k.update.wrB k)
  have h5 : Canonical e5 := by
    unfold e5
    split
    · exact .ite h4.degradedEnd h4
    · exact h4
  have h6 : Canonical e6 := .ite h5.wrB h5
  have h7 : Canonical e7 := h6.each (fun k => .ite k.wrB.update.wrB k.wrB.update)
  have h8 : Canonical e8 := by
    unfold e8
    split
    · exact .ite h7.wrB h7
    · exact h7
  have h11 : Canonical e11 := .ite h8.update h8
  exact .ite h11.bridleSettle h

theorem Canonical.sresStuck {low} (h : Canonical d) : Canonical (sresStuck low d) := .ite h.wrB h

theorem Canonical.degradedExpiry {t} (h : Canonical d) : Canonical (degradedExpiry t d) := by
  unfold Machine.degradedExpiry
  split
  · exact .ite (h.degradedEnd.atFin (fun k => .bridleSettle (.ite k k.pairReact))) h
  · exact h

theorem Canonical.powerAbsent {t} (h : Canonical d) : Canonical (powerAbsent t d) := .ite h.drivePermits h

theorem Canonical.kreqCommit {v t} (h : Canonical d) : Canonical (kreqCommit d v t) :=
  .ite (.bridleSettle (h.wrN.each (fun k => k.wrB.update))) (h.wrN.each (fun k => k.wrB.update))

theorem Canonical.bridleRole {t} (h : Canonical d) : Canonical (bridleRole d t) :=
  .ite h.wrB (.ite h.wrB.update.bridleSettle h.wrB.update)

theorem Canonical.bridlePowerUp (h : Canonical d) : Canonical (bridlePowerUp d) := .update (h.each .wrN)

theorem Canonical.bridleCheck {t} (h : Canonical d) : Canonical (bridleCheck t d) := by
  unfold Machine.bridleCheck
  split
  · exact h
  · split
    · exact h.bridleFault
    · extract_lets e2 e3 _ e5 e6 e7
      have h2 : Canonical e2 := h.each .setFieldOf
      have h3 : Canonical e3 := h2.wrN
      have h5 : Canonical e5 := h3.update.wrB
      have h6 : Canonical e6 := h5.each (fun k => .ite k.update.setPairState.pairReact k)
      have h7 : Canonical e7 := h6.each (fun k => .ite k.weld k)
      exact h7.lockFollow.bridleRole.bridleSettle

theorem Canonical.bridleStore (h : Canonical d) : Canonical (bridleStore d) := h.wrN.mramPut

theorem Canonical.bridleCfgWrite {offset v t} (h : Canonical d) : Canonical (bridleCfgWrite offset v t d) := by
  unfold Machine.bridleCfgWrite
  extract_lets a
  split
  · exact h
  · extract_lets e2
    have h2 : Canonical e2 := h.wr.bridleStore
    exact .ite (.ite h2.pairsFollow.lockFollow.bridleSettle h.sealRefused) h

/-! ### `Machine/Own` -/

theorem Canonical.setRedState {s} (h : Canonical d) : Canonical (setRedState d s) := h.wrF

theorem Canonical.ownForce {m t} (h : Canonical d) : Canonical (ownForce d m t) := by
  unfold Machine.ownForce
  extract_lets e2 e3 e4 e5
  have h2 : Canonical e2 := h.wrB.wrF
  have h3 : Canonical e3 := h2.wrF
  have h4 : Canonical e4 := h3.each (fun k => .ite (.ite k.update.setCstate (.ite k.update.setCstate k.update)) k)
  have h5 : Canonical e5 := .ite (h4.each .ownerRelease) h4
  exact h5.bridleRole

theorem Canonical.ownWrite {v t} (h : Canonical d) : Canonical (ownWrite v t d) :=
  .ite h.wrB (.ite h.wrB (.ite h.wrB.ownForce (.ite h.wrB.wrB.selvedgeAll h.wrB)))

theorem Canonical.setHand {low t} (h : Canonical d) : Canonical (setHand d low t) := h.wrB.update

theorem Canonical.ownDone {t} (h : Canonical d) : Canonical (ownDone t d) :=
  .ite (.ite h.ownForce.setHand (.ite h.ownForce.update.ownWrite h.ownForce)) h

theorem Canonical.yieldStart {code t} (h : Canonical d) : Canonical (yieldStart d code t) :=
  h.wrN.update.setRedState.ownWrite

theorem Canonical.selfDiag {code t} (h : Canonical d) : Canonical (selfDiag d code t) := by
  unfold Machine.selfDiag
  extract_lets e2 _ e4 _
  have h2 : Canonical e2 := h.wrN
  have h4 : Canonical e4 := h2.update.setRedState.setHand
  exact .ite h2.yieldStart (.ite (.ite h4.ownWrite h4.update.ownWrite) h2)

/-! ### `Machine/Image` -/

theorem Canonical.showImage {code} (h : Canonical d) : Canonical (showImage d code) := h.wrB.wrF

theorem Canonical.loadSection {base dest s} (h : Canonical d) : Canonical (loadSection base dest d s) :=
  .ite h.memForget h.putBytes

theorem Canonical.loadImage {i} (h : Canonical d) : Canonical (loadImage d i) := h.foldl .loadSection

theorem Canonical.armImage {i} (h : Canonical d) : Canonical (armImage d i) := h.foldl .loadSection

theorem Canonical.swapHalves (h : Canonical d) : Canonical (swapHalves d) := h.each (fun k => k.memSwap.memSwap)

theorem Canonical.showLoaded {i} (h : Canonical d) : Canonical (showLoaded d i) := h.wrN.wrN.wrN.wrN

/-! ### `Machine/Shed` -/

theorem Canonical.showLevels {n} (h : Canonical d) : Canonical (showLevels d n) := h.wrF.wrF

theorem Canonical.flushFifo {n} (h : Canonical d) : Canonical (flushFifo d n) :=
  .showLevels (.ite h.update h.update.countBy)

theorem Canonical.flushEdges {n} (h : Canonical d) : Canonical (flushEdges d n) :=
  .showLevels (.ite h.update h.update.countBy)

theorem Canonical.genSettle {n t} (h : Canonical d) : Canonical (genSettle d n t) := by
  unfold Machine.genSettle
  extract_lets e2
  have h2 : Canonical e2 := h.flushFifo
  split
  · exact .ite h2.update h
  · exact h

theorem Canonical.refPop {n t} (h : Canonical d) : Canonical (refPop n t d) := by
  unfold Machine.refPop
  extract_lets e2 r h' per onset e7
  have h2 : Canonical e2 := h.genSettle
  have h7 : Canonical e7 := h2.update
  split
  · split
    · extract_lets e4
      have h4 : Canonical e4 := h2.update
      exact h4.wrB.showLevels
    · exact h7.wrB.whenB .count
  · exact h2

theorem Canonical.fifoWrite {n v t} (h : Canonical d) : Canonical (fifoWrite n v t d) :=
  .ite h.genSettle.count h.genSettle.update.showLevels

theorem Canonical.chirpEnd {j t} (h : Canonical d) : Canonical (chirpEnd j t d) := by
  unfold Machine.chirpEnd
  extract_lets len
  split
  · exact .ite (.ite h.update h.update.wrB) h
  · exact h

theorem Canonical.showSpLoss (h : Canonical d) : Canonical (showSpLoss d) := h.each .wrB

theorem Canonical.loseSetp {seta} (h : Canonical d) : Canonical (loseSetp d seta) :=
  .showSpLoss (.ite h.update.wr h.update.wr.count)

theorem Canonical.gainSetp {seta v} (h : Canonical d) : Canonical (gainSetp d seta v) := h.update.wrN.showSpLoss

theorem Canonical.setpRise {high t} (h : Canonical d) : Canonical (setpRise high t d) := by
  unfold Machine.setpRise
  refine .ite ?_ h
  extract_lets prev _ e2
  have h2 : Canonical e2 := h.update
  clear_value prev
  split
  · exact h2
  · exact .ite h2.loseSetp h2.gainSetp

theorem Canonical.setpLoss {seta t} (h : Canonical d) : Canonical (setpLoss seta t d) := .ite h.loseSetp h

theorem Canonical.place {n j p} (h : Canonical d) : Canonical (place d n j p) := .showPend (h.update.wrB.whenB .count)

theorem Canonical.decideStep {n j t tau es} (h : Canonical d) : Canonical (decideStep d n j t tau es) := by
  unfold Machine.decideStep
  extract_lets u tdec earliest sn pred bad e8 e' top lvl f12 s f14
  have h8 : Canonical e8 := h.wrB
  have h12 : ∀ y x1, Canonical y → Canonical (f12 y x1) := fun _ _ k => k.whenB .count
  have h14 : ∀ x0 x1, Canonical (f14 x0 x1) := fun _ _ => .ite (.place (h12 _ _ h8)) h8
  split
  · exact .ite h8 (.ite (.place (h12 _ _ h8)) (.ite (.place (h12 _ _ h8)) (.ite h8 (.ite (h14 _ _) (.ite (h14 _ _)
        h8)))))

theorem Canonical.startStep {n t} (h : Canonical d) : Canonical (startStep n t d) := by
  unfold Machine.startStep
  extract_lets c w e4 e5
  have h4 : Canonical e4 := h.update
  have h5 : Canonical e5 := h4.wrN
  split
  · exact .ite h5.place h
  · exact h

theorem Canonical.unitWord {n j w t} (h : Canonical d) : Canonical (unitWord d n j w t) := by
  unfold Machine.unitWord
  extract_lets e2 i tau
  have h2 : Canonical e2 := h.genSettle
  split
  · extract_lets e' ew es e6 e7
    have h6 : Canonical e6 := h2.wrB.wrI
    have h7 : Canonical e7 := h6.update
    exact .ite (.ite h7.startStep h7.decideStep) h7

theorem Canonical.adapt {n j T} (h : Canonical d) : Canonical (adapt d n j T) := .ite h.wrI.wrN h.wrI.wrI

theorem Canonical.countTap {n} (h : Canonical d) : Canonical (countTap d n) := h.countWrap

theorem Canonical.tapStep {n t} (h : Canonical d) : Canonical (tapStep n t d) := by
  unfold Machine.tapStep
  split
  · refine .ite ?_ h
    extract_lets row prev e1 e2 e3 e4
    have h3 : Canonical e3 := h.update.wrB.wrF.whenB .wrB
    have h4 : Canonical e4 := h3.rowChange.countTap
    clear_value prev
    split
    · exact .ite h4.adapt h4
    · exact h4
  · exact h

theorem Canonical.edgeWrite {n v t} (h : Canonical d) : Canonical (edgeWrite n v t d) :=
  .ite h.count h.update.showLevels

theorem Canonical.edgeEntry {n t} (h : Canonical d) : Canonical (edgeEntry n t d) := by
  unfold Machine.edgeEntry
  extract_lets cur
  split
  · extract_lets row late tap fl raised tap e8 e9 e10 e11
    have h8 : Canonical e8 := h.update
    have h9 : Canonical e9 := h8.showLevels.wrF
    have h10 : Canonical e10 := h9.whenB .count
    have h11 : Canonical e11 := h10.whenB .count
    exact .ite (.ite (.ite h11 h11.wrB.rowChange.countTap) h) h
  · exact h

theorem Canonical.deadTimeOver {c t} (h : Canonical d) : Canonical (deadTimeOver c t d) := by
  unfold Machine.deadTimeOver
  split
  · exact .ite h.turnOn h
  · exact h

theorem Canonical.cordicWrite {c cmd t} (h : Canonical d) : Canonical (cordicWrite c cmd t d) := .ite h.update.wrB h

theorem Canonical.cordicDone {c t} (h : Canonical d) : Canonical (cordicDone c t d) := by
  unfold Machine.cordicDone
  extract_lets r e3 p p
  have h3 : Canonical e3 := h.update
  split
  · extract_lets e3
    have h3 : Canonical e3 := .ite h3.wr.wr h3.wr.wr.wr
    exact .ite h3.wrB h
  · exact h

/-! ### `Machine/Gate` -/

theorem Canonical.onLeg {c} {f : Fin 24 → Device → Device} (h : Canonical d)
    (hf : ∀ {n d}, Canonical d → Canonical (f n d)) : Canonical (onLeg c f d) :=
  h.atFin hf

theorem Canonical.islandTimeout {c t} (h : Canonical d) : Canonical (islandTimeout c t d) := by
  unfold Machine.islandTimeout
  extract_lets g e3 e4 due
  have h3 : Canonical e3 := h.turnOff
  have h4 : Canonical e4 := h3.update
  split
  · exact h
  · split
    · exact h4.setCstate
    · exact h4
    · exact h4.update

theorem Canonical.islandHiz {c t} (h : Canonical d) : Canonical (islandHiz c t d) := by
  unfold Machine.islandHiz
  split
  · exact .ite h.update.setCstate h
  · exact h

theorem Canonical.islandLinkLost {c t} (h : Canonical d) : Canonical (islandLinkLost c t d) := by
  unfold Machine.islandLinkLost
  extract_lets e2 e3
  have h2 : Canonical e2 := h.wrB.raise
  have h3 : Canonical e3 := by
    unfold e3
    split
    · exact h2.selvedge
    · exact h2
  exact h3.selfDiag

theorem Canonical.islandSupplyUp {c} (h : Canonical d) : Canonical (islandSupplyUp c d) :=
  h.setCstate.wrB.wrB.wrB.update

theorem Canonical.uvloTrip {c vn dead t} (h : Canonical d) : Canonical (uvloTrip c vn dead t d) := by
  unfold Machine.uvloTrip
  extract_lets i enabled onset e5 e6 e7
  have h5 : Canonical e5 := h.wrB
  have h6 : Canonical e6 := .ite h5.turnOff h5
  have h7 : Canonical e7 := .ite (h6.count.onLeg .legFault) h6
  exact .ite h (.ite h7.update.setCstate h7)

theorem Canonical.uvloRelease {c vn t} (h : Canonical d) : Canonical (uvloRelease c vn t d) := by
  unfold Machine.uvloRelease
  extract_lets e2 e3 e4
  have h2 : Canonical e2 := h.wrB
  have h3 : Canonical e3 := h2.update
  have h4 : Canonical e4 := .ite (.ite h3 h3.setCstate) h2
  split
  · exact h
  · split
    · exact h4.tryRelease
    · exact h4

theorem Canonical.blankingEnd {c t} (h : Canonical d) : Canonical (blankingEnd c t d) := .ite h.update h

theorem Canonical.desatTrip {c stamp t} (h : Canonical d) : Canonical (desatTrip c stamp t d) :=
  .ite (h.turnOff.update.wrB.count.recEvent.onLeg .legFault) h

theorem Canonical.softEnd {c t} (h : Canonical d) : Canonical (softEnd c t d) := by
  unfold Machine.softEnd
  extract_lets last e3 e4
  have h3 : Canonical e3 := h.reachOff
  have h4 : Canonical e4 := .ite h3.update h3
  split
  · split
    · split
      · exact h4.tryRelease
      · exact h4
    · exact h
  · exact h

theorem Canonical.millerClamp {c} (h : Canonical d) : Canonical (millerClamp c d) := .ite h.wrB h

theorem Canonical.selvStep {j t} (h : Canonical d) : Canonical (selvStep j t d) := by
  unfold Machine.selvStep
  exact h.each (fun k => by
    split
    · exact .ite k.legOut k
    · exact k)

theorem Canonical.selvHiz {c t} (h : Canonical d) : Canonical (selvHiz c t d) := by
  unfold Machine.selvHiz
  split
  · exact .ite h.update.setCstate h
  · exact h

theorem Canonical.selvReload (h : Canonical d) : Canonical (selvReload d) := .ite h.update.update h

theorem Canonical.holdoffEnd {j t} (h : Canonical d) : Canonical (holdoffEnd j t d) := by
  unfold Machine.holdoffEnd
  extract_lets e2
  have h2 : Canonical e2 := h.each (fun k => .ite k.update k)
  split
  · exact .ite h2.update.tryRelease h2
  · exact .ite h2.update.tryRelease h2
  · exact h2

theorem Canonical.retryWait {j leg t} (h : Canonical d) : Canonical (retryWait j leg t d) := by
  unfold Machine.retryWait
  extract_lets wait e3
  have h3 : Canonical e3 := h.refreshCauses
  split
  · exact h
  · split
    · split
      · exact .ite (.ite h3.releaseHarness h3.update) h
      · exact h
    · extract_lets legs
      exact .ite (.ite h3.releaseGroup h3.update) h

theorem Canonical.retryForget {j t} (h : Canonical d) : Canonical (retryForget j t d) := .ite h.wrF h

theorem Canonical.gateClear {mask t} (h : Canonical d) : Canonical (gateClear mask t d) :=
  h.each (fun k => .ite k.wrF.update.tryRelease k)

theorem Canonical.gateTestWrite {v t} (h : Canonical d) : Canonical (gateTestWrite v t d) :=
  .ite h (.ite h.update.wrN h.wrN)

theorem Canonical.gateTestDone {trip} (h : Canonical d) : Canonical (gateTestDone trip d) := by
  unfold Machine.gateTestDone
  extract_lets e2
  have h2 : Canonical e2 := h.update
  split
  · split
    · extract_lets pass
      exact h2.wrN
    · split
      rename_i _ _ e2 he2
      have h2 : Canonical e2 := of_snd he2 h2.fresh
      exact h2.wrN
  · exact h

theorem Canonical.showHlNone (h : Canonical d) : Canonical (showHlNone d) := h.each .wrB

theorem Canonical.startHarness {j t} (h : Canonical d) : Canonical (startHarness d j t) :=
  h.setHstate.wrB.update.showSelv.each (fun k => k.wrB.wrB.update)

theorem Canonical.runCommit {j t} (h : Canonical d) : Canonical (runCommit d j t) :=
  .ite h (.ite h.update.addCause.setHstate.selvGates h.startHarness)

theorem Canonical.stopCommit {j t} (h : Canonical d) : Canonical (stopCommit d j t) := by
  unfold Machine.stopCommit
  extract_lets e2 e3 e4
  have h2 : Canonical e2 := h.wrB
  have h3 : Canonical e3 := h2.stopUnits.stopInjectors
  have h4 : Canonical e4 := h3.each (fun k => .update (.wrB (.flushEdges (.flushFifo (k.each .turnOff)))))
  split
  · exact h4.setHstate.showSelv
  · exact h4.setHstate.showSelv
  · exact h2

theorem Canonical.shedRunCommit {v t} (h : Canonical d) : Canonical (shedRunCommit d v t) :=
  h.each (fun k => .ite k.runCommit k.stopCommit)

theorem Canonical.selvReqEnter {v t} (h : Canonical d) : Canonical (selvReqEnter d v t) :=
  h.wrN.each (fun k => .ite k.selvedge k)

theorem Canonical.selvReqRelease {v t} (h : Canonical d) : Canonical (selvReqRelease d v t) :=
  h.each (fun k => .ite (.ownerRelease (.ite k.ownerRelease k)) (.ite k.ownerRelease k))

end

end Sys2Proof.Proofs.CanonicalForm

/-! The canonical form is kept by decimation, primitives, stations, the link, the ledger and calibration. -/

namespace Sys2Proof.Proofs.CanonicalForm

open Sys2Proof Sys2Proof.Machine Sys2Proof.Laws

section
variable {d : Device}

/-! ### `Machine/Decim` -/

theorem Canonical.restartPaths {c} (h : Canonical d) : Canonical (restartPaths d c) := h.update.countBy

theorem Canonical.restartPrecision {c} (h : Canonical d) : Canonical (restartPrecision d c) := h.update.count

theorem Canonical.revalidate {c} (h : Canonical d) : Canonical (revalidate d c) := .ite h.wrB.restartPaths h

theorem Canonical.overloadOnset {c} (h : Canonical d) : Canonical (overloadOnset c d) := h.wrB.count

theorem Canonical.stuck {c t} (h : Canonical d) : Canonical (stuck c t d) := .ite h.wrB.count.wrB.update h

theorem Canonical.stuckRecovery {c first t} (h : Canonical d) : Canonical (stuckRecovery c first t d) := by
  unfold Machine.stuckRecovery
  extract_lets wait
  split
  · exact .ite h.update.revalidate h
  · exact h

theorem Canonical.islandLoss {current powerGood} (h : Canonical d) : Canonical (islandLoss current powerGood d) :=
  .each (.ite h.wrB.count h.wrB) (fun k => .ite k.wrB k)

theorem Canonical.islandRecovery {current} (h : Canonical d) : Canonical (islandRecovery current d) :=
  h.wrB.wrB.wrB.each (fun k => .ite k.revalidate k)

theorem Canonical.pathWord {c y ovl uns seq} (h : Canonical d) : CanonicalSnd (pathWord d c y ovl uns seq) :=
  .ite (Canonical.pair (.ite h.wrB.count h)) h.pair

theorem Canonical.hardLimit {n w t} (h : Canonical d) : Canonical (hardLimit d n w t) := by
  unfold Machine.hardLimit
  extract_lets x pos neg inside e6 on cause e9 e10 good gone e13
  have h6 : Canonical e6 := h.update
  have h9 : Canonical e9 := h6.each .turnOff
  have h10 : Canonical e10 := h9.update
  have h13 : Canonical e13 := h.update
  split
  · exact .ite h (.ite (.ite h6.wrB h6) h10.count.recEvent.legFault)
  · split
    · split
      · exact h13.tryRelease
      · exact h13
    · exact h13

theorem Canonical.fastWord {c bits t} (h : Canonical d) : Canonical (fastWord c bits t d) := by
  unfold Machine.fastWord
  extract_lets e2 h' run
  have h2 : Canonical e2 := h.update
  split
  rename_i _ _ e2 he2
  have h2 : Canonical e2 := of_snd he2 h2.pathWord
  extract_lets e4 inv e6 e7 legs e9 e10
  have h4 : Canonical e4 := h2.wr
  have h6 : Canonical e6 := h4.update
  have h7 : Canonical e7 := .ite h6.gainSetp h6
  have h9 : Canonical e9 := .ite h7 (h7.each .hardLimit)
  have h10 : Canonical e10 := .ite h9 (h9.each (fun k => .ite (by
    split
    · exact k.unitWord
    · exact k) k))
  exact h10.each (fun k => .ite k.tryRelease k)

theorem Canonical.fastMissing {c t} (h : Canonical d) : Canonical (fastMissing c t d) :=
  .ite (h.update.each (fun k => .ite k.selvedge k)) h

theorem Canonical.dcmpUpdate {k ws} (h : Canonical d) : Canonical (dcmpUpdate d k ws) := by
  unfold Machine.dcmpUpdate
  extract_lets p e3 x al be hist f theta f10 aq bq half pos neg
  have h3 : Canonical e3 := by
    unfold e3
    split
    · exact h.each .wr
    · exact h
  have h10 : ∀ x0 x1, Canonical (f10 x0 x1) := fun _ _ => h3.update.wrB
  exact .ite (h10 _ _) (h10 _ _)

theorem Canonical.dcmpUnsEnd {k t} (h : Canonical d) : Canonical (dcmpUnsEnd k t d) := .ite h.wrB h

theorem Canonical.dcmpUnsettle {k t} (h : Canonical d) : Canonical (dcmpUnsettle d k t) := h.update.wrB

theorem Canonical.mediumPath {c t} (h : Canonical d) : Canonical (mediumPath c t d) := by
  unfold Machine.mediumPath
  extract_lets h' run k'
  split
  rename_i _ _ e1 he1
  have h1 : Canonical e1 := of_snd he1 h.pathWord
  extract_lets e3 e4
  have h3 : Canonical e3 := h1.wr
  have h4 : Canonical e4 := h3.update
  exact h4.each (fun k => .ite k.dcmpUpdate k)

theorem Canonical.precisionPath {c t} (h : Canonical d) : Canonical (precisionPath c t d).2.2 := by
  unfold Machine.precisionPath
  extract_lets _ run skew x k uns raw
  split
  rename_i w e he
  have h1 : Canonical e := of_snd he h.pathWord
  extract_lets e2 wraps e3
  have h2 : Canonical e2 := h1.wr.wrB
  have h3 : Canonical e3 := .ite h2 h2.countBy
  exact h3.wrN.update

/-! ### `Machine/Prims` -/

theorem Canonical.intSwap {n} (h : Canonical d) : Canonical (intSwap d n) := .ite h.wrB.wr h.wrB

theorem Canonical.intCompute {n} (h : Canonical d) : Canonical (intCompute d n) :=
  .ite h.update.wr.wr.wrF.wrB h.update.wrB.count

theorem Canonical.intStep {act n} (h : Canonical d) : Canonical (intStep act d n) := by
  unfold Machine.intStep
  extract_lets c e3 e4
  have h3 : Canonical e3 := .ite h.intSwap h
  have h4 : Canonical e4 := .ite h3.wr h3
  exact .ite h4.intCompute h4

theorem Canonical.dcmpCommit {old angle t k} (hD : Canonical d) : Canonical (dcmpCommit old angle t d k) := by
  unfold Machine.dcmpCommit
  extract_lets e3 was now jump cause e8
  have h3 : Canonical e3 := .ite hD.update hD
  have h8 : Canonical e8 := .ite h3.update h3
  exact .ite h8.dcmpUnsettle h8

theorem Canonical.injCommit {old t j} (hD : Canonical d) : Canonical (injCommit old t d j) :=
  .ite hD.update (.ite hD.update hD)

theorem Canonical.tmrSettle {i t} (h : Canonical d) : Canonical (tmrSettle d i t) := h.wrN.wrB.update

theorem Canonical.tmrSet {i e q runs t} (h : Canonical d) : Canonical (tmrSet d i e q runs t) := h.wrN.wrB.update

theorem Canonical.tmrCommit {i v t} (h : Canonical d) : Canonical (tmrCommit d i v t) := by
  unfold Machine.tmrCommit
  extract_lets was on e4 e5 e6 e' q runs p
  have h4 : Canonical e4 := h.tmrSettle
  have h5 : Canonical e5 := h4.wr
  have h6 : Canonical e6 := .ite h5.tmrSet h5
  split
  · exact .ite (.ite h6 h6.tmrSet) h6.tmrSet
  · exact .ite h6.tmrSet (.ite h6.tmrSet h6)
  · exact .ite h6.tmrSet h6
  · exact .ite (.ite h6 h6.tmrSet) h6.tmrSet
  · exact h6

theorem Canonical.tmrPresetWrite {i v t} (h : Canonical d) : Canonical (tmrPresetWrite i v t d) :=
  h.tmrSettle.update.wr

theorem Canonical.tmrExpiry {i t} (h : Canonical d) : Canonical (tmrExpiry i t d) := .ite h.tmrSettle h

/-! ### `Machine/Station` -/

theorem Canonical.updStation {k f} (h : Canonical d) : Canonical (updStation d k f) := h.update

theorem Canonical.showLost {k} (h : Canonical d) : Canonical (showLost d k) := h.wrB.updStation

theorem Canonical.stationsFollow (h : Canonical d) : Canonical (stationsFollow d) := by
  unfold Machine.stationsFollow
  exact h.each (fun k => by
    split
    · exact k.updStation.showLost
    · exact k)

theorem Canonical.stationTimeout {k t} (h : Canonical d) : Canonical (stationTimeout k t d) := by
  unfold Machine.stationTimeout
  extract_lets s since
  split
  · exact .ite h.updStation.showLost h
  · exact h

theorem Canonical.stationTake {k seq ws n t} (h : Canonical d) : Canonical (stationTake d k seq ws n t) :=
  .showLost (.updStation (h.each .wrN))

theorem Canonical.stationFrame {transport src bs t} (h : Canonical d) :
    Canonical (stationFrame transport src bs t d) := by
  unfold Machine.stationFrame
  extract_lets w k' crc seq seq
  split
  · split
    · extract_lets head
      exact .ite h.stationTake h
    · exact h
  · exact h.each (fun k => by
      split
      · exact .ite k.stationTake k
      · exact k)

theorem Canonical.sendUdp {n dest port bytes} (h : Canonical d) : Canonical (sendUdp n dest port bytes d) := h.update

theorem Canonical.stationSend {time k} (h : Canonical d) : Canonical (stationSend time d k) := by
  unfold Machine.stationSend
  extract_lets s e3 n
  have h3 : Canonical e3 := h.updStation
  split
  · exact h
  · extract_lets ws body ip
    exact .ite h3.count (.ite h3.sendUdp h3.update)

theorem Canonical.stationsSend {task time} (h : Canonical d) : Canonical (stationsSend d task time) := by
  unfold Machine.stationsSend
  exact h.each (fun k => by
    split
    · exact .ite k.stationSend k
    · exact k)

theorem Canonical.stationLatch {k} (h : Canonical d) : Canonical (stationLatch d k) := h.wrB.wrB.wrF.updStation

theorem Canonical.stationsLatch {task} (h : Canonical d) : Canonical (stationsLatch d task) := by
  unfold Machine.stationsLatch
  exact h.each (fun k => by
    split
    · exact .ite k.stationLatch k
    · exact k)

theorem Canonical.edgeSample {t j} (h : Canonical d) : Canonical (edgeSample t d j) := h.wrB.wrB.wrB.update

theorem Canonical.edgesLatch {task t} (h : Canonical d) : Canonical (edgesLatch d task t) := by
  unfold Machine.edgesLatch
  split
  · exact h.each .edgeSample
  · exact h

/-! ### `Machine/Filut` -/

theorem Canonical.filutSend {type flags cycle time payload} (h : Canonical d) :
    Canonical (filutSend d type flags cycle time payload) := .ite h.countWrap.update h

theorem Canonical.controlFrame {flags code body} (h : Canonical d) : Canonical (controlFrame d flags code body) :=
  h.filutSend

theorem Canonical.statusFrame (h : Canonical d) : Canonical (statusFrame d) := h.filutSend

theorem Canonical.cutFrame {t} (h : Canonical d) : Canonical (cutFrame d t) := .ite h.update h

theorem Canonical.imageSend {cs xchg t1 dl} (h : Canonical d) : Canonical (imageSend cs xchg t1 dl d) := by
  unfold Machine.imageSend
  extract_lets at' e3 payload e5 _ e7 _
  have h3 : Canonical e3 := .ite h.count.cutFrame h
  have h5 : Canonical e5 := h3.filutSend
  have h7 : Canonical e7 := h5.update
  exact .ite (.ite h7.update.statusFrame h7) h.statusFrame

/-! ### `Machine/Meter` -/

theorem Canonical.updMp {m f} (h : Canonical d) : Canonical (updMp d m f) := h.update

theorem Canonical.mpShowMeter (h : Canonical d) : Canonical (mpShowMeter d) := h.each .wrB

theorem Canonical.mpRefresh (h : Canonical d) : Canonical (mpRefresh d) :=
  .mpShowMeter (h.update.each (fun k => .ite k.updMp k))

theorem Canonical.lreqPlace {t} (h : Canonical d) : Canonical (lreqPlace d t) := by
  unfold Machine.lreqPlace
  extract_lets _
  split
  · extract_lets e2 e3
    have h2 : Canonical e2 := h.update
    have h3 : Canonical e3 := h2.each .wrN
    exact .ite h h3.wrB
  · exact h

theorem Canonical.lreqSend {type mp params t} (h : Canonical d) : Canonical (lreqSend d type mp params t) :=
  h.update.lreqPlace

theorem Canonical.lreqGo {t} (h : Canonical d) : Canonical (lreqGo t d) := h.update.wrB

theorem Canonical.logEntry {type mp ident old new origin} (h : Canonical d) :
    CanonicalSnd (logEntry d type mp ident old new origin) :=
  h.update.pair

theorem Canonical.energySave (h : Canonical d) : Canonical (energySave d) := h.mramPut.update

theorem Canonical.energySaveTick (h : Canonical d) : Canonical (energySaveTick d) := .ite h.energySave h

theorem Canonical.closeSession {m extra time} (h : Canonical d) : Canonical (closeSession d m extra time) := by
  unfold Machine.closeSession
  extract_lets p flags e4 _
  have h4 : Canonical e4 := h.updMp
  split
  · exact h
  · extract_lets rec' e4
    have h4 : Canonical e4 := h4.update
    exact h4.mramPut

theorem Canonical.lreqOpen {m sid time} (h : Canonical d) : CanonicalSnd (lreqOpen m sid time d) := by
  unfold Machine.lreqOpen
  split
  · exact h.pair
  · extract_lets p free
    refine .ite h.pair (.ite h.pair (.ite h.pair (.ite h.pair (.ite h.pair ?_))))
    clear_value free
    split
    · exact .ite h.pair (Canonical.pair (Canonical.mramPut (Canonical.update (Canonical.updMp h))))
    · exact h.pair

theorem Canonical.lreqClose {m time} (h : Canonical d) : CanonicalSnd (lreqClose m time d) := by
  unfold Machine.lreqClose
  split
  · exact h.pair
  · exact .ite h.closeSession.pair h.pair

theorem Canonical.lreqAck {upto} (h : Canonical d) : CanonicalSnd (lreqAck upto d) := h.update.pair

theorem Canonical.lreqSetField {id v} (h : Canonical d) : CanonicalSnd (lreqSetField id v d) := by
  unfold Machine.lreqSetField
  extract_lets m global busy old
  split
  · exact h.pair
  · split
    · exact h.pair
    · split
      · exact h.pair
      · split
        · exact h.pair
        · split
          · exact h.pair
          · split
            · extract_lets past
              split
              rename_i _ _ e1 he1
              have h1 : Canonical e1 := of_snd he1 h.logEntry
              extract_lets _ e4 off
              have h4 : Canonical e4 := h1.update.mramPut
              exact h4.pair

theorem Canonical.lreqClear {mask} (h : Canonical d) : CanonicalSnd (lreqClear mask d) := h.update.pair

theorem Canonical.lreqCal {begin' c} (h : Canonical d) : CanonicalSnd (lreqCal begin' c d) :=
  .ite h.pair h.update.pair

theorem Canonical.lreqAnswer {seq r} (h : CanonicalSnd r) : Canonical (lreqAnswer seq r) := by
  unfold Machine.lreqAnswer
  extract_lets e2 _ e4 _
  have h2 : Canonical e2 := h.snd
  have h4 : Canonical e4 := h2.update
  split
  · exact h4
  · split
    · exact h4.update

theorem Canonical.lreqAct {f time} (h : Canonical d) : Canonical (lreqAct d f time) := by
  refine .lreqAnswer ?_
  split
  · exact h.lreqOpen
  · exact h.lreqClose
  · exact h.lreqAck
  · exact h.lreqSetField
  · exact h.lreqClear
  · exact h.lreqCal
  · exact h.lreqCal
  · exact h.pair

theorem Canonical.mpTake {m t} (h : Canonical d) : Canonical (mpTake d m t) := .ite h.updMp h.updMp

theorem Canonical.ledgerWord {c k t} (h : Canonical d) : Canonical (ledgerWord d c k t) :=
  .ite (h.update.each (fun k => .ite k.mpTake k)) h.update

theorem Canonical.ledgerInterruption {m t} (h : Canonical d) : Canonical (ledgerInterruption m t d) := by
  unfold Machine.ledgerInterruption
  extract_lets p gone _
  split
  · split
    · exact h.update.updMp
  · exact h

theorem Canonical.mpAssign {m} (h : Canonical d) : Canonical (mpAssign d m) := .ite h.updMp h

theorem Canonical.mpShow {m} (h : Canonical d) : Canonical (mpShow d m) := by
  unfold Machine.mpShow
  extract_lets p base on vfs ifs ac acc stat e10 e11 words e13 e14 e15 e16 sid
  have h10 : Canonical e10 := h.wrN.wrN
  have h11 : Canonical e11 := h10.each .wr64
  have h13 : Canonical e13 := h11.wr
  have h14 : Canonical e14 := h13.wr
  have h15 : Canonical e15 := .ite h14.wr.wr h14.wr.wr
  have h16 : Canonical e16 := h15.wr
  exact h16.each .wrN

theorem Canonical.mailbox {time} (h : Canonical d) : Canonical (mailbox d time) := by
  unfold Machine.mailbox
  extract_lets e2 m free stat e6 e7 e8 e9 e10 e11 hash key e14 e15
  have h2 : Canonical e2 := h.wrN
  have h6 : Canonical e6 := h2.wrN.wr64
  have h7 : Canonical e7 := h6.wrN.wrN
  have h8 : Canonical e8 := h7.wr64.wrN
  have h9 : Canonical e9 := h8.wrN.wrN
  have h10 : Canonical e10 := h9.wrN.wrN.wrN
  have h11 : Canonical e11 := h10.wr
  have h14 : Canonical e14 := h11.each .wrN
  have h15 : Canonical e15 := h14.each .wrN
  exact h15.each .mpShow

theorem Canonical.ledgerBoundary {frame time} (h : Canonical d) : Canonical (ledgerBoundary d frame time) := by
  unfold Machine.ledgerBoundary
  extract_lets was e3 _ e5 _ e7 e8 e9 e10 e11 e12 e13 _
  have h3 : Canonical e3 := h.each .mpAssign
  have h5 : Canonical e5 := .ite (by
    split
    · exact h3.update) h3
  have h7 : Canonical e7 := h5.update
  have h8 : Canonical e8 := h7.each (fun k => .ite k.updMp k)
  have h9 : Canonical e9 := h8.each (fun k => .ite k.closeSession.raise k)
  have h10 : Canonical e10 := by
    unfold e10
    split
    · exact h9.lreqAct
    · exact h9
  have h11 : Canonical e11 := h10.mailbox
  have h12 : Canonical e12 := h11.each .updMp
  have h13 : Canonical e13 := h12.each .setFieldOf
  exact .ite h12 h13.update.mpRefresh

theorem Canonical.ledgerEarly {frame} (h : Canonical d) : Canonical (ledgerEarly frame d) :=
  .ite (.lreqAnswer h.pair) h

theorem Canonical.msBoundary {t} (h : Canonical d) : Canonical (msBoundary t d) := by
  unfold Machine.msBoundary
  extract_lets now n _ e5 leaves frame e8 e9 e10
  have h5 : Canonical e5 := h.update
  have h8 : Canonical e8 := .ite h5.wrB h5
  have h9 : Canonical e9 := h8.ledgerBoundary
  have h10 : Canonical e10 := .ite (.ite h9.sealRefused h9) (.ite h8.ledgerEarly h8)
  exact .ite h10.lreqPlace h

theorem Canonical.ledgerFrame {seq type mp params t} (h : Canonical d) :
    Canonical (ledgerFrame seq type mp params t d) := .ite (.ite h.lreqAct.sealRefused h.lreqAct) h.ledgerEarly

theorem Canonical.mpLoad {m} (h : Canonical d) : Canonical (mpLoad d m) := h.updMp

theorem Canonical.keyGenerate (h : Canonical d) : Canonical (keyGenerate d) := by
  unfold Machine.keyGenerate
  extract_lets old g new
  split
  rename_i _ _ e1 he1
  have h1 : Canonical e1 := of_snd he1 h.logEntry
  extract_lets _
  exact h1.update.mramPut

theorem Canonical.ledgerFirmware (h : Canonical d) : Canonical (ledgerFirmware d) := by
  unfold Machine.ledgerFirmware
  extract_lets _ e3 _ e5
  have h3 : Canonical e3 := .ite h.keyGenerate h
  have h5 : Canonical e5 := h3.update
  split
  · exact h.update
  · split
    · exact h3.update
    · split
      · exact .ite h5.keyGenerate h5
      · split
        rename_i _ _ e3 he3
        have h3 : Canonical e3 := of_snd he3 h3.logEntry
        extract_lets _
        exact h3.update.mramPut

theorem Canonical.mtrLoad (h : Canonical d) : Canonical (mtrLoad d) := .ite (h.each .setFieldOf) h

theorem Canonical.ledgerReady {t} (h : Canonical d) : Canonical (ledgerReady t d) := by
  unfold Machine.ledgerReady
  extract_lets _ e3 e4 e5 time seq _ e9 e10 e11 _ e13 _
  have h3 : Canonical e3 := h.update
  have h4 : Canonical e4 := h3.ledgerFirmware
  have h5 : Canonical e5 := h4.mtrLoad.each .mpLoad
  have h9 : Canonical e9 := h5.update
  have h10 : Canonical e10 := h9.mpRefresh
  have h11 : Canonical e11 := h10.each .closeSession
  have h13 : Canonical e13 := h11.update.mailbox
  exact .ite h13.update h

theorem Canonical.ledgerOff (h : Canonical d) : Canonical (ledgerOff d) := h.update

theorem Canonical.ledgerSupply (h : Canonical d) : Canonical (ledgerSupply d) := h.each (fun k => .ite k.updMp k)

/-! ### `Machine/Cal` -/

theorem Canonical.calSet {state result} (h : Canonical d) : Canonical (calSet d state result) := h.wrF.wrF

theorem Canonical.calRefuse {result} (h : Canonical d) : Canonical (calRefuse d result) := h.wrF

theorem Canonical.calIdle {result t} (h : Canonical d) : Canonical (calIdle d result t) :=
  .ite h.update.calSet.lreqSend h.update.calSet

theorem Canonical.calSealRefuse {result} (h : Canonical d) : Canonical (calSealRefuse d result) :=
  .calRefuse (.ite h.sealRefused h)

theorem Canonical.calStart {chan t} (h : Canonical d) : Canonical (calStart chan t d) := by
  unfold Machine.calStart
  extract_lets _ e3 e4
  have h3 : Canonical e3 := h.update
  have h4 : Canonical e4 := h3.wrF.calSet
  split
  · exact h3.calRefuse
  · split
    · exact h3.calRefuse
    · split
      · exact h3.calRefuse
      · split
        · exact h3.calRefuse
        · split
          · exact .ite h4.lreqSend h4
          · exact h3.calSealRefuse

theorem Canonical.calMeasure {state t} (h : Canonical d) : Canonical (calMeasure d state t) := h.update.calSet

theorem Canonical.calZero {t} (h : Canonical d) : Canonical (calZero t d) :=
  .ite h.update.calMeasure h.update.calRefuse

theorem Canonical.calFull {t} (h : Canonical d) : Canonical (calFull t d) :=
  .ite h.update.calRefuse (.ite h.update.calSet h.update.calMeasure)

theorem Canonical.calCommitWith {origin} (h : Canonical d) : Canonical (calCommitWith d origin) := by
  unfold Machine.calCommitWith
  extract_lets e' off gain bytes targets pair
  split
  · split
    rename_i _ _ e1 he1
    have h1 : Canonical e1 := of_snd he1 (.ite (by
      split
      rename_i _ _ e1 he1
      have h1 : Canonical e1 := of_snd he1 h.logEntry
      exact h1.pair) h.pair)
    extract_lets _ e4
    have h4 : Canonical e4 := h1.update
    exact h4.calSet.mramPut
  · exact h.calSealRefuse

theorem Canonical.calCommit {t} (h : Canonical d) : Canonical (calCommit t d) :=
  .ite h.update.calCommitWith h.update.calRefuse

theorem Canonical.calAbort {t} (h : Canonical d) : Canonical (calAbort t d) := by
  unfold Machine.calAbort
  extract_lets _ e3
  have h3 : Canonical e3 := h.update
  split
  · exact h3.calRefuse
  · exact h3.calSet
  · exact h3.calIdle

theorem Canonical.calRestore {t} (h : Canonical d) : Canonical (calRestore t d) := by
  unfold Machine.calRestore
  extract_lets _ e3 off gain
  have h3 : Canonical e3 := h.update
  split
  · exact h3.calRefuse
  · split
    · exact h3.calRefuse
    · split
      · exact h3.calRefuse
      · split
        · exact h3.wr.wr.calCommitWith
        · exact h3.calSealRefuse

theorem Canonical.calSettled {t} (h : Canonical d) : Canonical (calSettled t d) := by
  unfold Machine.calSettled
  extract_lets _
  split
  · exact .ite h.update h
  · exact h

theorem Canonical.calFlagged (h : Canonical d) : Canonical (calFlagged d) := .ite h.update.calSet h

theorem Canonical.calTake {entry raw bad uns} (h : Canonical d) : Canonical (calTake d entry raw bad uns) :=
  .ite (.ite h.calFlagged (.ite h h.update)) h

theorem Canonical.calDone (h : Canonical d) : Canonical (calDone d) := by
  unfold Machine.calDone
  extract_lets n mean spread ppm past e7 _ e9 m0 den num gain
  have h7 : Canonical e7 := h.wrN
  have h9 : Canonical e9 := h7.wrI
  exact .ite (.ite h7.update.wrI.calSet (.ite h9.calSet (.ite h9.calSet (.ite h9.calSet h9.wrI.wrN.calSet)))) h

theorem Canonical.calTimeout {t} (h : Canonical d) : Canonical (calTimeout t d) := .ite h.calIdle h

theorem Canonical.calUse {p} (h : Canonical d) : Canonical (calUse d p) := h.wr.wr.wr.wrB

theorem Canonical.calBoundaryT0 (h : Canonical d) : Canonical (calBoundaryT0 d) := .update (h.each .calUse)

theorem Canonical.calCommitDone {t} (h : Canonical d) : Canonical (calCommitDone t d) := by
  unfold Machine.calCommitDone
  extract_lets e' info p e5 e6 e7
  have h5 : Canonical e5 := h.update
  have h6 : Canonical e6 := .ite h5 h5.calBoundaryT0
  have h7 : Canonical e7 := .ite h6 h6.raise
  exact .ite h7.calIdle h

theorem Canonical.calLoadEntry {i} (h : Canonical d) : Canonical (calLoadEntry d i) := .ite h.calUse h.calUse.raise

theorem Canonical.calLoad (h : Canonical d) : Canonical (calLoad d) :=
  .update (.each (.ite h h.mramPut.raise) .calLoadEntry)

end

end Sys2Proof.Proofs.CanonicalForm

/-! The canonical form is kept by heat, the clock, the kernel, the resampler and measurement. -/

namespace Sys2Proof.Proofs.CanonicalForm

open Sys2Proof Sys2Proof.Machine Sys2Proof.Laws

section
variable {d : Device}

/-! ### `Machine/Thermal` -/

theorem Canonical.ntcSettle (h : Canonical d) : Canonical (ntcSettle d) := h.each (fun k => k.wrB.wrF)

theorem Canonical.showStale (h : Canonical d) : Canonical (showStale d) := h.wrB

theorem Canonical.thConvert {i code} (h : Canonical d) : Canonical (thConvert d i code) := by
  unfold Machine.thConvert
  split
  · split
    rename_i _ _ e1 he1
    have h1 : Canonical e1 := of_snd he1 (by
      split
      · exact h.pair
      · split
        rename_i _ _ e1 he1
        have h1 : Canonical e1 := of_snd he1 h.fresh
        exact h1.pair)
    exact h1.wrF.ntcSettle
  · exact .ite h.wrF h

theorem Canonical.conduction {c} (h : Canonical d) : Canonical (conduction d c) := by
  unfold Machine.conduction
  split
  · exact h.each (fun k => by
      extract_lets _
      split
      · split
        · split
          · extract_lets e'
            exact k.update
        · exact k
      · exact k)
  · exact h

theorem Canonical.legStep {n} (h : Canonical d) : Canonical (legStep d n) := by
  unfold Machine.legStep
  extract_lets e' e3 _ _
  have h3 : Canonical e3 := h.wr
  split
  · exact .ite h3 h3.update
  · exact h.update

theorem Canonical.modelNtcs (h : Canonical d) : Canonical (modelNtcs d) := h.each .wrN

theorem Canonical.legWarn {n} (h : Canonical d) : Canonical (legWarn d n) := by
  unfold Machine.legWarn
  extract_lets tj
  split
  · extract_lets lim
    exact .ite (.ite h.wrB h) (.ite h.wrB.raise.hkTrigger h)
  · exact h

theorem Canonical.thPend {rec'} (h : Canonical d) : Canonical (thPend d rec') := h.update.wrB

theorem Canonical.thCompare {t} (h : Canonical d) : Canonical (thCompare d t) := by
  unfold Machine.thCompare
  extract_lets now
  split
  · exact h
  · extract_lets scope e3 _ e5 e6
    have h3 : Canonical e3 := h.wrF.count.raise
    have h5 : Canonical e5 := h3.update
    have h6 : Canonical e6 := h5.thPend
    exact h6.each (fun k => .ite k.selvedge k)

theorem Canonical.showCorr (h : Canonical d) : Canonical (showCorr d) := h.wrI

theorem Canonical.thTick {t} (h : Canonical d) : Canonical (thTick t d) := by
  unfold Machine.thTick
  extract_lets _ e3 e4 e5 e6
  have h3 : Canonical e3 := h.update.showCorr
  have h4 : Canonical e4 := h3.each .legStep
  have h5 : Canonical e5 := h4.modelNtcs.ntcSettle
  have h6 : Canonical e6 := h5.each .wrN
  exact .ite (.thCompare (h6.each .legWarn)) h3

theorem Canonical.thRecordWrite (h : Canonical d) : Canonical (thRecordWrite d) := by
  unfold Machine.thRecordWrite
  extract_lets _
  split
  · exact .ite h h.update.thermalPut
  · exact h

theorem Canonical.hkRecover (h : Canonical d) : Canonical (hkRecover d) := h.update.wrB

theorem Canonical.thRestart {mask t} (h : Canonical d) : Canonical (thRestart mask t d) := by
  unfold Machine.thRestart
  extract_lets _ e3 e4
  have h3 : Canonical e3 := h.update
  have h4 : Canonical e4 := h3.each (fun k => .ite (by
    extract_lets _
    split
    · exact k.wrB.dropCause.tryRelease
    · exact .ite k.update k) k)
  exact .ite h4.wrB.thPend.hkRecover h4

theorem Canonical.thStart {t} (h : Canonical d) : Canonical (thStart d t) :=
  .ite (h.wrF.each (fun k => .ite k.selvedge k)) h

theorem Canonical.ntcCheck {old k} (hD : Canonical d) : Canonical (ntcCheck old d k) :=
  .ite hD (.ite (.ite hD.update.wrB.raise hD.update) (.ite hD.update.wrB.count.raise hD.update))

theorem Canonical.xtalRound (h : Canonical d) : Canonical (xtalRound d) := .ite h h.wrI.showCorr

theorem Canonical.refBoundaryT0 (h : Canonical d) : Canonical (refBoundaryT0 d) := h.update.wrI.wrI

theorem Canonical.refRound (h : Canonical d) : Canonical (refRound d) := .ite h.update h.update.refBoundaryT0

theorem Canonical.hkRoundEnd (h : Canonical d) : Canonical (hkRoundEnd d) := by
  unfold Machine.hkRoundEnd
  extract_lets _ e3 e4 e5 e6 _
  have h3 : Canonical e3 := h.update
  have h5 : Canonical e5 := .ntcSettle (h3.each .ntcCheck)
  have h6 : Canonical e6 := .ite h5.xtalRound.refRound h5
  exact .ite (.ite h6.update.wrB h6) h

theorem Canonical.thTransfer {old} (hD : Canonical d) : Canonical (thTransfer old d) :=
  hD.each (fun k => .ite k.update k)

/-! ### `Machine/Clock` -/

theorem Canonical.showLockf {mv} (h : Canonical d) : Canonical (showLockf d mv) := h.wrF

theorem Canonical.lockDeclared {mv t} (h : Canonical d) : Canonical (lockDeclared mv t d) := by
  unfold Machine.lockDeclared
  extract_lets e2
  have h2 : Canonical e2 := h.showLockf
  split
  · split
    rename_i _ _ e2 he2
    have h2 : Canonical e2 := of_snd he2 h2.fresh
    extract_lets e4 _ e6 _
    have h4 : Canonical e4 := h2.wrB.wrB.wrF
    have h6 : Canonical e6 := h4.update
    exact .ite h6.update.wrB h6
  · exact h2

theorem Canonical.clockLoss {ref t} (h : Canonical d) : Canonical (clockLoss ref t d) := by
  unfold Machine.clockLoss
  extract_lets e' was e4 e5 e6 e7 e8 e9 _ e11
  have h4 : Canonical e4 := h.wrB.wrB
  have h5 : Canonical e5 := h4.wrB.wrB.wrB
  have h6 : Canonical e6 := h5.count
  have h7 : Canonical e7 := .ite h6.count.wrB h6
  have h8 : Canonical e8 := .ite h7.wrB h7
  have h9 : Canonical e9 := h8.wr64
  have h11 : Canonical e11 := h9.update
  exact .ite h11 h11.selvedgeAll.cutFrame.selfDiag

theorem Canonical.lossOfLock {digital mv held t} (h : Canonical d) : Canonical (lossOfLock digital mv held t d) :=
  .ite (.clockLoss (.update (.ite h h.showLockf))) (.ite h h.showLockf)

theorem Canonical.lossOfReference {t} (h : Canonical d) : Canonical (lossOfReference t d) :=
  .ite (.ite h.update.wrB.clockLoss h.update.wrB) h

theorem Canonical.lockfFault {mv} (h : Canonical d) : Canonical (lockfFault mv d) :=
  .ite h.showLockf.wrB.count.raise h.showLockf

theorem Canonical.lockfClear {mv} (h : Canonical d) : Canonical (lockfClear mv d) := .ite h.showLockf.wrB h.showLockf

theorem Canonical.referenceRecovered (h : Canonical d) : Canonical (referenceRecovered d) := .ite h.wrB.wrB.update h

theorem Canonical.relockExpiry {t} (h : Canonical d) : Canonical (relockExpiry t d) := by
  unfold Machine.relockExpiry
  extract_lets took e3 _ e5
  have h3 : Canonical e3 := h.wrF.wrN
  have h5 : Canonical e5 := h3.update
  split
  · exact .ite (.hkRecover (h5.each .ownerRelease)) h
  · exact h

theorem Canonical.rootStart (h : Canonical d) : Canonical (rootStart d) := h.wrN.wrI.update

/-! ### `Machine/Gfk` -/

theorem Canonical.kset {ctx v w} (h : Canonical d) : Canonical (kset d ctx v w) := h.putNat

theorem Canonical.ksetN {ctx v n} (h : Canonical d) : Canonical (ksetN d ctx v n) := h.putNat

theorem Canonical.ksetB {ctx v b} (h : Canonical d) : Canonical (ksetB d ctx v b) := h.ksetN

theorem Canonical.trimOne {ctx inp off last now step} (h : Canonical d) :
    Canonical (trimOne ctx inp off last now step d) := .kset (.ite (.ksetB (.ite h.kset h)) (.ite h.kset h))

theorem Canonical.trims {ctx inp} (h : Canonical d) : Canonical (trims ctx inp d) :=
  h.ksetB.trimOne.trimOne.trimOne.trimOne

theorem Canonical.kreason {ctx r} (h : Canonical d) : Canonical (kreason ctx r d) := h.ksetN

theorem Canonical.kgo {ctx s} (h : Canonical d) : Canonical (kgo ctx s d) :=
  .ksetN (.ksetN (.ksetN (.ksetN (.ksetN (.ite h.ksetB.ksetB.ksetB.ksetB.kset.ksetB h)))))

theorem Canonical.kOff {ctx r} (h : Canonical d) : Canonical (kOff ctx r d) := h.kgo.ksetB.kreason

theorem Canonical.kTrip {ctx r} (h : Canonical d) : Canonical (kTrip ctx r d) := h.kgo.ksetB.ksetB.kreason

theorem Canonical.kWait {ctx} (h : Canonical d) : Canonical (kWait ctx d) := h.kgo.ksetB

theorem Canonical.kFromBus {ctx} (h : Canonical d) : Canonical (kFromBus ctx d) := h.kset.kset.kset

theorem Canonical.kSync {ctx} (h : Canonical d) : Canonical (kSync ctx d) := h.kgo.ksetB.kFromBus.kset.kset

theorem Canonical.kRamp {ctx} (h : Canonical d) : Canonical (kRamp ctx d) := h.kgo.kset.kset.kset.kset.kset

theorem Canonical.kForm {ctx} (h : Canonical d) : Canonical (kForm ctx d) := h.kgo.kset.kset.kset

theorem Canonical.estimate {ctx inp} (h : Canonical d) : Canonical (estimate ctx inp d) :=
  h.kset.kset.kset.kset.kset.kset

theorem Canonical.frtTrack {ctx inp} (h : Canonical d) : Canonical (frtTrack ctx inp d) := by
  unfold Machine.frtTrack
  extract_lets v inside dt e4 n
  have h4 : Canonical e4 := h.ksetN
  exact .ite (.ite (.ite h4.ksetB h4.ksetN) h4.ksetN) (.ite h h.ksetB.ksetN.ksetN)

theorem Canonical.measCheck {ctx inp} (h : Canonical d) : Canonical (measCheck ctx inp d) :=
  .ite h.ksetB.kTrip h.ksetB

theorem Canonical.kcommand {ctx inp cmd} (h : Canonical d) : Canonical (kcommand ctx inp cmd d) := by
  unfold Machine.kcommand
  extract_lets s
  split
  · exact .ite h (.ite h.kreason (.ite h.kWait.ksetB (.ite h.ksetB.kFromBus.kset.kForm (.ite h.ksetB.kRamp h))))
  · exact .ite h h.kOff.ksetB
  · exact .ite h.kgo.ksetB h
  · exact .ite h.ksetB.ksetN h.kreason
  · exact h.ksetB.ksetB
  · exact h

theorem Canonical.krun {ctx v on dt} (h : Canonical d) : Canonical (krun ctx v on dt d) := h.ksetN

theorem Canonical.kmove {ctx inp} (h : Canonical d) : Canonical (kmove ctx inp d) := by
  unfold Machine.kmove
  extract_lets dt kf rose e5 e6 wait e8 win e10 e11
  have h5 : Canonical e5 := h.krun
  have h6 : Canonical e6 := h5.krun
  have h8 : Canonical e8 := h.krun
  have h10 : Canonical e10 := h8.ksetB.krun
  have h11 : Canonical e11 := h8.ksetB
  split
  · exact .ite h6.kTrip (.ite h6.kgo.ksetB (.ite h6.kSync h6))
  · exact .ite (.ite h8.kRamp h8.kTrip) (.ite h8.kWait (.ite h8.kOff h8))
  · exact .ite h h.kOff
  · exact .ite h10.kTrip (.ite h10.kWait (.ite h10.kgo.ksetB (.ite h10.kOff h10)))
  · exact .ite h11.kForm (.ite h11.kOff h11)
  · exact .ite h (.ite h.kSync h.kOff)
  · exact h

theorem Canonical.kreconnect {ctx inp} (h : Canonical d) : Canonical (kreconnect ctx inp d) :=
  .ite h (.ite h.ksetB.ksetB (.ite (.ite h.krun.kset.ksetB.krun.ksetB h.krun.kset.ksetB.krun) h.krun.ksetN))

theorem Canonical.eLaw {ctx inp} (h : Canonical d) : Canonical (eLaw ctx inp d) :=
  .kset (.ksetB (.kset (.ite h.kset h)))

theorem Canonical.kholdTrack {ctx inp sum} (h : Canonical d) : Canonical (kholdTrack ctx inp sum d) := by
  unfold Machine.kholdTrack
  extract_lets lim past s ang top e7 below n dl e11
  have h7 : Canonical e7 := h.ksetB
  have h11 : Canonical e11 := h7.ksetB
  exact .ite h7.ksetB.ksetB (.ite (.ite h7.kset.ksetB.ksetB.ksetB h7.ksetN) (.ite h11.kset.ksetB.ksetN h7))

theorem Canonical.terminal {ctx inp} (h : Canonical d) : Canonical (terminal ctx inp d).2.2 := h.kset.ksetB

theorem Canonical.swing {ctx inp wv} (h : Canonical d) : Canonical (swing ctx inp wv d) := by
  unfold Machine.swing
  extract_lets dt w wf td tq qf s lo hi
  split
  · extract_lets e2 e3 c fn w' wset pset pref damp h2 w' lim e14
    have h2 : Canonical e2 := .ite h.kset h
    have h3 : Canonical e3 := .ite h2.kset h2
    have h14 : Canonical e14 := h3.kset.ksetB
    exact .ite h3.kset.kset.ksetB (.ite (.ite h3.kset.ksetB h14.kset) h3.ksetB)

theorem Canonical.gfkOut {ctx inp out iref th} (h : Canonical d) : Canonical (gfkOut ctx inp out iref th d) := by
  unfold Machine.gfkOut
  extract_lets fn freq idle iref delta
  split
  · extract_lets bytes e3
    have h3 : Canonical e3 := h.putBytes
    exact h3.update

theorem Canonical.gfkLaw {ctx inp out} (h : Canonical d) : Canonical (gfkLaw ctx inp out d) := by
  unfold Machine.gfkLaw
  extract_lets e2 e3 refs sum e6
  have h2 : Canonical e2 := h.ksetB
  have h3 : Canonical e3 := h2.eLaw
  have h6 : Canonical e6 := h3.kholdTrack
  split
  rename_i _ _ _ e4 he4
  have h4 : Canonical e4 := of_snd_snd he4 h6.terminal
  extract_lets held th w e9 wb adv next mid i e15 e16
  have h9 : Canonical e9 := h4.swing
  have h15 : Canonical e15 := h9.kset
  have h16 : Canonical e16 := .ite h15.kForm.kset.kset h15
  split
  · extract_lets values e10
    have h10 : Canonical e10 := .ite h16 h16.kTrip
    exact h10.gfkOut

theorem Canonical.gfkCall {ctx inp out cmd} (h : Canonical d) : Canonical (gfkCall ctx inp out cmd d) := by
  unfold Machine.gfkCall
  extract_lets e2 e3 e4 r e6 e7 s h' e10 e11 e12
  have h2 : Canonical e2 := h.estimate.trims
  have h3 : Canonical e3 := h2.measCheck
  have h4 : Canonical e4 := .ite h3.frtTrack h3
  have h6 : Canonical e6 := .ite h4.kTrip h4
  have h7 : Canonical e7 := h6.kcommand
  have h10 : Canonical e10 := .ite h7.kOff h7.kmove
  have h11 : Canonical e11 := h10.kreconnect
  have h12 : Canonical e12 := h11.ksetB.ksetB
  exact h12.gfkLaw

theorem Canonical.gfkStep {ctx inp out} (h : Canonical d) : Canonical (gfkStep ctx inp out d) := h.gfkCall

theorem Canonical.gfkCommand {code ctx inp out} (h : Canonical d) : Canonical (gfkCommand code ctx inp out d) :=
  h.putNat.gfkStep

theorem Canonical.gfkTimer {ctx inp out want v lim} (h : Canonical d) :
    Canonical (gfkTimer ctx inp out want v lim d) := .ite h.ksetN.gfkStep h

theorem Canonical.gfkInit {ctx} (h : Canonical d) : Canonical (gfkInit ctx d) :=
  .update (.kset (.kset (.each (h.each .ksetN) .ksetN)))

theorem Canonical.gfkDeadExpiry {ctx inp out} (h : Canonical d) : Canonical (gfkDeadExpiry ctx inp out d) :=
  h.gfkTimer

theorem Canonical.gfkLiveExpiry {ctx inp out} (h : Canonical d) : Canonical (gfkLiveExpiry ctx inp out d) :=
  h.gfkTimer

theorem Canonical.gfkSyncExpiry {ctx inp out} (h : Canonical d) : Canonical (gfkSyncExpiry ctx inp out d) :=
  h.gfkTimer

theorem Canonical.gfkCloseExpiry {ctx inp out} (h : Canonical d) : Canonical (gfkCloseExpiry ctx inp out d) :=
  h.gfkTimer

theorem Canonical.gfkSyncTimeout {ctx inp out} (h : Canonical d) : Canonical (gfkSyncTimeout ctx inp out d) :=
  h.gfkTimer

theorem Canonical.gfkRampEnd {ctx inp out} (h : Canonical d) : Canonical (gfkRampEnd ctx inp out d) := h.gfkTimer

theorem Canonical.gfkFrtExpiry {ctx inp out} (h : Canonical d) : Canonical (gfkFrtExpiry ctx inp out d) := h.gfkTimer

theorem Canonical.gfkHoldExit {ctx inp out} (h : Canonical d) : Canonical (gfkHoldExit ctx inp out d) := h.gfkTimer

theorem Canonical.gfkReconExpiry {ctx inp out} (h : Canonical d) : Canonical (gfkReconExpiry ctx inp out d) :=
  h.gfkTimer

/-! ### `Machine/Resampler` -/

theorem Canonical.rsmShowLock (h : Canonical d) : Canonical (rsmShowLock d) := h.wrB

theorem Canonical.rsmUnsettle (h : Canonical d) : Canonical (rsmUnsettle d) := h.update

theorem Canonical.rsmLaneOut {l soc} (h : Canonical d) : Canonical (rsmLaneOut d l soc) := by
  unfold Machine.rsmLaneOut
  extract_lets r lane n window any active old k' y inv v clipped e14 uns
  have h14 : Canonical e14 := by
    unfold e14
    split
    · exact h.wrB.count
    · exact h
  exact .ite h h14.wr

theorem Canonical.rsmEmit {soc} (h : Canonical d) : Canonical (rsmEmit d soc) :=
  .update (.countWrap (h.each .rsmLaneOut))

theorem Canonical.rsmSetFreq {f c} (h : Canonical d) : Canonical (rsmSetFreq d f c) := h.update.wrN.wr64

theorem Canonical.rsmStart (h : Canonical d) : Canonical (rsmStart d) := h.countWrap.wr64.update.rsmShowLock

theorem Canonical.rsmStep {t} (h : Canonical d) : Canonical (rsmStep d t) :=
  h.rsmEmit.update.wrB.wrB.rsmUnsettle.count.recEvent

theorem Canonical.rsmBoundary {t} (h : Canonical d) : Canonical (rsmBoundary d t) :=
  .ite h.rsmStep (.ite h.rsmSetFreq.rsmStart.rsmEmit (.ite (.rsmEmit (.rsmStart (.ite h.rsmSetFreq h.rsmSetFreq)))
    (.ite h.rsmStep h.wrB.rsmSetFreq.rsmStart.rsmEmit)))

theorem Canonical.rsmOutput {t} (h : Canonical d) : Canonical (rsmOutput t d) := .ite (.ite h.rsmBoundary h.rsmEmit) h

theorem Canonical.rsmPauseEnd {t} (h : Canonical d) : Canonical (rsmPauseEnd t d) := .ite h.update.wrB.rsmOutput h

theorem Canonical.rsmHold {t} (h : Canonical d) : Canonical (rsmHold t d) := .ite h.update.wrB.wrB h

theorem Canonical.rsmCommit {t} (h : Canonical d) : Canonical (rsmCommit d t) := .ite h.update.wrB h.update

theorem Canonical.rsmMeasure {prev k w} (h : Canonical d) : Canonical (rsmMeasure d prev k w) :=
  .ite h.update.wrB h.update

theorem Canonical.rsmTake {c k w} (h : Canonical d) : Canonical (rsmTake d c k w) :=
  h.update.each (fun k => .ite (.ite k.update.rsmMeasure k.update) k)

theorem Canonical.rsmShowCrc {bankB} (h : Canonical d) : Canonical (rsmShowCrc d bankB) := h.wrN

theorem Canonical.rsmFade (h : Canonical d) : Canonical (rsmFade d) := h.update.wrB.rsmUnsettle

theorem Canonical.rsmSwitch (h : Canonical d) : Canonical (rsmSwitch d) := .ite h.count (.ite h.update h.rsmFade)

theorem Canonical.rsmBoundaryT0 (h : Canonical d) : Canonical (rsmBoundaryT0 d) := .ite h.rsmFade h

theorem Canonical.rsmFadeEnd (h : Canonical d) : Canonical (rsmFadeEnd d) := .ite h.wrB.wrB h

theorem Canonical.rsmEnable (h : Canonical d) : Canonical (rsmEnable d) := h.wrN.clearCount.update.wrN

theorem Canonical.rsmTransfer {old} (hD : Canonical d) : Canonical (rsmTransfer old d) := by
  unfold Machine.rsmTransfer
  extract_lets was is _ e6 _
  have h6 : Canonical e6 := hD.each (fun k => .ite k k.update)
  exact .ite hD.rsmEnable (.ite hD.update.wrN (.ite h6 h6.update))

/-! ### `Machine/Measure` -/

theorem Canonical.monitor {i} (h : Canonical d) : Canonical (monitor d i) :=
  .ite (.ite (.ite h.update.wrB.raise.ledgerSupply h.update.wrB.raise) h.update) h

theorem Canonical.hkNext (h : Canonical d) : Canonical (hkNext d) :=
  .ite h.wrB.update.hkStartInjected (.ite h.hkStartInjected (.ite h.update.hkBegin (.ite h.update.hkBegin h.hkShow)))

theorem Canonical.hkWanted (h : Canonical d) : Canonical (hkWanted d) := .ite (.ite (.ite h.hkAbort h) h.hkNext) h

theorem Canonical.hkRoundComplete (h : Canonical d) : Canonical (hkRoundComplete d) := h.countWrap.update

theorem Canonical.hkDone {raw t} (h : Canonical d) : Canonical (hkDone raw t d) := by
  unfold Machine.hkDone
  refine .ite h ?_
  split
  · extract_lets i code e1 e2
    have h1 : Canonical e1 := h.wrN.thConvert
    have h2 : Canonical e2 := .ite h1.calTake h1
    split
    · exact h2.update.hkBegin
    · exact h2.update.hkNext
  · refine .ite (.hkNext (.ite (.update (.ite ?_ ?_)) (.hkRoundComplete (.update (.ite ?_ ?_))))) h
    · exact h.wrN.update.thConvert.showStale.monitor.gainSetp
    · exact h.wrN.update.thConvert.showStale.monitor
    · exact h.wrN.update.thConvert.showStale.monitor.gainSetp
    · exact h.wrN.update.thConvert.showStale.monitor

theorem Canonical.hkRoundTick (h : Canonical d) : Canonical (hkRoundTick d) :=
  .ite h (.ite (.update (.ite h.count h)) (.hkNext (.update (.ite h.count h))))

theorem Canonical.hkStale {i t} (h : Canonical d) : Canonical (hkStale i t d) :=
  .ite (.ite (.loseSetp (.ite h.wrB.wrB.count.raise h.wrB)) (.ite h.wrB.wrB.count.raise h.wrB)) h

theorem Canonical.hkTransfer {old} (hD : Canonical d) : Canonical (hkTransfer old d) :=
  .ite hD.update.wrB.hkShow (.ite (.each (hD.update.each .wrB) .wrB) hD)

theorem Canonical.mediumWord {c t} (h : Canonical d) : Canonical (mediumWord c t d) := h.mediumPath.conduction

theorem Canonical.precisionWord {c t} (h : Canonical d) : Canonical (precisionWord c t d) := by
  unfold Machine.precisionWord
  split
  rename_i _ _ _ e1 he1
  have h1 : Canonical e1 := of_snd_snd he1 h.precisionPath
  extract_lets k' e4
  have h4 : Canonical e4 := h1.ledgerWord.rsmTake
  exact h4.calTake

theorem Canonical.calSettle {t} (h : Canonical d) : Canonical (calSettle t d) := h.calSettled.hkWanted

end

end Sys2Proof.Proofs.CanonicalForm

/-! The canonical form is kept by the recorder, the transfer, the loom and the domains. -/

namespace Sys2Proof.Proofs.CanonicalForm

open Sys2Proof Sys2Proof.Machine Sys2Proof.Laws

section
variable {d : Device}

/-! ### `Machine/Recorder` -/

theorem Canonical.setBobState {b s} (h : Canonical d) : Canonical (setBobState d b s) := h.wrF

theorem Canonical.updBob {b f} (h : Canonical d) : Canonical (updBob d b f) := h.update

theorem Canonical.bobHalt {b state at' cause} (h : Canonical d) : Canonical (bobHalt d b state at' cause) :=
  h.setBobState.wrF.wrB.wrN

theorem Canonical.bobFetch {fuel b cur walk t} (h : Canonical d) : Canonical (bobFetch fuel d b cur walk t) := by
  induction fuel generalizing d cur walk with
  | zero => exact h
  | succ fuel ih =>
    rw [Machine.bobFetch]
    extract_lets ctrl next e1
    have h1 : Canonical e1 := h.wrN.wrF.wrF
    exact .ite h.wrN.wrF.bobHalt (.ite h.wrN.wrF.bobHalt (.ite (.ite h.wrN.wrF.wrN.wrF.bobHalt
      (.ite h.wrN.wrF.wrN.wrF.bobHalt (ih h.wrN.wrF))) (.ite h1.updBob.setBobState.wrB h.wrN.wrF.updBob.setBobState)))

theorem Canonical.bobNext {b desc t} (h : Canonical d) : Canonical (bobNext d b desc t) := by
  unfold Machine.bobNext
  extract_lets ctrl e3 e4 e5 e6
  have h3 : Canonical e3 := h.dmaPutNat
  have h4 : Canonical e4 := h3.countWrap
  have h5 : Canonical e5 := .ite h4.wrB h4
  have h6 : Canonical e6 := h5.updBob.wrB
  exact .ite h6.updBob.setBobState.wrN h6.bobFetch

theorem Canonical.bobReturn {b stat info t} (h : Canonical d) : Canonical (bobReturn d b stat info t) := by
  unfold Machine.bobReturn
  extract_lets w e3 e4
  have h3 : Canonical e3 := .ite h.count h
  have h4 : Canonical e4 := .ite h3.count h3
  split
  · exact h
  · extract_lets cause
    exact .ite h4.updBob.bobHalt h4.dmaPutNat.dmaPutNat.dmaPutNat.bobNext

theorem Canonical.updRec {e f} (h : Canonical d) : Canonical (updRec d e f) := h.update

theorem Canonical.recEdge {e f t} (h : Canonical d) : Canonical (recEdge d e f t) := by
  unfold Machine.recEdge
  extract_lets k' src pol r prev t0
  split
  · exact h
  · split
    · split
      · exact h
      · extract_lets fire frac p e5 rise fall
        have h5 : Canonical e5 := h.recPlace
        exact .ite h5.recToPost.hkTrigger.recEvent h.updRec.wrB

theorem Canonical.recMove {e len s t f rest} (h : Canonical d) : Canonical (recMove d e len s t f rest) := h.updRec

theorem Canonical.recClose {e len s} (h : Canonical d) : Canonical (recClose d e len s) := h.updRec

theorem Canonical.recPump {fuel j t} (h : Canonical d) : Canonical (recPump fuel d j t) := by
  induction fuel generalizing d with
  | zero => exact h
  | succ fuel ih =>
    rw [Machine.recPump]
    split
    · exact h
    · refine .ite h ?_
      split
      · exact h.recClose
      · exact .ite (ih h.bobReturn) (ih h.recMove.recClose)

theorem Canonical.recShow {e} (h : Canonical d) : Canonical (recShow d e) := h.wrN

theorem Canonical.recFlow {e t} (h : Canonical d) : Canonical (recFlow d e t) := h.recPump.recShow

theorem Canonical.addGap {e g} (h : Canonical d) : Canonical (addGap d e g) := h.countBy.countBy.updRec.wrF

theorem Canonical.blockGone {e} (h : Canonical d) : Canonical (blockGone d e) := h.updRec

theorem Canonical.blockLost {e count'} (h : Canonical d) : Canonical (blockLost d e count') := by
  unfold Machine.blockLost
  extract_lets r s kept
  split
  · exact h.addGap
  · exact h

theorem Canonical.bobTaken {b bad} (h : Canonical d) : Canonical (bobTaken d b bad) := by
  unfold Machine.bobTaken
  split
  · split
    · exact .blockGone (by
        split
        · exact h.blockLost
        · exact h)
    · exact h.updBob
  · exact h.updBob

theorem Canonical.bobFlow {b t} (h : Canonical d) : Canonical (bobFlow d b t) := by
  unfold Machine.bobFlow
  split
  · exact .ite h.recFlow h
  · exact h

theorem Canonical.bobFinish {b m stat info t} (h : Canonical d) : Canonical (bobFinish d b m stat info t) := by
  unfold Machine.bobFinish
  split
  · exact h.updBob.bobHalt
  · exact h.bobReturn.bobFlow

theorem Canonical.descriptorComplete {b m t} (h : Canonical d) : Canonical (descriptorComplete b m t d) := by
  unfold Machine.descriptorComplete
  split
  · extract_lets len addr data
    clear_value data
    split
    · exact h
    · refine .ite h.bobFinish ?_
      split
      · exact .bobFinish (.ite h h.dmaPut.bobTaken)
      · exact .bobFinish (.ite h.update h.dmaPut.bobTaken)
      · exact .bobFinish (.ite h.update h.dmaPut.bobTaken)
  · exact h

theorem Canonical.bobDoorbell {b t} (h : Canonical d) : Canonical (bobDoorbell b t d) := .ite h.bobFetch.bobFlow h

theorem Canonical.bobRefetch {b t} (h : Canonical d) : Canonical (bobRefetch b t d) := .ite h.bobDoorbell h

theorem Canonical.bobResume {b t} (h : Canonical d) : Canonical (bobResume b t d) := by
  unfold Machine.bobResume
  extract_lets e2
  have h2 : Canonical e2 := h.updBob.setBobState
  split
  · exact h.bobFetch.bobFlow
  · exact h.bobFetch.bobFlow
  · split
    · split
      · extract_lets cause
        exact .ite h2.updBob.bobHalt h2.dmaPutNat.dmaPutNat.dmaPutNat.bobNext.bobFlow
      · exact h2
    · exact h
  · exact h

theorem Canonical.bobRestart {b t} (h : Canonical d) : Canonical (bobRestart b t d) :=
  .ite h.updBob.wrB.bobFetch.bobFlow h

theorem Canonical.bobPush {b bytes} (h : Canonical d) : Canonical (bobPush d b bytes) := h.updBob

theorem Canonical.bobTransfer {old t} (hD : Canonical d) : Canonical (bobTransfer old d t) :=
  hD.each (fun k => .ite k.bobRestart (.ite (.ite k.updBob k.setBobState) k))

theorem Canonical.setRecState {e s} (h : Canonical d) : Canonical (setRecState d e s) := h.wrF

theorem Canonical.recBegin {e} (h : Canonical d) : Canonical (recBegin d e) := h.wr64.wrB.wrB.updRec.setRecState

theorem Canonical.recEnd {e stopped} (h : Canonical d) : Canonical (recEnd d e stopped) := h.updRec

theorem Canonical.recArm {e t} (h : Canonical d) : Canonical (recArm e t d) := .recFlow (.recBegin (.ite h.recEnd h))

theorem Canonical.recStop {e t} (h : Canonical d) : Canonical (recStop e t d) := .ite h.recEnd.setRecState.recFlow h

theorem Canonical.recPostEnd {e t} (h : Canonical d) : Canonical (recPostEnd e t d) :=
  .ite (.recFlow (.ite h.recEnd.setRecState.recBegin h.recEnd.setRecState)) h

theorem Canonical.recStore {e f t} (h : Canonical d) : Canonical (recStore d e f t) := by
  unfold Machine.recStore
  extract_lets r s g
  split
  · exact h.updRec
  · exact .ite h.updRec.recFlow h.updRec.wrB

theorem Canonical.recRing {e f} (h : Canonical d) : Canonical (recRing d e f) :=
  .recShow (.ite h.updRec.setRecState h.updRec)

theorem Canonical.recFrame {e t} (h : Canonical d) : Canonical (recFrame e t d) := by
  unfold Machine.recFrame
  extract_lets e2 srcs n f e6 e7 e8 e9
  have h2 : Canonical e2 := h.recPostEnd
  have h6 : Canonical e6 := .ite h2.wr64 h2.wr64.count
  have h7 : Canonical e7 := h6.recEdge
  have h8 : Canonical e8 := h7.updRec
  have h9 : Canonical e9 := h8.updRec
  split
  · exact h2
  · split
    · exact h9.recStore
    · exact h8.recStore
    · exact h8.recRing

theorem Canonical.rtrigEdge {t} (h : Canonical d) : Canonical (rtrigEdge t d) := h.each (fun k => .ite k.recForce k)

theorem Canonical.recFlush {e t} (h : Canonical d) : Canonical (recFlush e t d) := .ite h.updRec h

theorem Canonical.recDrained {e} (h : Canonical d) : Canonical (recDrained e d) := by
  unfold Machine.recDrained
  extract_lets r
  split
  · exact .ite h.updRec.addGap.wrB h
  · exact h

theorem Canonical.recTransfer {old} (hD : Canonical d) : Canonical (recTransfer old d) :=
  hD.each (fun k => .ite k k.updRec.wrN)

/-! ### `Machine/Xfer` -/

theorem Canonical.reportPush {body} (h : Canonical d) : Canonical (reportPush d body) :=
  .ite h.bobPush (.ite h.update h.update)

theorem Canonical.clampReport {reason r source cycle} (h : Canonical d) :
    Canonical (clampReport d reason r source cycle) := h.reportPush

theorem Canonical.changeReport {result changed cycle} (h : Canonical d) :
    Canonical (changeReport d result changed cycle) := h.reportPush

theorem Canonical.cfgRehash (h : Canonical d) : Canonical (cfgRehash d) := h.update

theorem Canonical.modTransfer {old} (hD : Canonical d) : Canonical (modTransfer old d) :=
  hD.each (fun k => .ite k.wrB.update (.ite (.ite k.update.wrB.revalidate k.update.wrB.restartPaths) k))

theorem Canonical.skewTransfer {old} (hD : Canonical d) : Canonical (skewTransfer old d) :=
  hD.each (fun k => .ite k k.restartPrecision)

theorem Canonical.shedTransfer {old} (hD : Canonical d) : Canonical (shedTransfer old d) :=
  .showHlNone (hD.each (fun k => .ite k k.wrN))

theorem Canonical.netTransfer {old} (hD : Canonical d) : Canonical (netTransfer old d) :=
  .ite hD.wrN.wrN.update hD.wrN.wrN

theorem Canonical.redTransfer {old t} (hD : Canonical d) : Canonical (redTransfer old d t) :=
  .ite hD (.ite (.ite hD.setRedState.update.ownWrite hD.setRedState.ownWrite) hD.setRedState.setHand)

theorem Canonical.afterTransfer {old t} (hD : Canonical d) : Canonical (afterTransfer old t d) := by
  unfold Machine.afterTransfer
  extract_lets e3 e4 e5 e6 gf _
  have h3 : Canonical e3 := hD.modTransfer.skewTransfer.shedTransfer
  have h4 : Canonical e4 := .ite h3 h3.update
  have h5 : Canonical e5 := h4.hkTransfer.rsmTransfer.thTransfer.recTransfer.bobTransfer
  have h6 : Canonical e6 := h5.netTransfer.redTransfer
  exact .ite h6.update h6

theorem Canonical.mastersOff {l} (h : Canonical d) : Canonical (mastersOff l d) := h.each .wrF

theorem Canonical.skewLog {old} (h : Canonical d) : Canonical (skewLog old d) := by
  refine h.each (fun k => .ite k ?_)
  extract_lets m
  split
  rename_i x e he
  exact (of_snd he k.logEntry).mramPut

theorem Canonical.rawPass {old} (h : Canonical d) : Canonical (rawPass old d) := by
  unfold Machine.rawPass
  extract_lets e1
  have h1 : Canonical e1 := h.each fun k => k.wr.each fun k => k.sealRefused
  exact h1.dropShadow.mastersOff

theorem Canonical.ownerNote {source r} (h : Canonical d) : Canonical (ownerNote source r d) := .ite h h.clampReport

theorem Canonical.ledgerSends {c reqs t} (h : Canonical d) : Canonical (ledgerSends c reqs t d) :=
  h.each (fun k => .ite k.ownerNote k.lreqSend.update)

theorem Canonical.bridleSends {c reqs t} (h : Canonical d) : Canonical (bridleSends c reqs t d) :=
  .each (h.each .bridleCfgWrite) .ownerNote

theorem Canonical.ownerSends {c reqs t} (h : Canonical d) : Canonical (ownerSends c reqs t d) :=
  .ite h.ledgerSends.bridleSends h

theorem Canonical.ledgerPrune (h : Canonical d) : Canonical (ledgerPrune d) := by
  unfold Machine.ledgerPrune
  extract_lets held
  exact h.each (fun k => by
    extract_lets _ _
    split
    · exact k.update.ownerNote
    · exact k)

theorem Canonical.ledgerUp {t} (h : Canonical d) : Canonical (ledgerUp t d) :=
  .ite h (.ite h.ledgerReady.ledgerPrune h.ledgerReady)

theorem Canonical.passField {old c reqs p r} (h : Canonical p.dev) : Canonical (Machine.passField old c reqs p r).dev := by
  unfold Machine.passField
  split
  · exact h
  · split
    · exact h
    · split
      extract_lets why noted
      split
      · exact h
      · split
        · exact h.setFieldOf
        · exact h
        · exact h

theorem Canonical.foldlPassField {old c reqs} {l : List CfgReq} {p : PassState} (h : Canonical p.dev) :
    Canonical (l.foldl (Machine.passField old c reqs) p).dev := by
  induction l generalizing p with
  | nil => exact h
  | cons r l ih => exact ih h.passField

theorem Canonical.setPass {old c t} (h : Canonical d) : Canonical (setPass old c t d) := by
  unfold Machine.setPass
  extract_lets cycle reqs fails clear p changed e1 _ e3 e4 e5 e6
  have hclear : ∀ {y}, Canonical y → Canonical (clear y) := fun k => k.update
  have hp : Canonical p.dev := h.foldlPassField.mastersOff
  have h4 : Canonical e4 := (hp.each .sealRefused).update.each .clampReport
  have h5 : Canonical e5 := .ite (hclear h4) (hclear h4).changeReport
  have h6 : Canonical e6 := h.each .clampReport
  exact .ite h5.opFinish.ownerSends (hclear h6).changeReport.opFinish

theorem Canonical.showTransfer (h : Canonical d) : Canonical (showTransfer d) := h.wrF.wrB.update

theorem Canonical.shadowTransfer {t} (h : Canonical d) : Canonical (shadowTransfer t d) := by
  unfold Machine.shadowTransfer
  extract_lets old e1
  have h1 : Canonical e1 := h.rawPass.showTransfer
  split
  rename_i e set he
  have h2 : Canonical e := by
    split at he
    · split at he
      · cases he
        exact h1.setPass
      · cases he
        exact h1
    · cases he
      exact h1
  exact .ite h2.skewLog.afterTransfer.cfgRehash h2.skewLog.afterTransfer

theorem Canonical.cfgApply {v t} (h : Canonical d) : Canonical (cfgApply v t d) :=
  .ite (.ite h.shadowTransfer h.wrB.update) h

theorem Canonical.boundaryTransfer {dl} (h : Canonical d) : Canonical (boundaryTransfer dl d) := by
  unfold Machine.boundaryTransfer
  split
  · exact .ite h.shadowTransfer h
  · exact h

/-! ### `Machine/Loom` -/

theorem Canonical.updCore {c f} (h : Canonical d) : Canonical (updCore d c f) := h.update

theorem Canonical.setMip {c b v} (h : Canonical d) : Canonical (setMip d c b v) := h.updCore

theorem Canonical.coreReset {c} (h : Canonical d) : Canonical (coreReset d c) := h.updCore

theorem Canonical.coresStart (h : Canonical d) : Canonical (coresStart d) := by
  unfold Machine.coresStart
  split
  · exact h.each (fun k => .ite k.coreReset k.coreReset.updCore)
  · exact h

theorem Canonical.ipiWrite {v} (h : Canonical d) : Canonical (ipiWrite v d) := h.wrN.each .setMip

theorem Canonical.updTask {t f} (h : Canonical d) : Canonical (updTask d t f) := h.update

theorem Canonical.showLevel {t} (h : Canonical d) : Canonical (showLevel d t) := h.wrN

theorem Canonical.discardBuffer {t} (h : Canonical d) : Canonical (discardBuffer d t) :=
  .showLevel (.updTask (.ite h h.countBy))

theorem Canonical.cbAppend {task core a v} (h : Canonical d) : Canonical (cbAppend task core a v d) := by
  unfold Machine.cbAppend
  extract_lets k' e3 open'
  have h3 : Canonical e3 := .ite h h.updTask
  exact .ite h3 (.ite h3.count (.ite h3.count h3.updTask.showLevel))

theorem Canonical.cbFlush3 (h : Canonical d) : Canonical (cbFlush3 d) := h.update

theorem Canonical.loomKick {t} (h : Canonical d) : Canonical (loomKick t d) := h.update

theorem Canonical.setMode {mode cause} (h : Canonical d) : Canonical (setMode d mode cause) := h.wrF.wrF

theorem Canonical.setXchg {s code} (h : Canonical d) : Canonical (setXchg d s code) := h.wrF.wrF

theorem Canonical.abandonTasks (h : Canonical d) : Canonical (abandonTasks d) :=
  h.update.each (fun k => k.setMip.setMip.setMip)

theorem Canonical.enterStop {cause t} (h : Canonical d) : Canonical (enterStop cause t d) := by
  unfold Machine.enterStop
  extract_lets e2 e3 e4 e5 _ e7
  have h2 : Canonical e2 := h.setMode.selvedgeAll
  have h3 : Canonical e3 := h2.each (fun k => .ite k.discardBuffer k.updTask.showLevel)
  have h4 : Canonical e4 := h3.abandonTasks.each .coreReset
  have h5 : Canonical e5 := .ite h4.setXchg h4
  have h7 : Canonical e7 := h5.update
  exact .ite h7.shadowTransfer h7

theorem Canonical.objectsInit {i} (h : Canonical d) : Canonical (objectsInit d i) := by
  unfold Machine.objectsInit
  extract_lets e2 e3 _ e5 e6
  have h2 : Canonical e2 := h.each (fun k => k.wrN.wrN.wrN.wrN.update)
  have h3 : Canonical e3 := h2.each (fun k => k.wrN.wrN.wrN)
  have h5 : Canonical e5 := h3.update
  have h6 : Canonical e6 := h5.each (fun k => k.atFin (fun k1 => k1.wrN.wrF.wrF.wrN.update))
  exact h6.each (fun k => .ite k.wrN.wrF.wrF.wrF.update k.wrN.wrF.wrF.wrF.wrB)

theorem Canonical.stationsInit {t} (h : Canonical d) : Canonical (stationsInit t d) :=
  .stationsFollow (h.each (fun k => k.wrN.updStation))

theorem Canonical.runStart {cause t} (h : Canonical d) : Canonical (runStart cause t d) := by
  unfold Machine.runStart
  extract_lets bank code e4 i e6 _ e8 _
  have h4 : Canonical e4 := h.showImage
  have h6 : Canonical e6 := h4.loadImage.showLoaded
  have h8 : Canonical e8 := h6.update.objectsInit.stationsInit
  exact .ite (.ite h8.update h4.opFinish) h

theorem Canonical.autorun {t} (h : Canonical d) : Canonical (autorun t d) := .ite h.runStart h

theorem Canonical.loomStop {t} (h : Canonical d) : Canonical (loomStop t d) := by
  unfold Machine.loomStop
  extract_lets _
  split
  · exact .ite h.update.opFinish h
  · exact h.enterStop

theorem Canonical.enterHold {cause t} (h : Canonical d) : Canonical (enterHold cause t d) :=
  .ite (.each (.update (h.setMode.each .updCore)) (fun k => .ite k k.selvedge)) h

theorem Canonical.loomResume (h : Canonical d) : Canonical (loomResume d) := .ite h.update h

theorem Canonical.overlayWrite {n code t} (h : Canonical d) : Canonical (overlayWrite n code t d) := by
  unfold Machine.overlayWrite
  split
  · exact .ite h.legCommand h
  · exact h

theorem Canonical.overlayLapse {j t} (h : Canonical d) : Canonical (overlayLapse j t d) := .ite h.update.selvedge h

theorem Canonical.overrunBegin {task t} (h : Canonical d) : Canonical (overrunBegin task t d) :=
  .selfDiag (.raise (.update (h.selvedgeAll.wrN.wrN.wrN.each (fun k => .ite k k.updCore))))

theorem Canonical.loomOverrun {task t} (h : Canonical d) : Canonical (loomOverrun task t d) :=
  .ite (.ite h.updTask.count h.overrunBegin) h

theorem Canonical.t3Expiry {t} (h : Canonical d) : Canonical (t3Expiry t d) := by
  unfold Machine.t3Expiry
  extract_lets busy away _
  split
  · exact h
  · extract_lets per
    exact .ite (.ite h.update.count h.overrunBegin) h

theorem Canonical.overrunEnd {t} (h : Canonical d) : Canonical (overrunEnd t d) := by
  unfold Machine.overrunEnd
  split
  · exact h
  · extract_lets per
    exact .ite h.enterStop h

theorem Canonical.faultStop {core mcause mepc mtval ecc t} (h : Canonical d) :
    Canonical (faultStop core mcause mepc mtval ecc t d) := by
  unfold Machine.faultStop
  extract_lets e2 e3 e4 _ e6 e7 e8
  have h2 : Canonical e2 := h.wr
  have h3 : Canonical e3 := h2.wr.wr
  have h4 : Canonical e4 := h3.updCore
  have h6 : Canonical e6 := h4.update.raise
  have h7 : Canonical e7 := h6.enterStop
  have h8 : Canonical e8 := h7.selfDiag
  exact .ite h (.ite h8.count.selfDiag h8)

theorem Canonical.debugBreak {core pc t} (h : Canonical d) : Canonical (debugBreak core pc t d) :=
  .ite h (.ite h.updCore.enterHold h.faultStop)

theorem Canonical.loomDone {core task t} (h : Canonical d) : Canonical (loomDone core task t d) := by
  unfold Machine.loomDone
  extract_lets k' e3 e4 _
  have h3 : Canonical e3 := h.setMip
  have h4 : Canonical e4 := h3.updTask
  split
  · exact h
  · split
    · exact .ite h4.update.wrN h4
    · exact h4

theorem Canonical.loadEntry {e} (h : Canonical d) : Canonical (loadEntry d e) := by
  unfold Machine.loadEntry
  split
  · extract_lets m
    exact .ite h h.wr
  · exact h

theorem Canonical.commitEffects {old es t} (hD : Canonical d) : Canonical (commitEffects old es t d) := by
  unfold Machine.commitEffects
  extract_lets has val e5 e6 e7 e8 e9 e10 e11 e12 e13 e14 e15
  have h5 : Canonical e5 := hD.each (fun k => .ite k.update k)
  have h6 : Canonical e6 := h5.each (fun k => .ite k.injCommit k)
  have h7 : Canonical e7 := h6.each (fun k => .ite k.tmrCommit k)
  have h8 : Canonical e8 := h7.each .dcmpCommit
  have h9 : Canonical e9 := h8.each .intStep
  have h10 : Canonical e10 := .ite h9.rsmCommit h9
  have h11 : Canonical e11 := .ite h10.hkTrigger h10
  have h12 : Canonical e12 := .ite h11.kreqCommit h11
  have h13 : Canonical e13 := .ite h12.setXchg h12
  have h14 : Canonical e14 := .ite h13.selvReqEnter h13
  have h15 : Canonical e15 := .ite h14.shedRunCommit h14
  exact .ite h15.selvReqRelease h15

theorem Canonical.commitEntries {es t} (h : Canonical d) : CanonicalSnd (commitEntries es t d) := by
  unfold Machine.commitEntries
  split
  · extract_lets e2 e3 e4 _ e6
    have h2 : Canonical e2 := .ite h h.countBy
    have h4 : Canonical e4 := .commitEffects (h2.foldl .loadEntry)
    have h6 : Canonical e6 := .ite (h4.update.each .ownerRelease) h4
    exact h6.pair

theorem Canonical.boundaryCommit {t} (h : Canonical d) : CanonicalSnd (boundaryCommit t d) := by
  unfold Machine.boundaryCommit
  extract_lets e2 e3 _ due
  have h2 : Canonical e2 := h.each (fun k => .ite k.loomOverrun k)
  have h3 : Canonical e3 := h2.each (fun k => .ite k.discardBuffer k)
  split
  · exact h3.update.pair
  · split
    · extract_lets e4 e5 _ e7 e8
      have h4 : Canonical e4 := .ite h2 h2.countBy
      have h5 : Canonical e5 := h4.each (fun k => .ite k.updTask.showLevel (.ite k.discardBuffer k))
      have h7 : Canonical e7 := h5.update
      have h8 : CanonicalSnd e8 := h7.commitEntries
      exact Canonical.pair (h8.snd.each .stationsSend)

theorem Canonical.advanceTasks (h : Canonical d) : Canonical (advanceTasks d) :=
  h.each (fun k => .ite k (.ite (.ite k.updTask k.updTask) k.updTask))

theorem Canonical.latchTasks {starts t} (h : Canonical d) : Canonical (latchTasks starts t d) := by
  unfold Machine.latchTasks
  extract_lets e2 _ e4 tol _
  have h2 : Canonical e2 := h.each (fun k => k.stationsLatch.edgesLatch)
  have h4 : Canonical e4 := h2.update
  split
  · exact h
  · extract_lets words lists e6
    have h6 : Canonical e6 := h4.update
    exact h6.each .updTask

theorem Canonical.taskRelease {task core} (h : Canonical d) : Canonical (taskRelease task core d) := by
  unfold Machine.taskRelease
  extract_lets base
  split
  · exact h
  · extract_lets e2 ctx param e5 _ e7
    have h2 : Canonical e2 := h.each .dmaPutNat
    have h5 : Canonical e5 := .ite (h2.each .dmaPutNat) h2
    have h7 : Canonical e7 := h5.update
    exact h7.updTask.setMip

theorem Canonical.objectsCarry {old o n t} (h : Canonical old) (hD : Canonical d) :
    Canonical (objectsCarry old o n t d) := by
  unfold Machine.objectsCarry
  extract_lets was dropped e5 e6 e7
  have h5 : Canonical e5 := hD.objectsInit
  have h6 : Canonical e6 := .ite h5 h5.countBy
  have h7 : Canonical e7 := h6.each (fun k => by
    split
    · extract_lets e6 e7 e8 e9 m _
      have h6 : Canonical e6 := h.tmrSettle
      have h7 : Canonical e7 := k.wrB
      have h8 : Canonical e8 := h7.wrN
      have h9 : Canonical e9 := h8.wrB
      exact h9.update
    · exact k)
  exact h7.each (fun k => by
    split
    · extract_lets e7 e8 _
      have h7 : Canonical e7 := k.wrB
      have h8 : Canonical e8 := h7.wrB
      exact h8.update
    · exact k)

theorem Canonical.xchgSwitch {t} (h : Canonical d) : Canonical (xchgSwitch t d) := by
  unfold Machine.xchgSwitch
  split
  · extract_lets e2 ret e4 _ e6 e7 tasks _
    have h2 : Canonical e2 := .showLoaded (h.objectsCarry h.swapHalves)
    have h4 : Canonical e4 := h2.wrN.setXchg.wrB
    have h6 : Canonical e6 := h4.update.stationsFollow
    have h7 : Canonical e7 := h6.abandonTasks
    exact h7.update.coresStart
  · exact h

theorem Canonical.startAll {flags t} (h : Canonical d) : Canonical (startAll flags t d) :=
  h.abandonTasks.coresStart.update

theorem Canonical.countCycle {t} (h : Canonical d) : Canonical (countCycle t d) := h.update.countWrap

theorem Canonical.boundary {t} (h : Canonical d) : Canonical (boundary t d) := by
  unfold Machine.boundary
  refine .ite h.boundaryTransfer ?_
  extract_lets e1 mode t1
  have h1 : Canonical e1 := h.countCycle
  split
  rename_i cs e he
  have h2 : Canonical e := by
    clear_value mode
    split at he
    · exact of_snd he h1.boundaryCommit
    · obtain ⟨-, rfl⟩ := Prod.mk.inj he
      exact h1.each .discardBuffer
  extract_lets ends e2 e3 switch code e4 e5 e6
  have h3 : Canonical e3 :=
    (Canonical.ite h2.advanceTasks h2).boundaryTransfer.rsmBoundaryT0.calBoundaryT0.refBoundaryT0
  have h4 : Canonical e4 := .ite (.ite h3.xchgSwitch h3.setXchg) h3
  have h5 : Canonical e5 := by
    refine .ite ?_ (.ite h4.setMode.startAll h4)
    split
    · exact .ite h4.setMode.startAll.opFinish h4
    · exact h4
  have h6 : Canonical e6 := .ite h5.latchTasks h5
  exact h6.imageSend

theorem Canonical.runEntry {t} (h : Canonical d) : Canonical (runEntry t d) := by
  unfold Machine.runEntry
  split
  · exact .ite h.boundary h
  · exact h

theorem Canonical.xchgBoundary {t} (h : Canonical d) : Canonical (xchgBoundary t d) := .ite h.boundary h

/-! ### `Machine/Domains` -/

theorem Canonical.coresOff {n} (h : Canonical d) : Canonical (coresOff n d) :=
  h.each (fun k => k.memForget.memForget.coreReset)

theorem Canonical.gatesOff {n t} (h : Canonical d) : Canonical (gatesOff n t d) :=
  h.each (fun k => k.wrB.islandTimeout)

theorem Canonical.gatesOn {n} (h : Canonical d) : Canonical (gatesOn n d) :=
  h.each (fun k => .ite k.update.wrB.setCstate k)

theorem Canonical.networksOff {t} (h : Canonical d) : Canonical (networksOff t d) :=
  h.wrN.cutFrame.wrB.update.stationsFollow

theorem Canonical.islandOff {current} (h : Canonical d) : Canonical (islandOff current d) := h.islandLoss.wrF

theorem Canonical.domSwitchOff {n t} (h : Canonical d) : Canonical (domSwitchOff n t d) := by
  unfold Machine.domSwitchOff
  refine .ite ?_ h
  extract_lets e1
  have h1 : Canonical e1 := h.setDom
  split
  · exact h1.memForget.memForget
  · exact h1.coresOff
  · exact h1.coresOff
  · exact h1.filterRegs.ledgerOff
  · exact h1.wrN.update
  · exact h1.networksOff
  · exact h1.islandOff
  · exact h1.islandOff
  · exact h1.gatesOff
  · exact h1.gatesOff
  · exact h1.bridlePowerUp
  · exact h1

theorem Canonical.domSwitchOn {n} (h : Canonical d) : Canonical (domSwitchOn n d) := by
  unfold Machine.domSwitchOn
  extract_lets e2
  have h2 : Canonical e2 := h.setDom
  split
  · exact h
  · split
    · exact h2.each .coreReset
    · exact h2.each .coreReset
    · exact h2.rootStart
    · exact h2.gatesOn
    · exact h2.gatesOn
    · exact h2.bridlePowerUp
    · exact h2

theorem Canonical.sealMeasure {n ohms} (h : Canonical d) : Canonical (sealMeasure n ohms d) := h.update

theorem Canonical.sealLatches (h : Canonical d) : Canonical (sealLatches d) := by
  unfold Machine.sealLatches
  extract_lets _ e3
  have h3 : Canonical e3 := .ite (by
    split
    · exact h.update) h
  exact h3.update

end

end Sys2Proof.Proofs.CanonicalForm

/-! The canonical form is kept by the saddle, redundancy and power. -/

namespace Sys2Proof.Proofs.CanonicalForm

open Sys2Proof Sys2Proof.Machine Sys2Proof.Laws

section
variable {d : Device}

/-! ### `Machine/Saddle` -/

theorem Canonical.beginChange {source stack} (h : Canonical d) : Canonical (beginChange d source stack) := h.update

theorem Canonical.stackResolved {t} (h : Canonical d) : Canonical (stackResolved t d) := by
  unfold Machine.stackResolved
  extract_lets _
  split
  · exact .ite h h.update.cfgApply
  · exact h

theorem Canonical.loadSet {c t} (h : Canonical d) : Canonical (loadSet d c t) := h.update.cfgApply

theorem Canonical.saddleLoad {t} (h : Canonical d) : Canonical (saddleLoad t d) := by
  unfold Machine.saddleLoad
  extract_lets taken _ e4
  have h4 : Canonical e4 := h.update
  split
  · extract_lets h' recs boot e6 e7 stack
    have h6 : Canonical e6 := .ite h h.mramPut.raise
    have h7 : Canonical e7 := h6.each (fun k => .ite k k.raise)
    exact h7.loadSet
  · exact h4.loadSet

theorem Canonical.copiesPut {gen boot recs} (h : Canonical d) : Canonical (copiesPut d gen boot recs) :=
  h.mramPut.mramPut

theorem Canonical.saddleStore {boot} (h : Canonical d) : Canonical (saddleStore boot d) := by
  unfold Machine.saddleStore
  extract_lets old shut staged change recs held e8 e9 _ e11
  have h8 : Canonical e8 := h.each .clampReport
  have h9 : Canonical e9 := .ite h8 h8.sealRefused
  have h11 : Canonical e11 := h9.update
  exact h11.copiesPut

theorem Canonical.tackStore {t policy name} (h : Canonical d) : Canonical (tackStore t policy name d) :=
  .mramPut (.update (h.each .clampReport))

theorem Canonical.saddleAck (h : Canonical d) : Canonical (saddleAck d) := h.update.copiesPut

theorem Canonical.stackSelect {stack} (h : Canonical d) : CanonicalSnd (stackSelect stack d) := by
  unfold Machine.stackSelect
  split
  · exact .ite h.beginChange.pair (Canonical.pair (h.each .clampReport))

theorem Canonical.copyStored {second t} (h : Canonical d) : Canonical (copyStored second t d) := by
  unfold Machine.copyStored
  extract_lets _ e3 missing e5 _ _
  have h3 : Canonical e3 := h.update
  have h5 : Canonical e5 := h3.each .clampReport
  exact .ite (.ite h5.update.opFinish h3.update.beginChange) h.update

theorem Canonical.tackStored {k t} (h : Canonical d) : Canonical (tackStored k t d) :=
  .ite h.update.beginChange h.update.opFinish

theorem Canonical.txDone {n t} (h : Canonical d) : Canonical (txDone n t d) := by
  unfold Machine.txDone
  extract_lets e2 _ _
  have h2 : Canonical e2 := h.wrB
  split
  · exact .ite h2.update.domSwitchOff.domSwitchOff h2
  · exact h.bobPush
  · exact h.update
  · exact h.copyStored
  · exact h.tackStored
  · exact h

theorem Canonical.mramDone {t} (h : Canonical d) : Canonical (mramDone t d) := by
  unfold Machine.mramDone
  split
  · exact h
  · split
    · exact h
    · extract_lets e2 rest x'
      have h2 : Canonical e2 := h.mramApply
      exact .ite h2.update.txDone.mramKick h2.update.mramKick

theorem Canonical.mramHalt (h : Canonical d) : Canonical (mramHalt d) := by
  unfold Machine.mramHalt
  split
  · exact h
  · split
    · exact h
    · extract_lets e2 rest x'
      have h2 : Canonical e2 := h.mramApply
      exact h2.update

/-! ### `Machine/Red` -/

theorem Canonical.mirrorBegin (h : Canonical d) : Canonical (mirrorBegin d) := h.update

theorem Canonical.segmentSend {t} (h : Canonical d) : Canonical (segmentSend t d) := by
  unfold Machine.segmentSend
  extract_lets start room e4 f5 n es body e9 _ n bs e13 _
  have h4 : Canonical e4 := .ite h.mirrorBegin h
  have h5 : ∀ x0 y, Canonical y → Canonical (f5 x0 y) := fun _ _ k => k.update
  have h9 : Canonical e9 := h4.filutSend
  have h13 : Canonical e13 := h4.filutSend
  exact .ite (.ite (.ite h4 (h5 _ _ h9.update)) (.ite (.ite h4 (h5 _ _ h13.update)) h4)) h

theorem Canonical.matchLost (h : Canonical d) : Canonical (matchLost d) := h.clearCount

theorem Canonical.gapSeen (h : Canonical d) : Canonical (gapSeen d) := h.update.matchLost

theorem Canonical.showSync {t} (h : Canonical d) : Canonical (showSync t d) := h.wrB.wrB.update

theorem Canonical.standbySwitch (h : Canonical d) : Canonical (standbySwitch d) := by
  unfold Machine.standbySwitch
  split
  · extract_lets e2 e3 _
    have h2 : Canonical e2 := h.swapHalves.showLoaded
    have h3 : Canonical e3 := h2.setXchg.wrB
    exact h3.update
  · exact h

theorem Canonical.imageTake {flags cycle time imgId cfgId payload start t} (h : Canonical d) :
    Canonical (imageTake flags cycle time imgId cfgId payload start t d) := by
  unfold Machine.imageTake
  extract_lets n es e4 prev img cfg next _ red e11 e12 off e14 e15 e16
  have h4 : Canonical e4 := .ite h.standbySwitch h
  have h11 : Canonical e11 := h4.update
  have h12 : Canonical e12 := h11.wrN.wrN
  have h14 : Canonical e14 := h12.wrI
  have h15 : Canonical e15 := h14.wrB.wrB
  have h16 : Canonical e16 := .ite h15.count h15.matchLost
  exact h16.showSync

theorem Canonical.thermalTake {bs} (h : Canonical d) : Canonical (thermalTake bs d) := h.update

theorem Canonical.t1Take {payload t} (h : Canonical d) : Canonical (t1Take payload t d) :=
  .ite h.update.thermalTake.update.showSync h.update

theorem Canonical.mirrorTake {payload} (h : Canonical d) : Canonical (mirrorTake payload d) := .ite h.update h.update

theorem Canonical.yieldCommand {t} (h : Canonical d) : Canonical (yieldCommand t d) :=
  .ite (.ite h.controlFrame.yieldStart h.controlFrame.yieldStart.enterStop) h

theorem Canonical.yieldEnd {t} (h : Canonical d) : Canonical (yieldEnd t d) :=
  .update (.wrB (.setRedState (.ite h.ownWrite.setHand h.ownWrite.setHand.enterStop)))

theorem Canonical.staleStay (h : Canonical d) : Canonical (staleStay d) := h.wrB.raise

theorem Canonical.phandFall {t} (h : Canonical d) : Canonical (phandFall t d) := by
  unfold Machine.phandFall
  extract_lets e2 _
  have h2 : Canonical e2 := h.wrB
  exact .ite h2 (.ite (.ite h2.staleStay h2.update.setRedState.ownWrite.setHand) (.ite h2.yieldEnd h2))

theorem Canonical.pownRise {t} (h : Canonical d) : Canonical (pownRise t d) :=
  .ite h.update.wrB.wrB.ownWrite h.update.wrB.wrB

theorem Canonical.handoverTimeout {t} (h : Canonical d) : Canonical (handoverTimeout t d) := by
  unfold Machine.handoverTimeout
  split
  · exact .ite h.setRedState h
  · exact h

theorem Canonical.silentTakeover {t} (h : Canonical d) : Canonical (silentTakeover t d) :=
  .ite (.ite h.staleStay h.update.setRedState.ownWrite.ownWrite) h

theorem Canonical.restoreRecord {bs t} (h : Canonical d) : Canonical (restoreRecord bs t d) := by
  unfold Machine.restoreRecord
  extract_lets w e3 e4 e5 e6 e7 _
  have h3 : Canonical e3 := h.each (fun k => .wrF (.ite k.setHstate k))
  have h4 : Canonical e4 := h3.each (fun k => k.wrN.wrN.wrF)
  have h5 : Canonical e5 := h4.each (fun k => k.wrB.tmrSet)
  have h6 : Canonical e6 := h5.each .wrB
  have h7 : Canonical e7 := h6.each .wrN
  exact h7.update

theorem Canonical.foldlRegions {l : List StateRegion} {x : Device × List Byte} (h : Canonical x.1) :
    Canonical (l.foldl (fun (x : Device × List Byte) r =>
      (Machine.putBytes x.1 r.base (x.2.take r.length), x.2.drop r.length)) x).1 := by
  induction l generalizing x with
  | nil => exact h
  | cons r l ih => exact ih h.putBytes

theorem Canonical.restoreRegions {one bs} (h : Canonical d) : Canonical (restoreRegions one bs d) := by
  unfold Machine.restoreRegions
  split
  · exact h.foldlRegions
  · exact h

theorem Canonical.restoreShutdown {bs t} (h : Canonical d) : Canonical (restoreShutdown bs t d) :=
  .ite (h.wrF.thermalPut.each (fun k => .ite k.selvedge k)) h

theorem Canonical.restoreT1 {bs t} (h : Canonical d) : Canonical (restoreT1 bs t d) := by
  unfold Machine.restoreT1
  extract_lets e2 fixed e4 e5
  have h2 : Canonical e2 := h.restoreRegions
  have h4 : Canonical e4 := h2.each (fun k => k.each .wrN)
  have h5 : Canonical e5 := h4.each .wrN
  exact h5.thermalTake.restoreShutdown

theorem Canonical.takeoverBoundary {t} (h : Canonical d) : Canonical (takeoverBoundary t d) := by
  unfold Machine.takeoverBoundary
  extract_lets e2
  have h2 : Canonical e2 := h.countCycle
  split
  · extract_lets lost e4 e5 e6 _ e8
    have h4 : Canonical e4 := h2.restoreRecord.restoreRegions
    have h5 : Canonical e5 := by
      unfold e5
      split
      · exact h4.restoreT1
      · exact h4
    have h6 : Canonical e6 := h5.setMode.startAll
    have h8 : Canonical e8 := h6.update
    split
    · split
      rename_i _ _ e6 he6
      have h6 : Canonical e6 := of_snd he6 h8.commitEntries
      extract_lets _ _ _ e11 e12 e13 e14
      have h11 : Canonical e11 := h6.update
      have h12 : Canonical e12 := h11.wrB.rsmBoundaryT0.calBoundaryT0.refBoundaryT0
      have h13 : Canonical e13 := h12.setRedState.wrB.setHand
      have h14 : Canonical e14 := h13.count.wr64
      exact h14.latchTasks.imageSend
    · exact h
  · exact h

theorem Canonical.takebackRequest {t} (h : Canonical d) : Canonical (takebackRequest t d) := .ite h.controlFrame h

theorem Canonical.standbyEnter {t} (h : Canonical d) : Canonical (standbyEnter t d) :=
  .setRedState (.ite h h.ownWrite)

theorem Canonical.tryActive {pownStill t} (h : Canonical d) : Canonical (tryActive pownStill t d) :=
  .ite h.ownWrite.ownWrite.setRedState h.ownWrite.update.wrB.standbyEnter

theorem Canonical.pownRead {low t} (h : Canonical d) : Canonical (pownRead low t d) := h.wrB.update

theorem Canonical.pairStart {low lowThen t} (h : Canonical d) : Canonical (pairStart low lowThen t d) :=
  .ite (.ite h.pownRead.standbyEnter (.ite h.pownRead h.pownRead.tryActive)) h

theorem Canonical.startWaitExpiry {low lowThen t} (h : Canonical d) : Canonical (startWaitExpiry low lowThen t d) := by
  unfold Machine.startWaitExpiry
  extract_lets e2
  have h2 : Canonical e2 := h.pownRead
  split
  · extract_lets heard
    exact .ite (.ite h2.standbyEnter h2.tryActive) h
  · exact h

theorem Canonical.forwardRequest {opcode params} (h : Canonical d) : Canonical (forwardRequest opcode params d) :=
  .ite (.controlFrame (h.each .controlFrame)) h

theorem Canonical.forwardApply (h : Canonical d) : Canonical (forwardApply d) := .ite h.controlFrame h

theorem Canonical.stackResolve {t} (h : Canonical d) : Canonical (stackResolve t d) := by
  unfold Machine.stackResolve
  split
  · exact h
  · split
    · exact .ite h h.forwardApply.stackResolved
    · exact h

theorem Canonical.stageBytes {off bs} (h : Canonical d) : Canonical (stageBytes off bs d) := h.update

theorem Canonical.forwardedTake {opcode p} (h : Canonical d) : Canonical (forwardedTake opcode p d) := by
  unfold Machine.forwardedTake
  split
  · exact h.saddleStore
  · exact h.tackStore
  · exact h.beginChange
  · exact h

theorem Canonical.forwardedApply {t} (h : Canonical d) : Canonical (forwardedApply t d) :=
  .ite h h.update.stackResolved

theorem Canonical.t0Deadline {t} (h : Canonical d) : Canonical (t0Deadline t d) := h.boundary.forwardedApply

theorem Canonical.controlTake {payload t} (h : Canonical d) : Canonical (controlTake payload t d) := by
  unfold Machine.controlTake
  extract_lets p _
  split
  · exact h.yieldCommand
  · exact .ite h.forwardedTake h
  · exact .ite h.update h
  · exact .ite h.stageBytes h
  · exact h

theorem Canonical.statusTake {payload} (h : Canonical d) : Canonical (statusTake payload d) := by
  unfold Machine.statusTake
  extract_lets state flags _ e5 _ e7 e8 _
  have h5 : Canonical e5 := h.update
  have h7 : Canonical e7 := .ite h5.update.wrB.wrB h5
  have h8 : Canonical e8 := h7.wrB
  exact .ite (.ite h8.update h8) h7

theorem Canonical.showLink (h : Canonical d) : Canonical (showLink d) := .wrB (.ite h.update h)

theorem Canonical.filutRx {bs start t} (h : Canonical d) : Canonical (filutRx bs start t d) := by
  unfold Machine.filutRx
  extract_lets n len type f5 seq gap _ e9 _ e11 payload cycle standby e15
  have h5 : ∀ y, Canonical y → Canonical (f5 y) := fun _ k => k.update
  have h9 : Canonical e9 := h.update
  have h11 : Canonical e11 := h9.update
  have h15 : Canonical e15 := by
    unfold e15
    clear_value type
    split
    · exact .ite h11.imageTake h11
    · exact .ite h11.t1Take h11
    · exact .ite h11.mirrorTake h11
    · exact h11.statusTake
    · exact h11.controlTake
  exact .ite (.ite (h5 _ h.count) (.ite (h5 _ h) (.ite h15.showLink
    (.ite (h5 _ h9.countBy).gapSeen (h5 _ h))))) h

theorem Canonical.filutDown {t} (h : Canonical d) : Canonical (filutDown t d) :=
  .ite (.ite h.update.wrB.wrB h.update.wrB) h

theorem Canonical.redCtrl {v t} (h : Canonical d) : Canonical (redCtrl v t d) := by
  unfold Machine.redCtrl
  split
  · exact h.yieldCommand
  · exact h.wrB
  · exact h.wrB
  · exact h

/-! ### `Machine/Power` -/

theorem Canonical.afterReset {kind} (h : Canonical d) : Canonical (afterReset kind d) := by
  have hr : Registers.wf (d.regs.filter fun r => keepsReg kind r.1) = true := sparse_filter_wf _ h.regs
  exact Canonical.wr (.wr ⟨hr, h.mem, rfl, rfl⟩)

theorem Canonical.restart {kind k} (h : Canonical d) : Canonical (restart kind k d) := h.afterReset.wrN.count.wrN

theorem Canonical.vinValid {t} (h : Canonical d) : Canonical (vinValid t d) :=
  .ite (.setDom (.ite h.restart.update.update h.restart.update)) h

theorem Canonical.ledgerSave (h : Canonical d) : Canonical (ledgerSave d) := .ite h.energySave h

theorem Canonical.vinfDeclared {t} (h : Canonical d) : Canonical (vinfDeclared t d) := by
  unfold Machine.vinfDeclared
  extract_lets e2 _ e4 e5 _ e7
  have h2 : Canonical e2 := h.wrB.wrB.count
  have h4 : Canonical e4 := h2.update
  have h5 : Canonical e5 := h4.wrB
  have h7 : Canonical e7 := h5.update
  exact .ite (.ite h4 (.ledgerSave (.ite h7.hkTrigger h7))) h

theorem Canonical.vinfClear {t} (h : Canonical d) : Canonical (vinfClear t d) :=
  .ite (.ite h.update.wrB.update.wrB (.ite h.update.wrB.update.restart h.update.wrB.update)) h

theorem Canonical.graceExpiry {t} (h : Canonical d) : Canonical (graceExpiry t d) := by
  unfold Machine.graceExpiry
  extract_lets _
  split
  · exact .ite h.update.domSwitchOff.domSwitchOff h
  · exact h

theorem Canonical.shedTimeout {t} (h : Canonical d) : Canonical (shedTimeout t d) := by
  unfold Machine.shedTimeout
  extract_lets _
  split
  · exact .ite (h.update.each .domSwitchOff) h
  · exact h

theorem Canonical.lastRecord (h : Canonical d) : Canonical (lastRecord d) := by
  unfold Machine.lastRecord
  extract_lets e1
  have h1 : Canonical e1 := h.raise
  split
  · exact .update (h1.foldl fun k => k.mramApply)
  · exact h1

theorem Canonical.powerFinal {mv t} (h : Canonical d) : Canonical (powerFinal mv t d) := by
  unfold Machine.powerFinal
  extract_lets idle e3 e4 _ e6
  have h3 : Canonical e3 := .mramHalt (.ite h.lastRecord h)
  have h4 : Canonical e4 := h3.each .domSwitchOff
  have h6 : Canonical e6 := h4.update.wrB
  exact .ite (.ite h6.restart h6) h

theorem Canonical.holdup12 {t} (h : Canonical d) : Canonical (holdup12 t d) := .ite h.update.domSwitchOff.wrB.wrB h

theorem Canonical.holdupFull (h : Canonical d) : Canonical (holdupFull d) := .ite h.wrB h

theorem Canonical.vbakLoss (h : Canonical d) : Canonical (vbakLoss d) := .ite h.update h

theorem Canonical.refuseRequest {code n} (h : Canonical d) : Canonical (refuseRequest code n d) := h.wrF.wrF.count

theorem Canonical.domainOn {n} (h : Canonical d) : Canonical (domainOn n d) :=
  .ite h.refuseRequest (.ite h.refuseRequest h.domSwitchOn)

theorem Canonical.domainOff {n steward t} (h : Canonical d) : Canonical (domainOff n steward t d) :=
  .ite h.domSwitchOff h.refuseRequest

theorem Canonical.domainCycle {n steward t} (h : Canonical d) : Canonical (domainCycle n steward t d) :=
  .ite h.domSwitchOff.update h.refuseRequest

theorem Canonical.pd11Restart {t} (h : Canonical d) : Canonical (pd11Restart t d) := by
  unfold Machine.pd11Restart
  extract_lets _
  split
  · exact .ite h.update.domSwitchOn h
  · exact h

theorem Canonical.domCtrl {v steward t} (h : Canonical d) : Canonical (domCtrl v steward t d) := by
  unfold Machine.domCtrl
  extract_lets n
  split
  · exact h.domainOn
  · exact h.domainOff
  · exact h.domainCycle
  · exact h

theorem Canonical.resetHold {kind t} (h : Canonical d) : Canonical (resetHold kind t d) :=
  h.cutFrame.gatesOff.gatesOff.mramHalt.restart

theorem Canonical.resetBegin {kind t} (h : Canonical d) : Canonical (resetBegin kind t d) := by
  unfold Machine.resetBegin
  extract_lets e2 _
  have h2 : Canonical e2 := h.selvedgeAll.each .coreReset
  exact .ite h (.ite h2.resetHold h2.update.ledgerSave)

theorem Canonical.within {x lo hi} (h : Canonical d) : CanonicalSnd (within x lo hi d) := by
  unfold Machine.within
  split
  · exact h.pair
  · split
    · exact h.pair
    · split
      rename_i _ _ e1 he1
      have h1 : Canonical e1 := of_snd he1 h.fresh
      exact h1.pair

theorem Canonical.pinReset {low t} (h : Canonical d) : Canonical (pinReset low t d) := by
  unfold Machine.pinReset
  split
  rename_i _ _ e1 he1
  have h1 : Canonical e1 := of_snd he1 h.within
  exact .ite h1.resetBegin h1

theorem Canonical.watchdogExpiry {idle t} (h : Canonical d) : Canonical (watchdogExpiry idle t d) := by
  unfold Machine.watchdogExpiry
  split
  rename_i _ _ e1 he1
  have h1 : Canonical e1 := of_snd he1 h.within
  exact .ite h1.resetBegin h1

theorem Canonical.softwareReset {v t} (h : Canonical d) : Canonical (softwareReset v t d) := .ite h.resetBegin h

theorem Canonical.coreSupervisor {low t} (h : Canonical d) : Canonical (coreSupervisor low t d) := .ite h.resetBegin h

theorem Canonical.ialosLoad {t} (h : Canonical d) : Canonical (ialosLoad t d) := h.wrB.wrB.wrF.wrB.update

theorem Canonical.stewardRing {t b} (h : Canonical d) : Canonical (stewardRing t d b) :=
  .bobRestart (.wrB (.wrN (.wrN (.putNat (.putNat (h.each (fun k => k.putNat.putNat)))))))

theorem Canonical.imageStart (h : Canonical d) : Canonical (imageStart d) :=
  .ite h.showImage.loadImage.showLoaded.update h.showImage

theorem Canonical.stepBegin {k t} (h : Canonical d) : Canonical (stepBegin k t d) := by
  unfold Machine.stepBegin
  extract_lets e2 e3 e4
  have h2 : Canonical e2 := h.wrF
  have h3 : Canonical e3 := h2.domSwitchOn.domSwitchOn
  have h4 : Canonical e4 := h3.wrB.wrB
  split
  · exact h2.domSwitchOn
  · exact h2.domSwitchOn
  · exact h4.ialosLoad.sealLatches
  · exact h2.mramRecover.calLoad.saddleLoad.thStart
  · exact h2.domSwitchOn.each .stewardRing
  · exact h2.domSwitchOn
  · exact h2.domSwitchOn
  · exact h2.domSwitchOn.domSwitchOn
  · exact h2.domSwitchOn.domSwitchOn.imageStart
  · exact h2

theorem Canonical.startupStep {t} (h : Canonical d) : Canonical (startupStep t d) := by
  unfold Machine.startupStep
  extract_lets k'
  split
  · exact .ite h.resetHold h
  · exact .ite h.stepBegin h

theorem Canonical.readyReport {t} (h : Canonical d) : Canonical (readyReport t d) := by
  unfold Machine.readyReport
  extract_lets bad e3 e4 e5 _ _ e8 e9 e10
  have h3 : Canonical e3 := h.wrN
  have h4 : Canonical e4 := h3.wrF.wrB.wrB
  have h5 : Canonical e5 := .ite h4.wrN h4
  have h8 : Canonical e8 := h5.update
  have h9 : Canonical e9 := .ite h8.selvedgeAll h8
  have h10 : Canonical e10 := h9.ownWrite
  exact .ite (.ite (.ite h9 (.ite h10 h10.ownWrite)) h3) h

theorem Canonical.wake (h : Canonical d) : Canonical (wake d) := by
  unfold Machine.wake
  extract_lets e2 e3 _ e5
  have h2 : Canonical e2 := h.wrF
  have h3 : Canonical e3 := .ite h2.wrB h2
  have h5 : Canonical e5 := h3.update.wrF
  split
  · exact .ite h5.setRedState h5
  · exact h.restart
  · exact h

theorem Canonical.wakeBy (h : Canonical d) : Canonical (wakeBy d) := .ite h.update h.wake

theorem Canonical.sleepGo {t} (h : Canonical d) : Canonical (sleepGo t d) := by
  unfold Machine.sleepGo
  extract_lets e2
  have h2 : Canonical e2 := h.each .domSwitchOff
  split
  · extract_lets e3 e4 _ e6
    have h3 : Canonical e3 := .ite (h2.mramHalt.each .domSwitchOff) (.ite h2.wrB h2)
    have h4 : Canonical e4 := h3.wrF.wrB
    have h6 : Canonical e6 := h4.update
    exact .ite (.ite h6.wake h6) h
  · exact h

theorem Canonical.sleepEnter {level t} (h : Canonical d) : Canonical (sleepEnter level t d) := by
  unfold Machine.sleepEnter
  extract_lets code _ e4 _ e6
  have h4 : Canonical e4 := h.update
  have h6 : Canonical e6 := by
    unfold e6
    split
    · exact h4.update.ownWrite.ownDone
    · exact h4.ownWrite
    · exact h4
  exact .ite (.sleepGo (.ite h6.ledgerSave h6)) h.refuseRequest

theorem Canonical.sleepExit (h : Canonical d) : Canonical (sleepExit d) := .ite h.wakeBy h

theorem Canonical.sleepWrite {v t} (h : Canonical d) : Canonical (sleepWrite v t d) := by
  unfold Machine.sleepWrite
  split
  · exact h.sleepExit
  · exact h.sleepEnter
  · exact h.sleepEnter
  · exact h

theorem Canonical.wakeLow {low} (h : Canonical d) : Canonical (wakeLow low d) := .ite h.wakeBy h

theorem Canonical.rtcAlarm {t} (h : Canonical d) : Canonical (rtcAlarm t d) := .ite h.wakeBy h

theorem Canonical.ownChangeDone {t} (h : Canonical d) : Canonical (ownChangeDone t d) := h.ownDone.sleepGo

theorem Canonical.mramOperation {t} (h : Canonical d) : Canonical (mramOperation t d) := h.mramDone.sleepGo

end

end Sys2Proof.Proofs.CanonicalForm

/-! The canonical form is kept by the fabric, the Tomus server and the network. -/

namespace Sys2Proof.Proofs.CanonicalForm

open Sys2Proof Sys2Proof.Machine Sys2Proof.Laws

section
variable {d : Device}

/-! ### `Machine/Access` -/

theorem Canonical.busError {init a write cause} (h : Canonical d) : Canonical (busError init a write cause d) :=
  .ite (.ite h.count.count h.count) (.wrN (.wrN (.ite h.count.count h.count)))

theorem Canonical.calCommand {cmd chan t} (h : Canonical d) : Canonical (calCommand cmd chan t d) := by
  unfold Machine.calCommand
  split
  · exact h.calStart
  · exact h.calZero
  · exact h.calFull
  · exact h.calCommit
  · exact h.calAbort
  · exact h.calRestore
  · exact h

theorem Canonical.loomCtrl {v t} (h : Canonical d) : Canonical (loomCtrl v t d) := by
  unfold Machine.loomCtrl
  split
  · exact h.runStart
  · exact h.loomStop
  · exact h.enterHold
  · exact h.loomResume
  · exact h

theorem Canonical.bobCtrl {b v t} (h : Canonical d) : Canonical (bobCtrl b v t d) :=
  .whenB (.whenB (h.whenB .bobDoorbell) .bobResume) .bobRestart

theorem Canonical.recCommand {e v t} (h : Canonical d) : Canonical (recCommand e v t d) := by
  unfold Machine.recCommand
  split
  · exact h.recArm
  · exact h.recStop
  · exact h.recForce
  · exact h

theorem Canonical.coefWrite {bankB a v} (h : Canonical d) : Canonical (coefWrite bankB a v d) :=
  .ite h.wr.rsmShowCrc h

theorem Canonical.bobSetup {b a v} (h : Canonical d) : Canonical (bobSetup b a v d) := .ite h.wr h

theorem Canonical.loomCommand {i a v t} (h : Canonical d) : CanonicalOption (loomCommand i a v t d) := by
  unfold Machine.loomCommand
  refine .ite h.loomCtrl.some (.ite ?_ (.ite (Canonical.ite h.loomKick h).some (.ite h.ipiWrite.some
    (.ite h.cbFlush3.some ?_))))
  · split
    · exact h.loomDone.some
    · exact h.some
  · split
    · exact h.updTask.some
    · split
      · exact h.cbAppend.some
      · exact h.count.some
    · exact h.tmrPresetWrite.some
    · exact h.overlayWrite.some
    · exact .none

theorem Canonical.commandWrite {i a v t} (h : Canonical d) : CanonicalOption (commandWrite i a v t d) := by
  unfold Machine.commandWrite
  split
  · exact .ite h.cfgApply.some .none
  · exact .ite h.domCtrl.some (.ite h.sleepWrite.some (.ite h.softwareReset.some .none))
  · exact .ite h.calCommand.some .none
  · refine .ite (h.whenB .rsmSwitch).some ?_
    split
    · exact h.coefWrite.some
    · exact h.coefWrite.some
    · exact .none
  · split
    · exact h.fifoWrite.some
    · exact h.edgeWrite.some
    · exact .none
  · exact .map fun _ => h.cordicWrite
  · exact .ite h.ownWrite.some (.ite h.gateTestWrite.some (.ite h.gateClear.some .none))
  · exact h.loomCommand
  · split
    · exact h.bobCtrl.some
    · exact h.bobSetup.some
    · exact h.bobSetup.some
    · exact .none
  · exact .map fun _ => h.recCommand
  · exact .ite (h.whenB .lreqGo).some (.ite h.some .none)
  · exact .ite h.redCtrl.some .none
  · exact .ite h.bridleCfgWrite.some .none
  · exact .ite h.thRestart.some .none
  · exact .none

theorem Canonical.configWrite {r a v t} (h : Canonical d) : Canonical (configWrite r a v t d) := by
  unfold Machine.configWrite
  extract_lets shut e1 mask base e2
  have h1 : Canonical e1 := h.whenB .sealRefused
  have h2 : Canonical e2 := h1.insertShadow
  exact .ite h1 (.ite h2.shadowTransfer h2)

theorem Canonical.plainWrite {r a v} (h : Canonical d) : Canonical (plainWrite r a v d) := h.wr

theorem Canonical.regWrite {i a v t} (h : Canonical d) : Canonical (regWrite i a v t d) := by
  unfold Machine.regWrite
  split
  · exact h
  · refine .ite h.commitEntries.snd ?_
    split
    next e he => exact h.commandWrite e he
    next => exact .ite h.configWrite h.plainWrite

theorem Canonical.memWrite {i a bs} (h : Canonical d) : Canonical (memWrite i a bs d) :=
  .ite h.mramPut h.putBytes.breakResv

theorem Canonical.storeAt {i width a v t} (h : Canonical d) : Canonical (storeAt i width a v t d) := by
  unfold Machine.storeAt
  extract_lets e2 c
  have h2 : Canonical e2 := h.regWrite
  split
  · exact .ite (.ite h2.regWrite h2.busError) h2
  · exact h.memWrite

theorem Canonical.answer {v} (h : Canonical d) : Canonical (answer v d) := h.update

theorem Canonical.atomicAt {i c op a v} (h : Canonical d) : Canonical (atomicAt i c op a v d) := by
  unfold Machine.atomicAt
  extract_lets old held e4
  have h4 : Canonical e4 := h.update
  split
  · exact h.update.answer
  · exact .ite h4.memWrite.answer h4.answer
  · exact h.memWrite.answer

theorem Canonical.fabricWrite {i op width a v t} (h : Canonical d) : Canonical (fabricWrite i op width a v t d) := by
  unfold Machine.fabricWrite
  extract_lets c
  split
  · exact .ite h.storeAt (.busError (h.whenB .sealRefused))
  · extract_lets write c c
    split
    · exact .ite h.atomicAt h.busError
    · exact h.busError

theorem Canonical.regRead {i a t} (h : Canonical d) : CanonicalSnd (regRead i a t d) :=
  Canonical.pair (.ite (.clearCount (.ite h.update h)) (.ite h.update h))

theorem Canonical.loadAt {i width a t} (h : Canonical d) : CanonicalSnd (loadAt i width a t d) := by
  unfold Machine.loadAt
  split
  · split
    rename_i _ _ e1 he1
    have h1 : Canonical e1 := of_snd he1 h.regRead
    split
    · split
      rename_i _ _ e2 he2
      have h2 : Canonical e2 := of_snd he2 h1.regRead
      exact h2.pair
    · exact h1.pair
  · exact h.pair

theorem Canonical.fabricRead {i width a t} (h : Canonical d) : Canonical (fabricRead i width a t d) := by
  unfold Machine.fabricRead
  extract_lets c
  split
  · split
    rename_i _ _ e1 he1
    have h1 : Canonical e1 := of_snd he1 h.loadAt
    exact h1.answer
  · exact h.busError

theorem Canonical.noResponse {i write a} (h : Canonical d) : Canonical (noResponse i write a d) := h.busError

theorem Canonical.scrubPass {single double t} (h : Canonical d) : Canonical (scrubPass single double t d) := by
  unfold Machine.scrubPass
  extract_lets e2 e3
  have h2 : Canonical e2 := .ite h h.countBy
  have h3 : Canonical e3 := .ite h2.raise h2
  exact .ite h3 h3.countBy.selfDiag

/-! ### `Machine/Tomus` -/

theorem Canonical.updTomus {f} (h : Canonical d) : Canonical (updTomus d f) := h.update

theorem Canonical.updStats {k f} (h : Canonical d) : Canonical (updStats d k f) := h.atFin .updTomus

theorem Canonical.statRx {k} (h : Canonical d) : Canonical (statRx d k) := h.updStats

theorem Canonical.statDiscard {k} (h : Canonical d) : Canonical (statDiscard d k) := h.updStats

theorem Canonical.statDrop {k} (h : Canonical d) : Canonical (statDrop d k) := h.updStats

theorem Canonical.statAuth {k} (h : Canonical d) : Canonical (statAuth d k) := h.updStats

theorem Canonical.statRepeat {k} (h : Canonical d) : Canonical (statRepeat d k) := h.updStats

theorem Canonical.updSession {p f} (h : Canonical d) : Canonical (updSession d p f) := h.updTomus

theorem Canonical.endSession {p} (h : Canonical d) : Canonical (endSession d p) := h.updTomus

theorem Canonical.endSlot {slot} (h : Canonical d) : Canonical (endSlot d slot) := h.updTomus

theorem Canonical.sendPacket {transport p bs} (h : Canonical d) : Canonical (sendPacket transport p bs d) := by
  unfold Machine.sendPacket
  split
  · exact h.updTomus
  · exact h.sendUdp
  · exact .ite h h.update

theorem Canonical.storeReply {r bs} (h : Canonical d) : Canonical (storeReply r bs d) := h.updTomus

theorem Canonical.reply {r under status data} (h : Canonical d) : Canonical (reply r under status data d) := by
  unfold Machine.reply
  extract_lets bs e3
  have h3 : Canonical e3 := by
    unfold e3
    split
    · exact h.updSession
    · exact h.storeReply
  exact h3.sendPacket

theorem Canonical.okWith {data} (h : Canonical d) : CanonicalAnswer (okWith data d) := h.mkAnswer

theorem Canonical.okay (h : Canonical d) : CanonicalAnswer (okay d) := h.okWith

theorem Canonical.deny {status} (h : Canonical d) : CanonicalAnswer (deny status d) := h.mkAnswer

theorem Canonical.waitFor {key} (h : Canonical d) : CanonicalAnswer (waitFor key d) := h.mkAnswer

theorem Canonical.startLong {r work} (h : Canonical d) (hw : ∀ {d}, Canonical d → Canonical (work d)) :
    CanonicalAnswer (startLong r d work) :=
  (hw h.updTomus).mkAnswer

/-- The unit of every answer of an opcode is in canonical form where the unit it was asked of is. -/
def KeepsCanonical (f : Req → Nat → Device → Answer) : Prop :=
  ∀ {r t d}, Canonical d → CanonicalAnswer (f r t d)

theorem Canonical.runRequest {f r under t} (h : Canonical d) (hf : KeepsCanonical f) :
    Canonical (runRequest f r under t d) := by
  unfold Machine.runRequest
  split
  · refine .ite h.reply ?_
    split
    · exact Canonical.updTomus (hf h)
    · exact Canonical.reply (hf h)
  · exact h.reply

theorem Canonical.sessionSpent {p} (h : Canonical d) : Canonical (sessionSpent p d) := by
  unfold Machine.sessionSpent
  split
  · exact .ite h.endSession h
  · exact h

theorem Canonical.runTagged {f r t} (h : Canonical d) (hf : KeepsCanonical f) :
    Canonical (runTagged f r t d) := by
  unfold Machine.runTagged
  split
  · exact h.reply
  · extract_lets e1 e2 e3 e4
    have h2 : Canonical e2 := .ite h.statAuth.endSession h.statAuth.updSession
    have h3 : Canonical e3 := .ite h h.statRepeat
    have h4 : Canonical e4 := h.updSession
    exact .ite h2.reply (.ite (.ite h3 h3.sendPacket) (.ite h.reply (h4.runRequest hf).sessionSpent))

theorem Canonical.serve {f r t} (h : Canonical d) (hf : KeepsCanonical f) : Canonical (serve f r t d) := by
  unfold Machine.serve
  extract_lets e1 e2
  have h1 : Canonical e1 := .ite h.statRepeat h
  have h2 : Canonical e2 := .ite h1 h1.statRepeat
  refine .ite ?_ (.ite h1.reply (.ite h1.reply (.ite (h1.runTagged hf) (h1.runRequest hf))))
  split
  · exact h2.storeReply.sendPacket
  · exact h2

theorem Canonical.noOpcode {x0 x1} (h : Canonical d) : CanonicalAnswer (noOpcode x0 x1 d) := h.deny

theorem Canonical.drain {t n} (h : Canonical d) : Canonical (drain t n d) := by
  induction n generalizing d with
  | zero => exact h
  | succ n ih =>
    unfold Machine.drain
    split
    · exact .ite (ih (h.updTomus.serve .noOpcode)) h
    · exact h

theorem Canonical.execute {f opcode req t} (h : Canonical d) (hf : KeepsCanonical f) :
    Canonical (execute f opcode req t d) := by
  unfold Machine.execute
  extract_lets r e1
  have h1 : Canonical e1 := .ite h.updTomus h
  exact .ite (h1.serve hf).drain h

theorem Canonical.packetRx {transport peer bs t} (h : Canonical d) : Canonical (packetRx transport peer bs t d) := by
  unfold Machine.packetRx
  extract_lets e2 e3
  have h2 : Canonical e2 := .ite h.wakeBy h
  have h3 : Canonical e3 := h2.statRx
  split
  · split
    · exact h3.statDiscard
    · exact .ite h3.statDrop h3.updTomus.drain
  · exact h

theorem Canonical.spiFrame {bs bits t} (h : Canonical d) : Canonical (spiFrame bs bits t d) :=
  .ite h (.ite h.update.updTomus h.update.updTomus.packetRx)

theorem Canonical.proveTimeout {t} (h : Canonical d) : Canonical (proveTimeout t d) := h.updTomus

theorem Canonical.idleTimeout {peer t} (h : Canonical d) : Canonical (idleTimeout peer t d) := by
  unfold Machine.idleTimeout
  split
  · split
    rename_i _ _ e1 he1
    have h1 : Canonical e1 := of_snd he1 h.within
    exact .ite h1.endSession h1
  · exact h

theorem Canonical.resultExpiry {t} (h : Canonical d) : Canonical (resultExpiry t d) := h.updTomus

theorem Canonical.settleWaits (h : Canonical d) : Canonical (settleWaits d) := by
  unfold Machine.settleWaits
  exact h.each (fun k => by
    split
    · exact k.updTomus.reply
    · exact k)

theorem Canonical.settleFields (h : Canonical d) : Canonical (settleFields d) := by
  unfold Machine.settleFields
  exact h.each (fun k => by
    extract_lets _ e4 _
    have h4 : Canonical e4 := k.update
    split
    · extract_lets reason
      exact .ite h4 h4.clampReport
    · exact k)

theorem Canonical.settleCal {t} (h : Canonical d) : Canonical (settleCal t d) := by
  unfold Machine.settleCal
  extract_lets s r
  split
  · exact .ite h.opFinish (.ite h.opFinish h)
  · exact h

theorem Canonical.settle {t} (h : Canonical d) : Canonical (settle t d) := h.settleCal.settleWaits.settleFields

theorem Canonical.settled {f t} (h : Canonical d) (hf : ∀ {d}, Canonical d → Canonical (f d)) :
    Canonical (settled f t d) :=
  (hf h).settle

/-! ### `Machine/Net` -/

theorem Canonical.updNet {f} (h : Canonical d) : Canonical (updNet d f) := h.update

theorem Canonical.updPort {n f} (h : Canonical d) : Canonical (updPort d n f) := h.updNet

theorem Canonical.ethSend {n f} (h : Canonical d) : Canonical (ethSend n f d) := .ite h.update h

theorem Canonical.ethOut {n f} (h : Canonical d) : Canonical (ethOut n f d) := .ite h.updNet.ethSend.ethSend h.ethSend

theorem Canonical.prpGone {e} (h : Canonical d) : Canonical (prpGone d e) := by
  unfold Machine.prpGone
  split
  · exact h.count
  · exact h.count
  · exact h

theorem Canonical.prpAge {t} (h : Canonical d) : Canonical (prpAge t d) := h.updNet.each .prpGone

theorem Canonical.prpSee {src seq n t} (h : Canonical d) : CanonicalSnd (prpSee src seq n t d) :=
  .ite h.prpAge.updNet.pair (Canonical.pair (.updNet (h.prpAge.each .prpGone)))

theorem Canonical.prpSupervision {t} (h : Canonical d) : Canonical (prpSupervision t d) := .ite h.prpAge.ethOut h

theorem Canonical.setTimeState {s} (h : Canonical d) : Canonical (setTimeState s d) := .wrB (.wrF (.ite h.count h))

theorem Canonical.timeRebase {ns' at'} (h : Canonical d) : Canonical (timeRebase ns' at' d) := h.update

theorem Canonical.timeRate {r t} (h : Canonical d) : Canonical (timeRate r t d) := h.wrN.wrN.wrI.update

theorem Canonical.timeSet {ns' t} (h : Canonical d) : Canonical (timeSet ns' t d) := h.timeRebase.setTimeState

theorem Canonical.timeStep {offset t} (h : Canonical d) : Canonical (timeStep offset t d) :=
  h.wr64.wr64.timeRebase.wrB.setTimeState

theorem Canonical.timeNext {inside} (h : Canonical d) : Canonical (timeNext inside d) := by
  unfold Machine.timeNext
  extract_lets e2
  have h2 : Canonical e2 := h.updNet
  split
  · exact .ite h2.setTimeState h2
  · exact .ite h2.setTimeState h2
  · exact h2.setTimeState.updNet
  · exact h2

theorem Canonical.timeOffset {offset t} (h : Canonical d) : Canonical (timeOffset offset t d) := by
  unfold Machine.timeOffset
  extract_lets e2 most
  have h2 : Canonical e2 := h.wrI.updNet
  split
  · exact h2.timeStep.updNet
  · split
    · extract_lets e3 inside e5
      have h3 : Canonical e3 := h2.updNet
      have h5 : Canonical e5 := h3.timeRate.timeNext
      exact .ite h5 h5.wrB

theorem Canonical.timeHoldover {t} (h : Canonical d) : Canonical (timeHoldover t d) := .ite h.setTimeState.updNet h

theorem Canonical.syncTimeout {t} (h : Canonical d) : Canonical (syncTimeout t d) := .ite h.timeHoldover h

theorem Canonical.holdoverExpiry {t} (h : Canonical d) : Canonical (holdoverExpiry t d) := by
  unfold Machine.holdoverExpiry
  split
  · exact .ite h.wrB h
  · exact h

theorem Canonical.secondBoundary {t} (h : Canonical d) : Canonical (secondBoundary t d) := by
  unfold Machine.secondBoundary
  extract_lets s e' e4 e5 ns' e7 _ e9 pps
  have h4 : Canonical e4 := h.count
  have h5 : Canonical e5 := .ite h4.update h
  have h7 : Canonical e7 := h5.wr64.wr64
  have h9 : Canonical e9 := .ite h7.update h7
  exact .ite h h9.updNet

theorem Canonical.tppsFall {t} (h : Canonical d) : Canonical (tppsFall t d) := by
  unfold Machine.tppsFall
  split
  · exact .ite h.updNet h
  · exact h

theorem Canonical.ptpSend {n peer m} (h : Canonical d) : Canonical (ptpSend n peer m d) := h.ethSend

theorem Canonical.elect {waited} (h : Canonical d) : Canonical (elect waited d) := by
  unfold Machine.elect
  extract_lets f2
  have h2 : ∀ x0, Canonical (f2 x0) := fun _ => h.updNet
  split
  · exact .ite (h2 _) (.wrB (h2 _))
  · exact .ite (h2 _) (.ite (h2 _) (h2 _))

theorem Canonical.announceRx {n m t} (h : Canonical d) : Canonical (announceRx n m t d) :=
  .ite (.ite h.updPort.elect h) h

theorem Canonical.announceTimeout {n t} (h : Canonical d) : Canonical (announceTimeout n t d) :=
  .ite h.updPort.elect h

theorem Canonical.syncTaken {n origin correction came t} (h : Canonical d) :
    Canonical (syncTaken n origin correction came t d) := h.timeOffset

theorem Canonical.syncRx {n m ts t} (h : Canonical d) : Canonical (syncRx n m ts t d) := by
  unfold Machine.syncRx
  extract_lets p
  split
  · split
    · exact .ite h.updPort h.syncTaken
    · split
      · exact .ite h.updPort.syncTaken h
      · exact h
    · exact h
  · exact h

theorem Canonical.showPdelay {n twice} (h : Canonical d) : Canonical (showPdelay n twice d) := h.wrN

theorem Canonical.pdelayRx {n m ts tx} (h : Canonical d) : Canonical (pdelayRx n m ts tx d) := by
  unfold Machine.pdelayRx
  extract_lets p came mine turn body
  split
  · split
    · exact h.ptpSend
    · exact .ite h (.ite h.updPort h.showPdelay)
    · split
      · exact .ite h.updPort.showPdelay h
      · exact h
    · exact h
  · exact h

theorem Canonical.intervalTx {n tsSync tsReq} (h : Canonical d) : Canonical (intervalTx n tsSync tsReq d) :=
  .ite (.updPort (.ptpSend (.ite h.ptpSend.ptpSend h))) h

theorem Canonical.ptpRx {n m ts tx t} (h : Canonical d) : Canonical (ptpRx n m ts tx t d) := by
  unfold Machine.ptpRx
  split
  · exact h.syncRx
  · exact h.syncRx
  · exact h.announceRx
  · exact h.pdelayRx
  · exact h.pdelayRx
  · exact h.pdelayRx
  · exact h

theorem Canonical.arpRx {n p} (h : Canonical d) : Canonical (arpRx n p d) := .ite h.ethOut h

theorem Canonical.icmpRx {n mac src p} (h : Canonical d) : Canonical (icmpRx n mac src p d) := .ite h.ethOut h

theorem Canonical.udpRx {n src dst p t} (h : Canonical d) : Canonical (udpRx n src dst p t d) := by
  unfold Machine.udpRx
  extract_lets len u pseudo
  split
  · split
    · exact h.packetRx
    · exact h.stationFrame
    · exact h
  · exact h

theorem Canonical.ipRx {n mac p t} (h : Canonical d) : Canonical (ipRx n mac p t d) := by
  unfold Machine.ipRx
  extract_lets len body src
  split
  · split
    · exact h.icmpRx
    · exact h.udpRx
    · exact h
  · exact h

theorem Canonical.ethRx {n f ts tx t} (h : Canonical d) : Canonical (ethRx n f ts tx t d) := by
  unfold Machine.ethRx
  extract_lets mac
  split
  · split
    · split
      · split
        · exact h.ptpRx
        · split
          rename_i _ _ e1 he1
          have h1 : Canonical e1 := of_snd he1 (by
            split
            · exact h.prpSee
            · exact h.pair)
          split
          · exact h1
          · split
            · exact h1.arpRx
            · exact h1.ipRx
            · exact h1
    · exact h.count
  · exact h

theorem Canonical.linkChange {n up speed t} (h : Canonical d) : Canonical (linkChange n up speed t d) := by
  unfold Machine.linkChange
  extract_lets forced e3 e4 e5
  have h3 : Canonical e3 := h.wrB.wrF
  have h4 : Canonical e4 := .ite h3.updPort h3.updPort
  have h5 : Canonical e5 := h4.elect.stationsFollow
  exact .ite h5.timeHoldover h5

theorem Canonical.canRx {c ident ext fd room bs t} (h : Canonical d) : Canonical (canRx c ident ext fd room bs t d) :=
  .ite (.ite h.count (.ite h (.ite h.packetRx h.stationFrame))) h

theorem Canonical.canBusOff {c} (h : Canonical d) : Canonical (canBusOff c d) := .ite h.wrF.count.stationsFollow h

theorem Canonical.canRecover {c} (h : Canonical d) : Canonical (canRecover c d) := .ite h.wrN.stationsFollow h

end

end Sys2Proof.Proofs.CanonicalForm

/-! The canonical form is kept by the opcodes and the commands. -/

namespace Sys2Proof.Proofs.CanonicalForm

open Sys2Proof Sys2Proof.Machine Sys2Proof.Laws

section
variable {d : Device}

/-! ### `Machine/TomusCfg` -/

theorem Canonical.opPing {r x1} (h : Canonical d) : CanonicalAnswer (opPing r x1 d) := .need h h.okWith

theorem Canonical.opIdentity {r t} (h : Canonical d) : CanonicalAnswer (opIdentity r t d) := .need h h.okWith

theorem Canonical.opDeviceKey {r x1} (h : Canonical d) : CanonicalAnswer (opDeviceKey r x1 d) := .need h h.okWith

theorem Canonical.opOpStatus {r t} (h : Canonical d) : CanonicalAnswer (opOpStatus r t d) := by
  unfold Machine.opOpStatus
  extract_lets e2 f3
  have h2 : CanonicalAnswer e2 := h.deny
  have h3 : ∀ o status, CanonicalAnswer (f3 o status) := fun _ _ => h.okWith
  refine .need h ?_
  split
  · split
    · exact .ite (h3 _ _) h2
    · exact h3 _ _
  · exact h2

theorem Canonical.opStats {r x1} (h : Canonical d) : CanonicalAnswer (opStats r x1 d) :=
  .ite h.deny (.ite h.deny (.ite h.deny (Canonical.okWith (.ite h.updTomus h))))

theorem Canonical.opHello {r t} (h : Canonical d) : CanonicalAnswer (opHello r t d) :=
  .ite h.deny (.ite h.deny (.ite h.deny h.update.updTomus.okWith))

theorem Canonical.proveFail {r} (h : Canonical d) : CanonicalAnswer (proveFail r d) := h.statAuth.deny

theorem Canonical.opProve {r t} (h : Canonical d) : CanonicalAnswer (opProve r t d) := by
  unfold Machine.opProve
  extract_lets hand e1 key draw ident
  have h1 : Canonical e1 := h.updTomus
  clear_value hand key
  refine .ite h.deny (.ite h.deny ?_)
  split
  · exact .ite h1.proveFail (.ite h1.deny h1.update.updTomus.okWith)
  · exact h1.proveFail

theorem Canonical.opClose {r x1} (h : Canonical d) : CanonicalAnswer (opClose r x1 d) := .need h h.endSession.okay

theorem Canonical.keyChange {slot v} (h : Canonical d) : Canonical (keyChange d slot v) :=
  .raise (h.endSlot.atFin .updTomus)

theorem Canonical.opKeySet {r x1} (h : Canonical d) : CanonicalAnswer (opKeySet r x1 d) :=
  .ite h.deny (.ite h.deny h.keyChange.okay)

theorem Canonical.opKeyClear {r x1} (h : Canonical d) : CanonicalAnswer (opKeyClear r x1 d) :=
  .ite h.deny (.ite h.deny h.keyChange.okay)

theorem Canonical.opKeyList {r x1} (h : Canonical d) : CanonicalAnswer (opKeyList r x1 d) := .need h h.okWith

theorem Canonical.opCfgStatus {r x1} (h : Canonical d) : CanonicalAnswer (opCfgStatus r x1 d) :=
  .ite h.deny (.ite h.deny (.ite h.deny (Canonical.okWith (.ite h.update h))))

theorem Canonical.opStage {r x1} (h : Canonical d) : CanonicalAnswer (opStage r x1 d) :=
  .ite h.deny (.ite h.deny h.stageBytes.okay)

theorem Canonical.opSaddleStore {r x1} (h : Canonical d) : CanonicalAnswer (opSaddleStore r x1 d) :=
  .ite h.deny (.ite h.deny (h.startLong (fun k => k.forwardRequest.saddleStore)))

theorem Canonical.opTackStore {r x1} (h : Canonical d) : CanonicalAnswer (opTackStore r x1 d) :=
  .ite h.deny (.ite h.deny (h.startLong (fun k => k.forwardRequest.tackStore)))

theorem Canonical.opStackSelect {r x1} (h : Canonical d) : CanonicalAnswer (opStackSelect r x1 d) := by
  unfold Machine.opStackSelect
  extract_lets stack
  split
  rename_i _ _ e1 he1
  have h1 : Canonical e1 := of_snd he1 h.stackSelect
  exact .ite h.deny (.ite h.deny (.ite h.deny (.ite h1.deny (h1.startLong .forwardRequest))))

theorem Canonical.opSaddleAck {r x1} (h : Canonical d) : CanonicalAnswer (opSaddleAck r x1 d) :=
  .ite h.deny (.ite h.deny (h.startLong .saddleAck))

theorem Canonical.opFieldRead {r x1} (h : Canonical d) : CanonicalAnswer (opFieldRead r x1 d) :=
  .ite h.deny (.ite h.deny h.okWith)

theorem Canonical.opStoreRead {r x1} (h : Canonical d) : CanonicalAnswer (opStoreRead r x1 d) := by
  unfold Machine.opStoreRead
  split
  · exact h.deny
  · split
    · exact .ite h.deny h.okWith
    · exact h.deny

theorem Canonical.opImgBegin {r x1} (h : Canonical d) : CanonicalAnswer (opImgBegin r x1 d) :=
  .ite h.deny (.ite h.deny (.ite h.deny (h.startLong (fun k => .updTomus (.ite k.update.setXchg k)))))

theorem Canonical.opImgWrite {r x1} (h : Canonical d) : CanonicalAnswer (opImgWrite r x1 d) :=
  .ite h.deny (.ite h.deny (.ite h.deny (.ite h.deny h.putBytes.okay)))

theorem Canonical.opImgVerify {r x1} (h : Canonical d) : CanonicalAnswer (opImgVerify r x1 d) :=
  .ite h.deny (.ite h.deny (.ite h.deny (h.startLong id)))

theorem Canonical.opImgActivate {r x1} (h : Canonical d) : CanonicalAnswer (opImgActivate r x1 d) :=
  .ite h.deny (.ite h.deny (.ite h.deny (h.startLong id)))

theorem Canonical.opXchgArm {r x1} (h : Canonical d) : CanonicalAnswer (opXchgArm r x1 d) :=
  .ite h.deny (.ite h.deny (h.startLong id))

theorem Canonical.opXchgCancel {r x1} (h : Canonical d) : CanonicalAnswer (opXchgCancel r x1 d) :=
  .ite h.deny (.ite h.deny h.update.setXchg.okay)

theorem Canonical.opImgStatus {r x1} (h : Canonical d) : CanonicalAnswer (opImgStatus r x1 d) := .need h h.okWith

theorem Canonical.opLoomKey {r x1} (h : Canonical d) : CanonicalAnswer (opLoomKey r x1 d) :=
  .ite h.deny (.ite h.deny (.ite h.sealRefused.deny h.mramPut.raise.okay))

theorem Canonical.imgBeginDone {o t} (h : Canonical d) : Canonical (imgBeginDone o t d) := h.memForget.opFinish

theorem Canonical.imgVerifyDone {o t} (h : Canonical d) : Canonical (imgVerifyDone o t d) := by
  unfold Machine.imgVerifyDone
  extract_lets f2 code e4
  have h2 : ∀ x0 y, Canonical y → Canonical (f2 x0 y) := fun _ _ k => k.opFinish
  have h4 : Canonical e4 := h.wrF
  split
  · split
    rename_i _ _ e3 he3
    have h3 : Canonical e3 := of_snd he3 h.fresh
    exact h2 _ _ h3
  · exact h2 _ _ (.ite h4.setXchg h4)

theorem Canonical.loaderTake (h : Canonical d) : Canonical (loaderTake d) := by
  unfold Machine.loaderTake
  extract_lets hash
  split
  rename_i _ _ e1 he1
  have h1 : Canonical e1 := of_snd he1 h.logEntry
  extract_lets _
  exact h1.update.mramPut

theorem Canonical.imgActivateDone {o t} (h : Canonical d) : Canonical (imgActivateDone o t d) := by
  unfold Machine.imgActivateDone
  extract_lets f2 code c
  have h2 : ∀ x0 y, Canonical y → Canonical (f2 x0 y) := fun _ _ k => k.opFinish
  split
  · exact .ite (h2 _ _ h) (h2 _ _ h.wrB)
  · exact h2 _ _ h.updTomus
  · exact .ite (h2 _ _ h) (.ite (h2 _ _ (.ite h.sealRefused h)) (.ite (h2 _ _ h.loaderTake) (h2 _ _ h)))

theorem Canonical.xchgArmDone {t} (h : Canonical d) : Canonical (xchgArmDone t d) :=
  .ite h.wrF.setXchg.opFinish (.ite h.setXchg.opFinish h.update.armImage.setXchg.opFinish)

/-! ### `Machine/TomusRun` -/

theorem Canonical.opRunStatus {r t} (h : Canonical d) : CanonicalAnswer (opRunStatus r t d) := .need h h.okWith

theorem Canonical.opLoomRun {r t} (h : Canonical d) : CanonicalAnswer (opLoomRun r t d) :=
  .ite h.deny (.ite h.deny (h.startLong .runStart))

theorem Canonical.opLoomStop {r t} (h : Canonical d) : CanonicalAnswer (opLoomStop r t d) :=
  .ite h.deny (.ite h.deny h.loomStop.okay)

theorem Canonical.opLoomHold {r t} (h : Canonical d) : CanonicalAnswer (opLoomHold r t d) :=
  .ite h.deny (.ite h.deny h.enterHold.okay)

theorem Canonical.opLoomResume {r x1} (h : Canonical d) : CanonicalAnswer (opLoomResume r x1 d) :=
  .ite h.deny (.ite h.deny h.loomResume.okay)

theorem Canonical.opKernel {r x1} (h : Canonical d) : CanonicalAnswer (opKernel r x1 d) :=
  .ite h.deny (.ite h.deny (.ite h.deny (.ite h.deny h.update.waitFor)))

theorem Canonical.opFaultClear {r t} (h : Canonical d) : CanonicalAnswer (opFaultClear r t d) :=
  .ite h.deny (.ite h.deny h.gateClear.okay)

theorem Canonical.opThermalRestart {r t} (h : Canonical d) : CanonicalAnswer (opThermalRestart r t d) :=
  .ite h.deny (.ite h.deny (.ite h.thRestart.deny h.thRestart.okay))

theorem Canonical.memReads {width t l x} (h : Canonical x.2.2) : Canonical (memReads width t l x).2.2 := by
  induction l generalizing x with
  | nil => exact h
  | cons a l ih =>
    unfold Machine.memReads
    extract_lets c
    split
    · split
      rename_i v e he
      exact ih (of_snd he h.loadAt)
    · exact h.busError

theorem Canonical.opMemRead {r t} (h : Canonical d) : CanonicalAnswer (opMemRead r t d) := by
  unfold Machine.opMemRead
  extract_lets width under c
  refine .ite h.deny (.ite h.deny (.ite h.deny (.ite h.deny ?_)))
  split
  rename_i bs status e he
  exact (of_snd_snd he (Canonical.memReads h)).mkAnswer

theorem Canonical.memWrites {width t l} (h : Canonical d) : CanonicalSnd (memWrites width t l d) := by
  induction l generalizing d with
  | nil => exact h.pair
  | cons p l ih =>
    unfold Machine.memWrites
    extract_lets c e1
    have h1 : Canonical e1 := h.fabricWrite
    exact .ite (ih h1) h1.pair

theorem Canonical.opMemWrite {r t} (h : Canonical d) : CanonicalAnswer (opMemWrite r t d) := by
  unfold Machine.opMemWrite
  extract_lets width pairs
  split
  · exact h.deny
  · split
    · exact h.deny
    · split
      · exact h.deny
      · split
        rename_i _ _ e1 he1
        have h1 : Canonical e1 := of_snd he1 h.memWrites
        exact h1.deny

theorem Canonical.frameFor {type mp params t} (h : Canonical d) : CanonicalAnswer (frameFor type mp params t d) :=
  .ite h.deny (.ite h.lreqSend.waitFor h.deny)

theorem Canonical.opMtrOpen {r t} (h : Canonical d) : CanonicalAnswer (opMtrOpen r t d) :=
  .ite h.deny (.ite h.deny h.frameFor)

theorem Canonical.opMtrClose {r t} (h : Canonical d) : CanonicalAnswer (opMtrClose r t d) := .ite h.deny h.frameFor

theorem Canonical.opMtrAck {r t} (h : Canonical d) : CanonicalAnswer (opMtrAck r t d) := .ite h.deny h.frameFor

theorem Canonical.opMtrClear {r t} (h : Canonical d) : CanonicalAnswer (opMtrClear r t d) := .ite h.deny h.frameFor

theorem Canonical.opMtrRead {r x1} (h : Canonical d) : CanonicalAnswer (opMtrRead r x1 d) :=
  .ite h.deny (.ite h.deny (.ite h.deny h.okWith))

theorem Canonical.opMtrRecord {r x1} (h : Canonical d) : CanonicalAnswer (opMtrRecord r x1 d) := by
  unfold Machine.opMtrRecord
  extract_lets layout
  split
  · exact h.deny
  · split
    · exact h.deny
    · split
      · exact h.deny
      · split
        · extract_lets base n
          exact .ite h.okWith (.ite h.deny h.okWith)
        · exact h.deny

theorem Canonical.opMtrKeys {r x1} (h : Canonical d) : CanonicalAnswer (opMtrKeys r x1 d) :=
  .ite h.deny (.ite h.deny h.okWith)

theorem Canonical.opRecCmd {r t} (h : Canonical d) : CanonicalAnswer (opRecCmd r t d) := by
  unfold Machine.opRecCmd
  split
  · exact .ite h.deny (.ite h.deny h.recCommand.okay)
  · exact h.deny

theorem Canonical.opRecStatus {r t} (h : Canonical d) : CanonicalAnswer (opRecStatus r t d) :=
  .ite h.deny (.ite h.deny h.okWith)

theorem Canonical.opRecRead {r x1} (h : Canonical d) : CanonicalAnswer (opRecRead r x1 d) := by
  unfold Machine.opRecRead
  split
  · exact h.deny
  · split
    · exact .ite h.deny (.ite h.deny h.okWith)
    · exact h.deny

theorem Canonical.opRecRelease {r t} (h : Canonical d) : CanonicalAnswer (opRecRelease r t d) := by
  unfold Machine.opRecRelease
  split
  · exact h.deny
  · split
    · extract_lets ctrl
      exact h.memWrite.bobDoorbell.okay
    · exact h.deny

theorem Canonical.opGateTest {r t} (h : Canonical d) : CanonicalAnswer (opGateTest r t d) :=
  .ite h.deny (.ite h.deny (.ite h.deny (.ite h.gateTestWrite.waitFor h.gateTestWrite.deny)))

theorem Canonical.opSelftest {r x1} (h : Canonical d) : CanonicalAnswer (opSelftest r x1 d) :=
  .ite h.deny (.ite h.deny (h.startLong id))

theorem Canonical.opCalCmd {r t} (h : Canonical d) : CanonicalAnswer (opCalCmd r t d) := by
  unfold Machine.opCalCmd
  extract_lets cmd entry e4 result taken
  have h4 : Canonical e4 := .calCommand (.ite h.wrN h)
  exact .ite h.deny (.ite h.deny (.ite h.deny (.ite h4.settleCal.deny (.ite (h4.startLong id) h4.settleCal.okay))))

theorem Canonical.opCalExport {r x1} (h : Canonical d) : CanonicalAnswer (opCalExport r x1 d) :=
  .ite h.deny (.ite h.deny h.okWith)

theorem Canonical.opCalRestore {r t} (h : Canonical d) : CanonicalAnswer (opCalRestore r t d) :=
  .ite h.deny (.ite h.deny (.ite h.deny (.ite h.deny (.ite h.deny (h.startLong (fun k =>
    k.wrN.wrN.calRestore.settleCal))))))

theorem Canonical.opCoefWrite {r x1} (h : Canonical d) : CanonicalAnswer (opCoefWrite r x1 d) :=
  .ite h.deny (.ite h.deny (.ite h.deny (Canonical.okay (.rsmShowCrc (h.each .wrN)))))

theorem Canonical.opRsmSwitch {r x1} (h : Canonical d) : CanonicalAnswer (opRsmSwitch r x1 d) :=
  .ite h.deny (.ite h.wrN.rsmSwitch.okay h.wrN.rsmSwitch.deny)

theorem Canonical.opTimeRead {r t} (h : Canonical d) : CanonicalAnswer (opTimeRead r t d) := .need h h.okWith

theorem Canonical.opTimeSet {r t} (h : Canonical d) : CanonicalAnswer (opTimeSet r t d) :=
  .ite h.deny (.ite h.deny h.timeSet.okay)

theorem Canonical.opPairStatus {r x1} (h : Canonical d) : CanonicalAnswer (opPairStatus r x1 d) := .need h h.okWith

theorem Canonical.opPairYield {r t} (h : Canonical d) : CanonicalAnswer (opPairYield r t d) :=
  .ite h.deny (.ite h.yieldCommand.okay h.deny)

theorem Canonical.opPairTakeback {r t} (h : Canonical d) : CanonicalAnswer (opPairTakeback r t d) :=
  .ite h.deny (.ite h.deny h.redCtrl.okay)

theorem Canonical.opEventRead {r x1} (h : Canonical d) : CanonicalAnswer (opEventRead r x1 d) :=
  .ite h.deny (.ite h.deny h.okWith)

theorem Canonical.opLogbookRead {r x1} (h : Canonical d) : CanonicalAnswer (opLogbookRead r x1 d) :=
  .ite h.deny (.ite h.deny h.okWith)

theorem Canonical.opThermalRead {r x1} (h : Canonical d) : CanonicalAnswer (opThermalRead r x1 d) := .need h h.okWith

theorem Canonical.selftestDone {bad t} (h : Canonical d) : Canonical (selftestDone bad t d) :=
  .ite h.opFinish h.opFinish.selfDiag

theorem Canonical.operationDone {opcode result t} (h : Canonical d) : Canonical (operationDone opcode result t d) := by
  unfold Machine.operationDone
  split
  · split
    · exact h.imgBeginDone
    · exact h.imgVerifyDone
    · exact h.imgActivateDone
    · exact h.xchgArmDone
    · exact h.selftestDone
    · exact h.settle
  · exact h

end

/-- A state, where there is a next one, whose unit is in canonical form. -/
def CanonicalNext (o : Host.Outcome State Fault Refusal) : Prop := ∀ s', o = .next s' → Canonical s'.dev

theorem Canonical.done {s : State} {d : Device} (h : Canonical d) : CanonicalNext (done s d) := by
  rintro _ ⟨⟩
  exact h

/-- Each command is its effect at its instant, under the condition of the domains it needs. -/
theorem Canonical.exec {c : Instr} {s : State} (h : Canonical s.dev) : CanonicalNext (exec c s) := by
  cases c with
  | registerWrite => exact h.at50.fabricWrite.done
  | rcFieldRead => exact h.at50.fabricRead.done
  | lowWordRead => exact h.at50.fabricRead.done
  | targetNoResponse => exact (h.at50.whileOn .noResponse).done
  | sramScrubPass => exact (h.at50.whileOn .scrubPass).done
  | cfgApplyWrite => exact (h.at50.whileOn .cfgApply).done
  | t0Deadline => exact (h.at50.whileOn (fun k => k.settled (fun k1 => k1.t0Deadline))).done
  | taskRelease => exact (h.at50.whileOn .taskRelease).done
  | gateIslandLinkTimeout => exact h.at50.islandTimeout.done
  | islandEntryHizTimeout => exact h.at50.islandHiz.done
  | fastWordsMissing => exact (h.at50.whileOn .fastMissing).done
  | ledgerInterruption => exact (h.at50.whileOn .ledgerInterruption).done
  | modOverloadOnset => exact (h.at50.whileOn .overloadOnset).done
  | stuckBitstream => exact (h.at50.whileOn .stuck).done
  | stuckRecovery => exact (h.at50.whileOn .stuckRecovery).done
  | islandLoss => exact (h.at50.whileOn .islandLoss).done
  | islandRecovery => exact (h.at50.whileOn .islandRecovery).done
  | fastPathWord => exact (h.at50.whileOn .fastWord).done
  | mediumPathWord => exact (h.at50.whileOn .mediumWord).done
  | precisionPathWord => exact (h.at50.whileOn .precisionWord).done
  | decomposerUnsEnd => exact (h.at50.whileOn .dcmpUnsEnd).done
  | resamplerOutput => exact (h.at50.whileOn .rsmOutput).done
  | resamplerPauseEnd => exact (h.at50.whileOn .rsmPauseEnd).done
  | rsmSourceHold => exact (h.at50.whileOn .rsmHold).done
  | rsmSwitchWrite => exact (h.at50.whileOn .rsmSwitch).done
  | rsmXfadeEnd => exact (h.at50.whileOn .rsmFadeEnd).done
  | shedTap => exact (h.at50.whileOn .tapStep).done
  | deadTimeTurnOn => exact (h.at50.whileOn .deadTimeOver).done
  | shedRefPop => exact (h.at50.whileOn .refPop).done
  | shedFifoWrite => exact (h.at50.whileOn .fifoWrite).done
  | shedEdgeWrite => exact (h.at50.whileOn .edgeWrite).done
  | edgeListEntry => exact (h.at50.whileOn .edgeEntry).done
  | shedStartStep => exact (h.at50.whileOn .startStep).done
  | setpRisingEdge => exact (h.at50.whileOn .setpRise).done
  | setpointLoss => exact (h.at50.whileOn .setpLoss).done
  | chirpEnd => exact (h.at50.whileOn .chirpEnd).done
  | cordicCmdWrite => exact (h.at50.whileOn .cordicWrite).done
  | cordicDone => exact (h.at50.whileOn .cordicDone).done
  | gateOwnWrite => exact (h.at50.whileOn .ownWrite).done
  | gateOwnChangeDone => exact (h.at50.whileOn .ownChangeDone).done
  | uvloTrip => exact h.at50.uvloTrip.done
  | uvloRelease => exact h.at50.uvloRelease.done
  | blankingEnd => exact h.at50.blankingEnd.done
  | desatTrip => exact h.at50.desatTrip.done
  | softTimeEnd => exact h.at50.softEnd.done
  | millerClampEnable => exact h.at50.millerClamp.done
  | selvedgeEntry => exact (h.at50.whileOn .selvedge).done
  | selvedgeSequenceStep => exact (h.at50.whileOn .selvStep).done
  | selvedgeHizDelay => exact h.at50.selvHiz.done
  | selvedgeTableReload => exact (h.at50.whileOn .selvReload).done
  | releaseHoldoffEnd => exact (h.at50.whileOn .holdoffEnd).done
  | retryWaitExpiry => exact (h.at50.whileOn .retryWait).done
  | retryForgetExpiry => exact (h.at50.whileOn .retryForget).done
  | gateClearWrite => exact (h.at50.whileOn .gateClear).done
  | gateTestCmdWrite => exact (h.at50.whileOn .gateTestWrite).done
  | gateTestDone => exact (h.at50.whileOn (fun k => k.settled (fun k1 => k1.gateTestDone))).done
  | gfkInit => exact (h.at50.whileCores .gfkInit).done
  | gfkStep => exact (h.at50.whileCores .gfkStep).done
  | gfkCmdStart => exact (h.at50.whileCores .gfkCommand).done
  | gfkCmdStop => exact (h.at50.whileCores .gfkCommand).done
  | gfkCmdReset => exact (h.at50.whileCores .gfkCommand).done
  | gfkCmdReconOn => exact (h.at50.whileCores .gfkCommand).done
  | gfkCmdReconOff => exact (h.at50.whileCores .gfkCommand).done
  | deadBusTimerExpiry => exact (h.at50.whileCores .gfkDeadExpiry).done
  | liveBusTimerExpiry => exact (h.at50.whileCores .gfkLiveExpiry).done
  | syncHoldExpiry => exact (h.at50.whileCores .gfkSyncExpiry).done
  | closeTimeout => exact (h.at50.whileCores .gfkCloseExpiry).done
  | syncTimeout => exact (h.at50.whileCores .gfkSyncTimeout).done
  | rampComplete => exact (h.at50.whileCores .gfkRampEnd).done
  | frtRecoverExpiry => exact (h.at50.whileCores .gfkFrtExpiry).done
  | currentLimitHoldExit => exact (h.at50.whileCores .gfkHoldExit).done
  | reconDelayExpiry => exact (h.at50.whileCores .gfkReconExpiry).done
  | loomDoneWrite => exact (h.at50.whileOn .loomDone).done
  | loomCbAppend => exact (h.at50.whileOn .cbAppend).done
  | loomCbFlush3 => exact (h.at50.whileOn .cbFlush3).done
  | loomKick => exact (h.at50.whileOn .loomKick).done
  | t3WatchdogExpiry => exact (h.at50.whileOn .t3Expiry).done
  | loomIpiWrite => exact (h.at50.whileOn .ipiWrite).done
  | loomOverrun => exact (h.at50.whileOn .loomOverrun).done
  | overrunEndStop => exact (h.at50.whileOn (fun k => k.settled (fun k1 => k1.overrunEnd))).done
  | loomFaultStop => exact (h.at50.whileOn (fun k => k.settled (fun k1 => k1.faultStop))).done
  | loomAutorun => exact (h.at50.whileOn .autorun).done
  | loomCtrlRun => exact (h.at50.whileOn .runStart).done
  | loomRunEntry => exact (h.at50.whileOn (fun k => k.settled (fun k1 => k1.runEntry))).done
  | loomCtrlStop => exact (h.at50.whileOn (fun k => k.settled (fun k1 => k1.loomStop))).done
  | loomCtrlHold => exact (h.at50.whileOn (fun k => k.settled (fun k1 => k1.enterHold))).done
  | loomCtrlResume => exact (h.at50.whileOn .loomResume).done
  | debugHaltRequest => exact (h.at50.whileOn (fun k => k.settled (fun k1 => k1.enterHold))).done
  | debugBreak => exact (h.at50.whileOn (fun k => k.settled (fun k1 => k1.debugBreak))).done
  | overlayLegWrite => exact (h.at50.whileOn .overlayWrite).done
  | overlayLapse => exact (h.at50.whileOn .overlayLapse).done
  | timerPresetWrite => exact (h.at50.whileOn .tmrPresetWrite).done
  | timerExpiry => exact (h.at50.whileOn .tmrExpiry).done
  | stationFrameRx => exact (h.at50.whileOn .stationFrame).done
  | stationTimeout => exact (h.at50.whileOn .stationTimeout).done
  | xchgSwitch => exact (h.at50.whileOn (fun k => k.settled (fun k1 => k1.xchgBoundary))).done
  | timeLreqGoWrite => exact (h.at50.whileOn .lreqGo).done
  | ialosMsBoundary => exact (h.at50.whileOn (fun k => k.settled (fun k1 => k1.msBoundary))).done
  | lreqOpen => exact (h.at50.whileOn .ledgerFrame).done
  | lreqClose => exact (h.at50.whileOn .ledgerFrame).done
  | lreqAckRecords => exact (h.at50.whileOn .ledgerFrame).done
  | lreqSetField => exact (h.at50.whileOn .ledgerFrame).done
  | lreqClearCounters => exact (h.at50.whileOn .ledgerFrame).done
  | lreqCalBegin => exact (h.at50.whileOn .ledgerFrame).done
  | lreqCalEnd => exact (h.at50.whileOn .ledgerFrame).done
  | energySave => exact (h.at50.whileOn .energySaveTick).done
  | ledgerReady => exact (h.at50.whileOn .ledgerUp).done
  | sealMeasurement => exact (h.at50.whileOn .sealMeasure).done
  | bridleInputChange => exact (h.at50.whileOn .bridleInputChange).done
  | saDiscTimeout => exact (h.at50.whileOn .saDisc).done
  | stop1DelayExpiry => exact (h.at50.whileOn .stop1Expiry).done
  | imdFault => exact (h.at50.whileOn .imdFault).done
  | imdBlankEnd => exact (h.at50.whileOn .imdBlankEnd).done
  | senTestPulse => exact (h.at50.whileOn .senTest).done
  | bridleReset => exact (h.at50.whileOn .bridleReset).done
  | sresStuck => exact (h.at50.whileOn .sresStuck).done
  | kfCheckExpiry => exact (h.at50.whileOn .kfCheck).done
  | ckfSupervisionWindow => exact (h.at50.whileOn .ckfWindow).done
  | bridleFault => exact (h.at50.whileOn .bridleFault).done
  | degradedModeExpiry => exact (h.at50.whileOn .degradedExpiry).done
  | powerAbsentPermit => exact h.at50.powerAbsent.done
  | bridleCfgWrite => exact (h.at50.whileOn .bridleCfgWrite).done
  | bridleCfgCheck => exact (h.at50.whileOn .bridleCheck).done
  | recArm => exact (h.at50.whileOn .recArm).done
  | recStop => exact (h.at50.whileOn .recStop).done
  | recForceTrigger => exact (h.at50.whileOn .recForce).done
  | recFrame => exact (h.at50.whileOn .recFrame).done
  | rtrigEdge => exact (h.at50.whileOn .rtrigEdge).done
  | recPostEnd => exact (h.at50.whileOn .recPostEnd).done
  | recFlushExpiry => exact (h.at50.whileOn .recFlush).done
  | historyDrained => exact (h.at50.whileOn .recDrained).done
  | bobDoorbell => exact (h.at50.whileOn .bobDoorbell).done
  | bobResume => exact (h.at50.whileOn .bobResume).done
  | bobRestart => exact (h.at50.whileOn .bobRestart).done
  | bobRefetch => exact (h.at50.whileOn .bobRefetch).done
  | descriptorComplete => exact (h.at50.whileOn .descriptorComplete).done
  | hkConversionDone => exact (h.at50.whileOn (fun k => k.settled (fun k1 => k1.hkDone))).done
  | hkRoundTick => exact (h.at50.whileOn .hkRoundTick).done
  | hkRoundEnd => exact (h.at50.whileOn .hkRoundEnd).done
  | hkInjectedTrigger => exact (h.at50.whileOn .hkTrigger).done
  | hkResultStale => exact (h.at50.whileOn .hkStale).done
  | calStart => exact (h.at50.whileOn .calStart).done
  | calZero => exact (h.at50.whileOn .calZero).done
  | calFull => exact (h.at50.whileOn .calFull).done
  | calCommit => exact (h.at50.whileOn .calCommit).done
  | calAbort => exact (h.at50.whileOn (fun k => k.settled (fun k1 => k1.calAbort))).done
  | calEngineRestore => exact (h.at50.whileOn .calRestore).done
  | calSettleExpiry => exact (h.at50.whileOn .calSettle).done
  | calAveragingDone => exact (h.at50.whileOn (fun k => k.settled (fun k1 => k1.calDone))).done
  | calFlaggedReading => exact (h.at50.whileOn (fun k => k.settled (fun k1 => k1.calFlagged))).done
  | calTimeout => exact (h.at50.whileOn (fun k => k.settled (fun k1 => k1.calTimeout))).done
  | calCommitDone => exact (h.at50.whileOn (fun k => k.settled (fun k1 => k1.calCommitDone))).done
  | thermalTick => exact (h.at50.whileOn .thTick).done
  | thermalRecordWrite => exact (h.at50.whileOn .thRecordWrite).done
  | thRestartWrite => exact (h.at50.whileOn .thRestart).done
  | mramOperationDone => exact (h.at50.whileOn (fun k => k.settled (fun k1 => k1.mramOperation))).done
  | stackResolved => exact (h.at50.whileOn .stackResolve).done
  | tomusPacketRx => exact h.at50.packetRx.done
  | spiFrame => exact h.at50.spiFrame.done
  | sessionProveTimeout => exact (h.at50.whileOn .proveTimeout).done
  | sessionIdleTimeout => exact (h.at50.whileOn .idleTimeout).done
  | opResultExpiry => exact (h.at50.whileOn .resultExpiry).done
  | lOperationDone => exact (h.at50.whileOn .operationDone).done
  | ping => exact (h.at50.execute .opPing).done
  | identity => exact (h.at50.execute .opIdentity).done
  | deviceKey => exact (h.at50.execute .opDeviceKey).done
  | opStatus => exact (h.at50.execute .opOpStatus).done
  | stats => exact (h.at50.execute .opStats).done
  | sessionHello => exact (h.at50.execute .opHello).done
  | sessionProve => exact (h.at50.execute .opProve).done
  | sessionClose => exact (h.at50.execute .opClose).done
  | hostkeySet => exact (h.at50.execute .opKeySet).done
  | hostkeyClear => exact (h.at50.execute .opKeyClear).done
  | hostkeyList => exact (h.at50.execute .opKeyList).done
  | cfgStatus => exact (h.at50.execute .opCfgStatus).done
  | stageWrite => exact (h.at50.execute .opStage).done
  | saddleStore => exact (h.at50.execute .opSaddleStore).done
  | tackStore => exact (h.at50.execute .opTackStore).done
  | stackSelect => exact (h.at50.execute .opStackSelect).done
  | saddleAck => exact (h.at50.execute .opSaddleAck).done
  | fieldRead => exact (h.at50.execute .opFieldRead).done
  | storeRead => exact (h.at50.execute .opStoreRead).done
  | imgBegin => exact (h.at50.execute .opImgBegin).done
  | imgWrite => exact (h.at50.execute .opImgWrite).done
  | imgVerify => exact (h.at50.execute .opImgVerify).done
  | imgActivate => exact (h.at50.execute .opImgActivate).done
  | xchgArm => exact (h.at50.execute .opXchgArm).done
  | xchgCancel => exact (h.at50.execute .opXchgCancel).done
  | imgStatus => exact (h.at50.execute .opImgStatus).done
  | loomkeySet => exact (h.at50.execute .opLoomKey).done
  | runStatus => exact (h.at50.execute .opRunStatus).done
  | loomRun => exact (h.at50.execute .opLoomRun).done
  | loomStop => exact (h.at50.settled (fun k => k.execute .opLoomStop)).done
  | loomHold => exact (h.at50.settled (fun k => k.execute .opLoomHold)).done
  | loomResume => exact (h.at50.execute .opLoomResume).done
  | kernelCmd => exact (h.at50.execute .opKernel).done
  | faultClear => exact (h.at50.execute .opFaultClear).done
  | thermalRestart => exact (h.at50.execute .opThermalRestart).done
  | memRead => exact (h.at50.execute .opMemRead).done
  | memWrite => exact (h.at50.execute .opMemWrite).done
  | mtrOpen => exact (h.at50.execute .opMtrOpen).done
  | mtrClose => exact (h.at50.execute .opMtrClose).done
  | mtrAckRecords => exact (h.at50.execute .opMtrAck).done
  | mtrClearCounters => exact (h.at50.execute .opMtrClear).done
  | mtrRead => exact (h.at50.execute .opMtrRead).done
  | mtrRecord => exact (h.at50.execute .opMtrRecord).done
  | mtrKeys => exact (h.at50.execute .opMtrKeys).done
  | recCmd => exact (h.at50.execute .opRecCmd).done
  | recStatus => exact (h.at50.execute .opRecStatus).done
  | recBlockRead => exact (h.at50.execute .opRecRead).done
  | recBlockRelease => exact (h.at50.execute .opRecRelease).done
  | gateTest => exact (h.at50.execute .opGateTest).done
  | selftest => exact (h.at50.execute .opSelftest).done
  | calCmd => exact (h.at50.settled (fun k => k.execute .opCalCmd)).done
  | calExport => exact (h.at50.execute .opCalExport).done
  | calRestore => exact (h.at50.execute .opCalRestore).done
  | rsmCoefWrite => exact (h.at50.execute .opCoefWrite).done
  | rsmSwitch => exact (h.at50.execute .opRsmSwitch).done
  | timeRead => exact (h.at50.execute .opTimeRead).done
  | timeSet => exact (h.at50.execute .opTimeSet).done
  | pairStatus => exact (h.at50.execute .opPairStatus).done
  | pairYield => exact (h.at50.execute .opPairYield).done
  | pairTakeback => exact (h.at50.execute .opPairTakeback).done
  | eventRead => exact (h.at50.execute .opEventRead).done
  | logbookRead => exact (h.at50.execute .opLogbookRead).done
  | thermalRead => exact (h.at50.execute .opThermalRead).done
  | ethFrameRx => exact (h.at50.whileOn .ethRx).done
  | prpSupervisionTx => exact (h.at50.whileOn .prpSupervision).done
  | canFrameRx => exact (h.at50.whileOn .canRx).done
  | canBusOff => exact (h.at50.whileOn .canBusOff).done
  | canBusOffRecovery => exact (h.at50.whileOn .canRecover).done
  | ptpSyncRx => exact (h.at50.whileOn .syncRx).done
  | ptpAnnounceRx => exact (h.at50.whileOn .announceRx).done
  | ptpPdelayRx => exact (h.at50.whileOn .pdelayRx).done
  | ptpIntervalTx => exact (h.at50.whileOn .intervalTx).done
  | ptpSyncTimeout => exact (h.at50.whileOn .syncTimeout).done
  | holdoverExpiry => exact (h.at50.whileOn .holdoverExpiry).done
  | ialosSecondBoundary => exact (h.at50.whileOn .secondBoundary).done
  | tppsFall => exact (h.at50.whileOn .tppsFall).done
  | filutFrameRx => exact (h.at50.whileOn .filutRx).done
  | filutLinkDown => exact (h.at50.whileOn .filutDown).done
  | filutSegmentTx => exact (h.at50.whileOn .segmentSend).done
  | phandNFall => exact (h.at50.whileOn .phandFall).done
  | pownNRise => exact (h.at50.whileOn .pownRise).done
  | handoverTimeout => exact (h.at50.whileOn .handoverTimeout).done
  | silentTakeover => exact (h.at50.whileOn .silentTakeover).done
  | takeoverBoundary => exact (h.at50.whileOn .takeoverBoundary).done
  | takebackRequest => exact (h.at50.whileOn .takebackRequest).done
  | pairStart => exact (h.at50.whileOn .pairStart).done
  | redCtrlYield => exact (h.at50.whileOn .redCtrl).done
  | redCtrlInhibit => exact (h.at50.whileOn .redCtrl).done
  | redCtrlAllow => exact (h.at50.whileOn .redCtrl).done
  | vinValid => exact h.at50.vinValid.done
  | vinfDeclared => exact h.at50.vinfDeclared.done
  | vinfClear => exact h.at50.vinfClear.done
  | vinfGraceExpiry => exact h.at50.graceExpiry.done
  | vinfShedTimeout => exact h.at50.shedTimeout.done
  | powerFailFinalWrite => exact h.at50.powerFinal.done
  | holdup12v => exact h.at50.holdup12.done
  | holdupFull => exact h.at50.holdupFull.done
  | vbakLoss => exact h.at50.vbakLoss.done
  | pwrDomainOn => exact (h.at50.whileOn .domainOn).done
  | pwrDomainOff => exact (h.at50.whileOn .domainOff).done
  | pwrDomainCycle => exact (h.at50.whileOn .domainCycle).done
  | pd11CycleRestart => exact h.at50.pd11Restart.done
  | pwrSleepLevel1 => exact (h.at50.whileOn .sleepEnter).done
  | pwrSleepLevel2 => exact (h.at50.whileOn .sleepEnter).done
  | pwrSleepExit => exact (h.at50.whileOn .sleepExit).done
  | wakeNLow => exact (h.at50.whileOn .wakeLow).done
  | rtcAlarm => exact (h.at50.whileOn .rtcAlarm).done
  | pinReset => exact h.at50.pinReset.done
  | stewardWatchdogExpiry => exact (h.at50.whileOn .watchdogExpiry).done
  | softwareReset => exact (h.at50.whileOn .softwareReset).done
  | coreSupervisorReset => exact (h.at50.whileOn .coreSupervisor).done
  | startupStep => exact h.at50.startupStep.done
  | unitReady => exact h.at50.readyReport.done
  | lockDeclared => exact (h.at50.whileOn .lockDeclared).done
  | lossOfLock => exact (h.at50.whileOn .lossOfLock).done
  | lossOfReference => exact (h.at50.whileOn .lossOfReference).done
  | lockfFilterFault => exact (h.at50.whileOn .lockfFault).done
  | referenceRecovered => exact (h.at50.whileOn .referenceRecovered).done
  | relockHoldExpiry => exact (h.at50.whileOn .relockExpiry).done
  | gateIslandLinkLost => exact (h.at50.whileOn .islandLinkLost).done
  | gateIslandSupplyUp => exact h.at50.islandSupplyUp.done
  | ethLinkChange => exact (h.at50.whileOn .linkChange).done
  | ptpAnnounceTimeout => exact (h.at50.whileOn .announceTimeout).done
  | redStartWaitExpiry => exact (h.at50.whileOn .startWaitExpiry).done
  | filtFltClear => exact (h.at50.whileOn .lockfClear).done

/-- Settles O4: a step is the effect of the front command, which keeps the canonical form, or leaves the unit as it is. -/
theorem everyStepKeepsTheCanonicalForm : Obligations.EveryStepKeepsTheCanonicalForm := by
  intro s s' h hs
  have hd : Canonical s.dev := (canonical_iff s.dev).mp h
  refine (canonical_iff s'.dev).mpr ?_
  cases hq : s.pending with
  | nil =>
    rw [Liveness.step_of_nil hq] at hs
    cases hs
    exact hd
  | cons c rest =>
    rw [Liveness.step_of_cons hq] at hs
    exact hd.exec (s := { s with pending := rest }) s' hs

end Sys2Proof.Proofs.CanonicalForm
